-- ==== Sys2Proof/Word.lean ====
section
/-! DEFINITION. Word.lean: the word types of the block. -/

namespace Sys2Proof

/-- One byte. -/
abbrev Byte := BitVec 8

/-- One register or data word of 32 bits. -/
abbrev Word := BitVec 32

/-- One granule or one ns64 value of 64 bits. -/
abbrev DWord := BitVec 64

/-- An accumulator of 72 bits (R149). -/
abbrev Acc := BitVec 72

/-- A sparse table keyed by numbers: strictly rising keys, no entry equal to the table's default. -/
abbrev Tab (α : Type) := List (Nat × α)

end Sys2Proof
end

