-- ==== Sys2Proof/Syntax.lean ====
section
/-! DEFINITION. Syntax.lean: the commands of the device. Operands named `m` are the master code that writes or reads
(R147), `c` an engine (16 is the Supervisor), `k` a context, `v` the word written, `a` an internal address. -/

namespace Sys2Proof

/-- The commands: one constructor per row of spec/opcode_table.json. -/
inductive Instr where
  /-- CYCLE_BOUNDARY (R17): Macrotick 0 of a Meridian cycle, or the standalone period tick, opens a new image cycle and runs the boundary actions. -/
  | cycleBoundary (grants : Nat)
  /-- IMAGE_WINDOW_WRITE (R18): A write through the image window goes to the open copy and sets the granule's written bit. -/
  | imageWindowWrite (m : Fin 28) (kind : Fin 16) (index : Fin 4096) (g : Fin 16384) (mask : BitVec 8) (data : DWord) (tag : Word) (det : Bool)
  /-- SHADOW_WINDOW_WRITE (R18): A write to the shadow window is discarded and handled as a non-producer write. -/
  | shadowWindowWrite (m : Fin 28) (g : Fin 16384)
  /-- POWER_UP (R86): VDD_AON rising resets everything, clears the fault log and starts start-up at phase 1. -/
  | powerUp
  /-- PORST_N_RESET (R86): PORST_N held low for at least 1 µs resets the device except the fault log and SYS_RST_CAUSE. -/
  | porstNReset
  /-- ROOT_PLL_LOCK (R41): The root PLL locks, the Supervisor is released and the boot ROM starts start-up. -/
  | rootPllLock (mode2 mode1 mode0 bootSel : Bool)
  /-- MEMORY_BIST (R47): March C- self-test over all SRAM completes, zero-filling it or failing with code 0x02. -/
  | memoryBist (bad : Option (Fin 60))
  /-- LOGIC_BIST (R48): Scan-based logic self-test completes, comparing signatures or failing with code 0x03. -/
  | logicBist (ok : Bool)
  /-- FUSE_READ (R478): Phase 5 reads the fuse array and life-cycle state, failing with code 0x04 or 0x05. -/
  | fuseRead (uncorrectable : Bool)
  /-- FLASH_DISCOVERY (R50): The NVM controller discovers the flash mode and reads both slot headers. -/
  | flashDiscovery (octal quad : Bool) (hdrA keyA hdrB keyB : List Byte)
  /-- IMAGE_READ (R41): The image is read into staging with SHA-384 computed on the fly. -/
  | imageRead (bytes : List Byte) (err : Bool)
  /-- SIGNATURE_VERIFICATION (R487): The ECDSA P-384 signature and key are verified. -/
  | signatureVerification
  /-- REGISTER_WRITE_RECORD (R59): A register-write record applies masked writes to permitted registers. -/
  | registerWriteRecord
  /-- MEMORY_LOAD_DIRECT (R60): A direct memory-load record writes data to a permitted target from ADDRESS upward. -/
  | memoryLoadDirect
  /-- MEMORY_LOAD_INDIRECT (R60): An indirect memory-load record writes OFFSET to IND_ADDR and each data word to IND_DATA. -/
  | memoryLoadIndirect
  /-- ENCRYPTED_SECTION (R61): An encrypted section is decrypted in place, tag-checked and its records applied. -/
  | encryptedSection
  /-- RESOURCE_CLAIM_RECORD (R62): A resource-claim record records the resources claimed by a personality or customer code. -/
  | resourceClaimRecord
  /-- COMMIT_RECORD (R68): At the commit record the whole-image checks, CRC sweep and commit sequence run and service starts. -/
  | commitRecord
  /-- ROLLBACK_FUSE_BURN (R65): After the first service cycle the Supervisor blows rollback fuses up to ROLLBACK. -/
  | rollbackFuseBurn
  /-- ROM_SERVICE_TICK (R70): With no firmware loaded, the ROM loop serves the watchdogs every 100 µs and frees orphans. -/
  | romServiceTick
  /-- DIAG_CHARACTER (R44): A character is received on DIAG_RXD and collected into the command line, or discarded. -/
  | diagCharacter (c : Byte) (stop : Bool)
  /-- ID (R78): DIAG ID replies with part number, revision and ROM version. -/
  | diagId
  /-- ST (R78): DIAG ST replies with Twilight code, boot codes, phase, life-cycle state and slot. -/
  | diagSt
  /-- LOG (R78): DIAG LOG n replies with fault-log entry n. -/
  | diagLog
  /-- HS (R78): DIAG HS replies with a snapshot of the host status block. -/
  | diagHs
  /-- IMG (R78): DIAG IMG g replies with committed granule g. -/
  | diagImg
  /-- RD (R78): DIAG RD a reads a word as the debug master does, where the life-cycle state allows. -/
  | diagRd
  /-- RST (R78): DIAG RST Y replies OK and arms a software reset 1 ms later. -/
  | diagRst
  /-- DIAG_RESET_DELAY (R78): The 1 ms after DIAG RST expires and a software reset is performed. -/
  | diagResetDelay
  /-- UPDATE_START (R71): An ALM_UPD_CMD start checks the staged image and begins erasing the inactive slot. -/
  | updateStart (m : Fin 20)
  /-- UPDATE_ABORT (R74): An ALM_UPD_CMD abort stops the update with 0x24, or lets header programming complete with ABORT_LATE. -/
  | updateAbort (m : Fin 20)
  /-- UPDATE_ERASE_DONE (R72): Erase of the inactive slot completes and programming from byte 0x40 begins. -/
  | updateEraseDone (ok : Bool)
  /-- UPDATE_PROGRAM_DONE (R72): Programming completes and the read-back SHA-384 comparison runs. -/
  | updateProgramDone (ok : Bool) (back : List Byte)
  /-- UPDATE_HEADER_DONE (R72): Header programming completes and DONE is set. -/
  | updateHeaderDone (ok : Bool)
  /-- CLOCK_MONITOR_WINDOW (R85): A 10 µs clock-monitor window ends and each clock is checked against ±6%. -/
  | clockMonitorWindow (outOfRange stopped : BitVec 7)
  /-- LANE_PLL_LOCK (R83): A lane PLL locks after its lane is enabled. -/
  | lanePllLock (p : Fin 10)
  /-- SWRST (R88): A keyed SYS_RST_CMD write schedules a software reset 2 µs later. -/
  | swrst (m : Fin 20) (v : Word)
  /-- SOFTWARE_RESET (R86): The software-reset delay expires and a device reset runs as after PORST_N. -/
  | softwareReset
  /-- SUPERVISOR_WATCHDOG_EXPIRY (R467): The Supervisor watchdog period elapses without service and causes a device reset. -/
  | supervisorWatchdogExpiry
  /-- SUPERVISOR_WATCHDOG_SERVICE (R467): A keyed write to SAF_SWDOG_SVC restarts the Supervisor watchdog. -/
  | supervisorWatchdogService (m : Fin 20) (v : Word)
  /-- REQUEST_RUN (R91): A power request for RUN ends DOZE. -/
  | requestRun (m : Fin 20)
  /-- REQUEST_DOZE (R91): A power request for DOZE clock-gates engines and PIO engines. -/
  | requestDoze (m : Fin 20)
  /-- REQUEST_RETAIN (R92): A power request for RETAIN starts the RETAIN entry sequence. -/
  | requestRetain (m : Fin 20)
  /-- REQUEST_OFF (R91): A power request for OFF runs RETAIN entry steps 1-4 then unpowers banks and core. -/
  | requestOff (m : Fin 20)
  /-- RETAIN_ENTRY_COMPLETE (R92): Banks take their settings, the PLL stops and the core is unpowered. -/
  | retainEntryComplete
  /-- WAKE_PIN (R94): WAKE_N low for at least 1 µs wakes the device from DOZE, RETAIN or OFF. -/
  | wakePin
  /-- WAKE_TIMER (R94): The wake timer expires and wakes the device. -/
  | wakeTimer
  /-- MERIDIAN_ACTIVITY_WAKE (R94): The first edge on MRD_A_RXD wakes the device from RETAIN. -/
  | meridianActivityWake
  /-- RETAIN_WAKE (R93): A wake from RETAIN restores power, PLL and banks and starts the recovery CRC sweep. -/
  | retainWake
  /-- WAKE_FROM_OFF (R91): A wake source in OFF starts the crystal and a device reset with CAUSE wake from OFF. -/
  | wakeFromOff
  /-- BANK_POWER_SETTING (R98): A SYS_BANK_PWR write sets bank power states, refusing forbidden settings with BANK_DENY. -/
  | bankPowerSetting (m : Fin 20) (k : Fin 4) (v : Word)
  /-- BANK_READY (R96): A bank leaving retention or off becomes accessible after its wake or zero fill. -/
  | bankReady (b : Fin 59)
  /-- REGISTER_WRITE (R114): A write to a register without its own row stores fields under the locking, LIVE and reserved rules. -/
  | registerWrite (m : Fin 20) (ctx : Fin 10) (a v : Word)
  /-- STATUS_CLEAR (R108): A write to a status register clears named SQ bits when SEQ matches and the wrap mark is clear. -/
  | statusClear (m : Fin 20) (a v : Word)
  /-- IND_ADDR_WRITE (R112): An IND_ADDR write sets BUSY and fetches the word at INDEX. -/
  | indAddrWrite (m : Fin 20) (a v : Word)
  /-- IND_DATA_READ (R112): An IND_DATA read returns the fetched word, adds AINC and fetches the next word. -/
  | indDataRead (m : Fin 20) (a : Word)
  /-- IND_DATA_WRITE (R112): An IND_DATA write stores the word into the table and adds AINC. -/
  | indDataWrite (m : Fin 20) (a v : Word)
  /-- IND_FETCH_DONE (R112): An indirect fetch or write completes and BUSY clears. -/
  | indFetchDone (a : Word)
  /-- ALM_COMMIT_ARM (R120): The arm key written to ALM_COMMIT opens a 64-cycle window for the reference. -/
  | almCommitArm (m : Fin 20) (v : Word)
  /-- ALM_COMMIT_REFERENCE (R120): The reference CRC written within the window is stored and a commit sweep starts. -/
  | almCommitReference (m : Fin 20) (v : Word)
  /-- COMMIT_ARM_TIMEOUT (R120): 64 CORE cycles pass after the arm key without the reference and the commit is refused. -/
  | commitArmTimeout
  /-- CONFIG_CRC_SWEEP_DONE (R119): A configuration CRC sweep completes and its result is used per the configuration phase. -/
  | configCrcSweepDone
  /-- CRC_TEST_CONTROL (R119): A write of ALM_CRC_CTRL.TEST enters or leaves the TEST phase. -/
  | crcTestControl (m : Fin 20) (v : Word)
  /-- CONFIG_PARITY_WALK (R116): The background walker checks a configuration word for parity. -/
  | configParityWalk (a : Word) (idx : Option (Fin 524288)) (flip : Bool)
  /-- VIEW_COMPARISON (R123): Every 10 µs each unit's data-path state word is compared with its mirror. -/
  | viewComparison (differs : List (Fin 48))
  /-- SCRUB_READ (R139): The scrubber reads one row of a bank in an idle cycle of its window. -/
  | scrubRead (b : Fin 64) (sub : Fin 16) (flip : Option (Fin 32))
  /-- FORCED_SCRUB_READ (R139): A scrub window ends without an idle cycle and a forced read is made. -/
  | forcedScrubRead (b : Fin 64) (sub : Fin 16) (flip : Option (Fin 32))
  /-- ENGINE_LOAD_RETURN (R136): Data of an outstanding fabric or register load returns and the context becomes READY. -/
  | engineLoadReturn (c : Fin 17) (k : Fin 10) (flip : Bool)
  /-- STORE_COMPLETION (R160): An outstanding store completes at its bank. -/
  | storeCompletion (c : Fin 17) (k : Fin 10) (nth : Fin 5)
  /-- WIPE (R145): A keyed MEM_VAULT_CMD WIPE from the secure Supervisor starts a Vault wipe. -/
  | wipe (m : Fin 20) (v : Word)
  /-- VAULT_WIPE_DONE (R145): A Vault wipe completes and WIPED is set. -/
  | vaultWipeDone
  /-- LOCK_ACQUIRE (R248): A read of a lock register acquires a free lock or returns BUSY with the owner. -/
  | lockAcquire (m : Fin 20) (ctx : Fin 10) (n : Fin 64)
  /-- LOCK_RELEASE (R248): The owner writing its identity releases the lock; other writes set BAD_REL. -/
  | lockRelease (m : Fin 20) (ctx : Fin 10) (n : Fin 64) (v : Word)
  /-- LOCK_REVOKE (R250): MEM_LOCK_REVOKE OP 0b01 frees one named lock. -/
  | lockRevoke (m : Fin 20) (n : Fin 64)
  /-- LOCK_REVOKE_MASTER (R250): MEM_LOCK_REVOKE OP 0b10 frees every lock owned by a master. -/
  | lockRevokeMaster (m : Fin 20) (who : Fin 32)
  /-- ENGINE_ENABLE (R150): PE_CTRL.EN becoming 1 starts the enabled contexts at entry point 0. -/
  | engineEnable (m : Fin 20) (n : Fin 16)
  /-- ENGINE_DISABLE (R150): PE_CTRL.EN becoming 0 moves every context to DISABLED and revokes its items. -/
  | engineDisable (m : Fin 20) (n : Fin 16)
  /-- CONTEXT_RESET (R154): A PE_CTX_RST write resets named contexts and revokes their items. -/
  | contextReset (m : Fin 20) (n : Fin 16) (v : Word)
  /-- QUANTUM_EXPIRY (R152): The running context's quantum expires and another READY context is selected. -/
  | quantumExpiry (c : Fin 16)
  /-- DIVISION_DONE (R164): A division finishes after 18 cycles and its context becomes READY. -/
  | divisionDone (c : Fin 17)
  /-- ENGINE_WATCHDOG_SERVICE (R190): A keyed PE_WDOG_SVC write restarts the engine watchdog. -/
  | engineWatchdogService (m : Fin 20) (n : Fin 16) (v : Word)
  /-- ENGINE_WATCHDOG_EXPIRY (R190): An engine watchdog period elapses and code 0x47 is raised. -/
  | engineWatchdogExpiry (n : Fin 16)
  /-- DEBUGGER_RESUME (R150): The debugger resumes a HALTED context at the instruction after BRK. -/
  | debuggerResume (n : Fin 16) (k : Fin 10)
  /-- ILLEGAL_INSTRUCTION (R194): An unlisted or reserved encoding raises the illegal-instruction exception. -/
  | illegalInstruction (c : Fin 17)
  /-- ADD (R195): Dd := Ds + Dt with flags. -/
  | add (c : Fin 17) (rd rs rt : Fin 16)
  /-- ADDS (R195): Saturating add. -/
  | adds (c : Fin 17) (rd rs rt : Fin 16)
  /-- SUB (R195): Dd := Ds - Dt with flags. -/
  | sub (c : Fin 17) (rd rs rt : Fin 16)
  /-- SUBS (R195): Saturating subtract. -/
  | subs (c : Fin 17) (rd rs rt : Fin 16)
  /-- AND (R195): Bitwise and. -/
  | andR (c : Fin 17) (rd rs rt : Fin 16)
  /-- OR (R195): Bitwise or. -/
  | orR (c : Fin 17) (rd rs rt : Fin 16)
  /-- XOR (R195): Bitwise exclusive or. -/
  | xorR (c : Fin 17) (rd rs rt : Fin 16)
  /-- ANDN (R195): Ds and not Dt. -/
  | andn (c : Fin 17) (rd rs rt : Fin 16)
  /-- CMP (R195): Sets flags of Ds - Dt. -/
  | cmp (c : Fin 17) (rs rt : Fin 16)
  /-- MOV (R195): Dd := Ds. -/
  | mov (c : Fin 17) (rd rs : Fin 16)
  /-- NOT (R195): Dd := not Ds. -/
  | notR (c : Fin 17) (rd rs : Fin 16)
  /-- NEG (R195): Dd := 0 - Ds. -/
  | neg (c : Fin 17) (rd rs : Fin 16)
  /-- NEGS (R195): Saturating negate. -/
  | negs (c : Fin 17) (rd rs : Fin 16)
  /-- ABS (R195): Absolute value. -/
  | abs (c : Fin 17) (rd rs : Fin 16)
  /-- ABSS (R195): Saturating absolute value. -/
  | abss (c : Fin 17) (rd rs : Fin 16)
  /-- LSL (R196): Logical shift left by register. -/
  | lsl (c : Fin 17) (rd rs rt : Fin 16)
  /-- LSR (R196): Logical shift right by register. -/
  | lsr (c : Fin 17) (rd rs rt : Fin 16)
  /-- ASR (R196): Arithmetic shift right by register. -/
  | asr (c : Fin 17) (rd rs rt : Fin 16)
  /-- ROR (R196): Rotate right by register. -/
  | ror (c : Fin 17) (rd rs rt : Fin 16)
  /-- ROL (R196): Rotate left by register. -/
  | rol (c : Fin 17) (rd rs rt : Fin 16)
  /-- LSLI (R196): Logical shift left by immediate. -/
  | lsli (c : Fin 17) (rd rs : Fin 16) (a : BitVec 5)
  /-- LSRI (R196): Logical shift right by immediate. -/
  | lsri (c : Fin 17) (rd rs : Fin 16) (a : BitVec 5)
  /-- ASRI (R196): Arithmetic shift right by immediate. -/
  | asri (c : Fin 17) (rd rs : Fin 16) (a : BitVec 5)
  /-- RORI (R196): Rotate right by immediate. -/
  | rori (c : Fin 17) (rd rs : Fin 16) (a : BitVec 5)
  /-- ROLI (R196): Rotate left by immediate. -/
  | roli (c : Fin 17) (rd rs : Fin 16) (a : BitVec 5)
  /-- BFI (R197): Bit-field insert with immediate position and width. -/
  | bfi (c : Fin 17) (rd rs : Fin 16) (pos widthM1 : BitVec 5)
  /-- BFXU (R197): Zero-extending bit-field extract, immediate. -/
  | bfxu (c : Fin 17) (rd rs : Fin 16) (pos widthM1 : BitVec 5)
  /-- BFXS (R197): Sign-extending bit-field extract, immediate. -/
  | bfxs (c : Fin 17) (rd rs : Fin 16) (pos widthM1 : BitVec 5)
  /-- BFIR (R197): Bit-field insert with position and width from Dt. -/
  | bfir (c : Fin 17) (rd rs rt : Fin 16)
  /-- BFXUR (R197): Zero-extending bit-field extract from Dt. -/
  | bfxur (c : Fin 17) (rd rs rt : Fin 16)
  /-- BFXSR (R197): Sign-extending bit-field extract from Dt. -/
  | bfxsr (c : Fin 17) (rd rs rt : Fin 16)
  /-- BSWAP (R178): Reverses the four bytes of a word. -/
  | bswap (c : Fin 17) (rd rs : Fin 16)
  /-- HSWAP (R178): Swaps the bytes within each halfword. -/
  | hswap (c : Fin 17) (rd rs : Fin 16)
  /-- MUL (R198): Low 32 bits of the signed product. -/
  | mul (c : Fin 17) (rd rs rt : Fin 16)
  /-- MULH (R198): High 32 bits of the signed product. -/
  | mulh (c : Fin 17) (rd rs rt : Fin 16)
  /-- MULHU (R198): High 32 bits of the unsigned product. -/
  | mulhu (c : Fin 17) (rd rs rt : Fin 16)
  /-- DIV (R198): Signed division to quotient and remainder, blocking for 18 cycles. -/
  | div (c : Fin 17) (rd rs rt : Fin 16)
  /-- DIVU (R198): Unsigned division. -/
  | divu (c : Fin 17) (rd rs rt : Fin 16)
  /-- DIVS (R198): Saturating signed division. -/
  | divs (c : Fin 17) (rd rs rt : Fin 16)
  /-- MAC (R186): Adds a signed product to an accumulator with 72-bit saturation. -/
  | mac (c : Fin 17) (ac : Fin 2) (rs rt : Fin 16)
  /-- MSU (R186): Subtracts a signed product from an accumulator. -/
  | msu (c : Fin 17) (ac : Fin 2) (rs rt : Fin 16)
  /-- ACSET (R155): Loads an accumulator from a register pair. -/
  | acset (c : Fin 17) (ac : Fin 2) (rs : Fin 16)
  /-- ACX (R187): Extracts a shifted, saturated accumulator value. -/
  | acx (c : Fin 17) (rd : Fin 16) (ac : Fin 2) (sh : BitVec 6)
  /-- ACZ (R199): Clears an accumulator. -/
  | acz (c : Fin 17) (ac : Fin 2)
  /-- CRCI (R175): Loads an accumulator with INIT of a CRC slot. -/
  | crci (c : Fin 17) (ac : Fin 2) (k : Fin 4)
  /-- CRCB (R175): Folds one byte into a CRC. -/
  | crcb (c : Fin 17) (ac : Fin 2) (rs : Fin 16) (k : Fin 4)
  /-- CRCH (R175): Folds two bytes into a CRC. -/
  | crch (c : Fin 17) (ac : Fin 2) (rs : Fin 16) (k : Fin 4)
  /-- CRCW (R175): Folds four bytes into a CRC. -/
  | crcw (c : Fin 17) (ac : Fin 2) (rs : Fin 16) (k : Fin 4)
  /-- CRCX (R175): Writes the finished CRC. -/
  | crcx (c : Fin 17) (rd : Fin 16) (ac : Fin 2) (k : Fin 4)
  /-- CSUMH (R176): Adds a halfword to a checksum accumulator. -/
  | csumh (c : Fin 17) (ac : Fin 2) (rs : Fin 16)
  /-- CSUMW (R176): Adds both halfwords of a word to a checksum accumulator. -/
  | csumw (c : Fin 17) (ac : Fin 2) (rs : Fin 16)
  /-- CSX (R176): Folds and complements the checksum. -/
  | csx (c : Fin 17) (rd : Fin 16) (ac : Fin 2)
  /-- MOVA (R200): Copies a D register to an A register. -/
  | mova (c : Fin 17) (an : Fin 8) (rs : Fin 16)
  /-- MOVD (R200): Copies an A register to a D register. -/
  | movd (c : Fin 17) (rd : Fin 16) (an : Fin 8)
  /-- ADDA (R200): Adds a D register to an A register with ring addressing. -/
  | adda (c : Fin 17) (an : Fin 8) (rs : Fin 16)
  /-- SUBA (R200): Subtracts a D register from an A register. -/
  | suba (c : Fin 17) (an : Fin 8) (rs : Fin 16)
  /-- CMPA (R200): Sets flags of An - Am. -/
  | cmpa (c : Fin 17) (an am : Fin 8)
  /-- ADDI (R201): Adds a sign-extended immediate. -/
  | addi (c : Fin 17) (rd rs : Fin 16) (imm : BitVec 16)
  /-- ADDSI (R201): Saturating add of an immediate. -/
  | addsi (c : Fin 17) (rd rs : Fin 16) (imm : BitVec 16)
  /-- ANDI (R201): And with a zero-extended immediate. -/
  | andi (c : Fin 17) (rd rs : Fin 16) (imm : BitVec 16)
  /-- ORI (R201): Or with a zero-extended immediate. -/
  | ori (c : Fin 17) (rd rs : Fin 16) (imm : BitVec 16)
  /-- XORI (R201): Exclusive or with a zero-extended immediate. -/
  | xori (c : Fin 17) (rd rs : Fin 16) (imm : BitVec 16)
  /-- CMPI (R201): Compares with a sign-extended immediate. -/
  | cmpi (c : Fin 17) (rs : Fin 16) (imm : BitVec 16)
  /-- MOVI (R201): Loads a sign-extended immediate. -/
  | movi (c : Fin 17) (rd : Fin 16) (imm : BitVec 16)
  /-- MOVHI (R201): Loads an immediate into the upper half. -/
  | movhi (c : Fin 17) (rd : Fin 16) (imm : BitVec 16)
  /-- ADDAI (R201): Adds an immediate to an A register. -/
  | addai (c : Fin 17) (an : Fin 8) (imm : BitVec 16)
  /-- LDB (R202): Loads a zero-extended byte. -/
  | ldb (c : Fin 17) (rd : Fin 16) (ab : Fin 8) (post : Bool) (off : BitVec 11)
  /-- LDBS (R202): Loads a sign-extended byte. -/
  | ldbs (c : Fin 17) (rd : Fin 16) (ab : Fin 8) (post : Bool) (off : BitVec 11)
  /-- LDH (R202): Loads a zero-extended halfword. -/
  | ldh (c : Fin 17) (rd : Fin 16) (ab : Fin 8) (post : Bool) (off : BitVec 11)
  /-- LDHS (R202): Loads a sign-extended halfword. -/
  | ldhs (c : Fin 17) (rd : Fin 16) (ab : Fin 8) (post : Bool) (off : BitVec 11)
  /-- LDW (R202): Loads a word. -/
  | ldw (c : Fin 17) (rd : Fin 16) (ab : Fin 8) (post : Bool) (off : BitVec 11)
  /-- LDD (R202): Loads a doubleword into a register pair. -/
  | ldd (c : Fin 17) (rd : Fin 16) (ab : Fin 8) (post : Bool) (off : BitVec 11)
  /-- STB (R202): Stores a byte. -/
  | stb (c : Fin 17) (rd : Fin 16) (ab : Fin 8) (post : Bool) (off : BitVec 11)
  /-- STH (R202): Stores a halfword. -/
  | sth (c : Fin 17) (rd : Fin 16) (ab : Fin 8) (post : Bool) (off : BitVec 11)
  /-- STW (R202): Stores a word. -/
  | stw (c : Fin 17) (rd : Fin 16) (ab : Fin 8) (post : Bool) (off : BitVec 11)
  /-- STD (R202): Stores a register pair. -/
  | std (c : Fin 17) (rd : Fin 16) (ab : Fin 8) (post : Bool) (off : BitVec 11)
  /-- BMOVS (R179): Copies 32 bytes from own data RAM to shared SRAM or Twin. -/
  | bmovs (c : Fin 17) (ash aloc : Fin 8) (incSh incLoc : Bool)
  /-- BMOVL (R179): Copies 32 bytes from shared SRAM or Twin to own data RAM, blocking. -/
  | bmovl (c : Fin 17) (ash aloc : Fin 8) (incSh incLoc : Bool)
  /-- BCC (R205): Conditional branch with one delay slot. -/
  | bcc (c : Fin 17) (cc : Fin 16) (off : BitVec 21)
  /-- CALL (R205): Relative call writing LR. -/
  | call (c : Fin 17) (off : BitVec 21)
  /-- JR (R205): Jump to an A register. -/
  | jr (c : Fin 17) (an : Fin 8)
  /-- CALLR (R205): Call through an A register. -/
  | callr (c : Fin 17) (an : Fin 8)
  /-- RET (R205): Return to LR. -/
  | ret (c : Fin 17)
  /-- MFS (R206): Reads a special register. -/
  | mfs (c : Fin 17) (rd : Fin 16) (n : BitVec 5)
  /-- MTS (R206): Writes a special register as R157 permits. -/
  | mts (c : Fin 17) (n : BitVec 5) (rs : Fin 16)
  /-- RFE (R169): Returns from an exception after its delay slot. -/
  | rfe (c : Fin 17)
  /-- BRK (R171): Breakpoint: halts for the debugger or vectors to 0x100. -/
  | brk (c : Fin 17) (code : BitVec 10)
  /-- NOP (R206): No operation. -/
  | nop (c : Fin 17)
  /-- WFE (R172): Waits for masked pending events and returns and clears them. -/
  | wfe (c : Fin 17) (rd : Fin 16) (mask : BitVec 4)
  /-- SEV (R206): Sets SOFT of a context of the same engine. -/
  | sev (c : Fin 17) (k : Fin 16)
  /-- GET (R227): Takes the assigned item and returns descriptor word 0, blocking when none is assigned. -/
  | get (c : Fin 17) (rd : Fin 16)
  /-- DONE_FINISH (R228): DONE with ACT 0b00 ends the item, freeing its pool entry at release. -/
  | doneFinish (c : Fin 17) (rs : Fin 16)
  /-- DONE_FORWARD (R228): DONE with ACT 0b01 moves the item to another flow at release. -/
  | doneForward (c : Fin 17) (rs : Fin 16)
  /-- DONE_SUBMIT (R228): DONE with ACT 0b10 hands BUF and LEN to the flow's engine port at release. -/
  | doneSubmit (c : Fin 17) (rs : Fin 16)
  /-- MBWAIT (R246): Waits for prior stores, then for a mailbox condition or own incoming mailbox FULL. -/
  | mbwait (c : Fin 17) (rd rs : Fin 16)
  /-- MBWAIT_END (R246): The named condition or the incoming mailbox FULL holds and MBWAIT writes its status. -/
  | mbwaitEnd (c : Fin 17) (k : Fin 10)
  /-- TCMP (R180): Compares a time base with a 64-bit target, setting Z and N. -/
  | tcmp (c : Fin 17) (rs : Fin 16) (j : Fin 4)
  /-- TWAIT (R180): Blocks until a time base reaches a target. -/
  | twait (c : Fin 17) (rs : Fin 16) (j : Fin 4)
  /-- TWAIT_END (R180): The time base reaches the target and the waiting context becomes READY. -/
  | twaitEnd (c : Fin 16) (k : Fin 10)
  /-- CUSTOM_INSTRUCTION (R212): X0-X15 runs its micro-operations and lands all effects together, or faults without effect. -/
  | customInstruction (c : Fin 17) (sel du dv dw : Fin 16) (au : Fin 8) (imm7 : BitVec 7)
  /-- SOFTWARE_POST (R218): A write to SCH_POST offers a headless item to the arrival queue. -/
  | softwarePost (m : Fin 20) (ctx : Fin 10) (v : Word)
  /-- ITEM_ARRIVAL (R218): A waiting item enters the Dispatch arrival queue when a place frees. -/
  | itemArrival
  /-- ITEM_READY (R218): Dispatch completes the item's pool entry and the item becomes ready. -/
  | itemReady (entry : Fin 4096)
  /-- ITEM_ASSIGNMENT (R222): Dispatch assigns the highest-ranked eligible item to a free context. -/
  | itemAssignment
  /-- PREFETCH_DONE (R223): The descriptor and head are written into the context slot and ITEM is raised. -/
  | prefetchDone (c : Fin 16) (k : Fin 10)
  /-- ITEM_RELEASE (R229): After the context's stores complete the item is released and its action takes effect. -/
  | itemRelease (c : Fin 16) (k : Fin 10) (entry : Fin 4096)
  /-- FLOW_TIMEOUT (R232): An item is still in service at the first tick after its timeout and is revoked. -/
  | flowTimeout (c : Fin 16) (k : Fin 10)
  /-- REVOKED_ITEM_RELEASE (R232): After the revoked context's stores complete, INSVC falls and the item counts as released. -/
  | revokedItemRelease (c : Fin 16) (k : Fin 10)
  /-- ORPHAN_POP (R233): A read of SCH_ORPH by the Supervisor or a host pops the head orphan. -/
  | orphanPop (m : Fin 20)
  /-- ORPHAN_FREE (R233): SCH_ORPH_CMD OP 0b01 frees an orphan's pool entry or boundary bit. -/
  | orphanFree (m : Fin 20) (token : Bool) (item : Fin 4096)
  /-- ORPHAN_REQUEUE (R233): SCH_ORPH_CMD OP 0b10 requeues an orphan with its ready time and FSEQ. -/
  | orphanRequeue (m : Fin 20) (token : Bool) (item : Fin 4096)
  /-- TRACE_ENABLE (R239): A write of SCH_TRACE_CTRL.EN = 1 sets WP to RP and starts the trace. -/
  | traceEnable (m : Fin 20) (v : Word)
  /-- STATISTICS_WINDOW (R238): A statistics window ends and per-engine figures are latched. -/
  | statisticsWindow
  /-- MAILBOX_WRITE (R241): A sender write stores the word, sets FULL and interrupts the receiver. -/
  | mailboxWrite (m : Fin 20) (n : Fin 64) (v : Word)
  /-- MAILBOX_READ (R241): A receiver read returns the word and clears FULL. -/
  | mailboxRead (m : Fin 20) (n : Fin 64)
  /-- MAILBOX_POST (R243): A write to a POST mailbox posts an item whose entry into the arrival queue clears FULL. -/
  | mailboxPost (m : Fin 20) (n : Fin 64) (v : Word)
  /-- SLEW_START (R257): A write to NTM_TBn_SLEW starts, replaces or ends a slew. -/
  | slewStart (m : Fin 20) (j : Fin 4) (v : Word)
  /-- SLEW_DONE (R257): A slew consumes its amount and SLEW_DONE is set. -/
  | slewDone (j : Fin 4)
  /-- STEP_TO_SET (R258): NTM_TBn_CMD OP 0b01 latches a step to the SET time. -/
  | stepToSet (m : Fin 20) (j : Fin 4)
  /-- STEP_BY_OFFSET (R258): NTM_TBn_CMD OP 0b10 latches a step by the signed offset. -/
  | stepByOffset (m : Fin 20) (j : Fin 4)
  /-- STEP_TAKES_EFFECT (R258): Four cycles after the command the time base steps, its epoch increments and slews end. -/
  | stepTakesEffect (j : Fin 4)
  /-- CAP (R259): A write of NTM_SNAP.CAP copies all four time bases into the snapshots. -/
  | cap (m : Fin 20) (v : Word)
  /-- TARGET_LOAD (R270): A write to TGT_H loads both halves as the trigger TARGET. -/
  | targetLoad (m : Fin 20) (k : Fin 64) (v : Word)
  /-- TRIGGER_FIRE (R267): A compare trigger's base reaches TARGET and it fires its action. -/
  | triggerFire (k : Fin 64)
  /-- TIMED_LAUNCH (R272): A timed head entry starts at the first byte boundary at or after L when the class may send. -/
  | timedLaunch (p : Fin 10) (cls : Fin 8)
  /-- LATE_DISCARD (R273): A timed entry not started by L + LATE_WIN is discarded as late. -/
  | lateDiscard (p : Fin 10) (cls : Fin 8)
  /-- TSQ_READ_HEAD (R277): A read of TSQ_W0 latches the head time-stamp record. -/
  | tsqReadHead (m : Fin 20) (p : Fin 10)
  /-- TSQ_READ_LAST (R277): A read of TSQ_W3 returns the latch and removes the head record. -/
  | tsqReadLast (m : Fin 20) (p : Fin 10)
  /-- FRAME_TRANSMIT (R299): A node sends its frame at the action point of an own active slot. -/
  | frameTransmit (sl : Fin 1024) (rbA rbB : Bool)
  /-- FRAME_COPY_RECEIVED (R300): A copy of a frame completes on a channel and is checked for validity. -/
  | frameCopyReceived (ch : Fin 2) (sl : Fin 1024) (bits : List Bool) (arr : Int)
  /-- RECEIVE_SLOT_END (R302): A receive slot ends and each channel without a valid copy counts LOST. -/
  | receiveSlotEnd (sl : Fin 1024)
  /-- CONSTELLATION_PROPOSAL (R303): A manager write to MRD_CST_REQ proposes a Constellation. -/
  | constellationProposal (m : Fin 20) (v : Word)
  /-- CONSTELLATION_WITHDRAWAL (R303): A write of the Constellation in force withdraws a pending proposal. -/
  | constellationWithdrawal (m : Fin 20)
  /-- CLOCK_CORRECTION (R311): At NIT of each odd cycle the offset and rate corrections are applied. -/
  | clockCorrection
  /-- LISTEN_TIMEOUT (R320): The listen timeout expires and a COLD node enters DAWN. -/
  | listenTimeout
  /-- LISTEN_FRAME_ACCEPT (R319): A frame accepted in LISTEN, DAWN or back-off gives the node a timeline and INTEGRATING. -/
  | listenFrameAccept (ch : Fin 2) (bits : List Bool) (ago : Nat)
  /-- DAWN_FRAME (R321): A node in DAWN sends a Dawn frame in slot 0 of its tentative cycle. -/
  | dawnFrame (rbA rbB : Bool)
  /-- DAWN_COLLISION (R323): A Dawn frame not read back valid at the end of slot 0 starts a back-off. -/
  | dawnCollision
  /-- BACKOFF_EXPIRY (R318): The Dawn back-off expires and a new tentative cycle opens. -/
  | backoffExpiry
  /-- DAWN_GIVE_UP (R318): DCYC Dawn cycles pass; node 0 runs alone and others return to LISTEN. -/
  | dawnGiveUp
  /-- ECLIPSE_SCHEDULE_COPY (R327): Eclipse copies and compares its own schedule in the first 10 µs after commit. -/
  | eclipseScheduleCopy (flips : List (Nat × Word))
  /-- ECLIPSE_RC_WINDOW (R330): Eclipse's 500-macrotick RC count window ends and is checked. -/
  | eclipseRcWindow (count : Fin 1024)
  /-- GUARDIAN_TRUNCATION (R329): TXEN outside the window is held or cut, and an ACTIVE node enters LISTEN. -/
  | guardianTruncation
  /-- HALT (R318): A keyed MRD_CMD HALT moves the node to HALT. -/
  | mrdHalt (m : Fin 20) (v : Word)
  /-- REMOTE_RESET_REQUEST (R336): A manager write to MRD_RRST sends RSTN for 4 cycles. -/
  | remoteResetRequest (m : Fin 20) (v : Word)
  /-- ETH_FRAME_RECEIVE (R344): A received frame is checked, classified and written to the switch and/or a receive queue. -/
  | ethFrameReceive (p : Fin 10) (bs : List Byte) (fcs code merge : Bool) (frags ago : Nat)
  /-- LINK_UP (R354): A port's link becomes qualified and transmission starts. -/
  | linkUp (p : Fin 10) (phy : Fin 3)
  /-- LINK_DOWN (R354): A port loses qualification and flushes or holds its queues. -/
  | linkDown (p : Fin 10)
  /-- LINK_HOLD_EXPIRY (R354): HOLD_US passes in HOLD and the port flushes. -/
  | linkHoldExpiry (p : Fin 10)
  /-- PORT_ENABLE (R354): ETH_CTRL.EN becoming 1 starts the lane PLL and moves the port to DOWN. -/
  | portEnable (m : Fin 20) (p : Fin 10)
  /-- PORT_DISABLE (R354): ETH_CTRL.EN becoming 0 flushes and powers the lane down. -/
  | portDisable (m : Fin 20) (p : Fin 10)
  /-- VERIFY_FRAME (R353): The merge sublayer sends a verify frame every 10 ms during verification. -/
  | verifyFrame (p : Fin 8) (answered : Bool)
  /-- ETH_TRANSMIT_END (R369): A frame finishes on the line and the next frame is selected. -/
  | ethTransmitEnd (p : Fin 10) (flip : Bool)
  /-- ETH_COUNTER_LATCH_READ (R357): A read of a _L counter word latches the matching _H word. -/
  | ethCounterLatchRead (m : Fin 20) (p : Fin 10) (tx : Bool)
  /-- SWITCH_ADMISSION (R359): A frame reaching the switch is sampled, classified and admitted to egress queues. -/
  | switchAdmission (upset : Bool)
  /-- CUT_THROUGH_START (R375): At the 64th byte a qualifying copy starts cut-through to its egress. -/
  | cutThroughStart (p : Fin 10) (bs : List Byte) (len ago : Nat)
  /-- STREAM_BLOCK_CLEAR (R365): A write of 0 to stream word 7 clears BLOCKED and DROPS. -/
  | streamBlockClear (e : Fin 512)
  /-- ADDRESS_AGEING (R362): Each second AGE rises and dynamic entries reaching ADDR_TMO are cleared. -/
  | addressAgeing
  /-- GATE_CHANGE (R371): The port's base reaches a gate-list edge and the gate states change. -/
  | gateChange (p : Fin 10)
  /-- CHANGE (R373): A keyed SWC_GATE CHANGE schedules the admin bank for change time T. -/
  | gateAdminChange (m : Fin 20) (p : Fin 10)
  /-- CANCEL (R373): A keyed SWC_GATE cancel ends a pending change. -/
  | gateAdminCancel (m : Fin 20) (p : Fin 10)
  /-- GATE_CHANGE_TIME (R373): Time T arrives and the admin bank becomes operating. -/
  | gateChangeTime (p : Fin 10)
  /-- FRAME_AGED (R374): A head older than its class age limit is discarded. -/
  | frameAged (q : Fin 14) (cls : Fin 8)
  /-- ENGINE_PORT_DELIVERY (R377): An egress frame is written to an engine-port buffer and an item posted. -/
  | enginePortDelivery (n : Fin 4) (flip : Bool)
  /-- TXADDR_SUBMIT (R378): A write to SWC_EP_n TXADDR submits the header and frame at that address. -/
  | txaddrSubmit (m : Fin 20) (n : Fin 4) (v : Word)
  /-- SUBMIT_COPY_DONE (R378): The submit DMA copy completes, the frame enters the switch and BUF or OWN is returned. -/
  | submitCopyDone (n : Fin 4)
  /-- CAN_ENABLE (R385): CAN_CTRL.EN becoming 1 starts integration or detection. -/
  | canEnable (m : Fin 20) (n : Fin 4)
  /-- CAN_DISABLE (R385): CAN_CTRL.EN becoming 0 ends the frame in progress and discards the FIFO. -/
  | canDisable (m : Fin 20) (n : Fin 4)
  /-- CAN_INTEGRATION (R385): 11 consecutive recessive bits let the controller take part in traffic. -/
  | canIntegration (n : Fin 4)
  /-- CAN_FRAME_RECEIVED (R401): A valid frame is stored in its object or the catch-all FIFO and may post an item. -/
  | canFrameReceived (n : Fin 4) (fdf rtr ide : Bool) (id : BitVec 29) (esi brs : Bool) (dlc : Fin 16) (data : List Byte) (ago : Nat)
  /-- CAN_FRAME_SENT (R397): The head frame succeeds and leaves a transmit event record. -/
  | canFrameSent (n : Fin 4) (ago : Nat)
  /-- CAN_ARBITRATION_LOST (R394): The head frame loses arbitration and waits for retransmission or a held abort. -/
  | canArbitrationLost (n : Fin 4)
  /-- CAN_ERROR (R385): A bus error updates the counters and may change the error state. -/
  | canError (n : Fin 4) (tx data : Bool) (lec : Fin 7) (step : Fin 9)
  /-- BUS_OFF_RECOVERY (R385): The 128th occurrence of 11 recessive bits returns the controller to ERROR_ACTIVE. -/
  | busOffRecovery (n : Fin 4) (occ : Fin 129)
  /-- CAN_PROTOCOL_EXCEPTION (R383): A protocol exception returns the controller to INTEGRATING without an error frame. -/
  | canProtocolException (n : Fin 4)
  /-- DETECTION_DWELL_EXPIRY (R389): A detection trial ends without a valid frame and the next candidate is tried. -/
  | detectionDwellExpiry (n : Fin 4)
  /-- CAN_TXPUSH (R391): A write of GO copies the writer's stage to the FIFO tail, or is refused. -/
  | canTxpush (m : Fin 20) (n : Fin 4) (v : Word)
  /-- CAN_ABORT_BY_TAG (R396): CAN_TXABORT OP 0b01 aborts every entry with the named TAG. -/
  | canAbortByTag (m : Fin 20) (n : Fin 4) (tag : BitVec 16) (progress : Fin 3)
  /-- CAN_ABORT_ALL (R396): CAN_TXABORT OP 0b10 aborts every entry. -/
  | canAbortAll (m : Fin 20) (n : Fin 4) (progress : Fin 3)
  /-- CAN_TXEV_READ_HEAD (R397): A read of CAN_TXEV_W0 latches the head transmit event record. -/
  | canTxevReadHead (m : Fin 20) (n : Fin 4)
  /-- CAN_TXEV_READ_LAST (R397): A read of CAN_TXEV_W3 removes the head record. -/
  | canTxevReadLast (m : Fin 20) (n : Fin 4)
  /-- OBJECT_STATUS_READ (R401): A read of an object's STATUS clears NEW and LOST. -/
  | objectStatusRead (m : Fin 20) (n : Fin 4) (o : Fin 256)
  /-- POP (R404): A write of CAN_CA_POP.POP frees the oldest catch-all entry. -/
  | canCaPop (m : Fin 20) (n : Fin 4) (v : Word)
  /-- PIO_EN_SET (R408): A write to PIO_EN_SET enables named engines, RUNNING or ARMED. -/
  | pioEnSet (m : Fin 20) (v : Word)
  /-- PIO_EN_CLR (R408): A write to PIO_EN_CLR disables named engines, pins to IDLE. -/
  | pioEnClr (m : Fin 20) (v : Word)
  /-- PIO_NOP (R417): No operation. -/
  | pioNop (n : Fin 32)
  /-- DRV (R417): Sets control-window pin values. -/
  | pioDrv (n : Fin 32) (v : BitVec 5)
  /-- DRVE (R417): Sets control-window pin enables. -/
  | pioDrve (n : Fin 32) (v : BitVec 5)
  /-- EMIT (R417): Drives data-window values from SR and shifts SR. -/
  | pioEmit (n : Fin 32) (k : Fin 32)
  /-- EMITE (R417): Sets data-window enables. -/
  | pioEmite (n : Fin 32) (k : Fin 32) (v : Bool)
  /-- EMITL (R417): Drives data-window values from OL, optionally only when M = 1. -/
  | pioEmitl (n : Fin 32) (k : Fin 16) (e c : Bool)
  /-- GRAB (R417): Shifts input window bits into SR from the left. -/
  | pioGrab (n : Fin 32) (k : Fin 32) (pins : BitVec 128)
  /-- GRABR (R417): Shifts input window bits into SR from the right. -/
  | pioGrabr (n : Fin 32) (k : Fin 32) (pins : BitVec 128)
  /-- DISC (R417): Discards bits from SR. -/
  | pioDisc (n : Fin 32) (k : Fin 32)
  /-- LOAD (R417): Loads SR from the transmit FIFO head, stalling or underrunning when empty. -/
  | pioLoad (n : Fin 32)
  /-- LOADT (R417): Loads SR if the FIFO holds a word and sets M accordingly. -/
  | pioLoadt (n : Fin 32)
  /-- SEND (R417): Pushes SR into the receive FIFO, stalling or overrunning when full. -/
  | pioSend (n : Fin 32)
  /-- SENDE (R423): As SEND, then closes the open item. -/
  | pioSende (n : Fin 32)
  /-- SENDT (R417): Sends if the FIFO has room and sets M accordingly. -/
  | pioSendt (n : Fin 32)
  /-- UNTIL (R417): Waits until an absolute pin has a level. -/
  | pioUntil (n : Fin 32) (p : Fin 128) (pol : Bool) (pins : BitVec 128)
  /-- UNTILC (R417): Waits until a window pin has a level, then grabs. -/
  | pioUntilc (n : Fin 32) (w : Fin 32) (pol : Bool) (k : Fin 32) (pins : BitVec 128)
  /-- UNTILP (R417): Waits until the window matches CMPV under CMASK, then captures W. -/
  | pioUntilp (n : Fin 32) (pins : BitVec 128)
  /-- UNTILT (R425): Waits until the trigger latch is set, then clears it. -/
  | pioUntilt (n : Fin 32)
  /-- PAUSE (R417): Waits n further ticks. -/
  | pioPause (n : Fin 32) (k : Fin 2048)
  /-- MATCH (R417): Sets M from SR against CMPV under CMASK. -/
  | pioMatch (n : Fin 32)
  /-- MATCHI (R417): Sets M from SR[31:24] against an immediate. -/
  | pioMatchi (n : Fin 32) (k : Byte)
  /-- LOOK (R426): Loads OL from the response table copy in force. -/
  | pioLook (n : Fin 32) (sh : Fin 32) (flip : Option (Fin 18))
  /-- TPUT (R426): Writes a response table entry from SR. -/
  | pioTput (n : Fin 32)
  /-- MOVOL (R417): OL := SR[15:0]. -/
  | pioMovol (n : Fin 32)
  /-- MOVSR (R417): SR := OL. -/
  | pioMovsr (n : Fin 32)
  /-- GOTO (R417): Conditional jump on M, SC, LC or FIFO state. -/
  | pioGoto (n : Fin 32) (c : Fin 16) (t : Fin 32)
  /-- GOTOP (R417): Jumps when a window pin has a level. -/
  | pioGotop (n : Fin 32) (w : Fin 32) (pol : Bool) (t : Fin 32) (pins : BitVec 128)
  /-- LDLC (R417): Loads the loop counter. -/
  | pioLdlc (n : Fin 32) (v : Byte)
  /-- RATE (R409): Selects PIO_RATE0 or PIO_RATE1 and sets a phase start. -/
  | pioRate (n : Fin 32) (sel r : Bool)
  /-- STAMP (R424): Latches a time-stamp record of the last pin event. -/
  | pioStamp (n : Fin 32)
  /-- EVT (R423): Posts an item whose head is one word. -/
  | pioEvt (n : Fin 32) (k : Byte)
  /-- PIO_HALT (R408): Halts the engine with pins held. -/
  | pioHalt (n : Fin 32)
  /-- PIO_ILLEGAL_ENCODING (R418): An illegal encoding halts the engine with pins at IDLE. -/
  | pioIllegalEncoding (n : Fin 32)
  /-- PIO_WAIT_END (R408): A waiting PIO instruction's condition holds at a tick and it completes. -/
  | pioWaitEnd (n : Fin 32) (pins : BitVec 128)
  /-- PIO_STALL_END (R408): A stalled LOAD, SEND, SENDE or EVT finds data or room and completes. -/
  | pioStallEnd (n : Fin 32)
  /-- PIO_TX_FETCH (R421): The DMA fetches a transmit ring word into the FIFO. -/
  | pioTxFetch (n : Fin 32)
  /-- PIO_RX_DRAIN (R423): The DMA drains a receive FIFO word to an item, the image or a ring. -/
  | pioRxDrain (n : Fin 32)
  /-- PIO_REFILL_SWAP (R427): An engine's last refill read lands and the shadow table becomes in force. -/
  | pioRefillSwap (n : Fin 32)
  /-- READBACK_MISMATCH (R415): A read-back mismatch lasting 2 µs raises code 0x4A. -/
  | readbackMismatch (p : Fin 144)
  /-- STUCK_DETECTED (R433): 64 identical bits set STUCK on a Sampler input. -/
  | stuckDetected (n : Fin 24) (v : Bool)
  /-- FILTER_SETTLED (R435): Enough bits have been registered and the filter is settled. -/
  | filterSettled (n : Fin 24)
  /-- SAMPLER_LATCH (R436): At LOFS after the boundary a channel latches its result into its granule and may post. -/
  | samplerLatch (n : Fin 24) (bits : List Bool) (prev : Bool)
  /-- COMPARATOR_TRIP (R440): The fast comparator trips and forces named CC units to SAFE. -/
  | comparatorTrip (n : Fin 24) (bits : List Bool)
  /-- TRIP_RELEASE (R441): SMP_TRIP_CLR releases the trip of named channels. -/
  | tripRelease (m : Fin 20) (v : Word)
  /-- CAPTURE_EDGE (R443): A selected edge on a capture pin is stamped into the capture FIFO. -/
  | captureEdge (u : Fin 16) (rise : Bool) (phase : Fin 8)
  /-- CAPTURE_LATCH (R444): At its LOFS a capture unit writes edge count, level and last time to its granule. -/
  | captureLatch (u : Fin 16) (prev : Bool)
  /-- CAPTURE_READ_HEAD (R443): A read of CAP_W0 latches the head capture record. -/
  | captureReadHead (m : Fin 20) (u : Fin 16)
  /-- CAPTURE_READ_LAST (R443): A read of CAP_W3 removes the head capture record. -/
  | captureReadLast (m : Fin 20) (u : Fin 16)
  /-- PWM_PERIOD_START (R445): A PWM period starts, taking new PERIOD and DUTY values. -/
  | pwmPeriodStart (u : Fin 16)
  /-- LOOP_APPLY (R450): A write to LOOP_APPLY_j marks named loops' shadows to take force at the next boundary. -/
  | loopApply (m : Fin 20) (j : Fin 2) (v : Word)
  /-- LOOP_RESET (R454): A write to LOOP_RESET_j marks named loops' states to be zeroed at the next boundary. -/
  | loopReset (m : Fin 20) (j : Fin 2) (v : Word)
  /-- SAFETY_DECISION (R461): A fault report with code 0x40-0x4C is decided at the end of its RC cycle and the reaction starts. -/
  | safetyDecision
  /-- TWILIGHT_CONFIRMED (R462): The Supervisor enters the ROM responder and CONFIRMED is set. -/
  | twilightConfirmed
  /-- SAFETY_ESCALATION_RESET (R463): Twilight unconfirmed 100 µs after the decision causes a safety-escalation reset. -/
  | safetyEscalationReset
  /-- LOCKSTEP_MISMATCH (R465): The Supervisor cores' outputs differ and code 0x40 is reported. -/
  | lockstepMismatch
  /-- VOLTAGE_FAULT (R466): A supply stays outside its window for 2 µs and code 0x45 is reported. -/
  | voltageFault (k : Fin 5) (mv : BitVec 16)
  /-- TEMPERATURE_SAMPLE (R466): The temperature sensors are sampled and two out-of-limit samples report 0x46. -/
  | temperatureSample (tmin tmax : BitVec 16)
  /-- SAF_REQ (R469): A keyed Supervisor write to SAF_REQ takes a safety decision with code 0x4C. -/
  | safReq (m : Fin 20) (v : Word)
  /-- ADVANCE (R480): SEC command ADVANCE moves the life cycle to the next state after a Vault wipe. -/
  | secAdvance (m : Fin 20) (target : BitVec 3)
  /-- RETURN (R480): SEC command RETURN revokes slots, kills keys and burns LC3 in a vendor session. -/
  | secReturn (m : Fin 20)
  /-- DEFUNCT (R480): SEC command DEFUNCT wipes the Vault and burns LC4. -/
  | secDefunct (m : Fin 20)
  /-- PROG_HASH (R486): SEC command PROG_HASH burns the staged key hash and PROG_k after read-back. -/
  | progHash (m : Fin 20) (slot : BitVec 3)
  /-- REVOKE (R485): SEC command REVOKE burns REV_k of a slot. -/
  | secRevoke (m : Fin 20) (slot : BitVec 3)
  /-- PROG_IMGKEY (R486): SEC command PROG_IMGKEY burns the image key and IMGKEY_SET. -/
  | progImgkey (m : Fin 20)
  /-- DEBUG_KILL (R495): SEC command DEBUG_KILL burns DEBUG_KILL and closes debug at once. -/
  | debugKill (m : Fin 20)
  /-- SESSION_END (R494): SEC command SESSION_END ends the debug session. -/
  | sessionEnd (m : Fin 20)
  /-- SEC_COMMAND_DONE (R485): A fuse command finishes and DONE is set, staging cleared. -/
  | secCommandDone (same : Bool)
  /-- VAULT_READ (R483): ROM gate 0 reads a Vault word in secure mode. -/
  | vaultRead
  /-- VAULT_WRITE (R483): ROM gate 1 writes a Vault word in secure mode. -/
  | vaultWrite
  /-- VAULT_WIPE (R483): ROM gate 2 writes MEM_VAULT_CMD to wipe the Vault. -/
  | vaultWipe
  /-- SEC_COMMAND (R483): ROM gate 3 checks and issues a SEC_CMD with its staging and waits for completion. -/
  | secCommand
  /-- TAMPER_TRIP (R490): A tamper source trips, wiping the Vault, ending debug and acting per ACT. -/
  | tamperTrip (k : Fin 7) (burned : BitVec 10)
  /-- EXTEST (R496): TAP EXTEST drives pins for boundary scan where permitted. -/
  | tapExtest (cells levels : List Byte)
  /-- IDCODE (R491): TAP IDCODE selects the identity register 0x1416_09C3. -/
  | tapIdcode
  /-- SAMPLE_PRELOAD (R491): TAP SAMPLE/PRELOAD samples pins for boundary scan. -/
  | tapSamplePreload (cells levels : List Byte)
  /-- HIGHZ (R496): TAP HIGHZ floats pins where permitted. -/
  | tapHighz (levels : List Byte)
  /-- CLAMP (R496): TAP CLAMP holds pins where permitted. -/
  | tapClamp (levels : List Byte)
  /-- BYPASS (R491): TAP BYPASS selects the bypass register. -/
  | tapBypass
  /-- DBG_ACC (R491): TAP DBG_ACC performs register and memory accesses as master 19 where rights allow. -/
  | dbgAcc (wr : Bool) (a v : Word) (served : Bool)
  /-- DBG_TEST (R106): TAP DBG_TEST gives LIVE-bit test access in BLANK. -/
  | dbgTest (a v : Word)
  /-- DBG_WAKE (R94): TAP DBG_WAKE wakes the device in DEVELOP from RETAIN or OFF. -/
  | dbgWake
  /-- DBG_AUTH_CAPTURE (R493): Capture-DR of DBG_AUTH loads a new challenge with a fresh nonce. -/
  | dbgAuthCapture
  /-- DBG_AUTH_RESPONSE (R493): Update-DR of DBG_AUTH submits a response, or selects PURPOSE when none is pending. -/
  | dbgAuthResponse (bs : List Byte)
  /-- AUTH_VERIFY_DONE (R493): Response verification finishes, opening a session or setting AUTH_FAIL. -/
  | authVerifyDone
  /-- PCIE_LINK_UP (R501): The PCI Express link trains up. -/
  | pcieLinkUp (rate : Fin 3) (x2 : Bool)
  /-- PCIE_LINK_DOWN (R515): The link goes down; received writes complete and reads are discarded. -/
  | pcieLinkDown
  /-- PCIE_PERST (R528): PCIE_PERST_N low holds the link down and configuration space at reset. -/
  | pciePerst (low : Bool)
  /-- PCIE_CONFIG_REQUEST (R502): A configuration request is answered, with retry status before commit or Twilight. -/
  | pcieConfigRequest (wr : Bool) (reg : Fin 1024) (v : Word) (fm : Option Bool)
  /-- PCIE_MEMORY_WRITE (R504): A host memory write through BAR0 or BAR2 takes effect in arrival order. -/
  | pcieMemoryWrite (bar2 : Bool) (dw : BitVec 22) (data : List (Option Byte))
  /-- PCIE_MEMORY_READ (R504): A host memory read is completed after prior writes, or aborted. -/
  | pcieMemoryRead (bar2 : Bool) (dw : BitVec 22) (be : List (BitVec 4))
  /-- MSIX_UNMASK (R505): Unmasking a vector with a pending bit sends its message. -/
  | msixUnmask (m : Fin 20) (vec : Fin 32)
  /-- LHP_READ (R510): An LHP read strobe is served and data and ready launched. -/
  | lhpRead (a : BitVec 24)
  /-- LHP_WRITE (R509): An LHP write strobe stores a part in the latch or performs a register write. -/
  | lhpWrite (a : BitVec 24) (data : BitVec 16)
  /-- LHP_STROBE_RISE (R510): The strobe rises and ready and data are released, setting EARLY if premature. -/
  | lhpStrobeRise (early : Bool)
  /-- HOST_STATUS_CAPTURE (R513): A read of host status word 0 captures all 16 words for that master. -/
  | hostStatusCapture (m : Fin 20)
  /-- HB_SVC (R514): A keyed Supervisor write to HST_HB_SVC raises HBEAT. -/
  | hbSvc (m : Fin 20) (v : Word)
  /-- RESPONDER_HEARTBEAT (R514): Every 1 ms in Twilight the ROM responder raises HBEAT. -/
  | responderHeartbeat
  /-- SWINT_VECTOR (R505): HST_SWINT with TGT = 0 raises an MSI-X vector 18-31. -/
  | swintVector (m : Fin 20) (ctx : Fin 10) (vec : BitVec 5)
  /-- SWINT_PEND (R516): HST_SWINT with TGT = 1 sets an HST_INT_PEND.SW bit. -/
  | swintPend (m : Fin 20) (ctx : Fin 10) (vec : BitVec 5)
  /-- VDDIO_BANK_LOSS (R540): A VDDIO bank falls below its minimum; its outputs float and inputs read 0. -/
  | vddioBankLoss (b : Fin 15)
  /-- STUCK_END (R433): A Sampler input that was stuck registers a bit of the other value, and its latched results are valid again. -/
  | stuckEnd (n : Fin 24)
  /-- OFF_ENTRY_COMPLETE (R91): After RETAIN entry steps 1-4, every bank is off and the core domain is unpowered, and the device is in OFF. -/
  | offEntryComplete
  /-- VDDIO_BANK_RETURN (R540): A VDDIO bank that fell below its minimum returns to its operating range while the core runs. -/
  | vddioBankReturn (b : Fin 15)
  deriving DecidableEq, Repr

end Sys2Proof
end

