-- ==== Sys2Proof/WellFormed.lean ====
section
/-! DEFINITION. WellFormed.lean: which commands the outside can send: what the carrier of a command's operands can hold.
`exec` gives every command its meaning, well-formed or not. -/

namespace Sys2Proof

/-- A frame on a CAN line (R389): at most 64 data bytes, none in a remote frame, which is classical; 11 bits of a base
identifier. -/
def canFrameOk (fdf rtr ide : Bool) (id : BitVec 29) (data : List Byte) : Bool :=
  decide (data.length ≤ if fdf then 64 else 8) && (!rtr || (!fdf && decide (data = []))) &&
    (ide || decide (id.toNat < 2048))

/-- A command as its carrier can deliver it: slot headers of 64 bytes and images of at most 8 MiB (R51, R56), Meridian
frames of at most 255 payload bytes (R284, R285), PCI Express requests of at most 256 bytes written (R501) and 1,024
words read, a response of at least one byte (R493). -/
def Instr.wf : Instr → Bool
  | .cycleBoundary _ => true
  | .imageWindowWrite _ _ _ _ _ _ _ _ => true
  | .shadowWindowWrite _ _ => true
  | .powerUp => true
  | .porstNReset => true
  | .rootPllLock _ _ _ _ => true
  | .memoryBist _ => true
  | .logicBist _ => true
  | .fuseRead _ => true
  | .flashDiscovery _ _ a ka b kb =>
    decide (a.length = 64) && decide (ka.length = 96) && decide (b.length = 64) && decide (kb.length = 96)
  | .imageRead bytes _ => decide (bytes.length ≤ 8388544)
  | .signatureVerification => true
  | .registerWriteRecord => true
  | .memoryLoadDirect => true
  | .memoryLoadIndirect => true
  | .encryptedSection => true
  | .resourceClaimRecord => true
  | .commitRecord => true
  | .rollbackFuseBurn => true
  | .romServiceTick => true
  | .diagCharacter _ _ => true
  | .diagId => true
  | .diagSt => true
  | .diagLog => true
  | .diagHs => true
  | .diagImg => true
  | .diagRd => true
  | .diagRst => true
  | .diagResetDelay => true
  | .updateStart _ => true
  | .updateAbort _ => true
  | .updateEraseDone _ => true
  | .updateProgramDone _ back => decide (back.length ≤ 8388544)
  | .updateHeaderDone _ => true
  | .clockMonitorWindow _ _ => true
  | .lanePllLock _ => true
  | .swrst _ _ => true
  | .softwareReset => true
  | .supervisorWatchdogExpiry => true
  | .supervisorWatchdogService _ _ => true
  | .requestRun _ => true
  | .requestDoze _ => true
  | .requestRetain _ => true
  | .requestOff _ => true
  | .retainEntryComplete => true
  | .wakePin => true
  | .wakeTimer => true
  | .meridianActivityWake => true
  | .retainWake => true
  | .wakeFromOff => true
  | .bankPowerSetting _ _ _ => true
  | .bankReady _ => true
  | .registerWrite _ _ _ _ => true
  | .statusClear _ _ _ => true
  | .indAddrWrite _ _ _ => true
  | .indDataRead _ _ => true
  | .indDataWrite _ _ _ => true
  | .indFetchDone _ => true
  | .almCommitArm _ _ => true
  | .almCommitReference _ _ => true
  | .commitArmTimeout => true
  | .configCrcSweepDone => true
  | .crcTestControl _ _ => true
  | .configParityWalk _ _ _ => true
  | .viewComparison _ => true
  | .scrubRead _ _ _ => true
  | .forcedScrubRead _ _ _ => true
  | .engineLoadReturn _ _ _ => true
  | .storeCompletion _ _ _ => true
  | .wipe _ _ => true
  | .vaultWipeDone => true
  | .lockAcquire _ _ _ => true
  | .lockRelease _ _ _ _ => true
  | .lockRevoke _ _ => true
  | .lockRevokeMaster _ _ => true
  | .engineEnable _ _ => true
  | .engineDisable _ _ => true
  | .contextReset _ _ _ => true
  | .quantumExpiry _ => true
  | .divisionDone _ => true
  | .engineWatchdogService _ _ _ => true
  | .engineWatchdogExpiry _ => true
  | .debuggerResume _ _ => true
  | .illegalInstruction _ => true
  | .add _ _ _ _ => true
  | .adds _ _ _ _ => true
  | .sub _ _ _ _ => true
  | .subs _ _ _ _ => true
  | .andR _ _ _ _ => true
  | .orR _ _ _ _ => true
  | .xorR _ _ _ _ => true
  | .andn _ _ _ _ => true
  | .cmp _ _ _ => true
  | .mov _ _ _ => true
  | .notR _ _ _ => true
  | .neg _ _ _ => true
  | .negs _ _ _ => true
  | .abs _ _ _ => true
  | .abss _ _ _ => true
  | .lsl _ _ _ _ => true
  | .lsr _ _ _ _ => true
  | .asr _ _ _ _ => true
  | .ror _ _ _ _ => true
  | .rol _ _ _ _ => true
  | .lsli _ _ _ _ => true
  | .lsri _ _ _ _ => true
  | .asri _ _ _ _ => true
  | .rori _ _ _ _ => true
  | .roli _ _ _ _ => true
  | .bfi _ _ _ _ _ => true
  | .bfxu _ _ _ _ _ => true
  | .bfxs _ _ _ _ _ => true
  | .bfir _ _ _ _ => true
  | .bfxur _ _ _ _ => true
  | .bfxsr _ _ _ _ => true
  | .bswap _ _ _ => true
  | .hswap _ _ _ => true
  | .mul _ _ _ _ => true
  | .mulh _ _ _ _ => true
  | .mulhu _ _ _ _ => true
  | .div _ _ _ _ => true
  | .divu _ _ _ _ => true
  | .divs _ _ _ _ => true
  | .mac _ _ _ _ => true
  | .msu _ _ _ _ => true
  | .acset _ _ _ => true
  | .acx _ _ _ _ => true
  | .acz _ _ => true
  | .crci _ _ _ => true
  | .crcb _ _ _ _ => true
  | .crch _ _ _ _ => true
  | .crcw _ _ _ _ => true
  | .crcx _ _ _ _ => true
  | .csumh _ _ _ => true
  | .csumw _ _ _ => true
  | .csx _ _ _ => true
  | .mova _ _ _ => true
  | .movd _ _ _ => true
  | .adda _ _ _ => true
  | .suba _ _ _ => true
  | .cmpa _ _ _ => true
  | .addi _ _ _ _ => true
  | .addsi _ _ _ _ => true
  | .andi _ _ _ _ => true
  | .ori _ _ _ _ => true
  | .xori _ _ _ _ => true
  | .cmpi _ _ _ => true
  | .movi _ _ _ => true
  | .movhi _ _ _ => true
  | .addai _ _ _ => true
  | .ldb _ _ _ _ _ => true
  | .ldbs _ _ _ _ _ => true
  | .ldh _ _ _ _ _ => true
  | .ldhs _ _ _ _ _ => true
  | .ldw _ _ _ _ _ => true
  | .ldd _ _ _ _ _ => true
  | .stb _ _ _ _ _ => true
  | .sth _ _ _ _ _ => true
  | .stw _ _ _ _ _ => true
  | .std _ _ _ _ _ => true
  | .bmovs _ _ _ _ _ => true
  | .bmovl _ _ _ _ _ => true
  | .bcc _ _ _ => true
  | .call _ _ => true
  | .jr _ _ => true
  | .callr _ _ => true
  | .ret _ => true
  | .mfs _ _ _ => true
  | .mts _ _ _ => true
  | .rfe _ => true
  | .brk _ _ => true
  | .nop _ => true
  | .wfe _ _ _ => true
  | .sev _ _ => true
  | .get _ _ => true
  | .doneFinish _ _ => true
  | .doneForward _ _ => true
  | .doneSubmit _ _ => true
  | .mbwait _ _ _ => true
  | .mbwaitEnd _ _ => true
  | .tcmp _ _ _ => true
  | .twait _ _ _ => true
  | .twaitEnd _ _ => true
  | .customInstruction _ _ _ _ _ _ _ => true
  | .softwarePost _ _ _ => true
  | .itemArrival => true
  | .itemReady _ => true
  | .itemAssignment => true
  | .prefetchDone _ _ => true
  | .itemRelease _ _ _ => true
  | .flowTimeout _ _ => true
  | .revokedItemRelease _ _ => true
  | .orphanPop _ => true
  | .orphanFree _ _ _ => true
  | .orphanRequeue _ _ _ => true
  | .traceEnable _ _ => true
  | .statisticsWindow => true
  | .mailboxWrite _ _ _ => true
  | .mailboxRead _ _ => true
  | .mailboxPost _ _ _ => true
  | .slewStart _ _ _ => true
  | .slewDone _ => true
  | .stepToSet _ _ => true
  | .stepByOffset _ _ => true
  | .stepTakesEffect _ => true
  | .cap _ _ => true
  | .targetLoad _ _ _ => true
  | .triggerFire _ => true
  | .timedLaunch _ _ => true
  | .lateDiscard _ _ => true
  | .tsqReadHead _ _ => true
  | .tsqReadLast _ _ => true
  | .frameTransmit _ _ _ => true
  | .frameCopyReceived _ _ bits _ => decide (bits.length ≤ 2670)
  | .receiveSlotEnd _ => true
  | .constellationProposal _ _ => true
  | .constellationWithdrawal _ => true
  | .clockCorrection => true
  | .listenTimeout => true
  | .listenFrameAccept _ bits _ => decide (bits.length ≤ 2670)
  | .dawnFrame _ _ => true
  | .dawnCollision => true
  | .backoffExpiry => true
  | .dawnGiveUp => true
  | .eclipseScheduleCopy _ => true
  | .eclipseRcWindow _ => true
  | .guardianTruncation => true
  | .mrdHalt _ _ => true
  | .remoteResetRequest _ _ => true
  | .ethFrameReceive _ _ _ _ _ _ _ => true
  | .linkUp _ _ => true
  | .linkDown _ => true
  | .linkHoldExpiry _ => true
  | .portEnable _ _ => true
  | .portDisable _ _ => true
  | .verifyFrame _ _ => true
  | .ethTransmitEnd _ _ => true
  | .ethCounterLatchRead _ _ _ => true
  | .switchAdmission _ => true
  | .cutThroughStart _ _ _ _ => true
  | .streamBlockClear _ => true
  | .addressAgeing => true
  | .gateChange _ => true
  | .gateAdminChange _ _ => true
  | .gateAdminCancel _ _ => true
  | .gateChangeTime _ => true
  | .frameAged _ _ => true
  | .enginePortDelivery _ _ => true
  | .txaddrSubmit _ _ _ => true
  | .submitCopyDone _ => true
  | .canEnable _ _ => true
  | .canDisable _ _ => true
  | .canIntegration _ => true
  | .canFrameReceived _ fdf rtr ide id _ _ _ data _ => canFrameOk fdf rtr ide id data
  | .canFrameSent _ _ => true
  | .canArbitrationLost _ => true
  | .canError _ _ _ _ _ => true
  | .busOffRecovery _ _ => true
  | .canProtocolException _ => true
  | .detectionDwellExpiry _ => true
  | .canTxpush _ _ _ => true
  | .canAbortByTag _ _ _ _ => true
  | .canAbortAll _ _ _ => true
  | .canTxevReadHead _ _ => true
  | .canTxevReadLast _ _ => true
  | .objectStatusRead _ _ _ => true
  | .canCaPop _ _ _ => true
  | .pioEnSet _ _ => true
  | .pioEnClr _ _ => true
  | .pioNop _ => true
  | .pioDrv _ _ => true
  | .pioDrve _ _ => true
  | .pioEmit _ _ => true
  | .pioEmite _ _ _ => true
  | .pioEmitl _ _ _ _ => true
  | .pioGrab _ _ _ => true
  | .pioGrabr _ _ _ => true
  | .pioDisc _ _ => true
  | .pioLoad _ => true
  | .pioLoadt _ => true
  | .pioSend _ => true
  | .pioSende _ => true
  | .pioSendt _ => true
  | .pioUntil _ _ _ _ => true
  | .pioUntilc _ _ _ _ _ => true
  | .pioUntilp _ _ => true
  | .pioUntilt _ => true
  | .pioPause _ _ => true
  | .pioMatch _ => true
  | .pioMatchi _ _ => true
  | .pioLook _ _ _ => true
  | .pioTput _ => true
  | .pioMovol _ => true
  | .pioMovsr _ => true
  | .pioGoto _ _ _ => true
  | .pioGotop _ _ _ _ _ => true
  | .pioLdlc _ _ => true
  | .pioRate _ _ _ => true
  | .pioStamp _ => true
  | .pioEvt _ _ => true
  | .pioHalt _ => true
  | .pioIllegalEncoding _ => true
  | .pioWaitEnd _ _ => true
  | .pioStallEnd _ => true
  | .pioTxFetch _ => true
  | .pioRxDrain _ => true
  | .pioRefillSwap _ => true
  | .readbackMismatch _ => true
  | .stuckDetected _ _ => true
  | .filterSettled _ => true
  | .samplerLatch _ _ _ => true
  | .comparatorTrip _ _ => true
  | .tripRelease _ _ => true
  | .captureEdge _ _ _ => true
  | .captureLatch _ _ => true
  | .captureReadHead _ _ => true
  | .captureReadLast _ _ => true
  | .pwmPeriodStart _ => true
  | .loopApply _ _ _ => true
  | .loopReset _ _ _ => true
  | .safetyDecision => true
  | .twilightConfirmed => true
  | .safetyEscalationReset => true
  | .lockstepMismatch => true
  | .voltageFault _ _ => true
  | .temperatureSample _ _ => true
  | .safReq _ _ => true
  | .secAdvance _ _ => true
  | .secReturn _ => true
  | .secDefunct _ => true
  | .progHash _ _ => true
  | .secRevoke _ _ => true
  | .progImgkey _ => true
  | .debugKill _ => true
  | .sessionEnd _ => true
  | .secCommandDone _ => true
  | .vaultRead => true
  | .vaultWrite => true
  | .vaultWipe => true
  | .secCommand => true
  | .tamperTrip _ _ => true
  | .tapExtest _ _ => true
  | .tapIdcode => true
  | .tapSamplePreload _ _ => true
  | .tapHighz _ => true
  | .tapClamp _ => true
  | .tapBypass => true
  | .dbgAcc _ _ _ _ => true
  | .dbgTest _ _ => true
  | .dbgWake => true
  | .dbgAuthCapture => true
  | .dbgAuthResponse bs => decide (bs ≠ [])
  | .authVerifyDone => true
  | .pcieLinkUp _ _ => true
  | .pcieLinkDown => true
  | .pciePerst _ => true
  | .pcieConfigRequest _ _ _ _ => true
  | .pcieMemoryWrite _ _ data => decide (data ≠ [] ∧ data.length % 4 = 0 ∧ data.length ≤ 256)
  | .pcieMemoryRead _ _ be => decide (be ≠ [] ∧ be.length ≤ 1024)
  | .msixUnmask _ _ => true
  | .lhpRead _ => true
  | .lhpWrite _ _ => true
  | .lhpStrobeRise _ => true
  | .hostStatusCapture _ => true
  | .hbSvc _ _ => true
  | .responderHeartbeat => true
  | .swintVector _ _ _ => true
  | .swintPend _ _ _ => true
  | .vddioBankLoss _ => true
  | .stuckEnd _ => true
  | .offEntryComplete => true
  | .vddioBankReturn _ => true

end Sys2Proof
end

