-- ==== Sys2Proof/Machine/Bits.lean ====
section
/-! DEFINITION. Machine/Bits.lean: fields of words, bytes and byte order, sign extension, CRC-32C. -/

namespace Sys2Proof.Machine

/-- Bits hi..lo of a number. -/
def nfld (v hi lo : Nat) : Nat := (v >>> lo) % 2 ^ (hi + 1 - lo)

/-- Field hi:lo of a word. -/
def fld (w : Word) (hi lo : Nat) : Nat := nfld w.toNat hi lo

/-- Bit i of a word. -/
def bit (w : Word) (i : Nat) : Bool := w.toNat.testBit i

/-- A word with field hi:lo replaced by v. -/
def setFld (w : Word) (hi lo v : Nat) : Word :=
  let m := BitVec.ofNat 32 ((2 ^ (hi + 1 - lo) - 1) <<< lo)
  (w &&& ~~~m) ||| (BitVec.ofNat 32 (v <<< lo) &&& m)

/-- A word with bit i set or cleared. -/
def setBit (w : Word) (i : Nat) (b : Bool) : Word := setFld w i i b.toNat

/-- A word from a number. -/
def word (n : Nat) : Word := BitVec.ofNat 32 n

/-- The word of one field. -/
def atBit (v lo : Nat) : Nat := v <<< lo

/-- Two's complement value of the low n bits of v. -/
def signed (n v : Nat) : Int :=
  let m := v % 2 ^ n
  if m < 2 ^ (n - 1) then (m : Int) else (m : Int) - (2 ^ n : Nat)

/-- The low n bits of an integer. -/
def wrapInt (n : Nat) (i : Int) : Nat := (i % ((2 ^ n : Nat) : Int)).toNat

/-- Number of bytes bs, little-endian. -/
def leNat : List Byte → Nat
  | [] => 0
  | b :: bs => b.toNat + 256 * leNat bs

/-- The n low bytes of v, least significant first. -/
def leBytes : Nat → Nat → List Byte
  | 0, _ => []
  | n + 1, v => BitVec.ofNat 8 v :: leBytes n (v / 256)

/-- Number of bytes bs, big-endian. -/
def beNat (bs : List Byte) : Nat := leNat bs.reverse

/-- Bytes i .. i + n - 1 of a list, 0 where it ends. -/
def slice (bs : List Byte) (i n : Nat) : List Byte :=
  let t := (bs.drop i).take n
  t ++ List.replicate (n - t.length) 0

/-- Saturating increment at m. -/
def satInc (m v : Nat) : Nat := if v < m then v + 1 else m

/-- One bit of a reflected CRC-32C (R117). -/
def crcBit (c : Nat) : Nat := if c % 2 = 1 then (c / 2) ^^^ 0x82F63B78 else c / 2

/-- One byte of a reflected CRC-32C. -/
def crcByte (c : Nat) (b : Byte) : Nat :=
  (List.range 8).foldl (fun x _ => crcBit x) (c ^^^ b.toNat)

/-- Running CRC-32C over bytes, register form (initial value 0xFFFF_FFFF, no final XOR). -/
def crcFold (c : Nat) (bs : List Byte) : Nat := bs.foldl crcByte c

/-- One bit of the reflected CRC-32 of IEEE 802.3. -/
def fcsBit (c : Nat) : Nat := if c % 2 = 1 then (c / 2) ^^^ 0xEDB88320 else c / 2

/-- The frame check sequence of an Ethernet frame (R345; IEEE 802.3): CRC-32 with initial value and final XOR
0xFFFF_FFFF. -/
def crc32 (bs : List Byte) : Nat :=
  bs.foldl (fun c b => (List.range 8).foldl (fun x _ => fcsBit x) (c ^^^ b.toNat)) 0xFFFFFFFF ^^^ 0xFFFFFFFF

/-- CRC-32C of R117: initial value and final XOR 0xFFFF_FFFF, bit-reflected. -/
def crc32c (bs : List Byte) : Nat := crcFold 0xFFFFFFFF bs ^^^ 0xFFFFFFFF

/-- The n low bits of v in reverse order. -/
def revBits : Nat → Nat → Nat
  | 0, _ => 0
  | n + 1, v => (v % 2) * 2 ^ n + revBits n (v / 2)

/-- Hexadecimal digit (R78). -/
def hexDigit (n : Nat) : Char :=
  if n < 10 then Char.ofNat (48 + n) else Char.ofNat (55 + n)

/-- n hexadecimal digits of v. -/
def hexStr : Nat → Nat → String
  | 0, _ => ""
  | n + 1, v => hexStr n (v / 16) ++ (hexDigit (v % 16)).toString

/-- Value of a hexadecimal digit in either case. -/
def hexVal (c : Char) : Option Nat :=
  let n := c.toNat
  if 48 ≤ n ∧ n ≤ 57 then some (n - 48)
  else if 65 ≤ n ∧ n ≤ 70 then some (n - 55)
  else if 97 ≤ n ∧ n ≤ 102 then some (n - 87)
  else none

/-- A hexadecimal number of 1 to 8 digits (R78). -/
def hexParse (cs : List Char) : Option Nat :=
  if cs.length = 0 ∨ 8 < cs.length then none
  else cs.foldl (fun a c => match a, hexVal c with
    | some x, some v => some (16 * x + v)
    | _, _ => none) (some 0)

/-- The numbers i < n with p i, as a mask. -/
def maskOf (n : Nat) (p : Nat → Bool) : Nat :=
  (List.range n).foldl (fun m i => if p i then m + 2 ^ i else m) 0

/-- How many i < n have p i. -/
def countOf (n : Nat) (p : Nat → Bool) : Nat := ((List.range n).filter p).length

/-- A list with the elements of p removed. -/
def dropIf {α : Type} (p : α → Bool) (l : List α) : List α := l.filter fun x => !p x

/-- Replace element i of a list. -/
def setAt {α : Type} (l : List α) (i : Nat) (x : α) : List α := l.set i x

end Sys2Proof.Machine
end

