-- ==== Sys2Proof/Machine/Flags.lean ====
section
/-! DEFINITION. Machine/Flags.lean: the arithmetic of an engine and the flags of SR it sets (R158, R159, R181-R187).
Every operation takes SR and answers the result, the new SR and whether the overflow trap of R170 applies to it. -/

namespace Sys2Proof.Machine

/-- A result, the status register after it, and whether OV_TRAP applies to it (R170). -/
structure Res where
  val : Word
  sr : Word
  trap : Bool
  deriving DecidableEq, Repr

/-- Z and N from a result (R159). -/
def flagZN (r sr : Word) : Word := setBit (setBit sr 0 (decide (r = 0))) 1 r.msb

/-- C (R159). -/
def flagC (b : Bool) (sr : Word) : Word := setBit sr 2 b

/-- V (R159). -/
def flagV (b : Bool) (sr : Word) : Word := setBit sr 3 b

/-- Sticky S: set, never cleared by a result (R158). -/
def flagS (b : Bool) (sr : Word) : Word := if b then setBit sr 4 true else sr

/-- Sticky DZ: set, never cleared by a result (R158). -/
def flagDZ (b : Bool) (sr : Word) : Word := if b then setBit sr 5 true else sr

/-- SR.OV_TRAP (R158). -/
def ovTrap (sr : Word) : Bool := bit sr 10

/-- Does an integer fall outside 32 signed bits? -/
def outOf32 (i : Int) : Bool := decide (i < -2147483648 ∨ 2147483647 < i)

/-- An integer held to 32 signed bits (R181). -/
def sat32 (i : Int) : Word :=
  if i < -2147483648 then 0x80000000 else if 2147483647 < i then 0x7FFFFFFF else BitVec.ofInt 32 i

/-- A wrapping signed result with V; the carry is given (R159, R181). -/
def resWrap (i : Int) (c : Bool) (sr : Word) : Res :=
  let r := BitVec.ofInt 32 i
  ⟨r, flagV (outOf32 i) (flagC c (flagZN r sr)), outOf32 i && ovTrap sr⟩

/-- A saturating signed result with V and S (R159, R181). -/
def resSat (i : Int) (sr : Word) : Res :=
  let r := sat32 i
  ⟨r, flagS (outOf32 i) (flagV (outOf32 i) (flagZN r sr)), false⟩

/-- A result that sets Z and N only (R159). -/
def resLogic (r sr : Word) : Res := ⟨r, flagZN r sr, false⟩

/-- ADD (R195). -/
def aluAdd (x y sr : Word) : Res := resWrap (x.toInt + y.toInt) (decide (2 ^ 32 ≤ x.toNat + y.toNat)) sr
/-- SUB: C = 1 means no borrow (R158, R195). -/
def aluSub (x y sr : Word) : Res := resWrap (x.toInt - y.toInt) (decide (y.toNat ≤ x.toNat)) sr
/-- ADDS (R195). -/
def aluAdds (x y sr : Word) : Res := resSat (x.toInt + y.toInt) sr
/-- SUBS (R195). -/
def aluSubs (x y sr : Word) : Res := resSat (x.toInt - y.toInt) sr
/-- AND (R195). -/
def aluAnd (x y sr : Word) : Res := resLogic (x &&& y) sr
/-- OR (R195). -/
def aluOr (x y sr : Word) : Res := resLogic (x ||| y) sr
/-- XOR (R195). -/
def aluXor (x y sr : Word) : Res := resLogic (x ^^^ y) sr
/-- ANDN (R195). -/
def aluAndn (x y sr : Word) : Res := resLogic (x &&& ~~~y) sr
/-- MOV (R195). -/
def aluMov (x sr : Word) : Res := resLogic x sr
/-- NOT (R195). -/
def aluNot (x sr : Word) : Res := resLogic (~~~x) sr
/-- NEG (R195). -/
def aluNeg (x sr : Word) : Res := aluSub 0 x sr
/-- NEGS (R195, R183). -/
def aluNegs (x sr : Word) : Res := aluSubs 0 x sr
/-- ABS: C is unchanged (R159, R183). -/
def aluAbs (x sr : Word) : Res :=
  let o := decide (x = 0x80000000)
  let r := if x.msb then 0 - x else x
  ⟨r, flagV o (flagZN r sr), o && ovTrap sr⟩
/-- ABSS (R159, R183). -/
def aluAbss (x sr : Word) : Res := resSat (if x.toInt < 0 then -x.toInt else x.toInt) sr

/-- A shift's result with its C, unchanged where none is given (R185). -/
def resShift (r : Word) (c : Option Bool) (sr : Word) : Res :=
  ⟨r, flagZN r (match c with | some b => flagC b sr | none => sr), false⟩

/-- LSL (R185). -/
def shLsl (x : Word) (a : Nat) (sr : Word) : Res :=
  if a = 0 then resShift x none sr
  else if a ≤ 32 then resShift (x <<< a) (some (bit x (32 - a))) sr
  else resShift 0 (some false) sr
/-- LSR (R185). -/
def shLsr (x : Word) (a : Nat) (sr : Word) : Res :=
  if a = 0 then resShift x none sr
  else if a ≤ 32 then resShift (x >>> a) (some (bit x (a - 1))) sr
  else resShift 0 (some false) sr
/-- ASR (R185). -/
def shAsr (x : Word) (a : Nat) (sr : Word) : Res :=
  if a = 0 then resShift x none sr
  else if a ≤ 31 then resShift (x.sshiftRight a) (some (bit x (a - 1))) sr
  else resShift (if x.msb then 0xFFFFFFFF else 0) (some x.msb) sr
/-- ROR (R185). -/
def shRor (x : Word) (a : Nat) (sr : Word) : Res :=
  if a = 0 then resShift x none sr
  else let r := x.rotateRight (a % 32); resShift r (some r.msb) sr
/-- ROL (R185). -/
def shRol (x : Word) (a : Nat) (sr : Word) : Res :=
  if a = 0 then resShift x none sr
  else let r := x.rotateLeft (a % 32); resShift r (some (bit r 0)) sr

/-- BFI: bits above 31 are dropped (R177). -/
def bfInsert (dd x : Word) (pos width : Nat) (sr : Word) : Res :=
  let m : Word := word ((2 ^ width - 1) <<< pos)
  resLogic ((dd &&& ~~~m) ||| (word (x.toNat <<< pos) &&& m)) sr
/-- BFXU: bits above 31 read as 0 (R177). -/
def bfExtU (x : Word) (pos width : Nat) (sr : Word) : Res :=
  resLogic (word ((x.toNat >>> pos) % 2 ^ width)) sr
/-- BFXS: the sign is the field's highest bit, bit 31 where it passes it (R177). -/
def bfExtS (x : Word) (pos width : Nat) (sr : Word) : Res :=
  let w := if 32 < pos + width then 32 - pos else width
  resLogic (BitVec.ofInt 32 (signed w (x.toNat >>> pos))) sr
/-- BSWAP (R178). -/
def byteSwap (x : Word) : Word :=
  word (fld x 7 0 <<< 24 + fld x 15 8 <<< 16 + fld x 23 16 <<< 8 + fld x 31 24)
/-- HSWAP (R178). -/
def halfSwap (x : Word) : Word :=
  word (fld x 23 16 <<< 24 + fld x 31 24 <<< 16 + fld x 7 0 <<< 8 + fld x 15 8)

/-- MUL (R181): C is unchanged. -/
def mulLow (x y sr : Word) : Res :=
  let p := x.toInt * y.toInt
  let r := BitVec.ofInt 32 p
  ⟨r, flagV (outOf32 p) (flagZN r sr), outOf32 p && ovTrap sr⟩
/-- MULH (R181). -/
def mulHigh (x y sr : Word) : Res :=
  let r := BitVec.ofInt 32 (x.toInt * y.toInt / 4294967296)
  ⟨r, flagV false (flagZN r sr), false⟩
/-- MULHU (R181). -/
def mulHighU (x y sr : Word) : Res :=
  let r := word (x.toNat * y.toNat / 4294967296)
  ⟨r, flagV false (flagZN r sr), false⟩

/-- A division's quotient, remainder and new SR (R182, R183). -/
structure DivRes where
  q : Word
  r : Word
  sr : Word
  dz : Bool
  ov : Bool
  deriving DecidableEq, Repr

/-- Division by zero: signed forms by the dividend's sign, DIVU always all ones (R183). V is cleared: the quotient is
given by rule and does not overflow. -/
def divZero (signed' : Bool) (x sr : Word) : DivRes :=
  let q : Word := if signed' then (if x.msb then 0x80000000 else 0x7FFFFFFF) else 0xFFFFFFFF
  ⟨q, x, flagDZ true (flagV false (flagZN q sr)), true, false⟩

/-- DIV (R182, R183). -/
def divSigned (x y sr : Word) : DivRes :=
  if y = 0 then divZero true x sr
  else
    let o := decide (x = 0x80000000 ∧ y = 0xFFFFFFFF)
    let q := BitVec.ofInt 32 (x.toInt.tdiv y.toInt)
    ⟨q, BitVec.ofInt 32 (x.toInt.tmod y.toInt), flagV o (flagZN q sr), false, o⟩
/-- DIVU (R182, R183). -/
def divUnsigned (x y sr : Word) : DivRes :=
  if y = 0 then divZero false x sr
  else
    let q := word (x.toNat / y.toNat)
    ⟨q, word (x.toNat % y.toNat), flagV false (flagZN q sr), false, false⟩
/-- DIVS (R182, R183). -/
def divSat (x y sr : Word) : DivRes :=
  if y = 0 then divZero true x sr
  else
    let i := x.toInt.tdiv y.toInt
    let q := sat32 i
    ⟨q, BitVec.ofInt 32 (x.toInt.tmod y.toInt), flagS (outOf32 i) (flagV (outOf32 i) (flagZN q sr)), false, false⟩

/-- A 72-bit accumulator held to its range (R186), with the saturation mark. -/
def sat72 (i : Int) : Acc × Bool :=
  if i < -(2 ^ 71 : Nat) then (BitVec.ofInt 72 (-(2 ^ 71 : Nat)), true)
  else if (2 ^ 71 : Nat) - 1 < i then (BitVec.ofInt 72 ((2 ^ 71 : Nat) - 1), true)
  else (BitVec.ofInt 72 i, false)

/-- MAC (sgn 1) and MSU (sgn -1) (R186): the accumulator and SR. -/
def macStep (sgn : Int) (ac : Acc) (x y sr : Word) : Acc × Word :=
  let p := sat72 (ac.toInt + sgn * (x.toInt * y.toInt))
  (p.1, flagS p.2 sr)

/-- ACX (R187). -/
def acExtract (ac : Acc) (sh : Nat) (sr : Word) : Res :=
  let i := ac.toInt / (2 ^ sh : Nat)
  ⟨sat32 i, flagS (outOf32 i) (flagV (outOf32 i) (flagZN (sat32 i) sr)), false⟩

/-- The CRC parameters of a slot (R174, R175): width in bits, polynomial, initial value, final XOR, reflections. -/
structure CrcPar where
  width : Nat
  poly : Nat
  init : Nat
  fin : Nat
  refIn : Bool
  refOut : Bool
  deriving DecidableEq, Repr

/-- CRCI (R175): INIT, reflected over WIDTH when REFIN = 1. -/
def crcInit (p : CrcPar) : Nat :=
  let i := p.init % 2 ^ p.width
  if p.refIn then revBits p.width i else i

/-- One bit into a CRC register (R175): the reflected register takes bits at its low end. -/
def crcFoldBit (p : CrcPar) (c : Nat) (b : Bool) : Nat :=
  let poly := p.poly % 2 ^ p.width
  if p.refIn then
    if decide (c % 2 = 1) ≠ b then (c / 2) ^^^ revBits p.width poly else c / 2
  else
    if c.testBit (p.width - 1) ≠ b then ((2 * c) % 2 ^ p.width) ^^^ poly else (2 * c) % 2 ^ p.width

/-- One byte into a CRC register: bit 0 first when REFIN = 1, bit 7 first otherwise (R175). -/
def crcFoldByte (p : CrcPar) (c : Nat) (x : Nat) : Nat :=
  (List.range 8).foldl (fun c i => crcFoldBit p c (x.testBit (if p.refIn then i else 7 - i))) c

/-- The n low bytes of a word into a CRC register, least significant first (R175). -/
def crcFoldWord (p : CrcPar) (n : Nat) (c : Nat) (x : Word) : Nat :=
  (leBytes n x.toNat).foldl (fun c b => crcFoldByte p c b.toNat) (c % 2 ^ p.width)

/-- CRCX (R175). -/
def crcFinish (p : CrcPar) (c : Nat) : Word :=
  let r := c % 2 ^ p.width
  word ((if p.refOut = p.refIn then r else revBits p.width r) ^^^ (p.fin % 2 ^ p.width))

/-- The ones' complement fold of R176, at most n rounds. -/
def csumFold : Nat → Nat → Nat
  | 0, s => s
  | n + 1, s => if s ≤ 0xFFFF then s else csumFold n (s % 65536 + s / 65536)

/-- CSX (R176): 8 rounds reach 16 bits from 72. -/
def csumFinish (ac : Acc) : Word := word (0xFFFF - csumFold 8 ac.toNat)

/-- Does condition code cc hold on SR (R204)? None for the reserved code 0xF. -/
def condHolds (cc : Nat) (sr : Word) : Option Bool :=
  let z := bit sr 0
  let n := bit sr 1
  let c := bit sr 2
  let v := bit sr 3
  match cc with
  | 0 => some z | 1 => some (!z) | 2 => some c | 3 => some (!c)
  | 4 => some n | 5 => some (!n) | 6 => some v | 7 => some (!v)
  | 8 => some (c && !z) | 9 => some (!c || z) | 10 => some (n == v) | 11 => some (n != v)
  | 12 => some (!z && n == v) | 13 => some (z || n != v) | 14 => some true
  | _ => none

end Sys2Proof.Machine
end

