-- ==== Sys2Proof/Config.lean ====
section
/-! DEFINITION. Config.lean: what the spec names and gives no value for. Every constant is opaque: no proof can see a
value of it, and a statement that mentions one holds for every value (notes/assumptions/1.md). -/

namespace Sys2Proof.Config

/-- A free value: what the spec leaves open, applied to the plain counter `Dev.free` that each use advances. -/
opaque freeValue : Nat → Word

/-- The rounding of a quotient a / b that the spec leaves open (R312, R314): does one that is not whole round up? -/
opaque roundUp : Int → Int → Bool

/-- SHA-384 (FIPS 180-4, named by R41, R63, R64, R72; the spec states no table of it), byte 0 of the hash in the low
bits. -/
opaque sha384 : List Byte → BitVec 384

/-- ECDSA P-384 verification (R63): digest, key X and Y, then r and s, as big-endian bytes. -/
opaque ecdsaVerify : BitVec 384 → List Byte → List Byte → Bool

/-- AES-256-GCM tag check (R61): key, IV, associated data, ciphertext, tag. -/
opaque gcmTagOk : BitVec 256 → List Byte → List Byte → List Byte → List Byte → Bool

/-- AES-256-GCM (R61): byte i of the plaintext of a ciphertext under key and IV. -/
opaque gcmPlainByte : BitVec 256 → List Byte → List Byte → Nat → Byte

/-- Contents of the boot ROM (R124). -/
opaque romByte : Nat → Byte

/-- ROM version of the DIAG reply to ID (R78). -/
opaque romVersion : Word

/-- SHA-384 hash of the vendor key in the boot ROM (R493). -/
opaque vendorKeyHash : BitVec 384

/-- The on-die random source of R493: the nonce of draw n. -/
opaque nonce : Nat → BitVec 256

/-- A dword of PCI Express configuration space that the spec gives no value for (R501, R502), by number and last value
written. -/
opaque pcieCfg : Nat → Word → Word

/-- Where the byte boundaries of the transmit line of an Ethernet port lie at a speed (R272), in 0.1 ns. -/
opaque byteGrid : Nat → Nat → Nat

/-- A unit state word whose layout no unit chapter gives (R101), by register block. -/
opaque unitState : Nat → Nat → Word

end Sys2Proof.Config
end

