-- ==== Sys2Proof/Machine/Addr.lean ====
section
/-! DEFINITION. Machine/Addr.lean: the internal address of every register the meanings name (R99, R100 and the register
headings of spec/). Arrays take their index; grouped registers also take the offset within the group. -/

namespace Sys2Proof.Machine.A

/-- MEM_IMG_CTRL (R32). -/
def memImgCtrl : Nat := 0x10040800
/-- MEM_IMG_STAT (R32). -/
def memImgStat : Nat := 0x10040804
/-- MEM_IMG_CYCLE (R32). -/
def memImgCycle : Nat := 0x10040808
/-- MEM_IMG_PERIOD (R32). -/
def memImgPeriod : Nat := 0x1004080c
/-- MEM_IMG_GUARD (R32). -/
def memImgGuard : Nat := 0x10040810
/-- MEM_IMG_IND_ADDR (R32). -/
def memImgIndAddr : Nat := 0x10040820
/-- MEM_IMG_IND_DATA (R32). -/
def memImgIndData : Nat := 0x10040824
/-- SYS_STRAP (R46). -/
def sysStrap : Nat := 0x10000010
/-- ALM_BOOT_STAT (R73). -/
def almBootStat : Nat := 0x10010100
/-- ALM_BOOT_TIME (R73). -/
def almBootTime : Nat := 0x10010104
/-- ALM_UPD_SRC (R73). -/
def almUpdSrc : Nat := 0x10010120
/-- ALM_UPD_LEN (R73). -/
def almUpdLen : Nat := 0x10010124
/-- ALM_UPD_CMD (R73). -/
def almUpdCmd : Nat := 0x10010128
/-- ALM_UPD_STAT (R73). -/
def almUpdStat : Nat := 0x1001012c
/-- SYS_CLK_STAT (R85). -/
def sysClkStat : Nat := 0x10000040
/-- SYS_RST_CAUSE (R88). -/
def sysRstCause : Nat := 0x10000080
/-- SYS_RST_CMD (R88). -/
def sysRstCmd : Nat := 0x10000084
/-- SYS_PWR_CTRL (R95). -/
def sysPwrCtrl : Nat := 0x100000c0
/-- SYS_PWR_CFG (R95). -/
def sysPwrCfg : Nat := 0x100000c4
/-- SYS_PWR_STAT (R95). -/
def sysPwrStat : Nat := 0x100000c8
/-- SYS_WAKE_EN (R95). -/
def sysWakeEn : Nat := 0x100000cc
/-- SYS_WAKE_TMR (R95). -/
def sysWakeTmr : Nat := 0x100000d0
/-- SYS_BANK_PWR_k (R98). -/
def sysBankPwr (i : Nat) : Nat := 0x10000100 + 4 * i
/-- SYS_BANK_RDY_j (R98). -/
def sysBankRdy (i : Nat) : Nat := 0x10000110 + 4 * i
/-- ALM_CRC_REF (R120). -/
def almCrcRef : Nat := 0x10010200
/-- ALM_CRC_CUR (R120). -/
def almCrcCur : Nat := 0x10010204
/-- ALM_COMMIT (R120). -/
def almCommit : Nat := 0x10010208
/-- ALM_CRC_CTRL (R120). -/
def almCrcCtrl : Nat := 0x1001020c
/-- ALM_CRC_STAT (R120). -/
def almCrcStat : Nat := 0x10010210
/-- MEM_ACC_STAT (R148). -/
def memAccStat : Nat := 0x10040010
/-- MEM_ACC_INFO (R148). -/
def memAccInfo : Nat := 0x10040014
/-- MEM_ACC_ADDR (R148). -/
def memAccAddr : Nat := 0x10040018
/-- MEM_PAR_LOG0 (R148). -/
def memParLog0 : Nat := 0x10040020
/-- MEM_PAR_LOG1 (R148). -/
def memParLog1 : Nat := 0x10040024
/-- MEM_SWB_PAR (R148). -/
def memSwbPar : Nat := 0x10040028
/-- MEM_SCRUB_STAT (R148). -/
def memScrubStat : Nat := 0x10040030
/-- MEM_VAULT_STAT (R148). -/
def memVaultStat : Nat := 0x10040040
/-- MEM_VAULT_CMD (R148). -/
def memVaultCmd : Nat := 0x10040044
/-- PE_CTRL (R189). -/
def peCtrl (u : Nat) : Nat := 0x8030010 + 0x40000 * u
/-- PE_STAT (R189). -/
def peStat (u : Nat) : Nat := 0x8030014 + 0x40000 * u
/-- PE_CTX_STATE (R189). -/
def peCtxState (u : Nat) : Nat := 0x8030018 + 0x40000 * u
/-- PE_QUANTUM (R189). -/
def peQuantum (u : Nat) : Nat := 0x803001c + 0x40000 * u
/-- PE_WDOG (R189). -/
def peWdog (u : Nat) : Nat := 0x8030020 + 0x40000 * u
/-- PE_WDOG_SVC (R189). -/
def peWdogSvc (u : Nat) : Nat := 0x8030024 + 0x40000 * u
/-- PE_CTX_RST (R189). -/
def peCtxRst (u : Nat) : Nat := 0x8030028 + 0x40000 * u
/-- PE_CRC_k (R189). -/
def peCrc (u i o : Nat) : Nat := 0x8030040 + 0x40000 * u + 16 * i + o
/-- PE_XDEC_IND_ADDR (R207). -/
def peXdecIndAddr (u : Nat) : Nat := 0x8030030 + 0x40000 * u
/-- PE_XDEC_IND_DATA (R207). -/
def peXdecIndData (u : Nat) : Nat := 0x8030034 + 0x40000 * u
/-- SCH_CTRL (R239). -/
def schCtrl : Nat := 0x10060010
/-- SCH_STAT (R239). -/
def schStat : Nat := 0x10060014
/-- SCH_POST (R239). -/
def schPost : Nat := 0x10060018
/-- SCH_ORPH (R239). -/
def schOrph : Nat := 0x1006001c
/-- SCH_ORPH_CMD (R239). -/
def schOrphCmd : Nat := 0x10060020
/-- SCH_POOL_LVL (R239). -/
def schPoolLvl : Nat := 0x10060024
/-- SCH_STAT_WIN (R239). -/
def schStatWin : Nat := 0x10060028
/-- SCH_TRACE_BASE (R239). -/
def schTraceBase : Nat := 0x10060030
/-- SCH_TRACE_CTRL (R239). -/
def schTraceCtrl : Nat := 0x10060034
/-- SCH_TRACE_WP (R239). -/
def schTraceWp : Nat := 0x10060038
/-- SCH_TRACE_RP (R239). -/
def schTraceRp : Nat := 0x1006003c
/-- SCH_TRACE_LOST (R239). -/
def schTraceLost : Nat := 0x10060040
/-- SCH_CTX_EN_n (R239). -/
def schCtxEn (i : Nat) : Nat := 0x10060080 + 4 * i
/-- SCH_FLOW_IND_ADDR (R239). -/
def schFlowIndAddr : Nat := 0x10060100
/-- SCH_FLOW_IND_DATA (R239). -/
def schFlowIndData : Nat := 0x10060104
/-- SCH_ENG_STAT_n (R239). -/
def schEngStat (i o : Nat) : Nat := 0x10060200 + 16 * i + o
/-- MBX_STAT (R251). -/
def mbxStat : Nat := 0x10050010
/-- MBX_FULL_j (R251). -/
def mbxFull (i : Nat) : Nat := 0x10050020 + 4 * i
/-- MBX_COLL_k (R251). -/
def mbxColl (i : Nat) : Nat := 0x10050040 + 4 * i
/-- MBX_DATA_n (R251). -/
def mbxData (i : Nat) : Nat := 0x10050100 + 4 * i
/-- MBX_CFG_n (R251). -/
def mbxCfg (i : Nat) : Nat := 0x10050200 + 4 * i
/-- MEM_LOCK_n (R251). -/
def memLock (i : Nat) : Nat := 0x10040400 + 4 * i
/-- MEM_LOCK_STAT (R251). -/
def memLockStat : Nat := 0x10040500
/-- MEM_LOCK_REVOKE (R251). -/
def memLockRevoke : Nat := 0x10040504
/-- MEM_LOCK_HELD_j (R251). -/
def memLockHeld (i : Nat) : Nat := 0x10040508 + 4 * i
/-- NTM_SNAP (R280). -/
def ntmSnap : Nat := 0x10070010
/-- NTM_TS_SEL (R280). -/
def ntmTsSel : Nat := 0x10070014
/-- NTM_TC_CTRL (R280). -/
def ntmTcCtrl : Nat := 0x10070018
/-- NTM_TRIG_SUM_j (R280). -/
def ntmTrigSum (i : Nat) : Nat := 0x10070020 + 4 * i
/-- NTM_TBn (R280). -/
def ntmTb (i o : Nat) : Nat := 0x10070100 + 64 * i + o
/-- NTM_PTPp (R280). -/
def ntmPtp (i o : Nat) : Nat := 0x10070400 + 64 * i + o
/-- NTM_TRIGk (R280). -/
def ntmTrig (i o : Nat) : Nat := 0x10071000 + 32 * i + o
/-- MRD_CTRL (R316). -/
def mrdCtrl : Nat := 0x10080010
/-- MRD_STAT (R316). -/
def mrdStat : Nat := 0x10080014
/-- MRD_CYCLE (R316). -/
def mrdCycle : Nat := 0x10080018
/-- MRD_CST_REQ (R316). -/
def mrdCstReq : Nat := 0x10080020
/-- MRD_CST_NAK (R316). -/
def mrdCstNak : Nat := 0x10080024
/-- MRD_SYNC_CFG (R316). -/
def mrdSyncCfg : Nat := 0x10080030
/-- MRD_SYNC_STAT (R316). -/
def mrdSyncStat : Nat := 0x10080034
/-- MRD_MT_RATE (R316). -/
def mrdMtRate : Nat := 0x10080038
/-- MRD_TB0_OFS (R316). -/
def mrdTb0Ofs : Nat := 0x1008003c
/-- MRD_CHx_CNT (R316). -/
def mrdChCnt (i o : Nat) : Nat := 0x10080080 + 16 * i + o
/-- MRD_DISAGREE (R316). -/
def mrdDisagree : Nat := 0x100800a0
/-- MRD_IND_ADDR (R316). -/
def mrdIndAddr : Nat := 0x10080100
/-- MRD_IND_DATA (R316). -/
def mrdIndData : Nat := 0x10080104
/-- MRD_DAWN_CFG (R340). -/
def mrdDawnCfg : Nat := 0x10080040
/-- MRD_NODE_STAT (R340). -/
def mrdNodeStat : Nat := 0x10080044
/-- MRD_RACK_ACT (R340). -/
def mrdRackAct : Nat := 0x10080048
/-- MRD_RACK_ABS (R340). -/
def mrdRackAbs : Nat := 0x1008004c
/-- MRD_RACK_FAIL (R340). -/
def mrdRackFail : Nat := 0x10080050
/-- MRD_HASH (R340). -/
def mrdHash : Nat := 0x10080054
/-- MRD_HASH_REF (R340). -/
def mrdHashRef : Nat := 0x10080058
/-- MRD_RRST (R340). -/
def mrdRrst : Nat := 0x1008005c
/-- MRD_CMD (R340). -/
def mrdCmd : Nat := 0x10080060
/-- MRD_ECL_STAT (R340). -/
def mrdEclStat : Nat := 0x10080064
/-- ETH_CTRL (R357). -/
def ethCtrl (u : Nat) : Nat := 0x100c0010 + 0x10000 * u
/-- ETH_STAT (R357). -/
def ethStat (u : Nat) : Nat := 0x100c0014 + 0x10000 * u
/-- ETH_HOLD (R357). -/
def ethHold (u : Nat) : Nat := 0x100c0018 + 0x10000 * u
/-- ETH_FRAME (R357). -/
def ethFrame (u : Nat) : Nat := 0x100c001c + 0x10000 * u
/-- ETH_DEFAULT (R357). -/
def ethDefault (u : Nat) : Nat := 0x100c0020 + 0x10000 * u
/-- ETH_MM_CTRL (R357). -/
def ethMmCtrl (u : Nat) : Nat := 0x100c0024 + 0x10000 * u
/-- ETH_MM_STAT (R357). -/
def ethMmStat (u : Nat) : Nat := 0x100c0028 + 0x10000 * u
/-- ETH_RULE_IND_ADDR (R357). -/
def ethRuleIndAddr (u : Nat) : Nat := 0x100c0040 + 0x10000 * u
/-- ETH_RULE_IND_DATA (R357). -/
def ethRuleIndData (u : Nat) : Nat := 0x100c0044 + 0x10000 * u
/-- ETH_RXQ_q (R357). -/
def ethRxq (u i o : Nat) : Nat := 0x100c0100 + 0x10000 * u + 16 * i + o
/-- ETH_CNT (R357). -/
def ethCnt (u o : Nat) : Nat := 0x100c0200 + 0x10000 * u + o
/-- SWC_CTRL (R381). -/
def swcCtrl : Nat := 0x10090010
/-- SWC_STAT (R381). -/
def swcStat : Nat := 0x10090014
/-- SWC_GEN (R381). -/
def swcGen : Nat := 0x10090018
/-- SWC_POOL (R381). -/
def swcPool : Nat := 0x1009001c
/-- SWC_IND_ADDR (R381). -/
def swcIndAddr : Nat := 0x10090040
/-- SWC_IND_DATA (R381). -/
def swcIndData : Nat := 0x10090044
/-- SWC_PORT_p (R381). -/
def swcPort (i o : Nat) : Nat := 0x10090100 + 64 * i + o
/-- SWC_GATE_p (R381). -/
def swcGate (i o : Nat) : Nat := 0x10090600 + 32 * i + o
/-- SWC_EP_n (R381). -/
def swcEp (i o : Nat) : Nat := 0x10090800 + 16 * i + o
/-- CAN_CTRL (R406). -/
def canCtrl (u : Nat) : Nat := 0x10180010 + 0x10000 * u
/-- CAN_STAT (R406). -/
def canStat (u : Nat) : Nat := 0x10180014 + 0x10000 * u
/-- CAN_ERRC (R406). -/
def canErrc (u : Nat) : Nat := 0x10180018 + 0x10000 * u
/-- CAN_DET (R406). -/
def canDet (u : Nat) : Nat := 0x1018001c + 0x10000 * u
/-- CAN_TXPUSH (R406). -/
def canTxpush (u : Nat) : Nat := 0x10180020 + 0x10000 * u
/-- CAN_TXABORT (R406). -/
def canTxabort (u : Nat) : Nat := 0x10180024 + 0x10000 * u
/-- CAN_TXLVL (R406). -/
def canTxlvl (u : Nat) : Nat := 0x10180028 + 0x10000 * u
/-- CAN_TXEV_W0..W3 (R406). -/
def canTxevW (u i : Nat) : Nat := 0x10180030 + 0x10000 * u + 4 * i
/-- CAN_TXEV_LOST (R406). -/
def canTxevLost (u : Nat) : Nat := 0x10180040 + 0x10000 * u
/-- CAN_CA_CFG (R406). -/
def canCaCfg (u : Nat) : Nat := 0x10180044 + 0x10000 * u
/-- CAN_CA_HEAD (R406). -/
def canCaHead (u : Nat) : Nat := 0x10180048 + 0x10000 * u
/-- CAN_CA_POP (R406). -/
def canCaPop (u : Nat) : Nat := 0x1018004c + 0x10000 * u
/-- CAN_IND_ADDR (R406). -/
def canIndAddr (u : Nat) : Nat := 0x10180050 + 0x10000 * u
/-- CAN_IND_DATA (R406). -/
def canIndData (u : Nat) : Nat := 0x10180054 + 0x10000 * u
/-- CAN_LOST_j (R406). -/
def canLost (u i : Nat) : Nat := 0x10180060 + 0x10000 * u + 4 * i
/-- CAN_TXS_Wk (R406). -/
def canTxsW (u i : Nat) : Nat := 0x10180100 + 0x10000 * u + 4 * i
/-- PIO_EN_SET (R430). -/
def pioEnSet : Nat := 0x101c0010
/-- PIO_EN_CLR (R430). -/
def pioEnClr : Nat := 0x101c0014
/-- PIO_RB_STAT (R430). -/
def pioRbStat : Nat := 0x101c0018
/-- PIO_PIN_IND_ADDR (R430). -/
def pioPinIndAddr : Nat := 0x101c0020
/-- PIO_PIN_IND_DATA (R430). -/
def pioPinIndData : Nat := 0x101c0024
/-- PIO_n (R430). -/
def pio (i o : Nat) : Nat := 0x101c0000 + 2048 * i + o
/-- SMP_TRIP_CLR (R457). -/
def smpTripClr : Nat := 0x101d0010
/-- SMP_TRIP (R457). -/
def smpTrip : Nat := 0x101d0014
/-- SMP_MCLK_k (R457). -/
def smpMclk (i : Nat) : Nat := 0x101d0040 + 4 * i
/-- SMP_SD_n (R457). -/
def smpSd (i o : Nat) : Nat := 0x101d0100 + 32 * i + o
/-- SMP_CC_n (R457). -/
def smpCc (i o : Nat) : Nat := 0x101d0800 + 64 * i + o
/-- LOOP_CTRL (R458). -/
def loopCtrl : Nat := 0x101e0010
/-- LOOP_STAT (R458). -/
def loopStat : Nat := 0x101e0014
/-- LOOP_APPLY_j (R458). -/
def loopApply (i : Nat) : Nat := 0x101e0018 + 4 * i
/-- LOOP_PEND_j (R458). -/
def loopPend (i : Nat) : Nat := 0x101e0020 + 4 * i
/-- LOOP_RESET_j (R458). -/
def loopReset (i : Nat) : Nat := 0x101e0028 + 4 * i
/-- LOOP_TIME (R458). -/
def loopTime : Nat := 0x101e0030
/-- LOOP_IND_ADDR (R458). -/
def loopIndAddr : Nat := 0x101e0100
/-- LOOP_IND_DATA (R458). -/
def loopIndData : Nat := 0x101e0104
/-- SAF_STAT (R476). -/
def safStat : Nat := 0x10020010
/-- SAF_FAULT (R476). -/
def safFault : Nat := 0x10020014
/-- SAF_FAULT_ADDR (R476). -/
def safFaultAddr : Nat := 0x10020018
/-- SAF_FAULT_IDX (R476). -/
def safFaultIdx : Nat := 0x1002001c
/-- SAF_FAULT_TL (R476). -/
def safFaultTl : Nat := 0x10020020
/-- SAF_FAULT_TH (R476). -/
def safFaultTh : Nat := 0x10020024
/-- SAF_PEND (R476). -/
def safPend : Nat := 0x10020028
/-- SAF_REQ (R476). -/
def safReq : Nat := 0x1002002c
/-- SAF_SWDOG (R476). -/
def safSwdog : Nat := 0x10020030
/-- SAF_SWDOG_SVC (R476). -/
def safSwdogSvc : Nat := 0x10020034
/-- SAF_VMON_k (R476). -/
def safVmon (i : Nat) : Nat := 0x10020040 + 4 * i
/-- SAF_TMON (R476). -/
def safTmon : Nat := 0x10020054
/-- SAF_VIEW (R476). -/
def safView : Nat := 0x10020058
/-- SEC_LC (R500). -/
def secLc : Nat := 0x10030010
/-- SEC_CMD (R500). -/
def secCmd : Nat := 0x10030014
/-- SEC_STAT (R500). -/
def secStat : Nat := 0x10030018
/-- SEC_STAGE_w (R500). -/
def secStage (i : Nat) : Nat := 0x10030040 + 4 * i
/-- SEC_TAMP_CFG_k (R500). -/
def secTampCfg (i : Nat) : Nat := 0x10030080 + 4 * i
/-- SEC_TAMP_LOG (R500). -/
def secTampLog : Nat := 0x100300a0
/-- SEC_FUSE_IND_ADDR (R500). -/
def secFuseIndAddr : Nat := 0x10030100
/-- SEC_FUSE_IND_DATA (R500). -/
def secFuseIndData : Nat := 0x10030104
/-- HST_PCIE_ID (R516). -/
def hstPcieId : Nat := 0x101f0010
/-- HST_PCIE_CFG (R516). -/
def hstPcieCfg : Nat := 0x101f0014
/-- HST_PCIE_STAT (R516). -/
def hstPcieStat : Nat := 0x101f0018
/-- HST_LHP_CFG (R516). -/
def hstLhpCfg : Nat := 0x101f0020
/-- HST_LHP_BLK (R516). -/
def hstLhpBlk : Nat := 0x101f0024
/-- HST_LHP_STAT (R516). -/
def hstLhpStat : Nat := 0x101f0028
/-- HST_INT_EN (R516). -/
def hstIntEn : Nat := 0x101f0030
/-- HST_INT_PEND (R516). -/
def hstIntPend : Nat := 0x101f0034
/-- HST_SWINT (R516). -/
def hstSwint : Nat := 0x101f0038
/-- HST_HB_SVC (R516). -/
def hstHbSvc : Nat := 0x101f003c
/-- HST_FW_k (R516). -/
def hstFw (i : Nat) : Nat := 0x101f0040 + 4 * i
/-- SWC_CNT_p (R381). -/
def swcCnt (i o : Nat) : Nat := 0x100a0000 + 256 * i + o
/-- CAN_CNT (R406). -/
def canCnt (u o : Nat) : Nat := 0x10180200 + 0x10000 * u + o
/-- The base address of register block b (R99). -/
def block (b : Nat) : Nat := 0x10000000 + 0x10000 * b
/-- The base address of the engine registers of PE_n (R100). -/
def peBlock (n : Nat) : Nat := 0x08030000 + 0x40000 * n
/-- MSI-X table entry i, byte offset o (R505). -/
def msixTable (i o : Nat) : Nat := 0x101F1000 + 16 * i + o
/-- MSI-X pending bits, word i (R505). -/
def msixPba (i : Nat) : Nat := 0x101F1800 + 4 * i

end Sys2Proof.Machine.A
end

