-- ==== Sys2Proof/Machine/RegMap.lean ====
section
/-! DEFINITION. Machine/RegMap.lean: the register map of every unit, one row per register or register array of the
section files of spec/ (R10, R11, R99-R102): offset in the unit's block, the two array dimensions, the masks of the
access codes, the reset value and the reserved encodings (R115). -/

namespace Sys2Proof.Machine

/-- One register heading: base offset in its block, count and stride of up to two array dimensions, and the bits of
each access code of R11. Bits in no mask are WO. `mbz`: bits described "must be written 0" (R115). `enc`: fields with
reserved encodings, as (high bit, low bit, legal ranges). `rstep`: what the reset value grows by with the first index. -/
structure Row where
  off : Nat
  n1 : Nat
  s1 : Nat
  n2 : Nat
  s2 : Nat
  rw : Nat
  rwl : Nat
  sq : Nat
  ro : Nat
  live : Nat
  mbz : Nat
  reset : Nat
  rstep : Nat
  enc : List (Nat × Nat × List (Nat × Nat))
  deriving DecidableEq, Repr

/-- The common header of every block but for <P>_ID (R101): ERR, ERR_ADDR and STATE. -/
def headerRows : List Row :=
  [⟨0x0, 1, 1, 1, 1, 0, 0, 0, 0xffffffff, 0, 0, 0x4160a100, 0, []⟩, -- <P>_ID; UNIT is added by `Row.resetAt`
   ⟨0x4, 1, 1, 1, 1, 0, 0, 0xff, 0xff000000, 0xffff00, 0, 0, 0, []⟩, -- <P>_ERR
   ⟨0x8, 1, 1, 1, 1, 0, 0, 0, 0xffffffff, 0, 0, 0, 0, []⟩, -- <P>_ERR_ADDR
   ⟨0xc, 1, 1, 1, 1, 0, 0, 0, 0xffffffff, 0, 0, 0, 0, []⟩] -- <P>_STATE

/-- Registers of SYS. -/
def sysRows : List Row :=
  [⟨0x10, 1, 0x1, 1, 0x1, 0, 0, 0, 0xffffffff, 0, 0, 0, 0, []⟩, -- SYS_STRAP (R46)
   ⟨0x40, 1, 0x1, 1, 0x1, 0, 0, 0x7f, 0xff00e000, 0xff1f80, 0, 0, 0, []⟩, -- SYS_CLK_STAT (R85)
   ⟨0x80, 1, 0x1, 1, 0x1, 0, 0, 0, 0xffffff07, 0xf8, 0, 0, 0, []⟩, -- SYS_RST_CAUSE (R88)
   ⟨0x84, 1, 0x1, 1, 0x1, 0, 0, 0, 0, 0, 0xfffe, 0, 0, []⟩, -- SYS_RST_CMD (R88)
   ⟨0xc0, 1, 0x1, 1, 0x1, 0, 0, 0, 0, 0, 0xfff8, 0, 0, []⟩, -- SYS_PWR_CTRL (R95)
   ⟨0xc4, 1, 0x1, 1, 0x1, 0, 0x1, 0, 0, 0xfffffffe, 0, 0x1, 0, []⟩, -- SYS_PWR_CFG (R95)
   ⟨0xc8, 1, 0x1, 1, 0x1, 0, 0, 0xe0, 0xff007017, 0xff8f08, 0, 0, 0, []⟩, -- SYS_PWR_STAT (R95)
   ⟨0xcc, 1, 0x1, 1, 0x1, 0x1f, 0, 0, 0, 0xffffffe0, 0, 0x1, 0, []⟩, -- SYS_WAKE_EN (R95)
   ⟨0xd0, 1, 0x1, 1, 0x1, 0xffffffff, 0, 0, 0, 0, 0, 0, 0, []⟩, -- SYS_WAKE_TMR (R95)
   ⟨0x100, 3, 0x4, 1, 0x1, 0xffffffff, 0, 0, 0, 0, 0, 0, 0, []⟩, -- SYS_BANK_PWR_0-2 (R98)
   ⟨0x10c, 1, 0x1, 1, 0x1, 0x3fffff, 0, 0, 0, 0xffc00000, 0, 0, 0, []⟩, -- SYS_BANK_PWR_3 (R98)
   ⟨0x110, 1, 0x1, 1, 0x1, 0, 0, 0, 0xffffffff, 0, 0, 0xffffffff, 0, []⟩, -- SYS_BANK_RDY_0 (R98)
   ⟨0x114, 1, 0x1, 1, 0x1, 0, 0, 0, 0x7ffffff, 0xf8000000, 0, 0x7ffffff, 0, []⟩] -- SYS_BANK_RDY_1 (R98)

/-- Registers of ALM. -/
def almRows : List Row :=
  [⟨0x100, 1, 0x1, 1, 0x1, 0, 0, 0, 0xffffff00, 0xff, 0, 0, 0, []⟩, -- ALM_BOOT_STAT (R73)
   ⟨0x104, 1, 0x1, 1, 0x1, 0, 0, 0, 0xffffffff, 0, 0, 0, 0, []⟩, -- ALM_BOOT_TIME (R73)
   ⟨0x120, 1, 0x1, 1, 0x1, 0xffffffff, 0, 0, 0, 0, 0, 0, 0, []⟩, -- ALM_UPD_SRC (R73)
   ⟨0x124, 1, 0x1, 1, 0x1, 0xffffffff, 0, 0, 0, 0, 0, 0, 0, []⟩, -- ALM_UPD_LEN (R73)
   ⟨0x128, 1, 0x1, 1, 0x1, 0, 0, 0, 0, 0, 0xfffc, 0, 0, []⟩, -- ALM_UPD_CMD (R73)
   ⟨0x12c, 1, 0x1, 1, 0x1, 0, 0, 0xe, 0xffff0001, 0xfff0, 0, 0, 0, []⟩, -- ALM_UPD_STAT (R73)
   ⟨0x200, 1, 0x1, 1, 0x1, 0, 0, 0, 0xffffffff, 0, 0, 0, 0, []⟩, -- ALM_CRC_REF (R120)
   ⟨0x204, 1, 0x1, 1, 0x1, 0, 0, 0, 0xffffffff, 0, 0, 0, 0, []⟩, -- ALM_CRC_CUR (R120)
   ⟨0x208, 1, 0x1, 1, 0x1, 0, 0, 0, 0, 0, 0, 0, 0, []⟩, -- ALM_COMMIT (R120)
   ⟨0x20c, 1, 0x1, 1, 0x1, 0x1, 0, 0, 0, 0xfffffffe, 0, 0, 0, []⟩, -- ALM_CRC_CTRL (R120)
   ⟨0x210, 1, 0x1, 1, 0x1, 0, 0, 0x6, 0xff000031, 0xffffc8, 0, 0, 0, []⟩] -- ALM_CRC_STAT (R120)

/-- Registers of SAF. -/
def safRows : List Row :=
  [⟨0x10, 1, 0x1, 1, 0x1, 0, 0, 0x2c, 0xff000013, 0xffffc0, 0, 0, 0, []⟩, -- SAF_STAT (R476)
   ⟨0x14, 1, 0x1, 1, 0x1, 0, 0, 0, 0xffffffff, 0, 0, 0, 0, []⟩, -- SAF_FAULT (R476)
   ⟨0x18, 1, 0x1, 1, 0x1, 0, 0, 0, 0xffffffff, 0, 0, 0, 0, []⟩, -- SAF_FAULT_ADDR (R476)
   ⟨0x1c, 1, 0x1, 1, 0x1, 0, 0, 0, 0xffffffff, 0, 0, 0, 0, []⟩, -- SAF_FAULT_IDX (R476)
   ⟨0x20, 1, 0x1, 1, 0x1, 0, 0, 0, 0xffffffff, 0, 0, 0, 0, []⟩, -- SAF_FAULT_TL (R476)
   ⟨0x24, 1, 0x1, 1, 0x1, 0, 0, 0, 0xffffffff, 0, 0, 0, 0, []⟩, -- SAF_FAULT_TH (R476)
   ⟨0x28, 1, 0x1, 1, 0x1, 0, 0, 0, 0xffffffff, 0, 0, 0, 0, []⟩, -- SAF_PEND (R476)
   ⟨0x2c, 1, 0x1, 1, 0x1, 0, 0, 0, 0, 0, 0xffff, 0, 0, []⟩, -- SAF_REQ (R476)
   ⟨0x30, 1, 0x1, 1, 0x1, 0, 0x3ff, 0, 0, 0xfffffc00, 0, 0x1f4, 0, [(9, 0, [(50, 1000)])]⟩, -- SAF_SWDOG (R476)
   ⟨0x34, 1, 0x1, 1, 0x1, 0, 0, 0, 0, 0, 0xffff, 0, 0, []⟩, -- SAF_SWDOG_SVC (R476)
   ⟨0x40, 5, 0x4, 1, 0x1, 0, 0, 0, 0xffffffff, 0, 0, 0, 0, []⟩, -- SAF_VMON_k (R476)
   ⟨0x54, 1, 0x1, 1, 0x1, 0, 0, 0, 0xffffffff, 0, 0, 0, 0, []⟩, -- SAF_TMON (R476)
   ⟨0x58, 1, 0x1, 1, 0x1, 0, 0, 0, 0xffffffff, 0, 0, 0, 0, []⟩] -- SAF_VIEW (R476)

/-- Registers of SEC. -/
def secRows : List Row :=
  [⟨0x10, 1, 0x1, 1, 0x1, 0, 0, 0, 0xffffffff, 0, 0, 0, 0, []⟩, -- SEC_LC (R500)
   ⟨0x14, 1, 0x1, 1, 0x1, 0, 0, 0, 0, 0, 0xff8, 0, 0, []⟩, -- SEC_CMD (R500)
   ⟨0x18, 1, 0x1, 1, 0x1, 0, 0, 0x7e, 0xff000081, 0xffff00, 0, 0, 0, []⟩, -- SEC_STAT (R500)
   ⟨0x40, 12, 0x4, 1, 0x1, 0, 0, 0, 0, 0, 0, 0, 0, []⟩, -- SEC_STAGE_w (R500)
   ⟨0x80, 4, 0x4, 1, 0x1, 0, 0xf000ffff, 0, 0, 0xfff0000, 0, 0x10000001, 0, [(29, 28, [(0, 2)]), (15, 0, [(1, 65535)])]⟩, -- SEC_TAMP_CFG_0-3 (R500)
   ⟨0x90, 3, 0x4, 1, 0x1, 0, 0xb000ffff, 0, 0, 0xfff0000, 0x40000000, 0x90000001, 0, [(29, 28, [(0, 2)])]⟩, -- SEC_TAMP_CFG_4-6 (R500)
   ⟨0xa0, 1, 0x1, 1, 0x1, 0, 0, 0, 0xffffffff, 0, 0, 0, 0, []⟩, -- SEC_TAMP_LOG (R500)
   ⟨0x100, 1, 0x1, 1, 0x1, 0xffff, 0, 0, 0x80000000, 0x7fff0000, 0, 0, 0, []⟩, -- SEC_FUSE_IND_ADDR (R500)
   ⟨0x104, 1, 0x1, 1, 0x1, 0, 0, 0, 0xffffffff, 0, 0, 0, 0, []⟩] -- SEC_FUSE_IND_DATA (R500)

/-- Registers of MEM. -/
def memRows : List Row :=
  [⟨0x10, 1, 0x1, 1, 0x1, 0, 0, 0x7, 0xff000000, 0xfffff8, 0, 0, 0, []⟩, -- MEM_ACC_STAT (R148)
   ⟨0x14, 1, 0x1, 1, 0x1, 0, 0, 0, 0xffffffff, 0, 0, 0, 0, []⟩, -- MEM_ACC_INFO (R148)
   ⟨0x18, 1, 0x1, 1, 0x1, 0, 0, 0, 0xffffffff, 0, 0, 0, 0, []⟩, -- MEM_ACC_ADDR (R148)
   ⟨0x20, 1, 0x1, 1, 0x1, 0, 0, 0, 0xffffffff, 0, 0, 0, 0, []⟩, -- MEM_PAR_LOG0 (R148)
   ⟨0x24, 1, 0x1, 1, 0x1, 0, 0, 0, 0xffffffff, 0, 0, 0, 0, []⟩, -- MEM_PAR_LOG1 (R148)
   ⟨0x28, 1, 0x1, 1, 0x1, 0, 0, 0, 0xffffffff, 0, 0, 0, 0, []⟩, -- MEM_SWB_PAR (R148)
   ⟨0x30, 1, 0x1, 1, 0x1, 0, 0, 0, 0xffffffff, 0, 0, 0, 0, []⟩, -- MEM_SCRUB_STAT (R148)
   ⟨0x40, 1, 0x1, 1, 0x1, 0, 0, 0x2, 0xff0000e1, 0xffff1c, 0, 0, 0, []⟩, -- MEM_VAULT_STAT (R148)
   ⟨0x44, 1, 0x1, 1, 0x1, 0, 0, 0, 0, 0, 0xfffe, 0, 0, []⟩, -- MEM_VAULT_CMD (R148)
   ⟨0x400, 64, 0x4, 1, 0x1, 0, 0, 0, 0xffffffff, 0, 0, 0, 0, []⟩, -- MEM_LOCK_n (R251)
   ⟨0x500, 1, 0x1, 1, 0x1, 0, 0, 0x7, 0xff000000, 0xfffff8, 0, 0, 0, []⟩, -- MEM_LOCK_STAT (R251)
   ⟨0x504, 1, 0x1, 1, 0x1, 0, 0, 0, 0, 0, 0x20c0, 0, 0, []⟩, -- MEM_LOCK_REVOKE (R251)
   ⟨0x508, 2, 0x4, 1, 0x1, 0, 0, 0, 0xffffffff, 0, 0, 0, 0, []⟩, -- MEM_LOCK_HELD_j (R251)
   ⟨0x800, 1, 0x1, 1, 0x1, 0xe, 0x1, 0, 0, 0xfffffff0, 0, 0, 0, []⟩, -- MEM_IMG_CTRL (R32)
   ⟨0x804, 1, 0x1, 1, 0x1, 0, 0, 0xe, 0xff000001, 0xfffff0, 0, 0, 0, []⟩, -- MEM_IMG_STAT (R32)
   ⟨0x808, 1, 0x1, 1, 0x1, 0, 0, 0, 0xffffffff, 0, 0, 0, 0, []⟩, -- MEM_IMG_CYCLE (R32)
   ⟨0x80c, 1, 0x1, 1, 0x1, 0, 0xffffffff, 0, 0, 0, 0, 0xfa0, 0, [(31, 0, [(800, 4000000)])]⟩, -- MEM_IMG_PERIOD (R32)
   ⟨0x810, 1, 0x1, 1, 0x1, 0, 0xffffffff, 0, 0, 0, 0, 0, 0, []⟩, -- MEM_IMG_GUARD (R32)
   ⟨0x820, 1, 0x1, 1, 0x1, 0xffff, 0, 0, 0x80000000, 0x7fff0000, 0, 0, 0, []⟩, -- MEM_IMG_IND_ADDR (R32)
   ⟨0x824, 1, 0x1, 1, 0x1, 0, 0, 0, 0xffffffff, 0, 0, 0, 0, []⟩] -- MEM_IMG_IND_DATA (R32)

/-- Registers of MBX. -/
def mbxRows : List Row :=
  [⟨0x10, 1, 0x1, 1, 0x1, 0, 0, 0x1, 0xff000000, 0xfffffe, 0, 0, 0, []⟩, -- MBX_STAT (R251)
   ⟨0x20, 2, 0x4, 1, 0x1, 0, 0, 0, 0xffffffff, 0, 0, 0, 0, []⟩, -- MBX_FULL_j (R251)
   ⟨0x40, 8, 0x4, 1, 0x1, 0, 0, 0xff, 0xff000000, 0xffff00, 0, 0, 0, []⟩, -- MBX_COLL_k (R251)
   ⟨0x100, 64, 0x4, 1, 0x1, 0xffffffff, 0, 0, 0, 0, 0, 0, 0, []⟩, -- MBX_DATA_n (R251)
   ⟨0x200, 16, 0x4, 1, 0x1, 0, 0x6ffff800, 0, 0x7c0, 0x1000003f, 0x80000000, 0x4000f840, 0x40, [(15, 11, [(0, 18), (31, 31)])]⟩, -- MBX_CFG_0-15 (RECV = n + 1) (R240)
   ⟨0x240, 16, 0x4, 1, 0x1, 0, 0x6ffff800, 0, 0x7c0, 0x1000003f, 0x80000000, 0x4000f800, 0, [(15, 11, [(0, 18), (31, 31)])]⟩, -- MBX_CFG_16-31 (R240)
   ⟨0x280, 8, 0x4, 1, 0x1, 0, 0x6ffff800, 0, 0x7c0, 0x1000003f, 0x80000000, 0x4000fc40, 0, [(15, 11, [(0, 18), (31, 31)])]⟩, -- MBX_CFG_32-39 (R240)
   ⟨0x2a0, 8, 0x4, 1, 0x1, 0, 0x6ffff800, 0, 0x7c0, 0x1000003f, 0x80000000, 0x4000fc80, 0, [(15, 11, [(0, 18), (31, 31)])]⟩, -- MBX_CFG_40-47 (R240)
   ⟨0x2c0, 8, 0x4, 1, 0x1, 0, 0xefffffc0, 0, 0, 0x1000003f, 0, 0x4000f800, 0, [(15, 11, [(0, 18), (31, 31)]), (10, 6, [(0, 18)])]⟩, -- MBX_CFG_48-55 (R240)
   ⟨0x2e0, 8, 0x4, 1, 0x1, 0, 0x6fffffc0, 0, 0, 0x1000003f, 0x80000000, 0x40000000, 0, [(15, 11, [(0, 0), (17, 18)]), (10, 6, [(0, 0), (17, 18)])]⟩] -- MBX_CFG_56-63 (R240)

/-- Registers of SCH. -/
def schRows : List Row :=
  [⟨0x10, 1, 0x1, 1, 0x1, 0, 0xf801, 0, 0, 0xffff07fe, 0, 0x7800, 0, [(15, 11, [(0, 15)])]⟩, -- SCH_CTRL (R239)
   ⟨0x14, 1, 0x1, 1, 0x1, 0, 0, 0xff, 0xff000000, 0xffff00, 0, 0, 0, []⟩, -- SCH_STAT (R239)
   ⟨0x18, 1, 0x1, 1, 0x1, 0, 0, 0, 0, 0, 0xf0000000, 0, 0, []⟩, -- SCH_POST (R239)
   ⟨0x1c, 1, 0x1, 1, 0x1, 0, 0, 0, 0xffffffff, 0, 0, 0, 0, []⟩, -- SCH_ORPH (R239)
   ⟨0x20, 1, 0x1, 1, 0x1, 0, 0, 0, 0, 0, 0x1000, 0, 0, []⟩, -- SCH_ORPH_CMD (R239)
   ⟨0x24, 1, 0x1, 1, 0x1, 0, 0, 0, 0xffffffff, 0, 0, 0x10001000, 0, []⟩, -- SCH_POOL_LVL (R239)
   ⟨0x28, 1, 0x1, 1, 0x1, 0xffff, 0, 0, 0, 0xffff0000, 0, 0x3e8, 0, [(15, 0, [(1, 65535)])]⟩, -- SCH_STAT_WIN (R239)
   ⟨0x30, 1, 0x1, 1, 0x1, 0xffffffff, 0, 0, 0, 0, 0, 0, 0, []⟩, -- SCH_TRACE_BASE (R239)
   ⟨0x34, 1, 0x1, 1, 0x1, 0x800000ff, 0, 0, 0, 0x7fffff00, 0, 0, 0, [(7, 4, [(0, 7)])]⟩, -- SCH_TRACE_CTRL (R239)
   ⟨0x38, 1, 0x1, 1, 0x1, 0, 0, 0, 0xffffffff, 0, 0, 0, 0, []⟩, -- SCH_TRACE_WP (R239)
   ⟨0x3c, 1, 0x1, 1, 0x1, 0xffff, 0, 0, 0xffff0000, 0, 0, 0, 0, []⟩, -- SCH_TRACE_RP (R239)
   ⟨0x40, 1, 0x1, 1, 0x1, 0, 0, 0, 0xffffffff, 0, 0, 0, 0, []⟩, -- SCH_TRACE_LOST (R239)
   ⟨0x80, 16, 0x4, 1, 0x1, 0, 0x3ff, 0, 0, 0xfffffc00, 0, 0x3ff, 0, []⟩, -- SCH_CTX_EN_n (R239)
   ⟨0x100, 1, 0x1, 1, 0x1, 0xffff, 0, 0, 0x80000000, 0x7fff0000, 0, 0, 0, []⟩, -- SCH_FLOW_IND_ADDR (R239)
   ⟨0x104, 1, 0x1, 1, 0x1, 0, 0, 0, 0xffffffff, 0, 0, 0, 0, []⟩, -- SCH_FLOW_IND_DATA (R239)
   ⟨0x200, 16, 0x10, 1, 0x1, 0, 0, 0, 0xffffffff, 0, 0, 0, 0, []⟩, -- SCH_ENG_STAT_n +0x0 (R239)
   ⟨0x204, 16, 0x10, 1, 0x1, 0, 0, 0, 0xffffffff, 0, 0, 0, 0, []⟩, -- SCH_ENG_STAT_n +0x4 (R239)
   ⟨0x208, 16, 0x10, 1, 0x1, 0, 0, 0, 0xffffffff, 0, 0, 0, 0, []⟩, -- SCH_ENG_STAT_n +0x8 (R239)
   ⟨0x20c, 16, 0x10, 1, 0x1, 0, 0, 0, 0xffffffff, 0, 0, 0, 0, []⟩] -- SCH_ENG_STAT_n +0xC (R239)

/-- Registers of NTM (part 0). -/
def ntmRows0 : List Row :=
  [⟨0x10, 1, 0x1, 1, 0x1, 0, 0, 0, 0, 0, 0xfffffffe, 0, 0, []⟩, -- NTM_SNAP (R280)
   ⟨0x14, 1, 0x1, 1, 0x1, 0, 0x3fffffff, 0, 0, 0xc0000000, 0, 0, 0, []⟩, -- NTM_TS_SEL (R280)
   ⟨0x18, 1, 0x1, 1, 0x1, 0, 0x3, 0, 0, 0xfffffffc, 0, 0, 0, []⟩, -- NTM_TC_CTRL (R280)
   ⟨0x20, 2, 0x4, 1, 0x1, 0, 0, 0, 0xffffffff, 0, 0, 0, 0, []⟩, -- NTM_TRIG_SUM_j (R280)
   ⟨0x100, 4, 0x40, 1, 0x1, 0, 0, 0, 0xffffffff, 0, 0, 0, 0, []⟩, -- NTM_TBn +0x00 (R280)
   ⟨0x104, 4, 0x40, 1, 0x1, 0, 0, 0, 0xffffffff, 0, 0, 0, 0, []⟩, -- NTM_TBn +0x04 (R280)
   ⟨0x108, 4, 0x40, 1, 0x1, 0, 0, 0, 0xffffffff, 0, 0, 0, 0, []⟩, -- NTM_TBn +0x08 (R280)
   ⟨0x10c, 4, 0x40, 1, 0x1, 0, 0, 0, 0xffffffff, 0, 0, 0, 0, []⟩, -- NTM_TBn +0x0C (R280)
   ⟨0x110, 4, 0x40, 1, 0x1, 0xffffffff, 0, 0, 0, 0, 0, 0, 0, []⟩, -- NTM_TBn +0x10 (R280)
   ⟨0x114, 4, 0x40, 1, 0x1, 0, 0, 0, 0, 0, 0, 0, 0, []⟩, -- NTM_TBn +0x14 (R280)
   ⟨0x118, 4, 0x40, 1, 0x1, 0, 0, 0, 0xffffffff, 0, 0, 0, 0, []⟩, -- NTM_TBn +0x18 (R280)
   ⟨0x11c, 4, 0x40, 1, 0x1, 0x1f, 0, 0, 0, 0xffffffe0, 0, 0xb, 0, [(4, 0, [(10, 20)])]⟩, -- NTM_TBn +0x1C (R280)
   ⟨0x120, 4, 0x40, 1, 0x1, 0x3fffffff, 0, 0, 0, 0, 0xc0000000, 0, 0, [(29, 0, [(0, 999999999)])]⟩, -- NTM_TBn +0x20 (R280)
   ⟨0x124, 4, 0x40, 1, 0x1, 0xffffffff, 0, 0, 0, 0, 0, 0, 0, []⟩, -- NTM_TBn +0x24 (R280)
   ⟨0x128, 4, 0x40, 1, 0x1, 0xffff, 0, 0, 0, 0, 0xffff0000, 0, 0, []⟩, -- NTM_TBn +0x28 (R280)
   ⟨0x12c, 4, 0x40, 1, 0x1, 0xffffffff, 0, 0, 0, 0, 0, 0, 0, []⟩, -- NTM_TBn +0x2C (R280)
   ⟨0x130, 4, 0x40, 1, 0x1, 0xffffffff, 0, 0, 0, 0, 0, 0, 0, []⟩, -- NTM_TBn +0x30 (R280)
   ⟨0x134, 4, 0x40, 1, 0x1, 0, 0, 0, 0, 0, 0xfffc, 0, 0, []⟩, -- NTM_TBn +0x34 (R280)
   ⟨0x138, 4, 0x40, 1, 0x1, 0, 0, 0xe, 0xff000001, 0xfffff0, 0, 0, 0, []⟩, -- NTM_TBn +0x38 (R280)
   ⟨0x400, 10, 0x40, 1, 0x1, 0, 0xfc0, 0, 0, 0xfffff03f, 0, 0, 0, [(7, 6, [(0, 2)])]⟩, -- NTM_PTPp +0x00 (R280)
   ⟨0x404, 10, 0x40, 1, 0x1, 0, 0xffffffff, 0, 0, 0, 0, 0, 0, []⟩, -- NTM_PTPp +0x04 (R280)
   ⟨0x408, 10, 0x40, 1, 0x1, 0, 0xffffffff, 0, 0, 0, 0, 0, 0, []⟩, -- NTM_PTPp +0x08 (R280)
   ⟨0x40c, 10, 0x40, 1, 0x1, 0xffffffff, 0, 0, 0, 0, 0, 0, 0, []⟩, -- NTM_PTPp +0x0C (R280)
   ⟨0x410, 10, 0x40, 1, 0x1, 0, 0xffffffff, 0, 0, 0, 0, 0x3e8, 0, []⟩] -- NTM_PTPp +0x10 (R280)

/-- Registers of NTM (part 1). -/
def ntmRows1 : List Row :=
  [⟨0x414, 10, 0x40, 1, 0x1, 0, 0xffffffff, 0, 0, 0, 0, 0xf4240, 0, [(31, 0, [(1, 4294967295)])]⟩, -- NTM_PTPp +0x14 (R280)
   ⟨0x418, 10, 0x40, 1, 0x1, 0, 0, 0x1f, 0xff001f80, 0xffe060, 0, 0, 0, []⟩, -- NTM_PTPp +0x18 (R280)
   ⟨0x41c, 10, 0x40, 1, 0x1, 0, 0, 0, 0xffffffff, 0, 0, 0, 0, []⟩, -- NTM_PTPp +0x1C (R280)
   ⟨0x420, 10, 0x40, 4, 0x4, 0, 0, 0, 0xffffffff, 0, 0, 0, 0, []⟩, -- NTM_PTPp +0x20–+0x2C (R280)
   ⟨0x430, 10, 0x40, 1, 0x1, 0, 0, 0, 0xffffffff, 0, 0, 0, 0, []⟩, -- NTM_PTPp +0x30 (R280)
   ⟨0x434, 10, 0x40, 1, 0x1, 0, 0, 0, 0xffffffff, 0, 0, 0, 0, []⟩, -- NTM_PTPp +0x34 (R280)
   ⟨0x1000, 64, 0x20, 1, 0x1, 0xffffffff, 0, 0, 0, 0, 0, 0, 0, []⟩, -- NTM_TRIGk +0x00 (R280)
   ⟨0x1004, 64, 0x20, 1, 0x1, 0xffffffff, 0, 0, 0, 0, 0, 0, 0, []⟩, -- NTM_TRIGk +0x04 (R280)
   ⟨0x1008, 64, 0x20, 1, 0x1, 0xffffffff, 0, 0, 0, 0, 0, 0, 0, []⟩, -- NTM_TRIGk +0x08 (R280)
   ⟨0x100c, 64, 0x20, 1, 0x1, 0xfe000fff, 0, 0, 0, 0x1fff000, 0, 0, 0, []⟩, -- NTM_TRIGk +0x0C (R280)
   ⟨0x1010, 64, 0x20, 1, 0x1, 0, 0, 0x1f, 0xff000000, 0xffffe0, 0, 0, 0, []⟩, -- NTM_TRIGk +0x10 (R280)
   ⟨0x1014, 64, 0x20, 1, 0x1, 0, 0, 0, 0xffffffff, 0, 0, 0, 0, []⟩] -- NTM_TRIGk +0x14 (R280)

/-- Registers of NTM. -/
def ntmRows : List Row := ntmRows0 ++ ntmRows1

/-- Registers of MRD (part 0). -/
def mrdRows0 : List Row :=
  [⟨0x10, 1, 0x1, 1, 0x1, 0, 0x707, 0, 0xf800, 0xffff00f8, 0, 0, 0, []⟩, -- MRD_CTRL (R316)
   ⟨0x14, 1, 0x1, 1, 0x1, 0, 0, 0xff, 0xff00fe00, 0xff0100, 0, 0, 0, []⟩, -- MRD_STAT (R316)
   ⟨0x18, 1, 0x1, 1, 0x1, 0, 0, 0, 0xffffffff, 0, 0, 0, 0, []⟩, -- MRD_CYCLE (R316)
   ⟨0x20, 1, 0x1, 1, 0x1, 0x7, 0, 0, 0, 0xfffffff8, 0, 0, 0, []⟩, -- MRD_CST_REQ (R316)
   ⟨0x24, 1, 0x1, 1, 0x1, 0, 0, 0, 0xffffffff, 0, 0, 0, 0, []⟩, -- MRD_CST_NAK (R316)
   ⟨0x30, 1, 0x1, 1, 0x1, 0, 0xffffffc3, 0, 0, 0x3c, 0, 0x143e82, 0, [(23, 16, [(4, 255)]), (15, 6, [(1, 1000)])]⟩, -- MRD_SYNC_CFG (R316)
   ⟨0x34, 1, 0x1, 1, 0x1, 0, 0, 0, 0xffffffff, 0, 0, 0, 0, []⟩, -- MRD_SYNC_STAT (R316)
   ⟨0x38, 1, 0x1, 1, 0x1, 0, 0, 0, 0xffffffff, 0, 0, 0, 0, []⟩, -- MRD_MT_RATE (R316)
   ⟨0x3c, 1, 0x1, 1, 0x1, 0, 0, 0, 0xffffffff, 0, 0, 0, 0, []⟩, -- MRD_TB0_OFS (R316)
   ⟨0x40, 1, 0x1, 1, 0x1, 0, 0xfffc03ff, 0, 0, 0x3fc00, 0, 0x8200058, 0, [(31, 24, [(2, 255)]), (23, 18, [(4, 63)])]⟩, -- MRD_DAWN_CFG (R340)
   ⟨0x44, 1, 0x1, 1, 0x1, 0, 0, 0xff, 0xfffc0000, 0x3ff00, 0, 0, 0, []⟩, -- MRD_NODE_STAT (R340)
   ⟨0x48, 1, 0x1, 1, 0x1, 0, 0, 0, 0xffffffff, 0, 0, 0, 0, []⟩, -- MRD_RACK_ACT (R340)
   ⟨0x4c, 1, 0x1, 1, 0x1, 0, 0, 0, 0xffffffff, 0, 0, 0, 0, []⟩, -- MRD_RACK_ABS (R340)
   ⟨0x50, 1, 0x1, 1, 0x1, 0, 0, 0, 0xffffffff, 0, 0, 0, 0, []⟩, -- MRD_RACK_FAIL (R340)
   ⟨0x54, 1, 0x1, 1, 0x1, 0, 0, 0, 0xffffffff, 0, 0, 0, 0, []⟩, -- MRD_HASH (R340)
   ⟨0x58, 1, 0x1, 1, 0x1, 0, 0, 0, 0xffffffff, 0, 0, 0, 0, []⟩, -- MRD_HASH_REF (R340)
   ⟨0x5c, 1, 0x1, 1, 0x1, 0, 0, 0, 0, 0, 0xffe0, 0, 0, []⟩, -- MRD_RRST (R340)
   ⟨0x60, 1, 0x1, 1, 0x1, 0, 0, 0, 0, 0, 0xfffe, 0, 0, []⟩, -- MRD_CMD (R340)
   ⟨0x64, 1, 0x1, 1, 0x1, 0, 0, 0xe, 0xffff0001, 0xfff0, 0, 0, 0, []⟩, -- MRD_ECL_STAT (R340)
   ⟨0x80, 2, 0x10, 1, 0x1, 0, 0, 0, 0xffffffff, 0, 0, 0, 0, []⟩, -- MRD_CHx_CNT +0x0 (R316)
   ⟨0x84, 2, 0x10, 1, 0x1, 0, 0, 0, 0xffffffff, 0, 0, 0, 0, []⟩, -- MRD_CHx_CNT +0x4 (R316)
   ⟨0x88, 2, 0x10, 1, 0x1, 0, 0, 0, 0xffffffff, 0, 0, 0, 0, []⟩, -- MRD_CHx_CNT +0x8 (R316)
   ⟨0x8c, 2, 0x10, 1, 0x1, 0, 0, 0, 0xffffffff, 0, 0, 0, 0, []⟩, -- MRD_CHx_CNT +0xC (R316)
   ⟨0xa0, 1, 0x1, 1, 0x1, 0, 0, 0, 0xffffffff, 0, 0, 0, 0, []⟩] -- MRD_DISAGREE (R316)

/-- Registers of MRD (part 1). -/
def mrdRows1 : List Row :=
  [⟨0x100, 1, 0x1, 1, 0x1, 0x3ffff, 0, 0, 0x80000000, 0x7ffc0000, 0, 0, 0, []⟩, -- MRD_IND_ADDR (R316)
   ⟨0x104, 1, 0x1, 1, 0x1, 0, 0, 0, 0xffffffff, 0, 0, 0, 0, []⟩] -- MRD_IND_DATA (R316)

/-- Registers of MRD. -/
def mrdRows : List Row := mrdRows0 ++ mrdRows1

/-- Registers of SWC (part 0). -/
def swcRows0 : List Row :=
  [⟨0x10, 1, 0x1, 1, 0x1, 0xffff0000, 0xf001, 0, 0, 0xffe, 0, 0x12c0000, 0, []⟩, -- SWC_CTRL (R381)
   ⟨0x14, 1, 0x1, 1, 0x1, 0, 0, 0x7f, 0xff000000, 0xffff80, 0, 0, 0, []⟩, -- SWC_STAT (R381)
   ⟨0x18, 1, 0x1, 1, 0x1, 0, 0, 0, 0xffffffff, 0, 0, 0, 0, []⟩, -- SWC_GEN (R381)
   ⟨0x1c, 1, 0x1, 1, 0x1, 0, 0, 0, 0x3fff3fff, 0, 0, 0x3e083e08, 0, []⟩, -- SWC_POOL (R381)
   ⟨0x40, 1, 0x1, 1, 0x1, 0x7ffff, 0, 0, 0x80000000, 0x7ff80000, 0, 0, 0, []⟩, -- SWC_IND_ADDR (R381)
   ⟨0x44, 1, 0x1, 1, 0x1, 0, 0, 0, 0xffffffff, 0, 0, 0, 0, []⟩, -- SWC_IND_DATA (R381)
   ⟨0x100, 14, 0x40, 1, 0x1, 0xf0000000, 0xffffff, 0, 0, 0xf000000, 0, 0xe0fac688, 0, []⟩, -- SWC_PORT_p +0x00 (R381)
   ⟨0x104, 10, 0x40, 1, 0x1, 0, 0, 0, 0, 0xffffffff, 0, 0, 0, []⟩, -- SWC_PORT_p +0x04, p = 0-9 (R381)
   ⟨0x108, 14, 0x40, 1, 0x1, 0, 0x3fff, 0, 0, 0xffffc000, 0, 0, 0, []⟩, -- SWC_PORT_p +0x08 (R381)
   ⟨0x10c, 10, 0x40, 1, 0x1, 0, 0x3ff, 0, 0, 0xfffffc00, 0, 0, 0, []⟩, -- SWC_PORT_p +0x0C, p = 0-9 (R381)
   ⟨0x110, 10, 0x40, 1, 0x1, 0xffff001f, 0, 0, 0, 0xffe0, 0, 0, 0, []⟩, -- SWC_PORT_p +0x10, p = 0-9 (R381)
   ⟨0x114, 14, 0x40, 1, 0x1, 0, 0, 0, 0x3fff3fff, 0, 0, 0, 0, []⟩, -- SWC_PORT_p +0x14 (R381)
   ⟨0x120, 14, 0x40, 4, 0x4, 0xffffffff, 0, 0, 0, 0, 0, 0, 0, []⟩, -- SWC_PORT_p +0x20 + 4i (R381)
   ⟨0x384, 4, 0x40, 1, 0x1, 0, 0xefff0000, 0, 0, 0x1000ffff, 0, 0x10000, 0, []⟩, -- SWC_PORT_p +0x04, p = 10-13 (R381)
   ⟨0x38c, 4, 0x40, 1, 0x1, 0, 0, 0, 0, 0xffffffff, 0, 0, 0, []⟩, -- SWC_PORT_p +0x0C, p = 10-13 (R381)
   ⟨0x390, 4, 0x40, 1, 0x1, 0, 0, 0, 0, 0xffffffff, 0, 0, 0, []⟩, -- SWC_PORT_p +0x10, p = 10-13 (R381)
   ⟨0x600, 10, 0x20, 1, 0x1, 0xff8000ff, 0, 0, 0, 0x7fff00, 0, 0xff000001, 0, [(7, 0, [(1, 128)])]⟩, -- SWC_GATE_p +0x00 (R381)
   ⟨0x604, 10, 0x20, 1, 0x1, 0xffffffff, 0, 0, 0, 0, 0, 0, 0, []⟩, -- SWC_GATE_p +0x04 (R381)
   ⟨0x608, 10, 0x20, 1, 0x1, 0xffffffff, 0, 0, 0, 0, 0, 0, 0, []⟩, -- SWC_GATE_p +0x08 (R381)
   ⟨0x60c, 10, 0x20, 1, 0x1, 0xffffffff, 0, 0, 0, 0, 0, 0xf4240, 0, [(31, 0, [(1000, 1000000000)])]⟩, -- SWC_GATE_p +0x0C (R381)
   ⟨0x610, 10, 0x20, 1, 0x1, 0, 0, 0, 0, 0, 0xfffc, 0, 0, []⟩, -- SWC_GATE_p +0x10 (R381)
   ⟨0x614, 10, 0x20, 1, 0x1, 0, 0, 0x3, 0xffffc000, 0x3ffc, 0, 0, 0, []⟩, -- SWC_GATE_p +0x14 (R381)
   ⟨0x618, 10, 0x20, 1, 0x1, 0, 0, 0, 0xffffffff, 0, 0, 0xff, 0, []⟩, -- SWC_GATE_p +0x18 (R381)
   ⟨0x800, 4, 0x10, 1, 0x1, 0, 0xffffffff, 0, 0, 0, 0, 0x10000000, 0, [(30, 25, [(1, 37)])]⟩] -- SWC_EP_n +0x0 (R381)

/-- Registers of SWC (part 1). -/
def swcRows1 : List Row :=
  [⟨0x804, 4, 0x10, 1, 0x1, 0, 0xffffffe0, 0, 0, 0, 0x1f, 0x4000000, 0, []⟩, -- SWC_EP_n +0x4 (R381)
   ⟨0x808, 4, 0x10, 1, 0x1, 0, 0, 0, 0, 0, 0, 0, 0, []⟩, -- SWC_EP_n +0x8 (R381)
   ⟨0x80c, 4, 0x10, 1, 0x1, 0, 0, 0, 0x1fffffff, 0, 0, 0, 0, []⟩, -- SWC_EP_n +0xC (R381)
   ⟨0x10000, 14, 0x100, 46, 0x4, 0, 0, 0, 0xffffffff, 0, 0, 0, 0, []⟩] -- SWC_CNT_p (R381)

/-- Registers of SWC. -/
def swcRows : List Row := swcRows0 ++ swcRows1

/-- Registers of ETH (part 0). -/
def ethRows0 : List Row :=
  [⟨0x10, 1, 0x1, 1, 0x1, 0x8000, 0x7f00, 0, 0, 0xffff00ff, 0, 0x200, 0, [(11, 10, [(0, 2)]), (9, 8, [(0, 2)])]⟩, -- ETH_CTRL (R357)
   ⟨0x14, 1, 0x1, 1, 0x1, 0, 0, 0xf, 0xff000000, 0xfffff0, 0, 0, 0, []⟩, -- ETH_STAT (R357)
   ⟨0x18, 1, 0x1, 1, 0x1, 0xffff, 0, 0, 0, 0xffff0000, 0, 0, 0, []⟩, -- ETH_HOLD (R357)
   ⟨0x1c, 1, 0x1, 1, 0x1, 0, 0xefff3fff, 0, 0, 0x1000c000, 0, 0x105f2, 0, [(13, 0, [(1522, 9216)])]⟩, -- ETH_FRAME (R357)
   ⟨0x20, 1, 0x1, 1, 0x1, 0, 0x6f000000, 0, 0, 0x90ffffff, 0, 0, 0, []⟩, -- ETH_DEFAULT (R357)
   ⟨0x24, 1, 0x1, 1, 0x1, 0, 0xff1b, 0, 0, 0xffff00e4, 0, 0, 0, []⟩, -- ETH_MM_CTRL (R357)
   ⟨0x28, 1, 0x1, 1, 0x1, 0, 0, 0, 0xffffffff, 0, 0, 0, 0, []⟩, -- ETH_MM_STAT (R357)
   ⟨0x40, 1, 0x1, 1, 0x1, 0xffff, 0, 0, 0x80000000, 0x7fff0000, 0, 0, 0, []⟩, -- ETH_RULE_IND_ADDR (R357)
   ⟨0x44, 1, 0x1, 1, 0x1, 0, 0, 0, 0xffffffff, 0, 0, 0, 0, []⟩, -- ETH_RULE_IND_DATA (R357)
   ⟨0x100, 16, 0x10, 1, 0x1, 0, 0xffffefff, 0, 0, 0x1000, 0, 0x10000000, 0, [(30, 25, [(1, 37)])]⟩, -- ETH_RXQ_q +0x0 (R357)
   ⟨0x104, 16, 0x10, 1, 0x1, 0, 0xffffffe0, 0, 0, 0, 0x1f, 0x4000000, 0, []⟩, -- ETH_RXQ_q +0x4 (R357)
   ⟨0x108, 16, 0x10, 1, 0x1, 0, 0, 0, 0xffffffff, 0, 0, 0, 0, []⟩, -- ETH_RXQ_q +0x8 (R357)
   ⟨0x10c, 16, 0x10, 1, 0x1, 0, 0, 0, 0, 0xffffffff, 0, 0, 0, []⟩, -- ETH_RXQ_q +0xC (R357)
   ⟨0x200, 1, 0x1, 1, 0x1, 0, 0, 0, 0xffffffff, 0, 0, 0, 0, []⟩, -- ETH_CNT +0x00 (R357)
   ⟨0x204, 2, 0x4, 1, 0x1, 0, 0, 0, 0xffffffff, 0, 0, 0, 0, []⟩, -- ETH_CNT +0x04, +0x08 (R357)
   ⟨0x20c, 1, 0x1, 1, 0x1, 0, 0, 0, 0xffffffff, 0, 0, 0, 0, []⟩, -- ETH_CNT +0x0C (R357)
   ⟨0x210, 1, 0x1, 1, 0x1, 0, 0, 0, 0xffffffff, 0, 0, 0, 0, []⟩, -- ETH_CNT +0x10 (R357)
   ⟨0x214, 1, 0x1, 1, 0x1, 0, 0, 0, 0xffffffff, 0, 0, 0, 0, []⟩, -- ETH_CNT +0x14 (R357)
   ⟨0x218, 1, 0x1, 1, 0x1, 0, 0, 0, 0xffffffff, 0, 0, 0, 0, []⟩, -- ETH_CNT +0x18 (R357)
   ⟨0x21c, 1, 0x1, 1, 0x1, 0, 0, 0, 0xffffffff, 0, 0, 0, 0, []⟩, -- ETH_CNT +0x1C (R357)
   ⟨0x220, 1, 0x1, 1, 0x1, 0, 0, 0, 0xffffffff, 0, 0, 0, 0, []⟩, -- ETH_CNT +0x20 (R357)
   ⟨0x224, 1, 0x1, 1, 0x1, 0, 0, 0, 0xffffffff, 0, 0, 0, 0, []⟩, -- ETH_CNT +0x24 (R357)
   ⟨0x228, 1, 0x1, 1, 0x1, 0, 0, 0, 0xffffffff, 0, 0, 0, 0, []⟩, -- ETH_CNT +0x28 (R357)
   ⟨0x22c, 1, 0x1, 1, 0x1, 0, 0, 0, 0xffffffff, 0, 0, 0, 0, []⟩] -- ETH_CNT +0x2C (R357)

/-- Registers of ETH (part 1). -/
def ethRows1 : List Row :=
  [⟨0x230, 1, 0x1, 1, 0x1, 0, 0, 0, 0xffffffff, 0, 0, 0, 0, []⟩, -- ETH_CNT +0x30 (R357)
   ⟨0x234, 2, 0x4, 1, 0x1, 0, 0, 0, 0xffffffff, 0, 0, 0, 0, []⟩, -- ETH_CNT +0x34, +0x38 (R357)
   ⟨0x23c, 1, 0x1, 1, 0x1, 0, 0, 0, 0xffffffff, 0, 0, 0, 0, []⟩, -- ETH_CNT +0x3C (R357)
   ⟨0x240, 1, 0x1, 1, 0x1, 0, 0, 0, 0xffffffff, 0, 0, 0, 0, []⟩, -- ETH_CNT +0x40 (R357)
   ⟨0x244, 1, 0x1, 1, 0x1, 0, 0, 0, 0xffffffff, 0, 0, 0, 0, []⟩, -- ETH_CNT +0x44 (R357)
   ⟨0x248, 1, 0x1, 1, 0x1, 0, 0, 0, 0xffffffff, 0, 0, 0, 0, []⟩, -- ETH_CNT +0x48 (R357)
   ⟨0x24c, 1, 0x1, 1, 0x1, 0, 0, 0, 0xffffffff, 0, 0, 0, 0, []⟩, -- ETH_CNT +0x4C (R357)
   ⟨0x250, 1, 0x1, 1, 0x1, 0, 0, 0, 0xffffffff, 0, 0, 0, 0, []⟩] -- ETH_CNT +0x50 (R357)

/-- Registers of ETH. -/
def ethRows : List Row := ethRows0 ++ ethRows1

/-- Registers of CAN. -/
def canRows : List Row :=
  [⟨0x10, 1, 0x1, 1, 0x1, 0xe700, 0x1000, 0, 0, 0xffff08ff, 0, 0, 0, [(14, 13, [(0, 2)])]⟩, -- CAN_CTRL (R406)
   ⟨0x14, 1, 0x1, 1, 0x1, 0, 0, 0x1fff, 0xfffc0000, 0x3e000, 0, 0, 0, []⟩, -- CAN_STAT (R406)
   ⟨0x18, 1, 0x1, 1, 0x1, 0, 0, 0, 0xffffffff, 0, 0, 0, 0, []⟩, -- CAN_ERRC (R406)
   ⟨0x1c, 1, 0x1, 1, 0x1, 0, 0xff0f, 0, 0, 0xffff00f0, 0, 0x6400, 0, [(15, 8, [(1, 255)])]⟩, -- CAN_DET (R406)
   ⟨0x20, 1, 0x1, 1, 0x1, 0, 0, 0, 0, 0, 0xfffffffe, 0, 0, []⟩, -- CAN_TXPUSH (R406)
   ⟨0x24, 1, 0x1, 1, 0x1, 0, 0, 0, 0, 0, 0xfffc0000, 0, 0, []⟩, -- CAN_TXABORT (R406)
   ⟨0x28, 1, 0x1, 1, 0x1, 0, 0, 0, 0xffffffff, 0, 0, 0, 0, []⟩, -- CAN_TXLVL (R406)
   ⟨0x30, 4, 0x4, 1, 0x1, 0, 0, 0, 0xffffffff, 0, 0, 0, 0, []⟩, -- CAN_TXEV_W0–W3 (R406)
   ⟨0x40, 1, 0x1, 1, 0x1, 0, 0, 0, 0xffffffff, 0, 0, 0, 0, []⟩, -- CAN_TXEV_LOST (R406)
   ⟨0x44, 1, 0x1, 1, 0x1, 0, 0xc0000fff, 0, 0, 0x3ffff000, 0, 0, 0, []⟩, -- CAN_CA_CFG (R406)
   ⟨0x48, 1, 0x1, 1, 0x1, 0, 0, 0, 0xffffffff, 0, 0, 0, 0, []⟩, -- CAN_CA_HEAD (R406)
   ⟨0x4c, 1, 0x1, 1, 0x1, 0, 0, 0, 0, 0, 0xfffffffe, 0, 0, []⟩, -- CAN_CA_POP (R404)
   ⟨0x50, 1, 0x1, 1, 0x1, 0x1ffff, 0, 0, 0x80000000, 0x7ffe0000, 0, 0, 0, []⟩, -- CAN_IND_ADDR (R406)
   ⟨0x54, 1, 0x1, 1, 0x1, 0, 0, 0, 0xffffffff, 0, 0, 0, 0, []⟩, -- CAN_IND_DATA (R406)
   ⟨0x60, 8, 0x4, 1, 0x1, 0, 0, 0, 0xffffffff, 0, 0, 0, 0, []⟩, -- CAN_LOST_j (R406)
   ⟨0x100, 18, 0x4, 1, 0x1, 0xffffffff, 0, 0, 0, 0, 0, 0, 0, []⟩, -- CAN_TXS_Wk (R406)
   ⟨0x200, 10, 0x4, 1, 0x1, 0, 0, 0, 0xffffffff, 0, 0, 0, 0, []⟩] -- CAN_CNT (R406)

/-- Registers of PIO (part 0). -/
def pioRows0 : List Row :=
  [⟨0x10, 1, 0x1, 1, 0x1, 0, 0, 0, 0, 0, 0, 0, 0, []⟩, -- PIO_EN_SET (R430)
   ⟨0x14, 1, 0x1, 1, 0x1, 0, 0, 0, 0, 0, 0, 0, 0, []⟩, -- PIO_EN_CLR (R430)
   ⟨0x18, 1, 0x1, 1, 0x1, 0, 0, 0x1, 0xff007f00, 0xff80fe, 0, 0, 0, []⟩, -- PIO_RB_STAT (R430)
   ⟨0x20, 1, 0x1, 1, 0x1, 0xffff, 0, 0, 0x80000000, 0x7fff0000, 0, 0, 0, []⟩, -- PIO_PIN_IND_ADDR (R430)
   ⟨0x24, 1, 0x1, 1, 0x1, 0, 0, 0, 0xffffffff, 0, 0, 0, 0, []⟩, -- PIO_PIN_IND_DATA (R430)
   ⟨0x40, 32, 0x800, 1, 0x1, 0x80000000, 0x7ffdfe00, 0, 0, 0x201ff, 0, 0, 0, [(24, 23, [(0, 2)]), (22, 21, [(0, 2)]), (20, 19, [(0, 2)]), (16, 13, [(0, 8)]), (12, 9, [(0, 8)])]⟩, -- PIO_n +0x040 (R430)
   ⟨0x44, 32, 0x800, 1, 0x1, 0, 0xffffffff, 0, 0, 0, 0, 0, 0, []⟩, -- PIO_n +0x044 (R430)
   ⟨0x48, 32, 0x800, 1, 0x1, 0, 0xffffffff, 0, 0, 0, 0, 0, 0, []⟩, -- PIO_n +0x048 (R430)
   ⟨0x4c, 32, 0x800, 1, 0x1, 0, 0xffff7f7f, 0, 0, 0x8080, 0, 0, 0, [(31, 29, [(0, 5)]), (21, 16, [(0, 32)])]⟩, -- PIO_n +0x04C (R430)
   ⟨0x50, 32, 0x800, 1, 0x1, 0, 0xffffffff, 0, 0, 0, 0, 0, 0, []⟩, -- PIO_n +0x050 (R430)
   ⟨0x54, 32, 0x800, 1, 0x1, 0, 0xffffffff, 0, 0, 0, 0, 0, 0, []⟩, -- PIO_n +0x054 (R430)
   ⟨0x58, 32, 0x800, 1, 0x1, 0, 0xffffffff, 0, 0, 0, 0, 0, 0, []⟩, -- PIO_n +0x058 (R430)
   ⟨0x60, 32, 0x800, 1, 0x1, 0, 0xffffffff, 0, 0, 0, 0, 0x4000000, 0, []⟩, -- PIO_n +0x060 (R430)
   ⟨0x64, 32, 0x800, 1, 0x1, 0xfff0000, 0, 0, 0xf000ffff, 0, 0, 0, 0, []⟩, -- PIO_n +0x064 (R430)
   ⟨0x68, 32, 0x800, 1, 0x1, 0, 0xffffffff, 0, 0, 0, 0, 0x4000000, 0, []⟩, -- PIO_n +0x068 (R430)
   ⟨0x6c, 32, 0x800, 1, 0x1, 0xfff0000, 0, 0, 0xf000ffff, 0, 0, 0, 0, []⟩, -- PIO_n +0x06C (R430)
   ⟨0x70, 32, 0x800, 1, 0x1, 0, 0xfffcfff, 0, 0, 0xf0003000, 0, 0, 0, []⟩, -- PIO_n +0x070 (R430)
   ⟨0x74, 32, 0x800, 1, 0x1, 0, 0x1fffff, 0, 0, 0xffe00000, 0, 0x100000, 0, [(20, 14, [(1, 64)])]⟩, -- PIO_n +0x074 (R430)
   ⟨0x78, 32, 0x800, 1, 0x1, 0, 0, 0xff, 0xff000000, 0xffff00, 0, 0, 0, []⟩, -- PIO_n +0x078 (R430)
   ⟨0x7c, 32, 0x800, 1, 0x1, 0, 0, 0, 0xffffffff, 0, 0, 0, 0, []⟩, -- PIO_n +0x07C (R430)
   ⟨0x80, 32, 0x800, 1, 0x1, 0, 0, 0, 0xffffffff, 0, 0, 0, 0, []⟩, -- PIO_n +0x080 (R430)
   ⟨0x84, 32, 0x800, 1, 0x1, 0, 0, 0, 0xffffffff, 0, 0, 0, 0, []⟩, -- PIO_n +0x084 (R430)
   ⟨0x90, 32, 0x800, 4, 0x4, 0, 0, 0, 0xffffffff, 0, 0, 0, 0, []⟩, -- PIO_n +0x090–+0x09C (R430)
   ⟨0x100, 32, 0x800, 32, 0x4, 0xffff, 0, 0, 0, 0, 0xffff0000, 0, 0, []⟩] -- PIO_n +0x100 + 4i (R430)

/-- Registers of PIO (part 1). -/
def pioRows1 : List Row :=
  [⟨0x400, 32, 0x800, 256, 0x4, 0xffff, 0, 0, 0xffff0000, 0, 0, 0, 0, []⟩] -- PIO_n +0x400 + 4e (R430)

/-- Registers of PIO. -/
def pioRows : List Row := pioRows0 ++ pioRows1

/-- Registers of SMP. -/
def smpRows : List Row :=
  [⟨0x10, 1, 0x1, 1, 0x1, 0, 0, 0, 0, 0, 0xff000000, 0, 0, []⟩, -- SMP_TRIP_CLR (R457)
   ⟨0x14, 1, 0x1, 1, 0x1, 0, 0, 0, 0xffffffff, 0, 0, 0, 0, []⟩, -- SMP_TRIP (R457)
   ⟨0x40, 4, 0x4, 1, 0x1, 0, 0x800001ff, 0, 0, 0x7ffffe00, 0, 0x190, 0, [(8, 0, [(80, 400)])]⟩, -- SMP_MCLK_k (R457)
   ⟨0x100, 24, 0x20, 1, 0x1, 0, 0xffff0fff, 0, 0, 0xf000, 0, 0x603f0000, 0, [(30, 29, [(1, 3)]), (23, 16, [(7, 255)])]⟩, -- SMP_SD_n +0x00 (R457)
   ⟨0x104, 24, 0x20, 1, 0x1, 0, 0xffffffff, 0, 0, 0, 0, 0, 0, []⟩, -- SMP_SD_n +0x04 (R457)
   ⟨0x108, 24, 0x20, 1, 0x1, 0, 0x3fff, 0, 0, 0xffffc000, 0, 0, 0, []⟩, -- SMP_SD_n +0x08 (R457)
   ⟨0x10c, 24, 0x20, 1, 0x1, 0, 0xbfc0ffff, 0, 0, 0x403f0000, 0, 0x8000000, 0, [(29, 24, [(8, 32)])]⟩, -- SMP_SD_n +0x0C (R457)
   ⟨0x110, 24, 0x20, 1, 0x1, 0, 0xffff0000, 0, 0, 0xffff, 0, 0xe0200000, 0, []⟩, -- SMP_SD_n +0x10 (R457)
   ⟨0x114, 24, 0x20, 1, 0x1, 0, 0, 0x7, 0xff000008, 0xfffff0, 0, 0, 0, []⟩, -- SMP_SD_n +0x14 (R457)
   ⟨0x118, 24, 0x20, 1, 0x1, 0, 0, 0, 0xffffffff, 0, 0, 0, 0, []⟩, -- SMP_SD_n +0x18 (R457)
   ⟨0x11c, 24, 0x20, 1, 0x1, 0, 0, 0, 0xffffffff, 0, 0, 0, 0, []⟩, -- SMP_SD_n +0x1C (R457)
   ⟨0x800, 16, 0x40, 1, 0x1, 0x80000000, 0x7ffe0000, 0, 0, 0x1ffff, 0, 0x18000000, 0, [(30, 29, [(0, 2)]), (28, 27, [(1, 3)]), (21, 20, [(0, 2)]), (19, 18, [(0, 2)])]⟩, -- SMP_CC_n +0x00 (R457)
   ⟨0x804, 16, 0x40, 1, 0x1, 0xffffff, 0, 0, 0, 0xff000000, 0, 0x190, 0, [(23, 0, [(2, 16777215)])]⟩, -- SMP_CC_n +0x04 (R457)
   ⟨0x808, 16, 0x40, 1, 0x1, 0x1fffffff, 0, 0, 0, 0xe0000000, 0, 0, 0, []⟩, -- SMP_CC_n +0x08 (R457)
   ⟨0x80c, 16, 0x40, 1, 0x1, 0, 0x1fffffff, 0, 0, 0xe0000000, 0, 0, 0, []⟩, -- SMP_CC_n +0x0C (R457)
   ⟨0x810, 16, 0x40, 1, 0x1, 0, 0x3fff3fff, 0, 0, 0xc000c000, 0, 0, 0, []⟩, -- SMP_CC_n +0x10 (R457)
   ⟨0x814, 16, 0x40, 1, 0x1, 0, 0xffffffff, 0, 0, 0, 0, 0, 0, []⟩, -- SMP_CC_n +0x14 (R457)
   ⟨0x818, 16, 0x40, 1, 0x1, 0, 0, 0x7, 0xff000018, 0xffffe0, 0, 0, 0, []⟩, -- SMP_CC_n +0x18 (R457)
   ⟨0x81c, 16, 0x40, 1, 0x1, 0, 0, 0, 0xffffffff, 0, 0, 0, 0, []⟩, -- SMP_CC_n +0x1C (R457)
   ⟨0x820, 16, 0x40, 4, 0x4, 0, 0, 0, 0xffffffff, 0, 0, 0, 0, []⟩] -- SMP_CC_n +0x20–+0x2C (R457)

/-- Registers of LOOP. -/
def loopRows : List Row :=
  [⟨0x10, 1, 0x1, 1, 0x1, 0, 0x1, 0, 0, 0xfffffffe, 0, 0, 0, []⟩, -- LOOP_CTRL (R458)
   ⟨0x14, 1, 0x1, 1, 0x1, 0, 0, 0xe, 0xff000001, 0xfffff0, 0, 0, 0, []⟩, -- LOOP_STAT (R458)
   ⟨0x18, 2, 0x4, 1, 0x1, 0, 0, 0, 0, 0, 0, 0, 0, []⟩, -- LOOP_APPLY_j (R458)
   ⟨0x20, 2, 0x4, 1, 0x1, 0, 0, 0, 0xffffffff, 0, 0, 0, 0, []⟩, -- LOOP_PEND_j (R458)
   ⟨0x28, 2, 0x4, 1, 0x1, 0, 0, 0, 0, 0, 0, 0, 0, []⟩, -- LOOP_RESET_j (R458)
   ⟨0x30, 1, 0x1, 1, 0x1, 0, 0, 0, 0xffffffff, 0, 0, 0, 0, []⟩, -- LOOP_TIME (R458)
   ⟨0x100, 1, 0x1, 1, 0x1, 0xffff, 0, 0, 0x80000000, 0x7fff0000, 0, 0, 0, []⟩, -- LOOP_IND_ADDR (R458)
   ⟨0x104, 1, 0x1, 1, 0x1, 0, 0, 0, 0xffffffff, 0, 0, 0, 0, []⟩] -- LOOP_IND_DATA (R458)

/-- Registers of HST. -/
def hstRows : List Row :=
  [⟨0x10, 1, 0x1, 1, 0x1, 0, 0xffffffff, 0, 0, 0, 0, 0, 0, []⟩, -- HST_PCIE_ID (R516)
   ⟨0x14, 1, 0x1, 1, 0x1, 0, 0x1, 0, 0, 0xfffffffe, 0, 0, 0, []⟩, -- HST_PCIE_CFG (R516)
   ⟨0x18, 1, 0x1, 1, 0x1, 0, 0, 0x20, 0xff00001f, 0xffffc0, 0, 0, 0, []⟩, -- HST_PCIE_STAT (R516)
   ⟨0x20, 1, 0x1, 1, 0x1, 0, 0x1, 0, 0, 0xfffffffe, 0, 0x1, 0, []⟩, -- HST_LHP_CFG (R516)
   ⟨0x24, 1, 0x1, 1, 0x1, 0, 0xffffffff, 0, 0, 0, 0, 0x80000021, 0, []⟩, -- HST_LHP_BLK (R516)
   ⟨0x28, 1, 0x1, 1, 0x1, 0, 0, 0x1, 0xff000000, 0xfffffe, 0, 0, 0, []⟩, -- HST_LHP_STAT (R516)
   ⟨0x30, 1, 0x1, 1, 0x1, 0xffffff, 0, 0, 0, 0xff000000, 0, 0, 0, []⟩, -- HST_INT_EN (R516)
   ⟨0x34, 1, 0x1, 1, 0x1, 0, 0, 0xff0000, 0xff00ffff, 0, 0, 0, 0, []⟩, -- HST_INT_PEND (R516)
   ⟨0x38, 1, 0x1, 1, 0x1, 0, 0, 0, 0, 0, 0x7fffffe0, 0, 0, []⟩, -- HST_SWINT (R516)
   ⟨0x3c, 1, 0x1, 1, 0x1, 0, 0, 0, 0, 0, 0xffff, 0, 0, []⟩, -- HST_HB_SVC (R516)
   ⟨0x40, 3, 0x4, 1, 0x1, 0xffffffff, 0, 0, 0, 0, 0, 0, 0, []⟩, -- HST_FW_k (R516)
   ⟨0x1000, 32, 0x10, 3, 0x4, 0xffffffff, 0, 0, 0, 0, 0, 0, 0, []⟩, -- MSI-X table words 0-2 (R505)
   ⟨0x100c, 32, 0x10, 1, 0x1, 0x1, 0, 0, 0, 0, 0, 0x1, 0, []⟩, -- MSI-X table word 3 (vector control) (R505)
   ⟨0x1800, 2, 0x4, 1, 0x1, 0, 0, 0, 0xffffffff, 0, 0, 0, 0, []⟩] -- MSI-X pending bit array (R505)

/-- Registers of PE (part 0). -/
def peRows0 : List Row :=
  [⟨0x10, 1, 0x1, 1, 0x1, 0x3, 0x3ff01c, 0, 0, 0xffc00fe0, 0, 0x1004, 0, []⟩, -- PE_CTRL (R189)
   ⟨0x14, 1, 0x1, 1, 0x1, 0, 0, 0xe, 0xfffff001, 0xff0, 0, 0, 0, []⟩, -- PE_STAT (R189)
   ⟨0x18, 1, 0x1, 1, 0x1, 0, 0, 0, 0xffffffff, 0, 0, 0, 0, []⟩, -- PE_CTX_STATE (R189)
   ⟨0x1c, 1, 0x1, 1, 0x1, 0, 0xffff, 0, 0, 0xffff0000, 0, 0x400, 0, []⟩, -- PE_QUANTUM (R189)
   ⟨0x20, 1, 0x1, 1, 0x1, 0, 0x1ff, 0, 0, 0xfffffe00, 0, 0x1f4, 0, [(8, 0, [(10, 500)])]⟩, -- PE_WDOG (R189)
   ⟨0x24, 1, 0x1, 1, 0x1, 0, 0, 0, 0, 0, 0xffff, 0, 0, []⟩, -- PE_WDOG_SVC (R189)
   ⟨0x28, 1, 0x1, 1, 0x1, 0, 0, 0, 0, 0, 0xfc00, 0, 0, []⟩, -- PE_CTX_RST (R189)
   ⟨0x30, 1, 0x1, 1, 0x1, 0xffff, 0, 0, 0x80000000, 0x7fff0000, 0, 0, 0, []⟩, -- PE_XDEC_IND_ADDR (R207)
   ⟨0x34, 1, 0x1, 1, 0x1, 0, 0, 0, 0xffffffff, 0, 0, 0, 0, []⟩, -- PE_XDEC_IND_DATA (R207)
   ⟨0x40, 1, 0x1, 1, 0x1, 0, 0xf, 0, 0, 0xfffffff0, 0, 0xd, 0, [(1, 0, [(0, 2)])]⟩, -- PE_CRC_0 +0x0 (R174)
   ⟨0x44, 1, 0x1, 1, 0x1, 0, 0xffffffff, 0, 0, 0, 0, 0x8005, 0, []⟩, -- PE_CRC_0 +0x4 (R174)
   ⟨0x48, 1, 0x1, 1, 0x1, 0, 0xffffffff, 0, 0, 0, 0, 0, 0, []⟩, -- PE_CRC_0 +0x8 (R174)
   ⟨0x4c, 1, 0x1, 1, 0x1, 0, 0xffffffff, 0, 0, 0, 0, 0, 0, []⟩, -- PE_CRC_0 +0xC (R174)
   ⟨0x50, 1, 0x1, 1, 0x1, 0, 0xf, 0, 0, 0xfffffff0, 0, 0xe, 0, [(1, 0, [(0, 2)])]⟩, -- PE_CRC_1 +0x0 (R174)
   ⟨0x54, 1, 0x1, 1, 0x1, 0, 0xffffffff, 0, 0, 0, 0, 0x4c11db7, 0, []⟩, -- PE_CRC_1 +0x4 (R174)
   ⟨0x58, 1, 0x1, 1, 0x1, 0, 0xffffffff, 0, 0, 0, 0, 0xffffffff, 0, []⟩, -- PE_CRC_1 +0x8 (R174)
   ⟨0x5c, 1, 0x1, 1, 0x1, 0, 0xffffffff, 0, 0, 0, 0, 0xffffffff, 0, []⟩, -- PE_CRC_1 +0xC (R174)
   ⟨0x60, 1, 0x1, 1, 0x1, 0, 0xf, 0, 0, 0xfffffff0, 0, 0xe, 0, [(1, 0, [(0, 2)])]⟩, -- PE_CRC_2 +0x0 (R174)
   ⟨0x64, 1, 0x1, 1, 0x1, 0, 0xffffffff, 0, 0, 0, 0, 0x1edc6f41, 0, []⟩, -- PE_CRC_2 +0x4 (R174)
   ⟨0x68, 1, 0x1, 1, 0x1, 0, 0xffffffff, 0, 0, 0, 0, 0xffffffff, 0, []⟩, -- PE_CRC_2 +0x8 (R174)
   ⟨0x6c, 1, 0x1, 1, 0x1, 0, 0xffffffff, 0, 0, 0, 0, 0xffffffff, 0, []⟩, -- PE_CRC_2 +0xC (R174)
   ⟨0x70, 1, 0x1, 1, 0x1, 0, 0xf, 0, 0, 0xfffffff0, 0, 0xe, 0, [(1, 0, [(0, 2)])]⟩, -- PE_CRC_3 +0x0 (R174)
   ⟨0x74, 1, 0x1, 1, 0x1, 0, 0xffffffff, 0, 0, 0, 0, 0x1edc6f41, 0, []⟩, -- PE_CRC_3 +0x4 (R174)
   ⟨0x78, 1, 0x1, 1, 0x1, 0, 0xffffffff, 0, 0, 0, 0, 0xffffffff, 0, []⟩] -- PE_CRC_3 +0x8 (R174)

/-- Registers of PE (part 1). -/
def peRows1 : List Row :=
  [⟨0x7c, 1, 0x1, 1, 0x1, 0, 0xffffffff, 0, 0, 0, 0, 0xffffffff, 0, []⟩] -- PE_CRC_3 +0xC (R174)

/-- Registers of PE. -/
def peRows : List Row := peRows0 ++ peRows1

end Sys2Proof.Machine
end

