-- ==== Sys2Proof/Machine/State.lean ====
section
/-! DEFINITION. Machine/State.lean: everything the spec gives the device, as plain data, and the state right after
reset. The home of a register's bits is `Dev.regs`, keyed by internal address (Machine/RegMap.lean gives each
register's reset value); what the registers do not show stands in the structures below. Time is counted in CORE cycles
(`Dev.now`). -/

namespace Sys2Proof.Machine

/-- No command of this block stops the machine with a fault: every outcome the spec states is a next state (R9). -/
inductive Fault where
  deriving DecidableEq, Repr

/-- Why a command has no meaning. -/
inductive Refusal where
  /-- Raised by an arm of `exec` that has no meaning yet. Safe: nothing is claimed of the command. -/
  | notModelled (mnemonic : String)
  deriving DecidableEq, Repr

/-- Where the device stands as a whole (R41, R75, R91). -/
inductive Mode where
  | startup | service | twilight | retain | off
  deriving DecidableEq, Repr

/-- The start-up phase that is due next (R41). -/
inductive BootStep where
  | pll | mbist | lbist | fuses | flash | image | signature | apply | done | escalated
  deriving DecidableEq, Repr

/-- States of a context (R150). -/
inductive CtxState where
  | disabled | ready | running | blocked | halted
  deriving DecidableEq, Repr

/-- An outstanding store (R160): the bytes it writes, its place in the engine's issue order, and what R28, R166 and
R32 need of the context that issued it: the cycle number, SR.DET, the flow served and whether that flow is parallel. -/
structure Store where
  addr : Nat
  data : List Byte
  seq : Nat
  cycle : Word
  det : Bool
  flow : Option Nat
  par : Bool
  deriving DecidableEq, Repr

/-- What a blocked context waits for (R153), with what it needs to finish: `post` lists the base registers that the
instruction updates with their new values, `seq` the engine's store order at its issue (R137). -/
inductive Wait where
  | none
  | load (dst size : Nat) (sext : Bool) (addr : Nat) (post : List (Nat × Word)) (seq : Nat)
  | block (loc sh : Nat) (post : List (Nat × Word)) (seq : Nat)
  | storeRoom (st : Store) (post : List (Nat × Word))
  | division (d : Nat) (q r sr : Word)
  | divider (d : Nat) (q r sr : Word)
  | get (d : Nat)
  | wfe (d mask : Nat)
  | mbTest (d n : Nat) (full : Bool)
  | timeBase (j : Nat) (target : DWord)
  deriving DecidableEq, Repr

/-- The registers and the state of one context (R149-R158); `brk` is the code of the BRK that holds it for the debugger
(R206). -/
structure Ctx where
  state : CtxState
  a : Tab Word
  d : Tab Word
  ac0 : Acc
  ac1 : Acc
  pc : Word
  lr : Word
  epc : Word
  esr : Word
  ebad : Word
  ring : Word
  sr : Word
  icyc : Word
  btl : Word
  bth : Word
  pend : Nat
  slot : Option (Nat × Nat)
  rfe : Bool
  wait : Wait
  woken : Option Nat
  stores : List Store
  freeSince : Nat
  hold : Bool
  brk : BitVec 10
  deriving DecidableEq, Repr

/-- One engine: the context that issued last, when the quantum and the watchdog period began, the divider's user, the
next place in the issue order of its accesses, and the counts of the statistics window (R152, R154, R160, R164, R190, R238). -/
structure Core where
  last : Nat
  quantumStart : Nat
  wdogStart : Nat
  divBusy : Option Nat
  storeSeq : Nat
  issued : Nat
  assigns : Nat
  waitSum : Nat
  waitMax : Nat
  maxDepth : Nat
  deriving DecidableEq, Repr

/-- A work item (R216, R226). `entry` is its pool entry; `bts` is TB_0 at the boundary of its cycle; `fseq` counts the flow's
items without a wrap, as R220 orders them, where the descriptor shows 16 bits of it; `src0` is the source that raised it, before
any forward; `link` names a posting store; `ready` is the CORE cycle in which it became ready (R221) and `rank` the event. -/
structure Item where
  src : Nat
  flow : Nat
  icyc : Word
  bts : DWord
  fseq : Nat
  epoch : Nat
  arg : Nat
  token : Bool
  entry : Nat
  hops : Nat
  headLen : Nat
  len : Nat
  buf : Word
  ts : DWord
  head : List Byte
  ready : Nat
  rank : Nat
  src0 : Nat
  link : Nat
  deriving DecidableEq, Repr

/-- Where an item in service stands: with its context, ended by DONE and waiting for stores or for its turn, or
revoked and waiting for stores (R229, R232). -/
inductive SvcState where
  | serving | done (act target : Nat) | revoked
  deriving DecidableEq, Repr

/-- An item in service (R220). `bound`: the engine's store order at DONE or revocation, before which the context's stores
must have completed (R229, R232). `ended`: the CORE cycle of its DONE. `frozen`: CORE cycles of DOZE since its assignment, for
which its timeout stood still (R234). -/
structure InSvc where
  item : Item
  core : Nat
  ctx : Nat
  taken : Bool
  prefetched : Bool
  assigned : Nat
  state : SvcState
  bound : Nat
  ended : Nat
  frozen : Nat
  deriving DecidableEq, Repr

/-- An entry of the orphan queue (R233). -/
structure Orphan where
  reason : Nat
  core : Nat
  ctx : Nat
  token : Bool
  item : Nat
  deriving DecidableEq, Repr

/-- Dispatch (R216-R238); `assignedAt` is one more than the CORE cycle of its last assignment (R222). -/
structure Dsp where
  arrival : List Item
  waiting : List Item
  ready : List Item
  insvc : List InSvc
  orphans : List Orphan
  orphaned : List Item
  used : List Nat
  fseq : Tab Nat
  drops : Tab Word
  winStart : Nat
  seq : Nat
  assignedAt : Nat
  deriving DecidableEq, Repr

/-- A lock's owner (R248): master code and context. -/
structure Owner where
  master : Nat
  ctx : Nat
  deriving DecidableEq, Repr

/-- A step command latched by a time base (R258): the operation, its operands and when it takes effect. -/
structure StepCmd where
  op : Nat
  sec : Nat
  ns : Nat
  ofs : Int
  due : Nat
  deriving DecidableEq, Repr

/-- A time base (R252, R257, R258). The fraction counts 2^-32 ns; the slew remainder counts the same unit; `step` holds
the step commands that have not taken effect, oldest first. -/
structure TimeBase where
  sec : Nat
  ns : Nat
  frac : Nat
  epoch : Nat
  slew : Int
  step : List StepCmd
  deriving DecidableEq, Repr

/-- A time-stamp record (R260). -/
structure Stamp where
  w0 : Word
  w1 : Word
  w2 : Word
  w3 : Word
  deriving DecidableEq, Repr

/-- A compare trigger beyond its registers (R267-R271): the loaded target, a TGT_L that waits for its TGT_H, and
whether the trigger skips periods that are past, and one more than the CORE cycle of its last firing. -/
structure Trig where
  target : DWord
  held : Bool
  skipping : Bool
  fired : Nat
  deriving DecidableEq, Repr

/-- A step that took effect (R258): the base, its CORE cycle and the value that the base would have had in it. -/
structure TbStep where
  base : Nat
  at_ : Nat
  before : TimeBase
  deriving DecidableEq, Repr

/-- Network time. `steps` holds the steps of the bases, oldest first: a stamp of an earlier instant needs them. -/
structure Ntm where
  counting : Bool
  tb : List TimeBase
  steps : List TbStep
  trig : Tab Trig
  tsq : Tab (List Stamp)
  latch : Tab Stamp
  deriving DecidableEq, Repr

/-- The process image (R17-R31). Page p's copy of granule g is entry 16,384 p + g of `pages`. -/
structure Img where
  pages : Tab DWord
  sel : BitVec 16384
  written : BitVec 16384
  begun : Bool
  openTb : DWord
  prevTb : DWord
  openNow : Nat
  prevNow : Nat
  due : Nat
  cfg : Bool
  nondet : Bool
  unord : Bool
  late : Bool
  npw : Bool
  lateCnt : Nat
  deriving DecidableEq, Repr

/-- A deviation of one sync node in a cycle (R309), in 0.25 ns. -/
structure Dev2 where
  node : Nat
  dev : Int
  deriving DecidableEq, Repr

/-- Node states of Meridian (R316, R318). -/
inductive Node where
  | listen | dawn | backoff | integrating | active | passive | halt
  deriving DecidableEq, Repr

/-- A valid copy of a frame that has just completed (R300, R309): its channel, its deviation in 0.25 ns, the instants of its
arrival and of its end in units of 2^-32 ns, and its bytes. -/
structure RxCopy where
  ch : Nat
  dev : Int
  arr : Int
  fin : Int
  bs : List Byte
  deriving DecidableEq, Repr

/-- What one slot's reception holds in a cycle: the channels that carried a valid copy, a valid copy of this CORE cycle that is
not accepted yet, the accepted bytes, whether the copies differed, a copy that failed only its header, and whether the slot has
ended (R301, R302). -/
structure SlotRx where
  slot : Nat
  aOk : Bool
  bOk : Bool
  held : Option RxCopy
  accepted : Option (List Byte)
  dis : Bool
  hdr : Bool
  ended : Bool
  deriving DecidableEq, Repr

/-- Rack time of the best sync frame of a cycle (R314): its node, its offset in ns and, where its epoch differs, the carried time
with the instant of its arrival. -/
structure TbRef where
  node : Nat
  ofs : Int
  step : Option (TimeBase × Int)
  deriving DecidableEq, Repr

/-- A frame on a channel's transmit line (R281-R283, R328): the instant of its first bit, its bits, and the instants between which
Eclipse lets TXEN be high. -/
structure Tx where
  start : Int
  bits : List Bool
  opens : Int
  closes : Int
  deriving DecidableEq, Repr

/-- A word of Eclipse's copy of the Constellation table (R327), with a parity bit for each of its bytes. -/
structure EclWord where
  idx : Nat
  word : Word
  parity : BitVec 4
  deriving DecidableEq, Repr

/-- Meridian beyond its registers (R281-R340). Instants of the timeline (`bound`: macrotick 0 of the open cycle, `mtAt`: macrotick
`mtBase`, from which the present rate counts, `ofs`: what the open cycle is longer, `backoffEnd`) are in units of 2^-32 ns since
reset release. `opened`: a tentative cycle opened and the image's part of its boundary is due. `request` is a proposal that
waits for a boundary, `proposal` one that is carried or acknowledged; `mgr` is NEXT and CACK of the manager's sync frame
accepted in the cycle; `tbBest` is the rack time of the best sync frame of the cycle; `tx` is what each channel sends. -/
structure Mrd where
  node : Node
  listenStart : Nat
  bound : Int
  mtBase : Nat
  mtAt : Int
  opened : Bool
  ofs : Int
  request : Option Nat
  proposal : Option Nat
  cack : Bool
  confirm : Bool
  silent : Option Nat
  silentSeen : Bool
  mgr : Option (Nat × Bool)
  slots : List SlotRx
  sent : List Nat
  even : List Dev2
  devs : List Dev2
  corrected : Bool
  badPairs : Nat
  tbBest : Option TbRef
  evenOfs : Option Int
  syncSeen : Bool
  noSync : Nat
  good : Nat
  adopted : Bool
  refs : List (Nat × Word)
  mgrHash : Option (Word × Nat)
  dawnCycles : Nat
  dawnSent : Bool
  dawnBack : Bool
  backoffEnd : Int
  heard : Bool
  missed : Tab Nat
  rstReq : Option Nat
  rstn : Nat
  rstLeft : Nat
  rstSeen : Nat
  rstNow : Bool
  tx : Tab Tx
  ecl : List EclWord
  eclBound : Int
  rcBad : Bool
  deriving DecidableEq, Repr

/-- Link states of an Ethernet port (R354). -/
inductive Link where
  | off | down | hold | up
  deriving DecidableEq, Repr

/-- A ring of equal buffers in shared SRAM (R349, R377): the first buffer never used, the buffers that came back in
order, and whether the queue failed (R352). -/
structure Ring where
  fresh : Nat
  back : List Nat
  failed : Bool
  deriving DecidableEq, Repr

/-- One Ethernet port beyond its registers (R349-R357): link state, lane PLL, running speed (R357's code), receive
sequence number, the byte counts with the latches of their high words, verify frames sent and the last one's time, the
end of a hold, and (in 0.1 ns) the instant from which the transmit line is free. -/
structure Eth where
  link : Link
  lane : Bool
  speed : Nat
  rseq : Nat
  rxBytes : DWord
  txBytes : DWord
  latchRx : Word
  latchTx : Word
  verify : Nat
  verifyLast : Nat
  holdEnd : Nat
  lineAt : Nat
  deriving DecidableEq, Repr

/-- A frame in the switch (R359-R378), bytes without the frame check sequence. `planned`, `mask`, `cls` and `untag` are
what classification decided; `started` is the mask of cut-through egress ports; `tcTime` counts 2^-32 ns; `upset` tells
that a parity mismatch stands in its cells of the switch buffer (R134). -/
structure Frame where
  id : Nat
  bytes : List Byte
  good : Bool
  port : Nat
  arrival : Nat
  stamp : Stamp
  ts0 : DWord
  ts0Epoch : Nat
  tcTime : Nat
  tcEpoch : Nat
  pcp : Nat
  vid : Nat
  untag : Nat
  direct : Bool
  tsreq : Bool
  tsid : Nat
  onestep : Bool
  ptpoff : Nat
  launch : Option DWord
  trig : Bool
  sample : Bool
  trap : Bool
  planned : Bool
  mask : Nat
  cls : Nat
  started : Nat
  upset : Bool
  deriving DecidableEq, Repr

/-- A copy of a frame in an egress queue (R367-R372). `cut`: a cut-through copy whose frame has not ended; `line`: the
bytes on the line once it started; `frags`: its
fragments so far (R353), `sent` their bytes, `since` the instant in 0.1 ns at which the present one began, `paused` whether
it is off the line between two of them. -/
structure Copy where
  frame : Frame
  port : Nat
  cls : Nat
  launch : Option DWord
  trigHeld : Bool
  started : Bool
  cut : Bool
  cells : Nat
  line : List Byte
  frags : Nat
  sent : Nat
  since : Nat
  paused : Bool
  deriving DecidableEq, Repr

/-- A submit that waits at an engine port (R378): a DONE submit carries its item. -/
structure Submit where
  addr : Nat
  item : Option Item
  master : Nat
  arrival : Nat
  deriving DecidableEq, Repr

/-- Gate control of one port (R371, R373): OBASE and OCYCLE, whether a CHANGE has taken effect, the change time T, and
one more than the CORE cycle of the last change. -/
structure Gate where
  base : Nat
  cycle : Nat
  begun : Bool
  change : Option Nat
  taken : Nat
  deriving DecidableEq, Repr

/-- A stream entry's bucket (R366): what it holds, in units of one byte divided by the CORE cycles of a second, and the
time of its last update. -/
structure Bucket where
  fill : Nat
  time : Nat
  deriving DecidableEq, Repr

/-- The switch core (R358-R381). -/
structure Swc where
  nextId : Nat
  inbound : List Frame
  cutIn : List Frame
  queues : List Copy
  gates : Tab Gate
  held : Tab Word
  buckets : Tab Bucket
  sample : Tab Nat
  submits : Tab (List Submit)
  lastAge : Nat
  parity : List Nat
  deriving DecidableEq, Repr

/-- States of a CAN controller (R385). -/
inductive CanState where
  | off | integrating | active | passive | busOff | detecting
  deriving DecidableEq, Repr

/-- A receive object (R401): its STATUS word, the newest frame and its time stamp. -/
structure CanObj where
  status : Word
  words : List Word
  stamp : Stamp
  deriving DecidableEq, Repr

/-- An entry of the transmit FIFO (R394, R396): its frame record and an abort that is held (1 before the commit point,
2 after it). -/
structure CanTx where
  words : List Word
  held : Nat
  deriving DecidableEq, Repr

/-- One CAN controller beyond its registers (R385-R404): transmit FIFO, transmit event queue and latch, the catch-all
entries in use, oldest first, the receive sequence number, and the detection trial. `tail`: a frame that was under way when
MODE became listen-only still runs to its end (R405). -/
structure Can where
  listen : Bool
  tail : Bool
  fifo : List CanTx
  events : List Stamp
  latch : Stamp
  ca : List Nat
  rseq : Nat
  trial : Nat
  trialStart : Nat
  rounds : Nat
  deriving DecidableEq, Repr

/-- States of a PIO engine (R408). -/
inductive PioState where
  | disabled | armed | running | waiting | stalled | halted
  deriving DecidableEq, Repr

/-- What a WAITING or STALLED engine retries at every tick (R408, R417); `pause` names the tick that ends the wait. -/
inductive PioWait where
  | none
  | level (pin : Nat) (pol : Bool)
  | window (w : Nat) (pol : Bool) (n : Nat)
  | pattern
  | trigger
  | pause (tick : Nat)
  | load
  | send (close : Bool)
  | evt (k : Nat)
  deriving DecidableEq, Repr

/-- What the receive path of an engine holds in order (R423): a sent word with the cycle open at its tick, the close of
the open item, an item of EVT. -/
inductive PioRx where
  | word (w cycle : Word)
  | close (it : Item)
  | evt (it : Item)
  deriving DecidableEq, Repr

/-- A PIO engine (R407-R409, R421-R427). `t0` and `step` give the phase start and the step in force, `last` the last tick
that executed; `openWords` are the words drained into the open item, `openCount` those sent into it; `event` holds the
four time bases at the last event. -/
structure Pio where
  state : PioState
  wait : PioWait
  sr : Word
  sc : Nat
  lc : Nat
  m : Bool
  ol : BitVec 16
  pc : Nat
  tx : List Word
  rx : List PioRx
  openWords : List Word
  openCount : Nat
  openTs : Option DWord
  t0 : Nat
  step : Nat
  last : Option Nat
  latch : Bool
  event : Option (List TimeBase)
  stamps : Nat
  refill : Bool
  deriving DecidableEq, Repr

/-- The pins of the PIO block (R412, R415): value and enable latches, the time of each pin's last change, and whether a
read-back mismatch has been recorded. -/
structure Pins where
  val : BitVec 128
  en : BitVec 128
  changed : Tab Nat
  rbSeen : Bool
  deriving DecidableEq, Repr

/-- A Sampler channel beyond its registers (R432-R441): the registered bits, newest first, the stuck flag, the latches
since commit and the cycle of the last one. -/
structure Sd where
  bits : List Bool
  stuck : Bool
  count : Nat
  latched : Option Word
  deriving DecidableEq, Repr

/-- A capture/compare unit beyond its registers (R442-R447). Places in time (`start`, `next`, `sync`, `dfrom`, those of
`edges`) count eighths of a CORE cycle since reset release. `seen` is the cycle of the last edges with what it stamped,
`count` and `lastEdge` are EDGES and LAST; `edges` are trigger edges handed over (time, action). -/
structure Cc where
  fifo : List Stamp
  latch : Stamp
  tag : Nat
  count : Nat
  lastEdge : Word
  seen : Option (Nat × Bool × Bool)
  latched : Option Word
  active : Bool
  start : Nat
  duty : Nat
  next : Option Nat
  sync : Option Nat
  dval : Word
  dnew : Option (Nat × Word)
  edges : List (Nat × Nat)
  waitStart : Bool
  deriving DecidableEq, Repr

/-- The Loop Array beyond its tables (R450, R454, R455): the resets that wait for a boundary, whether the run is cut by
the next boundary, and the end of the run. -/
structure LoopArray where
  reset : BitVec 64
  cut : Bool
  endAt : Nat
  deriving DecidableEq, Repr

/-- Security and debug beyond their registers (R483-R499). `cmd` is the SEC_CMD that runs (operation, argument);
`gate`: firmware waits in the SEC_COMMAND gate; `challenge` the challenge bytes with their capture time; `dr` the data
register that the TAP shifts out; `bsr` the boundary cells, `drive` what drives the pins from them (0 nothing, 1 EXTEST,
2 HIGHZ, 3 CLAMP); `err` and `late` the flags of the debug port (R130, R142); `defunctDue`: the DEFUNCT transition that a
trip in RETAIN or OFF leaves for Twilight (R490). -/
structure Sec where
  stage : Tab Word
  cmd : Option (Nat × Nat)
  purpose : Nat
  challenge : Option (List Byte × Nat)
  response : Option (List Byte)
  fails : Nat
  nonces : Nat
  ir : Nat
  dr : List Byte
  bsr : List Byte
  drive : Nat
  gate : Bool
  err : Bool
  late : Bool
  defunctDue : Bool
  deriving DecidableEq, Repr

/-- An indirect pair (R111, R112): the word fetched and whether the pair is in a transfer. -/
structure Ind where
  word : Word
  busy : Bool
  deriving DecidableEq, Repr

/-- An entry of the fault log (R75, R78). -/
structure LogEntry where
  code : Nat
  time : DWord
  resets : Nat
  bank : Nat
  deriving DecidableEq, Repr

/-- A power transition in progress (R91, R92) and the wake that arrived during it (R95). -/
structure Trans where
  off : Bool
  lastFlip : Bool
  mrdEnd : Bool
  wake : Option Nat
  deriving DecidableEq, Repr

/-- A resource claim of an applied record (R62). -/
structure Claim where
  owner : Nat
  contexts : Nat
  engines : Nat
  flowFirst : Nat
  flowCount : Nat
  pioEng : Nat
  pins : Nat
  rxq : Nat
  cans : Nat
  eports : Nat
  deriving DecidableEq, Repr

/-- Steps of the field-update service (R71, R72). -/
inductive UpdStep where
  | idle | erase | program | header
  deriving DecidableEq, Repr

/-- What a flash slot holds, as far as this device has written it (R72-R74): `outside` while it never did, so that the board
tells the contents; `headerless` from the erase on; `image` once a header was programmed. -/
inductive FlashSlot where
  | outside
  | headerless
  | image (bytes : List Byte)
  deriving DecidableEq, Repr

/-- The loader (R41-R68): step due next, the slot orders, the headers and public keys of the slot in use and of the other,
the parse position in the staging copy, the running rack hash, the claims, the banks written; and the field-update service:
its step, header, signed hash and the bytes it read back. -/
structure Boot where
  step : BootStep
  release : Nat
  octal : Bool
  slot : Bool
  second : Bool
  hdr : List Byte
  hdrOther : List Byte
  key : List Byte
  keyOther : List Byte
  otherFails : Nat
  cursor : Nat
  index : Nat
  encEnd : Nat
  rack : Nat
  rackAny : Bool
  claims : List Claim
  banks : List Nat
  upd : UpdStep
  updAbort : Bool
  updHdr : List Byte
  updHash : BitVec 384
  updBack : List Byte
  deriving DecidableEq, Repr

/-- Device-wide state outside the units (R44, R85-R98). -/
structure Sys where
  mode : Mode
  trans : Option Trans
  retWake : Option Nat
  resetDue : Option Nat
  diagDue : Option Nat
  armDue : Option Nat
  entryTime : Nat
  flipStop : Bool
  bankPend : List Nat
  clkBad : Nat
  twCode : Nat
  twTime : Nat
  escalated : Bool
  log : List LogEntry
  logNext : Nat
  diagLine : List Char
  diagLong : Bool
  diagCmd : Option (List Char)
  sweepForCommit : Bool
  romLoop : Bool
  resetRank : Option Nat
  deriving DecidableEq, Repr

/-- What leaves the device at its pins (the model's record of outputs). `completion`: the status of a PCI Express
request (0 successful, 1 retry, 2 Completer Abort) with its words; `lhp`: LHP_D as launched, with LHP_RDY_N low. -/
inductive Out where
  | diag (line : String)
  | msix (vector : Nat)
  | meridian (chan : Nat) (bits : List Bool)
  | eth (port : Nat) (bytes : List Byte) (good : Bool)
  | can (n : Nat) (words : List Word)
  | completion (status : Nat) (words : List Word)
  | lhp (data : Nat)
  deriving DecidableEq, Repr

/-- A fault report that the safety controller has not decided yet (R461): code, unit code, register and table index. -/
structure Report where
  code : Nat
  unit : Nat
  addr : Nat
  idx : Nat
  deriving DecidableEq, Repr

/-- The safety controller beyond its registers (R461-R467). -/
structure Saf where
  reports : List Report
  decided : Nat
  tempBad : Bool
  swdogOn : Bool
  swdogStart : Nat
  deriving DecidableEq, Repr

/-- The host ports beyond their registers (R501-R514): PCI Express pins and configuration space, the assembly latches
of the LHP with the word each names, the strobe in progress with the data it drives, the status snapshots by master and word, the heartbeat. -/
structure Hst where
  perst : Bool
  fnMask : Bool
  cfg : Tab Word
  wAddr : Option Nat
  wWord : Word
  rAddr : Option Nat
  rWord : Word
  lhpStrobe : Bool
  lhpDrive : Option Nat
  snap : Tab Word
  hbeat : Word
  deriving DecidableEq, Repr

/-- The whole device but for the fuse array and the queue of commands. `lockRel` names, by lock, who released it last and
in which CORE cycle (R250); `rdata` is the word that the last read of each
master returned to it. -/
structure Dev where
  now : Nat
  free : Nat
  regs : Tab Word
  wraps : Tab Word
  tabs : Tab Word
  inds : Tab Ind
  mem : List Host.Cell
  rdata : Tab Word
  badPar : List Nat
  badCfg : List Nat
  viewBad : List Nat
  scrub : Tab Nat
  sys : Sys
  boot : Boot
  flashA : FlashSlot
  flashB : FlashSlot
  img : Img
  ctxs : Tab Ctx
  cores : Tab Core
  dsp : Dsp
  locks : Tab Owner
  lockRel : Tab Owner
  mbxLast : Tab Word
  ntm : Ntm
  mrd : Mrd
  eths : Tab Eth
  rings : Tab Ring
  swc : Swc
  cans : Tab Can
  canObjs : Tab CanObj
  canCa : Tab CanObj
  pios : Tab Pio
  pins : Pins
  sds : Tab Sd
  ccs : Tab Cc
  smpStart : Nat
  loop : LoopArray
  sec : Sec
  vddio : List Nat
  saf : Saf
  hst : Hst
  out : List Out
  deriving DecidableEq, Repr

/-- The fuse array (R477): the burned bits, by number. -/
structure Fuses where
  burned : List Nat
  deriving DecidableEq, Repr

/-- The state: the device, its fuse array and the commands that wait, first in first out. -/
structure State where
  pending : List Instr
  fuses : Fuses
  dev : Dev
  deriving DecidableEq, Repr

/-- Device-wide state at the release of a power-up reset (R41, R86). -/
def Sys.reset : Sys :=
  { mode := .startup, trans := none, retWake := none, resetDue := none, diagDue := none, armDue := none, entryTime := 0
    flipStop := false, bankPend := [], clkBad := 0, twCode := 0, twTime := 0
    escalated := false, log := [], logNext := 0, diagLine := [], diagLong := false, diagCmd := none
    sweepForCommit := false, romLoop := true, resetRank := none }

/-- The loader before phase 1 (R41). -/
def Boot.reset : Boot :=
  { step := .pll, release := 0, octal := false, slot := false, second := false, hdr := [], hdrOther := [], key := []
    keyOther := [], otherFails := 0, cursor := 0, index := 0, encEnd := 0, rack := 0, rackAny := false, claims := [], banks := []
    upd := .idle, updAbort := false, updHdr := [], updHash := 0, updBack := [] }

/-- The image before commit: every granule 0, committed on page 0 (R17, R47). -/
def Img.reset : Img :=
  { pages := [], sel := 0, written := 0, begun := false, openTb := 0, prevTb := 0, openNow := 0, prevNow := 0, due := 0
    cfg := false, nondet := false, unord := false, late := false, npw := false, lateCnt := 0 }

/-- Dispatch before commit (R234). -/
def Dsp.reset : Dsp :=
  { arrival := [], waiting := [], ready := [], insvc := [], orphans := [], orphaned := [], used := []
    fseq := [], drops := [], winStart := 0, seq := 0, assignedAt := 0 }

/-- The time bases at reset release: all 0, not counting (R252). -/
def Ntm.reset : Ntm :=
  { counting := false, tb := List.replicate 4 ⟨0, 0, 0, 0, 0, []⟩, steps := [], trig := [], tsq := [], latch := [] }

/-- Meridian before commit: LISTEN, no timeline (R317, R318). -/
def Mrd.reset : Mrd :=
  { node := .listen, listenStart := 0, bound := 0, mtBase := 0, mtAt := 0, opened := false, ofs := 0, request := none, proposal := none
    cack := false
    confirm := false, silent := none, silentSeen := false, mgr := none, slots := [], sent := [], even := [], devs := []
    corrected := false, badPairs := 0, tbBest := none, evenOfs := none, syncSeen := false, noSync := 0, good := 0
    adopted := false, refs := [], mgrHash := none, dawnCycles := 0, dawnSent := false, dawnBack := false
    backoffEnd := 0, heard := false, missed := [], rstReq := none, rstn := 0, rstLeft := 0, rstSeen := 0
    rstNow := false, tx := [], ecl := [], eclBound := 0, rcBad := false }

/-- The device at the release of a power-up reset (R86): every register at its reset value, every table and memory with
nothing listed. -/
def Dev.reset : Dev :=
  { now := 0, free := 0, regs := [], wraps := [], tabs := [], inds := [], mem := [], rdata := [], badPar := []
    badCfg := [], viewBad := [], scrub := [], sys := Sys.reset, boot := Boot.reset, flashA := .outside, flashB := .outside
    img := Img.reset, ctxs := []
    cores := [], dsp := Dsp.reset, locks := [], lockRel := [], mbxLast := [], ntm := Ntm.reset, mrd := Mrd.reset, eths := []
    rings := []
    swc := { nextId := 0, inbound := [], cutIn := [], queues := [], gates := [], held := [], buckets := []
             sample := [], submits := [], lastAge := 0, parity := [] }
    cans := [], canObjs := [], canCa := []
    saf := { reports := [], decided := 0, tempBad := false, swdogOn := false, swdogStart := 0 }
    hst := { perst := false, fnMask := false, cfg := [], wAddr := none, wWord := 0, rAddr := none, rWord := 0
             lhpStrobe := false, lhpDrive := none, snap := [], hbeat := 0 }
    pios := [], pins := { val := 0, en := 0, changed := [], rbSeen := false }, sds := [], ccs := [], smpStart := 0
    loop := { reset := 0, cut := false, endAt := 0 }
    sec := { stage := [], cmd := none, purpose := 1, challenge := none, response := none, fails := 0, nonces := 0
             ir := 1, dr := [], bsr := [], drive := 0, gate := false, err := false, late := false, defunctDue := false }
    vddio := [], out := [] }

/-- The state right after reset (R86): no fuse is burned (notes/assumptions/5.md), no command waits. -/
def State.reset : State := { pending := [], fuses := { burned := [] }, dev := Dev.reset }

end Sys2Proof.Machine
end

