-- ==== Sys2Proof/Machine/Tab.lean ====
section
/-! DEFINITION. Machine/Tab.lean: sparse tables in one canonical form: strictly rising keys, no entry equal to what an
unlisted key reads as. Memory is the table of bytes with default 0. -/

namespace Sys2Proof.Machine

/-- The entry listed for a key. -/
def tabFind {α : Type} : Tab α → Nat → Option α
  | [], _ => none
  | (k', v) :: t, k => if k = k' then some v else tabFind t k

/-- What a key reads as: its entry, else the default. -/
def tabGet {α : Type} (dflt : Nat → α) (t : Tab α) (k : Nat) : α := (tabFind t k).getD (dflt k)

/-- List a value at a key, before the first key not below it. -/
def tabInsert {α : Type} : Tab α → Nat → α → Tab α
  | [], k, v => [(k, v)]
  | (k', v') :: t, k, v =>
    if k < k' then (k, v) :: (k', v') :: t
    else if k = k' then (k, v) :: t
    else (k', v') :: tabInsert t k v

/-- Unlist a key. -/
def tabErase {α : Type} (t : Tab α) (k : Nat) : Tab α := t.filter fun e => e.1 ≠ k

/-- Write a value at a key, keeping the canonical form. -/
def tabSet {α : Type} [DecidableEq α] (dflt : Nat → α) (t : Tab α) (k : Nat) (v : α) : Tab α :=
  if v = dflt k then tabErase t k else tabInsert t k v

/-- The canonical form: keys strictly rising, no entry equal to its default. -/
def tabWf {α : Type} [DecidableEq α] (dflt : Nat → α) : Tab α → Bool
  | [] => true
  | [(k, v)] => decide (v ≠ dflt k)
  | (k, v) :: (k', v') :: t => decide (v ≠ dflt k) && decide (k < k') && tabWf dflt ((k', v') :: t)

/-- Unlist every key of a range. -/
def tabClear {α : Type} (t : Tab α) (lo hi : Nat) : Tab α := t.filter fun e => e.1 < lo ∨ hi < e.1

/-- What an unlisted byte of memory reads as: the zero fill of the memory self-test (R47). -/
def memDefault (_ : Nat) : Byte := 0

/-- The default of tables of words that start at 0. -/
def zeroDefault (_ : Nat) : Word := 0

/-- The default of tables of numbers that start at 0. -/
def zeroNat (_ : Nat) : Nat := 0

/-- Key of word i of table t. -/
def tabKey (t i : Nat) : Nat := t * 65536 + i

/-- What an unlisted word of a table reads as; table t's word i has key 65,536 t + i. Reset values other than 0: MAXPAR of
a flow (R219), the VLAN table's entry 1 and the gate entries (R380), UMIN and UMAX of a loop, as written and as in force
(R449). -/
def tabsDefault (k : Nat) : Word :=
  if k / 65536 = 17 then (if k % 4 = 2 then 1 else 0)
  else if k = 33 * 65536 + 1 then 0x0FFFFFFF
  else if k / 65536 = 34 then 0xFF000001
  else if k / 65536 = 44 ∨ k / 65536 = 46 then
    (if k % 16 = 8 then 0x80000000 else if k % 16 = 9 then 0x7FFFFFFF else 0)
  else 0

end Sys2Proof.Machine
end

