-- ==== Sys2Proof/Machine/Ops.lean ====
section
/-! DEFINITION. Machine/Ops.lean: the named operations on registers and memory that every meaning shares: the register
map (R99-R102), events and status words (R107-R110), register errors (R101), the general register write (R106, R114,
R115), the memory map, rights and failed accesses (R124-R133), and fault reports (R461). -/

namespace Sys2Proof.Machine

/-! ## The register map -/

/-- Which unit an address of the register window or of an engine's register block belongs to (R99, R100): the first
address of the block that carries its header, the unit code and the rows. -/
structure RegUnit where
  base : Nat
  code : Nat
  rows : List Row

/-- The rows of window block b (R99); none where the block is unassigned. -/
def blockRows (b : Nat) : Option (List Row) :=
  if b = 0 then some sysRows else if b = 1 then some almRows else if b = 2 then some safRows
  else if b = 3 then some secRows else if b = 4 then some memRows else if b = 5 then some mbxRows
  else if b = 6 then some schRows else if b = 7 then some ntmRows else if b = 8 then some mrdRows
  else if b = 9 then some swcRows
  else if 0xC ≤ b ∧ b ≤ 0x15 then some ethRows
  else if 0x18 ≤ b ∧ b ≤ 0x1B then some canRows
  else if b = 0x1C then some pioRows else if b = 0x1D then some smpRows
  else if b = 0x1E then some loopRows else if b = 0x1F then some hstRows
  else none

/-- An address of the register window 0x1000_0000-0x103F_FFFF (R99). -/
def inWindow (a : Nat) : Bool := 0x10000000 ≤ a && a < 0x10400000

/-- An address of an engine register block (R100, R124). -/
def inPeRegs (a : Nat) : Bool :=
  0x08000000 ≤ a && a < 0x08400000 && 0x30000 ≤ (a - 0x08000000) % 0x40000

/-- The unit of a register address (R99, R100, R101). The switch's second block belongs to the header of its first. -/
def unitOf (a : Nat) : Option RegUnit :=
  if inWindow a then
    let b := (a - 0x10000000) / 0x10000
    if b = 0xA then some ⟨0x10090000, 9, swcRows⟩
    else (blockRows b).map fun r => ⟨0x10000000 + 0x10000 * b, b, r⟩
  else if inPeRegs a then
    let n := (a - 0x08000000) / 0x40000
    some ⟨A.peBlock n, 0x20 + n, peRows⟩
  else none

/-- The first index of the register array at which a row holds offset o of its block. -/
def Row.index (r : Row) (o : Nat) : Option Nat :=
  if o < r.off then none else
    let x := o - r.off
    let i := if r.n1 = 1 then 0 else x / r.s1
    let y := x - i * r.s1
    let j := if r.n2 = 1 then 0 else y / r.s2
    if i < r.n1 ∧ j < r.n2 ∧ y = j * r.s2 then some i else none

/-- The register at an offset, with its first index. -/
def rowFind : List Row → Nat → Option (Row × Nat)
  | [], _ => none
  | r :: rs, o => match r.index o with
    | some i => some (r, i)
    | none => rowFind rs o

/-- The register at an address: its unit, its row and its first index (R102: none where no register stands). -/
def regAt (a : Nat) : Option (RegUnit × Row × Nat) :=
  match unitOf a with
  | none => none
  | some u => (rowFind (headerRows ++ u.rows) (a - u.base)).map fun p => (u, p.1, p.2)

/-- Reset value of the register at an address (R101: <P>_ID carries the unit code). -/
def regReset (a : Nat) : Word :=
  match regAt a with
  | none => 0
  | some (u, r, i) => word (r.reset + r.rstep * i + if a = u.base then u.code else 0)

/-! ## Stored register words -/

/-- The stored word of a register. -/
def rd (a : Nat) (d : Dev) : Word := tabGet regReset d.regs a

/-- Store a register word. -/
def wr (a : Nat) (v : Word) (d : Dev) : Dev := { d with regs := tabSet regReset d.regs a v }

/-- Field hi:lo of a register. -/
def rf (a hi lo : Nat) (d : Dev) : Nat := fld (rd a d) hi lo

/-- Store field hi:lo of a register. -/
def wf (a hi lo v : Nat) (d : Dev) : Dev := wr a (setFld (rd a d) hi lo v) d

/-- Bit i of a register. -/
def rb (a i : Nat) (d : Dev) : Bool := bit (rd a d) i

/-- Store bit i of a register. -/
def wb (a i : Nat) (b : Bool) (d : Dev) : Dev := wr a (setBit (rd a d) i b) d

/-- Add 1 to field hi:lo of a register, modulo its range. -/
def incr (a hi lo : Nat) (d : Dev) : Dev := wf a hi lo (rf a hi lo d + 1) d

/-- Add 1 to field hi:lo of a register up to its greatest value. -/
def incrSat (a hi lo : Nat) (d : Dev) : Dev := wf a hi lo (satInc (2 ^ (hi + 1 - lo) - 1) (rf a hi lo d)) d

/-- The next free value (notes/assumptions/1.md) and the counter that each use advances. -/
def freeWord (d : Dev) : Word × Dev := (Config.freeValue d.free, { d with free := d.free + 1 })

/-! ## Events and register errors -/

/-- An event in a status register (R107): its SQ bits are set and SEQ counts it, modulo 256. A wrap of SEQ marks the
register for every master (R109). -/
def raiseBits (a mask : Nat) (d : Dev) : Dev :=
  let w := rd a d
  let q := (fld w 31 24 + 1) % 256
  { wr a (setFld (w ||| word mask) 31 24 q) d with
    wraps := if q = 0 then tabSet zeroDefault d.wraps a 0xFFFFF else d.wraps }

/-- An event that sets SQ bit i (R107). -/
def raise (a i : Nat) (d : Dev) : Dev := raiseBits a (2 ^ i) d

/-- An event raised only when c holds. -/
def raiseIf (c : Bool) (a i : Nat) (d : Dev) : Dev := if c then raise a i d else d

/-- Window offset of an access, or the offset within the engine space (R101, ADDR of <P>_ERR_ADDR). -/
def errOffset (a : Nat) : Nat := if a < 0x10000000 then a - 0x08000000 else a - 0x10000000

/-- A register error of kind k by master m at address a, recorded in the header at `base` (R101). -/
def errAt (base m k a : Nat) (d : Dev) : Dev :=
  d |> raise (base + 4) k
    |> wr (base + 8) (word (atBit m 27 + atBit k 24 + errOffset a % 2 ^ 22))

/-- Register error kinds: bit numbers in <P>_ERR (R101). -/
def errStale : Nat := 0
/-- A reserved encoding, or a 1 in a must-be-0 field, was written (R101). -/
def errRsvd : Nat := 1
/-- A write to a locked RWL field was discarded (R101). -/
def errLock : Nat := 2
/-- An IND_DATA access fell beyond the table (R101). -/
def errRange : Nat := 3
/-- An IND_DATA write arrived while BUSY = 1 (R101). -/
def errBusy : Nat := 4
/-- A write tried to change a LIVE bit (R101). -/
def errLive : Nat := 5
/-- Misaligned or partial-width access (R101). -/
def errAccess : Nat := 6
/-- Access to an offset that holds no register (R101). -/
def errUnmapped : Nat := 7

/-- A register error where c holds. -/
def errIf (c : Bool) (base m k a : Nat) (d : Dev) : Dev := if c then errAt base m k a d else d

/-- A read of a status register by master m clears that master's wrap mark (R109); debug reads have no effect (R105). -/
def clearWrap (m a : Nat) (d : Dev) : Dev :=
  if m = 19 then d
  else { d with wraps := tabSet zeroDefault d.wraps a (setBit (tabGet zeroDefault d.wraps a) m false) }

/-- A clear request to a status register (R108, R109): accepted where the SEQ written is the register's and the
writer's wrap mark is clear; otherwise nothing clears and STALE_CLR is set. `base` is the unit's header. -/
def clearStatus (base m a sq : Nat) (v : Word) (d : Dev) : Dev :=
  let w := rd a d
  if fld v 31 24 = fld w 31 24 ∧ bit (tabGet zeroDefault d.wraps a) m = false then
    wr a (w &&& ~~~(v &&& word sq)) d
  else errAt base m errStale a d

/-- The configuration phase (R119) is after commit: RWL fields are locked (R114). -/
def committed (d : Dev) : Bool := rb A.almCrcStat 0 d

/-- Does field (hi, lo) of a written word hold an encoding outside its legal ranges (R115)? -/
def encBad (v : Word) (e : Nat × Nat × List (Nat × Nat)) : Bool :=
  let x := fld v e.1 e.2.1
  !(e.2.2.any fun p => p.1 ≤ x && x ≤ p.2)

/-- Bits of field (hi, lo). -/
def encMask (e : Nat × Nat × List (Nat × Nat)) : Nat := (2 ^ (e.1 + 1 - e.2.1) - 1) <<< e.2.1

/-- What a general write stores in a word (R106, R114, R115): RW bits, and RWL bits while they are not locked; a 1 in a
must-be-0 bit is ignored. -/
def writtenWord (rw rwl mbz : Nat) (lock : Bool) (cur v : Word) : Word :=
  let m := word ((rw ||| if lock then 0 else rwl) &&& (mbz ^^^ 0xFFFFFFFF))
  (cur &&& ~~~m) ||| (v &&& m)

/-- The general register write (R11, R106, R114, R115): the word stored and the errors raised. A status register takes
a clear request instead (R108). -/
def writeRow (u : RegUnit) (r : Row) (m a : Nat) (v : Word) (d : Dev) : Dev :=
  let cur := rd a d
  let lock := committed d
  let lv : Bool := ((v ^^^ cur) &&& word r.live) ≠ 0
  let lk : Bool := lock && decide (((v ^^^ cur) &&& word r.rwl) ≠ 0)
  let openBits := r.rw ||| (if lock then 0 else r.rwl)
  let rs : Bool := decide ((v &&& word r.mbz) ≠ 0) ||
    r.enc.any fun e => encBad v e && decide (encMask e &&& openBits ≠ 0)
  let d := if r.sq ≠ 0 then clearStatus u.base m a r.sq v d
    else wr a (writtenWord r.rw r.rwl r.mbz lock cur v) d
  d |> errIf lv u.base m errLive a |> errIf lk u.base m errLock a |> errIf rs u.base m errRsvd a

/-- An access to an address that holds no register (R102): UNMAPPED in the unit's header, or in SYS_ERR where the block
is unassigned. -/
def unmappedReg (m a : Nat) (d : Dev) : Dev :=
  match unitOf a with
  | some u => errAt u.base m errUnmapped a d
  | none => errAt (A.block 0) m errUnmapped a d

/-- The general write of v by master m at register address a. -/
def storeReg (m a : Nat) (v : Word) (d : Dev) : Dev :=
  match regAt a with
  | some (u, r, _) => writeRow u r m a v d
  | none => unmappedReg m a d

/-- A read returns a word to master m. -/
def giveRead (m : Nat) (v : Word) (d : Dev) : Dev := { d with rdata := tabSet zeroDefault d.rdata m v }

/-! ## Time -/

/-- CORE cycles in a number of microseconds (R82: 2.5 ns each). -/
def usCycles (n : Nat) : Nat := 400 * n

/-- The value of a time base in ns64 form: seconds x 10^9 + ns, modulo 2^64 (R252). -/
def TimeBase.ns64 (t : TimeBase) : DWord := BitVec.ofNat 64 (t.sec * 1000000000 + t.ns)

/-- Time base j. -/
def tbGet (j : Nat) (d : Dev) : TimeBase := d.ntm.tb.getD j ⟨0, 0, 0, 0, 0, []⟩

/-- Replace time base j. -/
def tbPut (j : Nat) (t : TimeBase) (d : Dev) : Dev := { d with ntm := { d.ntm with tb := d.ntm.tb.set j t } }

/-- TB_j as ns64. -/
def tbNs (j : Nat) (d : Dev) : DWord := (tbGet j d).ns64

/-! ## Fault reports -/

/-- An entry of the fault log (R75): the next of 16 entries, with the time stamp of TB_0. -/
def faultLog (code : Nat) (d : Dev) : Dev :=
  let e : LogEntry := ⟨code, tbNs 0 d, rf A.sysRstCause 31 16 d, 0⟩
  let l := d.sys.log
  let l := if d.sys.logNext < l.length then l.set d.sys.logNext e else l ++ [e]
  { d with sys := { d.sys with log := l, logNext := (d.sys.logNext + 1) % 16 } }

/-- A fault report (R461, R470). Before the decision it waits for the end of its RC cycle; after it, it sets its bit of
SAF_PEND and LATER and is logged. A configuration parity fault or CRC mismatch of a cycle shows as CFG in its header
(R30, R36). -/
def report (code unit addr idx : Nat) (d : Dev) : Dev :=
  let d := if (code = 0x42 ∨ code = 0x43) ∧ d.sys.mode = .service then { d with img := { d.img with cfg := true } } else d
  if rb A.safStat 0 d then
    d |> wr A.safPend (rd A.safPend d ||| word (2 ^ (code - 0x40))) |> raise A.safStat 2 |> faultLog code
  else { d with saf := { d.saf with reports := d.saf.reports ++ [⟨code, unit, addr, idx⟩] } }

/-- Use of a register word by a unit's data path: its configuration parity is checked (R116). -/
def useCfg (unit a idx : Nat) (d : Dev) : Dev := if a ∈ d.badCfg then report 0x42 unit a idx d else d

/-- Use of word i of table t, reached through the IND_DATA register at address a by the IND_ADDR word idx (R116, R476). -/
def useTab (unit a idx t i : Nat) (d : Dev) : Dev :=
  if 2 ^ 32 + tabKey t i ∈ d.badCfg then report 0x42 unit a idx d else d

/-! ## Memory -/

/-- The regions of the memory map (R124). -/
inductive Region where
  | rom | priv | sram | image | shadow | vault
  | iram (n : Nat) | dram (n : Nat) | ucode (n : Nat) | reg | none
  deriving DecidableEq, Repr

/-- The region of an internal address (R124). -/
def region (a : Nat) : Region :=
  if a < 0x20000 then .rom
  else if 0x01000000 ≤ a ∧ a < 0x01080000 then .priv
  else if 0x04000000 ≤ a ∧ a < 0x05000000 then .sram
  else if 0x06000000 ≤ a ∧ a < 0x06020000 then .image
  else if 0x06020000 ≤ a ∧ a < 0x06040000 then .shadow
  else if 0x07000000 ≤ a ∧ a < 0x07080000 then .vault
  else if 0x08000000 ≤ a ∧ a < 0x08400000 then
    let n := (a - 0x08000000) / 0x40000
    let o := (a - 0x08000000) % 0x40000
    if o < 0x10000 then .iram n else if o < 0x20000 then .dram n
    else if o < 0x20800 then .ucode n else if 0x30000 ≤ o then .reg else .none
  else if inWindow a then .reg
  else .none

/-- Address of the model's bytes of Twin page p, granule g: the model's own numbering for parity marks and banks. -/
def twinAddr (p g : Nat) : Nat := 0x06000000 + 0x20000 * p + 8 * g

/-- Bank IDs that an access to an address uses (R124, R126): both banks of the quarter for the Twin windows. -/
def banksOf (a : Nat) : List Nat :=
  match region a with
  | .priv => [59]
  | .sram => [(a - 0x04000000) / 0x80000]
  | .image => let q := (a - 0x06000000) / 0x8000; [32 + q, 36 + q]
  | .shadow => let q := (a - 0x06020000) / 0x8000; [32 + q, 36 + q]
  | .vault => [40 + (a - 0x07000000) / 0x40000]
  | .iram n => [42 + n]
  | .dram n => [42 + n]
  | .ucode n => [42 + n]
  | _ => []

/-- A bank is accessible (R96, R98: SYS_BANK_RDY; bank 59 has no setting). -/
def bankReady (b : Nat) (d : Dev) : Bool := b = 59 || rb (A.sysBankRdy (b / 32)) (b % 32) d

/-- Every bank an address uses is accessible. -/
def banksReady (a : Nat) (d : Dev) : Bool := (banksOf a).all fun b => bankReady b d

/-- Is master m permitted to read (or write) at a region (R127, R144, R145)? `secure` is the Supervisor's secure mode;
during a wipe every Vault access is refused. Debug rights by life-cycle state are checked by the debug commands. -/
def permitted (m : Nat) (wr secure : Bool) (r : Region) (d : Dev) : Bool :=
  match r with
  | .rom => m = 0 && !wr
  | .priv => m = 0
  | .sram => m ≤ 17 || m = 19 || (20 ≤ m && m ≤ 23)
  | .image => m ≤ 18 || (m = 19 && !wr)
  | .shadow => m ≤ 18 || (m = 19 && !wr)
  | .vault => m = 0 && secure && !rb A.memVaultStat 0 d
  | .iram n => (m = 0 && (!wr || !(rb (A.peCtrl n) 0 d && committed d))) || (m = 19 && !wr)
  | .ucode n => (m = 0 && (!wr || !(rb (A.peCtrl n) 0 d && committed d))) || (m = 19 && !wr)
  | .dram _ => m ≤ 16 || m = 19 || m = 20
  | .reg => m ≤ 19
  | .none => false

/-- The shared SRAM bank of the item pool (R239: 16-31 act as 15). -/
def poolBank (d : Dev) : Nat := let b := rf A.schCtrl 15 11 d; if b < 16 then b else 15

/-- From commit, only Dispatch writes the pool bank; the Supervisor and debug may read it (R217). -/
def poolDenied (m : Nat) (wr : Bool) (a : Nat) (d : Dev) : Bool :=
  committed d && region a = .sram && (a - 0x04000000) / 0x80000 = poolBank d && m ≠ 20 && (wr || (m ≠ 0 && m ≠ 19))

/-- An engine's access to MBX_56-MBX_63 is refused (R240). -/
def mbxDenied (m a : Nat) : Bool := 1 ≤ m && m ≤ 16 && A.mbxData 56 ≤ a && a ≤ A.mbxData 63 + 3

/-- KIND of a failed access (R148): 0 MAP, 1 BANK_OFF, 2 VAULT_DENY; none where the access passes (R128, R542). -/
def accessFail (m : Nat) (wr secure : Bool) (a : Nat) (d : Dev) : Option Nat :=
  let r := region a
  if !permitted m wr secure r d || poolDenied m wr a d || mbxDenied m a then (if r = .vault then some 2 else some 0)
  else if !banksReady a d then some 1 else none

/-- Record a failed access (R131). -/
def accEvent (m kind : Nat) (w : Bool) (a : Nat) (d : Dev) : Dev :=
  d |> raise A.memAccStat kind
    |> wr A.memAccInfo (word (atBit m 27 + atBit kind 25 + atBit w.toNat 24))
    |> wr A.memAccAddr (word a)

/-- The canonical form of memory: addresses strictly rising, no byte listed that reads as an unlisted one. -/
def Memory.wf (m : List Host.Cell) : Bool := tabWf memDefault m

/-- A byte of memory by its address. -/
def memByte (a : Nat) (d : Dev) : Byte :=
  if a < 0x20000 then Config.romByte a else tabGet memDefault d.mem a

/-- n bytes of memory. -/
def memBytes (a n : Nat) (d : Dev) : List Byte := (List.range n).map fun i => memByte (a + i) d

/-- Write bytes to memory; a written byte's parity is computed anew (R132). -/
def memPut (a : Nat) (bs : List Byte) (d : Dev) : Dev :=
  { d with
    mem := (bs.zipIdx a).foldl (fun t p => tabSet memDefault t p.2 p.1) d.mem
    badPar := dropIf (fun x => a ≤ x && x < a + bs.length) d.badPar }

/-- Zero-fill addresses lo .. hi (R96, R145). -/
def memZero (lo hi : Nat) (d : Dev) : Dev :=
  { d with
    mem := d.mem.filter fun e => e.1 < lo ∨ hi < e.1
    badPar := dropIf (fun x => lo ≤ x && x ≤ hi) d.badPar }

/-- The memory addresses of bank b (R124); Twin banks in the model's numbering of `twinAddr`. -/
def bankRange (b : Nat) : Nat × Nat :=
  if b < 32 then (0x04000000 + 0x80000 * b, 0x04000000 + 0x80000 * b + 0x7FFFF)
  else if b < 40 then (0x06000000 + 0x8000 * (b - 32), 0x06000000 + 0x8000 * (b - 32) + 0x7FFF)
  else if b < 42 then (0x07000000 + 0x40000 * (b - 40), 0x07000000 + 0x40000 * (b - 40) + 0x3FFFF)
  else if b < 58 then (0x08000000 + 0x40000 * (b - 42), 0x08000000 + 0x40000 * (b - 42) + 0x207FF)
  else (0x01000000, 0x0107FFFF)

/-- The 32-byte row of a memory address in its bank, its PART and bank ID (R125, R148). -/
def parPlace (a : Nat) : Nat × Nat × Nat :=
  match region a with
  | .rom => (0x3F, 0, a / 32)
  | .priv => (59, 0, (a - 0x01000000) / 32)
  | .sram => ((a - 0x04000000) / 0x80000, 0, (a - 0x04000000) % 0x80000 / 32)
  | .image => (32 + (a - 0x06000000) / 0x8000, 0, (a - 0x06000000) % 0x8000 / 32)
  | .shadow => (36 + (a - 0x06020000) / 0x8000, 0, (a - 0x06020000) % 0x8000 / 32)
  | .vault => (40 + (a - 0x07000000) / 0x40000, 0, (a - 0x07000000) % 0x40000 / 32)
  | .iram n => (42 + n, 0, (a - 0x08000000) % 0x40000 / 32)
  | .dram n => (42 + n, 1, (a - 0x08010000) % 0x40000 / 32)
  | .ucode n => (42 + n, 2, (a - 0x08020000) % 0x40000 / 32)
  | _ => (0, 0, 0)

/-- A parity mismatch in a byte outside the switch buffer (R133): the first is logged, each counts, and it is a fault
with code 0x41. -/
def parityMismatch (scrub : Bool) (m a : Nat) (d : Dev) : Dev :=
  let p := parPlace a
  let d := if rb A.memParLog0 31 d then d else
    d |> wr A.memParLog0 (word (2 ^ 31 + atBit scrub.toNat 30 + atBit (p.1 % 64) 24 + atBit p.2.1 22 +
          atBit (p.2.2 % 2 ^ 14) 8 + a % 32))
      |> wf A.memParLog1 31 27 m
  d |> incrSat A.memParLog1 15 0 |> report 0x41 4 0 0

/-- The byte in the lowest lane of a range whose parity does not match (R132). A read that meets several such bytes counts
as one mismatch and logs this one: the spec names neither (DESIGN CHOICE, notes/assumptions/119.md). -/
def badIn (a n : Nat) (d : Dev) : Option Nat := (d.badPar.filter fun x => a ≤ x && x < a + n).min?

/-! ## Commands -/

/-- A command whose effect is a change of the device outside the fuse array. -/
def onDev (f : Dev → Dev) (s : State) : Host.Outcome State Fault Refusal := .next { s with dev := f s.dev }

/-- Do f where c holds: a command whose condition does not hold changes nothing (notes/assumptions/2.md). -/
def when (c : Bool) (f : Dev → Dev) (d : Dev) : Dev := if c then f d else d

end Sys2Proof.Machine
end

