-- ==== Sys2Proof/Machine/Operands.lean ====
section
/-! DEFINITION. Machine/Operands.lean: the registers of a context, register classes and pairs, ring addressing and the
delay slot (R149-R158, R162, R192, R202), and the contexts of the engines and of the Supervisor (R70, R150). -/

namespace Sys2Proof.Machine

/-! ## The register file of a context -/

/-- Data register i (R155). -/
def Ctx.dr (x : Ctx) (i : Nat) : Word := tabGet zeroDefault x.d i

/-- Address register i (R155). -/
def Ctx.ar (x : Ctx) (i : Nat) : Word := tabGet zeroDefault x.a i

/-- Write data register i. -/
def Ctx.setD (x : Ctx) (i : Nat) (v : Word) : Ctx := { x with d := tabSet zeroDefault x.d i v }

/-- Write address register i. -/
def Ctx.setA (x : Ctx) (i : Nat) (v : Word) : Ctx := { x with a := tabSet zeroDefault x.a i v }

/-- Write a list of address registers. -/
def Ctx.setAs (x : Ctx) (l : List (Nat × Word)) : Ctx := l.foldl (fun x p => x.setA p.1 p.2) x

/-- Accumulator n (R155). -/
def Ctx.ac (x : Ctx) (n : Nat) : Acc := if n = 0 then x.ac0 else x.ac1

/-- Write accumulator n. -/
def Ctx.setAc (x : Ctx) (n : Nat) (v : Acc) : Ctx := if n = 0 then { x with ac0 := v } else { x with ac1 := v }

/-- A register pair D(i+1):D(i) (R192). -/
def Ctx.pair (x : Ctx) (i : Nat) : DWord := BitVec.ofNat 64 ((x.dr (i + 1)).toNat * 2 ^ 32 + (x.dr i).toNat)

/-- SR.SYS (R158). -/
def Ctx.sys (x : Ctx) : Bool := bit x.sr 7

/-- SR.DET (R158). -/
def Ctx.det (x : Ctx) : Bool := bit x.sr 8

/-- A + change, on the ring that RING gives address register i (R156). -/
def Ctx.ringAdd (x : Ctx) (i : Nat) (change : Word) : Word :=
  let a := x.ar i
  let k := fld x.ring (4 * i + 3) (4 * i)
  if k = 0 ∨ k = 15 then a + change
  else
    let s := 2 ^ (k + 2)
    word (a.toNat / s * s + (a.toNat + change.toNat) % s)

/-- A sign-extended offset of n bits as a word. -/
def sext (n v : Nat) : Word := BitVec.ofInt 32 (signed n v)

/-- The address of an access and the base register's update (R202): indexed, or post-increment. -/
def Ctx.operand (x : Ctx) (ab : Nat) (post : Bool) (off : BitVec 11) : Word × List (Nat × Word) :=
  let o := sext 11 off.toNat
  if post then (x.ringAdd ab 0, [(ab, x.ringAdd ab o)]) else (x.ringAdd ab o, [])

/-- The next instruction after one that completed (R162): the branch target where this was a delay slot, with the
return from exception where the branch was RFE (R169). -/
def Ctx.advance (x : Ctx) : Ctx :=
  match x.slot with
  | some (t, _) =>
    if x.rfe then { x with pc := x.epc, slot := none, rfe := false,
                           sr := setBit (setBit x.sr 7 (bit x.esr 15)) 11 false }
    else { x with pc := word t, slot := none }
  | none => { x with pc := x.pc + 4 }

/-! ## Contexts and engines -/

/-- Key of context k of engine c in `Dev.ctxs`. -/
def ctxKey (c k : Nat) : Nat := 16 * c + k

/-- The Supervisor's one context (R70). -/
def supKey : Nat := 256

/-- A context with every register 0 (R151). -/
def ctxZero : Ctx :=
  ⟨.disabled, [], [], 0, 0, 0, 0, 0, 0, 0, 0, 0, 0, 0, 0, 0, none, false, .none, none, [], 0, false, 0⟩

/-- What an unlisted context reads as. -/
def ctxDefault (_ : Nat) : Ctx := ctxZero

/-- A context by its key. -/
def getCtx (key : Nat) (d : Dev) : Ctx := tabGet ctxDefault d.ctxs key

/-- Replace a context. -/
def putCtx (key : Nat) (x : Ctx) (d : Dev) : Dev := { d with ctxs := tabSet ctxDefault d.ctxs key x }

/-- Change a context. -/
def modCtx (key : Nat) (f : Ctx → Ctx) (d : Dev) : Dev := putCtx key (f (getCtx key d)) d

/-- What an unlisted engine reads as. -/
def coreDefault (_ : Nat) : Core := ⟨9, 0, 0, none, 0, 0, 0, 0, 0, 0⟩

/-- An engine by its number. -/
def getCore (c : Nat) (d : Dev) : Core := tabGet coreDefault d.cores c

/-- Change an engine. -/
def modCore (c : Nat) (f : Core → Core) (d : Dev) : Dev :=
  { d with cores := tabSet coreDefault d.cores c (f (getCore c d)) }

/-- Contexts of engine c, in order; the Supervisor has one (R70, R149). -/
def ctxKeys (c : Nat) : List Nat := if c = 16 then [supKey] else (List.range 10).map (ctxKey c)

/-- Master code of engine c (R101): 1 + n, or 0 for the Supervisor. -/
def coreMaster (c : Nat) : Nat := if c = 16 then 0 else c + 1

/-- Power is on and the core domain runs: the Supervisor executes (R70, R90). -/
def powered (d : Dev) : Bool := d.sys.mode = .startup || d.sys.mode = .service || d.sys.mode = .twilight

/-- The monitors run (R468): while the core domain has power, in the wake sequence from RETAIN as well, whose recovery sweep
is under way (R93, R470). -/
def monitored (d : Dev) : Bool := powered d || (d.sys.mode = .retain && rf A.almCrcStat 5 4 d = 3)

/-- A command that the core domain takes only while it is powered (R90, R91), such as a register write; elsewhere it
changes nothing (notes/assumptions/2.md). -/
def onPow (f : Dev → Dev) (s : State) : Host.Outcome State Fault Refusal := onDev (fun d => when (powered d) f d) s

/-- The state in effect (R481). -/
def lifeState (d : Dev) : Nat := rf A.secLc 31 29 d

/-- Has phase 5 completed (R49)? -/
def phase5Done (d : Dev) : Bool :=
  match d.boot.step with
  | .pll => false | .mbist => false | .lbist => false | .fuses => false | .escalated => false
  | _ => true

/-- Phase 5 has completed in a life-cycle state that starts (R49, R492). -/
def lifeKnown (d : Dev) : Bool := phase5Done d && lifeState d < 5

/-- DOZE (R91, R95). -/
def inDoze (d : Dev) : Bool := rf A.sysPwrStat 2 0 d = 1

/-- Units that run in service: after commit, outside Twilight and outside RETAIN and OFF. -/
def inService (d : Dev) : Bool := d.sys.mode = .service

/-- The RETAIN or OFF entry has put the PIO and CC outputs at their safe values (R92, step 2). -/
def outputsHeld (d : Dev) : Bool := match d.sys.trans with | some t => t.lastFlip | none => false

/-- Does engine c execute (R91, R462)? The Supervisor runs its firmware unless it runs the ROM's loop or responder. -/
def coreRuns (c : Nat) (d : Dev) : Bool :=
  if c = 16 then powered d && !d.sys.romLoop else inService d && !inDoze d && rb (A.peCtrl c) 0 d

/-- The RUNNING context of engine c (R150). -/
def running (c : Nat) (d : Dev) : Option Nat := (ctxKeys c).find? fun k => (getCtx k d).state = .running

/-- Key of the context woken by ITEM first (R152). -/
def firstWoken (keys : List Nat) (d : Dev) : Option Nat :=
  keys.foldl (fun best k =>
    match (getCtx k d).woken, best with
    | none, _ => best
    | some _, none => some k
    | some n, some b => if n < ((getCtx b d).woken.getD n) then some k else best) none

/-- The next context to run (R152): earliest ITEM wake first, else round robin after the context that issued last. -/
def pickReady (c : Nat) (d : Dev) : Option Nat :=
  let ready := (ctxKeys c).filter fun k => (getCtx k d).state = .ready
  match firstWoken ready d with
  | some k => some k
  | none =>
    if c = 16 then ready.head? else
      ((List.range 10).map fun i => ctxKey c (((getCore c d).last + 1 + i) % 10)).find? fun k => k ∈ ready

/-- Select a context where none is RUNNING (R152); its quantum starts (R154). -/
def schedule (c : Nat) (d : Dev) : Dev :=
  match running c d with
  | some _ => d
  | none =>
    match pickReady c d with
    | none => d
    | some k => d |> modCtx k (fun x => { x with state := .running, woken := none })
                  |> modCore c (fun e => { e with quantumStart := d.now })

/-- The running context blocks (R153) and the engine selects another; its PC and delay slot stay those of the
instruction, so that a late exception is precise. -/
def block (key : Nat) (x : Ctx) (w : Wait) (d : Dev) : Dev :=
  d |> putCtx key { x with state := .blocked, wait := w }
    |> schedule (key / 16)

/-- A wait ends (R150): the instruction's results stand in x and the context is READY. -/
def unblock (key : Nat) (x : Ctx) (d : Dev) : Dev :=
  d |> putCtx key { x.advance with state := .ready, wait := .none } |> schedule (key / 16)

/-- An instruction that completed at once: its results stand in x. -/
def retire (key : Nat) (x : Ctx) (d : Dev) : Dev := putCtx key x.advance d

/-- The divider becomes free: a context that waits for it starts its division (R164), the lowest first
(notes/assumptions/10.md). -/
def divNext (c : Nat) (d : Dev) : Dev :=
  let d := modCore c (fun e => { e with divBusy := none }) d
  let waits (k : Nat) : Bool := match (getCtx k d).wait with | .divider .. => true | _ => false
  match (ctxKeys c).find? waits with
  | none => d
  | some k =>
    match (getCtx k d).wait with
    | .divider rd q r sr =>
      d |> modCtx k (fun x => { x with wait := .division rd q r sr })
        |> modCore c (fun e => { e with divBusy := some k })
    | _ => d

/-! ## Events and interrupts -/

/-- A pending event (R172), or a Supervisor interrupt (R70): the bits are set, and a context that waits for one of them
in WFE ends its wait with the bits it waited for. -/
def pendEvent (key mask : Nat) (d : Dev) : Dev :=
  let x := getCtx key d
  let p := x.pend ||| mask
  match x.state, x.wait with
  | .blocked, .wfe rd m =>
    if p &&& m ≠ 0 then
      unblock key ({ x with pend := p ^^^ (p &&& m) }.setD rd (word (p &&& m))) d
    else putCtx key { x with pend := p } d
  | _, _ => putCtx key { x with pend := p } d

/-- The Supervisor's mailbox interrupt (R70). -/
def irqMailbox (d : Dev) : Dev := pendEvent supKey 2 d
/-- The Supervisor's trigger event (R70). -/
def irqTrigger (d : Dev) : Dev := pendEvent supKey 4 d
/-- Any other Supervisor interrupt (R70). -/
def irqOther (d : Dev) : Dev := pendEvent supKey 8 d

/-- A Supervisor interrupt where c holds. -/
def irqIf (c : Bool) (d : Dev) : Dev := if c then irqOther d else d

/-! ## Exceptions -/

/-- What exception entry records beside the cause (R168, R169). -/
structure Exc where
  cause : Nat
  ifetch : Bool := false
  wr : Bool := false
  sub : Nat := 0
  uop : Nat := 0
  ebad : Option Nat := none
  deriving DecidableEq, Repr

/-- ESR of an exception (R168). -/
def Exc.esr (e : Exc) (psys bd : Bool) : Word :=
  word (atBit e.sub 24 + atBit e.uop 20 + atBit psys.toNat 15 + atBit bd.toNat 14 + atBit e.ifetch.toNat 13 +
    atBit e.wr.toNat 12 + e.cause)

/-- The vector of a cause: CAUSE x 0x20, at 0x0100_0000 for the Supervisor (R70, R169). -/
def vector (c cause : Nat) : Nat := (if c = 16 then 0x01000000 else 0) + cause * 0x20

/-- Exception entry (R169): the faulting instruction stands at PC, in a delay slot where `slot` holds a branch. With
EXL = 1 it is a double fault: the context halts and the Supervisor is interrupted. -/
def takeExc (key : Nat) (e : Exc) (d : Dev) : Dev :=
  let c := key / 16
  let x := getCtx key d
  if bit x.sr 11 then
    let d := putCtx key { x with state := .halted, wait := .none, hold := false } d
    let d := if c = 16 then d else
      d |> raise (A.peStat c) 1 |> wf (A.peStat c) 15 12 (key % 16) |> wf (A.peStat c) 23 16 e.cause |> irqOther
    schedule c d
  else
    let bd := x.slot.isSome
    let epc : Word := match x.slot with | some (_, b) => word b | none => x.pc
    let x' := { x with
      epc := epc, esr := e.esr x.sys bd, ebad := match e.ebad with | some a => word a | none => x.ebad,
      sr := setBit (setBit x.sr 7 true) 11 true, pc := word (vector c e.cause), slot := none, rfe := false,
      wait := .none, state := if x.state = .blocked then .ready else x.state }
    let d := putCtx key x' d
    let d := if c = 16 then d else raise (A.peStat c) 2 d
    schedule c d

/-- Fetch checks (R161, R70): an engine fetches from its IRAM, the Supervisor from boot ROM gates and its private
memory. -/
def fetchBad (c : Nat) (x : Ctx) (d : Dev) : Bool :=
  if c = 16 then
    match region x.pc.toNat with
    | .priv => false
    | _ => true
  else 0x10000 ≤ x.pc.toNat || !bankReady (42 + c) d

/-- Address of the instruction word in the memory map. -/
def fetchAddr (c : Nat) (x : Ctx) : Nat := if c = 16 then x.pc.toNat else 0x08000000 + 0x40000 * c + x.pc.toNat

/-- The ROM gate at a Supervisor address (R483). -/
def romGate (pc : Nat) : Option Nat :=
  if 0x100 ≤ pc ∧ pc < 0x200 ∧ pc % 0x20 = 0 then some ((pc - 0x100) / 0x20) else none

/-- The gates 4-7 return at once with D4 = 1 (R483). -/
def reservedGate (d : Dev) : Dev :=
  let x := getCtx supKey d
  putCtx supKey { x.setD 4 1 with pc := x.lr } d

/-- KIND of a fetch that fails (R131, R148): BANK_OFF from the engine's own IRAM, else MAP. -/
def fetchKind (c : Nat) (x : Ctx) : Nat := if c ≠ 16 ∧ x.pc.toNat < 0x10000 then 1 else 0

/-- Issue an instruction from the RUNNING context of engine c (R150, R161): a fetch that fails is recorded (R131) and takes
its exception instead; at a ROM gate the ROM's own code runs (R483). The spec names no outcome for a PC that is not
word-aligned: the word at that very offset is fetched (DESIGN CHOICE, notes/assumptions/123.md). -/
def issue (c : Nat) (f : Nat → Ctx → Dev → Dev) (d : Dev) : Dev :=
  if !coreRuns c d then d else
  match running c d with
  | none => d
  | some key =>
    let x := getCtx key d
    let gate := if c = 16 then romGate x.pc.toNat else none
    match gate with
    | some g => if 4 ≤ g then reservedGate d else d
    | none =>
      let d := modCore c (fun e => { e with last := key % 16, issued := e.issued + 1 }) d
      if fetchBad c x d then
        d |> accEvent (coreMaster c) (fetchKind c x) false (fetchAddr c x)
          |> takeExc key { cause := 4, ifetch := true, ebad := some x.pc.toNat }
      else match badIn (fetchAddr c x) 4 d with
        | some b => d |> takeExc key { cause := 4, ifetch := true, ebad := some x.pc.toNat }
                      |> parityMismatch false (coreMaster c) b
        | none => f key x d

/-- The illegal-instruction exception (R194). -/
def illegal (key : Nat) (d : Dev) : Dev := takeExc key { cause := 1 } d

end Sys2Proof.Machine
end

