-- ==== Sys2Proof/Machine/Alu.lean ====
section
/-! DEFINITION. Machine/Alu.lean: the ALU, shift, bit-field, address-register and immediate groups (R195-R197, R200,
R201). Every meaning issues from the RUNNING context of engine c. -/

namespace Sys2Proof.Machine

/-- Write a result to Dd with its flags, or take the overflow exception in its place (R170). -/
def putRes (key : Nat) (rd : Nat) (x : Ctx) (r : Res) (d : Dev) : Dev :=
  if r.trap then takeExc key { cause := 7 } d else retire key ({ x with sr := r.sr }.setD rd r.val) d

/-- A two-operand instruction Dd := Ds op Dt. -/
def alu3 (op : Word → Word → Word → Res) (c rd rs rt : Nat) : Dev → Dev :=
  issue c fun key x d => putRes key rd x (op (x.dr rs) (x.dr rt) x.sr) d

/-- A one-operand instruction Dd := op Ds. -/
def alu2 (op : Word → Word → Res) (c rd rs : Nat) : Dev → Dev :=
  issue c fun key x d => putRes key rd x (op (x.dr rs) x.sr) d

/-- An instruction with an immediate operand, Dd := Ds op v. -/
def aluImm (op : Word → Word → Word → Res) (c rd rs : Nat) (v : Word) : Dev → Dev :=
  issue c fun key x d => putRes key rd x (op (x.dr rs) v x.sr) d

/-- A shift whose amount is Dt[7:0] (R184). -/
def shiftReg (op : Word → Nat → Word → Res) (c rd rs rt : Nat) : Dev → Dev :=
  alu3 (fun x y sr => op x (fld y 7 0) sr) c rd rs rt

/-- A shift whose amount is an immediate (R184). -/
def shiftImm (op : Word → Nat → Word → Res) (c rd rs a : Nat) : Dev → Dev :=
  alu2 (fun x sr => op x a sr) c rd rs

/-- A bit-field instruction with Dd as an operand (R177). -/
def field3 (op : Word → Word → Nat → Nat → Word → Res) (c rd rs : Nat) (posWidth : Ctx → Nat × Nat) : Dev → Dev :=
  issue c fun key x d =>
    putRes key rd x (op (x.dr rd) (x.dr rs) (posWidth x).1 (posWidth x).2 x.sr) d

/-- pos and width of the register forms (R197): Dt[4:0] and Dt[12:8] + 1. -/
def fieldReg (rt : Nat) (x : Ctx) : Nat × Nat := (fld (x.dr rt) 4 0, fld (x.dr rt) 12 8 + 1)

/-- ADD (R195). -/
def execAdd (c : Fin 17) (rd rs rt : Fin 16) (s : State) : Host.Outcome State Fault Refusal :=
  onDev (alu3 aluAdd c rd rs rt) s

/-- ADDS (R195). -/
def execAdds (c : Fin 17) (rd rs rt : Fin 16) (s : State) : Host.Outcome State Fault Refusal :=
  onDev (alu3 aluAdds c rd rs rt) s

/-- SUB (R195). -/
def execSub (c : Fin 17) (rd rs rt : Fin 16) (s : State) : Host.Outcome State Fault Refusal :=
  onDev (alu3 aluSub c rd rs rt) s

/-- SUBS (R195). -/
def execSubs (c : Fin 17) (rd rs rt : Fin 16) (s : State) : Host.Outcome State Fault Refusal :=
  onDev (alu3 aluSubs c rd rs rt) s

/-- AND (R195). -/
def execAndR (c : Fin 17) (rd rs rt : Fin 16) (s : State) : Host.Outcome State Fault Refusal :=
  onDev (alu3 aluAnd c rd rs rt) s

/-- OR (R195). -/
def execOrR (c : Fin 17) (rd rs rt : Fin 16) (s : State) : Host.Outcome State Fault Refusal :=
  onDev (alu3 aluOr c rd rs rt) s

/-- XOR (R195). -/
def execXorR (c : Fin 17) (rd rs rt : Fin 16) (s : State) : Host.Outcome State Fault Refusal :=
  onDev (alu3 aluXor c rd rs rt) s

/-- ANDN (R195). -/
def execAndn (c : Fin 17) (rd rs rt : Fin 16) (s : State) : Host.Outcome State Fault Refusal :=
  onDev (alu3 aluAndn c rd rs rt) s

/-- CMP (R195): flags of Ds - Dt; it never traps (R170). -/
def execCmp (c : Fin 17) (rs rt : Fin 16) (s : State) : Host.Outcome State Fault Refusal :=
  onDev (issue c fun key x d => retire key { x with sr := (aluSub (x.dr rs) (x.dr rt) x.sr).sr } d) s

/-- MOV (R195). -/
def execMov (c : Fin 17) (rd rs : Fin 16) (s : State) : Host.Outcome State Fault Refusal :=
  onDev (alu2 aluMov c rd rs) s

/-- NOT (R195). -/
def execNotR (c : Fin 17) (rd rs : Fin 16) (s : State) : Host.Outcome State Fault Refusal :=
  onDev (alu2 aluNot c rd rs) s

/-- NEG (R195). -/
def execNeg (c : Fin 17) (rd rs : Fin 16) (s : State) : Host.Outcome State Fault Refusal :=
  onDev (alu2 aluNeg c rd rs) s

/-- NEGS (R195). -/
def execNegs (c : Fin 17) (rd rs : Fin 16) (s : State) : Host.Outcome State Fault Refusal :=
  onDev (alu2 aluNegs c rd rs) s

/-- ABS (R195). -/
def execAbs (c : Fin 17) (rd rs : Fin 16) (s : State) : Host.Outcome State Fault Refusal :=
  onDev (alu2 aluAbs c rd rs) s

/-- ABSS (R195). -/
def execAbss (c : Fin 17) (rd rs : Fin 16) (s : State) : Host.Outcome State Fault Refusal :=
  onDev (alu2 aluAbss c rd rs) s

/-- LSL (R196). -/
def execLsl (c : Fin 17) (rd rs rt : Fin 16) (s : State) : Host.Outcome State Fault Refusal :=
  onDev (shiftReg shLsl c rd rs rt) s

/-- LSR (R196). -/
def execLsr (c : Fin 17) (rd rs rt : Fin 16) (s : State) : Host.Outcome State Fault Refusal :=
  onDev (shiftReg shLsr c rd rs rt) s

/-- ASR (R196). -/
def execAsr (c : Fin 17) (rd rs rt : Fin 16) (s : State) : Host.Outcome State Fault Refusal :=
  onDev (shiftReg shAsr c rd rs rt) s

/-- ROR (R196). -/
def execRor (c : Fin 17) (rd rs rt : Fin 16) (s : State) : Host.Outcome State Fault Refusal :=
  onDev (shiftReg shRor c rd rs rt) s

/-- ROL (R196). -/
def execRol (c : Fin 17) (rd rs rt : Fin 16) (s : State) : Host.Outcome State Fault Refusal :=
  onDev (shiftReg shRol c rd rs rt) s

/-- LSLI (R196). -/
def execLsli (c : Fin 17) (rd rs : Fin 16) (a : BitVec 5) (s : State) : Host.Outcome State Fault Refusal :=
  onDev (shiftImm shLsl c rd rs a.toNat) s

/-- LSRI (R196). -/
def execLsri (c : Fin 17) (rd rs : Fin 16) (a : BitVec 5) (s : State) : Host.Outcome State Fault Refusal :=
  onDev (shiftImm shLsr c rd rs a.toNat) s

/-- ASRI (R196). -/
def execAsri (c : Fin 17) (rd rs : Fin 16) (a : BitVec 5) (s : State) : Host.Outcome State Fault Refusal :=
  onDev (shiftImm shAsr c rd rs a.toNat) s

/-- RORI (R196). -/
def execRori (c : Fin 17) (rd rs : Fin 16) (a : BitVec 5) (s : State) : Host.Outcome State Fault Refusal :=
  onDev (shiftImm shRor c rd rs a.toNat) s

/-- ROLI (R196). -/
def execRoli (c : Fin 17) (rd rs : Fin 16) (a : BitVec 5) (s : State) : Host.Outcome State Fault Refusal :=
  onDev (shiftImm shRol c rd rs a.toNat) s

/-- BFI (R197). -/
def execBfi (c : Fin 17) (rd rs : Fin 16) (pos widthM1 : BitVec 5) (s : State) : Host.Outcome State Fault Refusal :=
  onDev (field3 bfInsert c rd rs (fun _ => (pos.toNat, widthM1.toNat + 1))) s

/-- BFXU (R197). -/
def execBfxu (c : Fin 17) (rd rs : Fin 16) (pos widthM1 : BitVec 5) (s : State) : Host.Outcome State Fault Refusal :=
  onDev (field3 (fun _ => bfExtU) c rd rs (fun _ => (pos.toNat, widthM1.toNat + 1))) s

/-- BFXS (R197). -/
def execBfxs (c : Fin 17) (rd rs : Fin 16) (pos widthM1 : BitVec 5) (s : State) : Host.Outcome State Fault Refusal :=
  onDev (field3 (fun _ => bfExtS) c rd rs (fun _ => (pos.toNat, widthM1.toNat + 1))) s

/-- BFIR (R197). -/
def execBfir (c : Fin 17) (rd rs rt : Fin 16) (s : State) : Host.Outcome State Fault Refusal :=
  onDev (field3 bfInsert c rd rs (fieldReg rt)) s

/-- BFXUR (R197). -/
def execBfxur (c : Fin 17) (rd rs rt : Fin 16) (s : State) : Host.Outcome State Fault Refusal :=
  onDev (field3 (fun _ => bfExtU) c rd rs (fieldReg rt)) s

/-- BFXSR (R197). -/
def execBfxsr (c : Fin 17) (rd rs rt : Fin 16) (s : State) : Host.Outcome State Fault Refusal :=
  onDev (field3 (fun _ => bfExtS) c rd rs (fieldReg rt)) s

/-- BSWAP (R197). -/
def execBswap (c : Fin 17) (rd rs : Fin 16) (s : State) : Host.Outcome State Fault Refusal :=
  onDev (alu2 (fun x sr => resLogic (byteSwap x) sr) c rd rs) s

/-- HSWAP (R197). -/
def execHswap (c : Fin 17) (rd rs : Fin 16) (s : State) : Host.Outcome State Fault Refusal :=
  onDev (alu2 (fun x sr => resLogic (halfSwap x) sr) c rd rs) s

/-- MOVA (R200). -/
def execMova (c : Fin 17) (an : Fin 8) (rs : Fin 16) (s : State) : Host.Outcome State Fault Refusal :=
  onDev (issue c fun key x d => retire key (x.setA an (x.dr rs)) d) s

/-- MOVD (R200). -/
def execMovd (c : Fin 17) (rd : Fin 16) (an : Fin 8) (s : State) : Host.Outcome State Fault Refusal :=
  onDev (issue c fun key x d => retire key (x.setD rd (x.ar an)) d) s

/-- ADDA (R200, R156). -/
def execAdda (c : Fin 17) (an : Fin 8) (rs : Fin 16) (s : State) : Host.Outcome State Fault Refusal :=
  onDev (issue c fun key x d => retire key (x.setA an (x.ringAdd an (x.dr rs))) d) s

/-- SUBA (R200, R156). -/
def execSuba (c : Fin 17) (an : Fin 8) (rs : Fin 16) (s : State) : Host.Outcome State Fault Refusal :=
  onDev (issue c fun key x d => retire key (x.setA an (x.ringAdd an (0 - x.dr rs))) d) s

/-- CMPA (R200). -/
def execCmpa (c : Fin 17) (an am : Fin 8) (s : State) : Host.Outcome State Fault Refusal :=
  onDev (issue c fun key x d => retire key { x with sr := (aluSub (x.ar an) (x.ar am) x.sr).sr } d) s

/-- ADDI (R201). -/
def execAddi (c : Fin 17) (rd rs : Fin 16) (imm : BitVec 16) (s : State) : Host.Outcome State Fault Refusal :=
  onDev (aluImm aluAdd c rd rs (sext 16 imm.toNat)) s

/-- ADDSI (R201). -/
def execAddsi (c : Fin 17) (rd rs : Fin 16) (imm : BitVec 16) (s : State) : Host.Outcome State Fault Refusal :=
  onDev (aluImm aluAdds c rd rs (sext 16 imm.toNat)) s

/-- ANDI (R201). -/
def execAndi (c : Fin 17) (rd rs : Fin 16) (imm : BitVec 16) (s : State) : Host.Outcome State Fault Refusal :=
  onDev (aluImm aluAnd c rd rs (word imm.toNat)) s

/-- ORI (R201). -/
def execOri (c : Fin 17) (rd rs : Fin 16) (imm : BitVec 16) (s : State) : Host.Outcome State Fault Refusal :=
  onDev (aluImm aluOr c rd rs (word imm.toNat)) s

/-- XORI (R201). -/
def execXori (c : Fin 17) (rd rs : Fin 16) (imm : BitVec 16) (s : State) : Host.Outcome State Fault Refusal :=
  onDev (aluImm aluXor c rd rs (word imm.toNat)) s

/-- CMPI (R201). -/
def execCmpi (c : Fin 17) (rs : Fin 16) (imm : BitVec 16) (s : State) : Host.Outcome State Fault Refusal :=
  onDev (issue c fun key x d => retire key { x with sr := (aluSub (x.dr rs) (sext 16 imm.toNat) x.sr).sr } d) s

/-- MOVI (R201). -/
def execMovi (c : Fin 17) (rd : Fin 16) (imm : BitVec 16) (s : State) : Host.Outcome State Fault Refusal :=
  onDev (issue c fun key x d => putRes key rd x (aluMov (sext 16 imm.toNat) x.sr) d) s

/-- MOVHI (R201). -/
def execMovhi (c : Fin 17) (rd : Fin 16) (imm : BitVec 16) (s : State) : Host.Outcome State Fault Refusal :=
  onDev (issue c fun key x d => putRes key rd x (aluMov (word (imm.toNat * 65536)) x.sr) d) s

/-- ADDAI (R201, R156). -/
def execAddai (c : Fin 17) (an : Fin 8) (imm : BitVec 16) (s : State) : Host.Outcome State Fault Refusal :=
  onDev (issue c fun key x d => retire key (x.setA an (x.ringAdd an (sext 16 imm.toNat))) d) s

end Sys2Proof.Machine
end

