-- ==== Sys2Proof/Machine/Image.lean ====
section
/-! DEFINITION. Machine/Image.lean: the process image in Twin: the copies of a granule, the producer rules and the reads
of both windows (R17-R29, R126, R143, R166). -/

namespace Sys2Proof.Machine

/-- What an unlisted granule copy reads as: the zero fill of the memory self-test (R47). -/
def granDefault (_ : Nat) : DWord := 0

/-- The copy of granule g on page p (R126). -/
def pageGran (p g : Nat) (d : Dev) : DWord := tabGet granDefault d.img.pages (16384 * p + g)

/-- Store the copy of granule g on page p; the bytes of the mask are written and get new parity (R132). -/
def setPageGran (p g : Nat) (mask : BitVec 8) (v : DWord) (d : Dev) : Dev :=
  let a := twinAddr p g
  { d with
    img := { d.img with pages := tabSet granDefault d.img.pages (16384 * p + g) v }
    badPar := dropIf (fun x => a ≤ x && x < a + 8 && mask.getLsbD (x - a)) d.badPar }

/-- The page of granule g's committed copy: its select bit (R17). -/
def selPage (g : Nat) (d : Dev) : Nat := (d.img.sel.getLsbD g).toNat

/-- The committed copy (R18). -/
def committedGran (g : Nat) (d : Dev) : DWord := pageGran (selPage g d) g d

/-- The open copy (R18). -/
def openGran (g : Nat) (d : Dev) : DWord := pageGran (1 - selPage g d) g d

/-- The producer entry of granule g (R24). -/
def producer (g : Nat) (d : Dev) : Word := tabGet zeroDefault d.tabs g

/-- KIND of a producer entry; reserved kinds act as 0x0 (R25). -/
def prodKind (e : Word) : Nat := if fld e 31 28 < 8 then fld e 31 28 else 0

/-- The bytes of v where the mask has a bit, else those of old (R20). -/
def mergeBytes (mask : BitVec 8) (old v : DWord) : DWord :=
  let m := BitVec.ofNat 64 (leNat ((List.range 8).map fun i => if mask.getLsbD i then (0xFF : Byte) else 0))
  (old &&& ~~~m) ||| (v &&& m)

/-- A non-producer write (R27): discarded, flagged in MEM_IMG_STAT and in the cycle's header. -/
def nonProducer (d : Dev) : Dev :=
  { d with img := { d.img with npw := true } } |> raise A.memImgStat 1 |> irqIf (rb A.memImgCtrl 1 d)

/-- A late write (R28): discarded and counted as a deadline miss of the cycle in which it arrives. -/
def lateWrite (d : Dev) : Dev :=
  { d with img := { d.img with late := true, lateCnt := d.img.lateCnt + 1 } }
    |> raise A.memImgStat 2 |> irqIf (rb A.memImgCtrl 2 d)

/-- The bytes of the committed copy that the first write of a cycle by master m does not write (R20): their parity is checked
at this read (R132); where it fails, the read answers 0 like every failed read of a unit (R130; DEDUCED,
notes/assumptions/127.md). -/
def fillGran (m g : Nat) (mask : BitVec 8) (d : Dev) : DWord × Dev :=
  let a := twinAddr (selPage g d) g
  match (List.range 8).find? fun i => !mask.getLsbD i && (badIn (a + i) 1 d).isSome with
  | some i => (0, parityMismatch false m (a + i) d)
  | none => (committedGran g d, d)

/-- A write of master m to the open copy of granule g (R18, R20): the first of a cycle is filled from the committed copy. -/
def openWrite (m g : Nat) (mask : BitVec 8) (v : DWord) (d : Dev) : Dev :=
  let p := 1 - selPage g d
  let d := if d.img.written.getLsbD g then setPageGran p g mask (mergeBytes mask (openGran g d) v) d
    else
      let f := fillGran m g mask d
      setPageGran p g 0xFF (mergeBytes mask f.1 v) f.2
  { d with img := { d.img with written := d.img.written ||| (1#16384 <<< g) } }

/-- An image write by a party (kind, index); none for a party that is never a producer (R27). The producer check comes
first, with the parity of the producer entry (R116), then the tag (R28). `m` is the writing master's code, `det` is false for
an engine context with SR.DET = 0 (R166). -/
def imgWrite (m : Nat) (party : Option (Nat × Nat)) (g : Nat) (mask : BitVec 8) (v : DWord) (tag : Word) (det : Bool)
    (d : Dev) : Dev :=
  let e := producer g d
  let k := prodKind e
  let d := useTab 4 A.memImgIndData g 0 g d
  if k = 0 ∨ k = 7 ∨ party ≠ some (k, fld e 27 16) then nonProducer d
  else if tag ≠ rd A.memImgCycle d then lateWrite d
  else
    let d := openWrite m g mask v d
    if det then d else { d with img := { d.img with nondet := true } }

/-- Bytes written to the image window at an address, granule by granule (R18, R179). -/
def imgWriteBytes (m : Nat) (party : Option (Nat × Nat)) (a : Nat) (bs : List Byte) (tag : Word) (det : Bool) (d : Dev) : Dev :=
  let o := a - 0x06000000
  (List.range ((o % 8 + bs.length + 7) / 8)).foldl (fun d i =>
    let g := o / 8 + i
    let inIt (j : Nat) : Bool := o ≤ 8 * g + j && 8 * g + j < o + bs.length
    let bytes := (List.range 8).map fun j => if inIt j then bs.getD (8 * g + j - o) 0 else 0
    imgWrite m party g (BitVec.ofNat 8 (maskOf 8 inIt)) (BitVec.ofNat 64 (leNat bytes)) tag det d) d

/-- Bytes of a granule-organised window, from a function that gives each granule. -/
def granBytes (gran : Nat → DWord) (o n : Nat) : List Byte :=
  (List.range n).map fun i => BitVec.ofNat 8 ((gran ((o + i) / 8)).toNat >>> (8 * ((o + i) % 8)))

/-- n bytes at an address of the memory map outside the register window (R18, R124). -/
def readBytes (a n : Nat) (d : Dev) : List Byte :=
  match region a with
  | .image => granBytes (fun g => committedGran g d) (a - 0x06000000) n
  | .shadow => granBytes (fun g => openGran g d) (a - 0x06020000) n
  | _ => memBytes a n d

/-- The first byte with bad parity among the bytes read, in the numbering of `Dev.badPar` (R132). -/
def badRead (a n : Nat) (d : Dev) : Option Nat :=
  let twin (base : Nat) (page : Nat → Nat) : Option Nat := (List.range n).findSome? fun i =>
    let o := a - base + i
    badIn (twinAddr (page (o / 8)) (o / 8) + o % 8) 1 d
  match region a with
  | .image => twin 0x06000000 fun g => selPage g d
  | .shadow => twin 0x06020000 fun g => 1 - selPage g d
  | _ => badIn a n d

/-- A granule read by a hardware unit through port B: its committed copy, 0 with a parity mismatch reported where it
fails, 0 where its quarter is not accessible (R97, R126, R130, R133). The mark says that the read succeeded. -/
def portBRead (m g : Nat) (d : Dev) : DWord × Bool × Dev :=
  let a := 0x06000000 + 8 * g
  if !banksReady a d then (0, false, accEvent m 1 false a d)
  else match badRead a 8 d with
    | some b => (0, false, parityMismatch false m b d)
    | none => (committedGran g d, true, d)

/-- A granule write by a hardware unit through port B (R27, R28); a quarter that is not accessible discards it. -/
def portBWrite (m kind idx g : Nat) (v : DWord) (tag : Word) (d : Dev) : Dev :=
  let a := 0x06000000 + 8 * g
  if !banksReady a d then accEvent m 1 true a d else imgWrite m (some (kind, idx)) g 0xFF v tag true d

/-- Bytes written at an address outside the register window and the image window (R128: the rest are discarded). -/
def putBytes (a : Nat) (bs : List Byte) (d : Dev) : Dev :=
  match region a with
  | .shadow => nonProducer d
  | .image => imgWriteBytes 0 none a bs 0 true d
  | _ => memPut a bs d

/-- Turning a Twin bank off clears both vectors (R126). -/
def twinVectorsClear (d : Dev) : Dev := { d with img := { d.img with sel := 0, written := 0 } }

end Sys2Proof.Machine
end

