-- ==== Sys2Proof/Machine/Access.lean ====
section
/-! DEFINITION. Machine/Access.lean: the access of a master to the memory map: the checks at issue and their exceptions (R103,
R127-R131, R165, R167, R542), and the order of one engine's accesses at one place (R104, R137, R160). -/

namespace Sys2Proof.Machine

/-! ## The checks at issue (R167, R542) -/

/-- The key of context k of engine c; the Supervisor has one context. -/
def keyOf (c k : Nat) : Nat := if c = 16 then supKey else ctxKey c k

/-- An address in the register window outside the MBX block, or in an engine register block (R165, R167). -/
def guardedReg (a : Nat) : Bool := (inWindow a && decide ((a - 0x10000000) / 0x10000 ≠ 5)) || inPeRegs a

/-- A register address (R99, R100). -/
def isReg (a : Nat) : Bool := inWindow a || inPeRegs a

/-- Memory an instruction of engine c reaches through its own port: its data RAM (R160), the Supervisor's private memory
and the boot ROM (R138). -/
def ownMemory (c a : Nat) : Bool :=
  match region a with
  | .dram n => n = c
  | .priv => c = 16
  | .rom => c = 16
  | _ => false

/-- The exception that an access of n bytes takes at issue, by priority (R167): CAUSE and, for a bus error, its KIND. -/
def accessFault (c n a : Nat) (wr : Bool) (x : Ctx) (d : Dev) : Option (Nat × Option Nat) :=
  if !x.sys && guardedReg a then some (5, none)
  else if !wr && x.det && guardedReg a then some (9, none)
  else if a % n ≠ 0 || (isReg a && n ≠ 4) then some (3, none)
  else (accessFail (coreMaster c) wr false a d).map fun k => (4, some k)

/-- The exception of a failed access (R130, R131, R169). -/
def accessExc (key c a : Nat) (wr : Bool) (e : Nat × Option Nat) (d : Dev) : Dev :=
  let d := match e.2 with
    | some k => accEvent (coreMaster c) k wr a d
    | none => d
  takeExc key { cause := e.1, wr := wr, ebad := some a } d

/-- A read by engine c that found a parity mismatch (R130, R133, R167): the exception first, then the reaction. -/
def parityExc (key c a bad : Nat) (d : Dev) : Dev :=
  d |> takeExc key { cause := 4, ebad := some a } |> parityMismatch false (coreMaster c) bad

/-- The engine of a master code; the Supervisor counts as engine 16 (R101). -/
def masterCore (m : Nat) : Nat := if m = 0 then 16 else m - 1

/-- A word access at a that master m makes by a command (R103, R127, R167, R542). An engine's or the Supervisor's is checked at
issue like a load or store of its context `ctx`, where the command names one, or else of its RUNNING context: an access that
fails takes its exception, in the context that runs, and goes no further. With no context at hand the map and the rights
decide (R128; notes/assumptions/126.md). -/
def byMaster (m : Nat) (ctx : Option Nat) (wr : Bool) (a : Nat) (f : Dev → Dev) (d : Dev) : Dev :=
  if 16 < m then f d
  else
    let c := masterCore m
    match (ctx.map (keyOf c)).or (running c d) with
    | none => match accessFail m wr false a d with
      | some k => accEvent m k wr a d
      | none => f d
    | some key =>
      match accessFault c 4 a wr (getCtx key d) d with
      | none => f d
      | some e => when (running c d = some key) (accessExc key c a wr e) d

/-! ## The order of accesses (R104, R137, R160) -/

/-- The place that orders one master's accesses: the registers together (R104), a shared SRAM bank, a Twin quarter or an
engine's data RAM (R137). -/
def orderPlace (a : Nat) : Nat := if isReg a then 1000 else (banksOf a).headD 999

/-- The outstanding accesses of a context, with their places in the engine's issue order: its stores, a store that waits for
room (R160), and the load or block move it is blocked on. -/
def Ctx.outstanding (x : Ctx) : List (Nat × Nat) :=
  x.stores.map (fun st => (st.addr, st.seq)) ++
    match x.wait with
    | .storeRoom st _ => [(st.addr, st.seq)]
    | .load _ _ _ a _ seq => [(a, seq)]
    | .block _ sh _ seq => [(sh, seq)]
    | _ => []

/-- A post that has reached Dispatch and waits for its place there (R218): the access has taken effect. -/
def postWaits (key seq : Nat) (d : Dev) : Bool := d.dsp.waiting.any fun it => it.link = key * 2 ^ 32 + seq + 1

/-- An access of engine c to the place of a, issued before `seq`, is still outstanding. -/
def earlierAccess (c a seq : Nat) (d : Dev) : Bool :=
  (ctxKeys c).any fun key => (getCtx key d).outstanding.any fun p =>
    decide (p.2 < seq) && decide (orderPlace p.1 = orderPlace a) && !(p.1 = A.schPost && postWaits key p.2 d)

/-- The next place in engine c's issue order is taken. -/
def takeSeq (c : Nat) (d : Dev) : Dev := modCore c (fun e => { e with storeSeq := e.storeSeq + 1 }) d

end Sys2Proof.Machine
end

