-- ==== Sys2Proof/Machine/Sources.lean ====
section
/-! DEFINITION. Machine/Sources.lean: what the source of a work item hears: its entry into the arrival queue (R218), a
drop, and the return of its buffer when it is finished, dropped or freed (R228, R352, R377, R404); the buffer rings of
the Ethernet receive queues and of the engine ports (R349, R377); FULL of a mailbox and the interrupts to the hosts. -/

namespace Sys2Proof.Machine

/-! ## Buffer rings -/

/-- The control word of ring r: ETH_RXQ_q of port p for r = 16p + q, SWC_EP_n for r = 160 + n. -/
def ringCtl (r : Nat) : Nat := if r < 160 then A.ethRxq (r / 16) (r % 16) 0 else A.swcEp (r - 160) 0
/-- The word of ring r that shows FREE and HWM. -/
def ringLvl (r : Nat) : Nat := if r < 160 then A.ethRxq (r / 16) (r % 16) 8 else A.swcEp (r - 160) 12
/-- EN of a ring. -/
def ringEn (r : Nat) (d : Dev) : Bool := rb (ringCtl r) 31 d
/-- COUNT of a ring: 0 stands for 4,096 (R357). -/
def ringCount (r : Nat) (d : Dev) : Nat := let c := rf (ringCtl r) 24 13 d; if c = 0 then 4096 else c
/-- Buffer size in bytes: BUFSZ of 0 and 38-63 acts as 37 (R357). -/
def ringSize (r : Nat) (d : Dev) : Nat :=
  let z := rf (ringCtl r) 30 25 d
  256 * (if 1 ≤ z ∧ z ≤ 37 then z else 37)
/-- BASE of a ring. -/
def ringBase (r : Nat) (d : Dev) : Nat := (rd (ringCtl r + 4) d).toNat

/-- A ring of which no buffer has been used. -/
def ringDefault (_ : Nat) : Ring := ⟨0, [], false⟩
/-- Ring r. -/
def getRing (r : Nat) (d : Dev) : Ring := tabGet ringDefault d.rings r
/-- Free buffers of ring r. -/
def ringFree (r : Nat) (d : Dev) : Nat := ringCount r d - (getRing r d).fresh + (getRing r d).back.length

/-- FREE and HWM (R357, R381). -/
def showRing (r : Nat) (d : Dev) : Dev :=
  let n := ringFree r d
  let used := ringCount r d - n
  d |> wf (ringLvl r) 28 16 n |> when (rf (ringLvl r) 15 0 d < used) (wf (ringLvl r) 15 0 used)

/-- Replace ring r. -/
def putRing (r : Nat) (x : Ring) (d : Dev) : Dev := { d with rings := tabSet ringDefault d.rings r x } |> showRing r

/-- Take a free buffer (R349): in ascending index first, then in the order in which buffers came back. -/
def takeBuf (r : Nat) (d : Dev) : Option (Nat × Dev) :=
  let x := getRing r d
  if x.fresh < ringCount r d then some (x.fresh, putRing r { x with fresh := x.fresh + 1 } d)
  else match x.back with
    | [] => none
    | i :: rest => some (i, putRing r { x with back := rest } d)

/-- Buffer i comes back. -/
def giveBuf (r i : Nat) (d : Dev) : Dev := putRing r { getRing r d with back := (getRing r d).back ++ [i] } d

/-- Address of buffer i (R349). -/
def bufAddr (r i : Nat) (d : Dev) : Nat := ringBase r d + i * ringSize r d

/-- The ring that an item's buffer belongs to. -/
def itemRing (it : Item) : Option Nat :=
  if it.src0 = 1 then some (16 * (it.arg / 256 % 16) + it.arg % 16)
  else if it.src0 = 10 then some (160 + it.arg % 4)
  else none

/-! ## CAN objects and catch-all entries (R401, R403) -/

/-- An object or catch-all entry that holds nothing. -/
def canObjDefault (_ : Nat) : CanObj := ⟨0, [], ⟨0, 0, 0, 0⟩⟩
/-- A controller at reset. -/
def canDefault (_ : Nat) : Can := ⟨false, false, [], [], ⟨0, 0, 0, 0⟩, [], 0, 0, 0, 0⟩
/-- Controller n. -/
def getCan (n : Nat) (d : Dev) : Can := tabGet canDefault d.cans n
/-- Change controller n. -/
def modCan (n : Nat) (f : Can → Can) (d : Dev) : Dev := { d with cans := tabSet canDefault d.cans n (f (getCan n d)) }
/-- Object o of controller n. -/
def getObj (n o : Nat) (d : Dev) : CanObj := tabGet canObjDefault d.canObjs (256 * n + o)
/-- Replace object o of controller n. -/
def putObj (n o : Nat) (x : CanObj) (d : Dev) : Dev := { d with canObjs := tabSet canObjDefault d.canObjs (256 * n + o) x }

/-- CAN_CA_HEAD (R404, R406): with CA_POST = 1 only the count. -/
def showCa (n : Nat) (d : Dev) : Dev :=
  let l := (getCan n d).ca
  wr (A.canCaHead n) (word ((if rb (A.canCaCfg n) 30 d then 0 else atBit (l.head?.getD 0) 8) + l.length)) d

/-- A catch-all entry is free again (R404). -/
def freeCa (n e : Nat) (d : Dev) : Dev := d |> modCan n (fun c => { c with ca := dropIf (· = e) c.ca }) |> showCa n

/-! ## Mailboxes and host interrupts (R240-R243, R505, R506) -/

/-- MSI-X vector v is raised (R505): a message, or the pending bit while the vector or the function is masked. -/
def msixRaise (v : Nat) (d : Dev) : Dev :=
  if rb (A.msixTable v 12) 0 d || d.hst.fnMask then wb (A.msixPba 0) v true d
  else if rb A.hstPcieStat 0 d then { d with out := d.out ++ [.msix v] } else d

/-- FULL of mailbox n (R251). -/
def mbxFullBit (n : Nat) (d : Dev) : Bool := rb (A.mbxFull (n / 32)) (n % 32) d

/-- The receiver of mailbox n (R240, R251); reserved codes act as 0. -/
def mbxRecv (n : Nat) (d : Dev) : Nat :=
  let r := rf (A.mbxCfg n) 10 6 d
  if 56 ≤ n then (if r = 17 ∨ r = 18 then r else 0) else if r ≤ 18 then r else 0

/-- May master m send to mailbox n (R240, R251)? -/
def mbxMaySend (m n : Nat) (d : Dev) : Bool :=
  let s := rf (A.mbxCfg n) 15 11 d
  if 56 ≤ n then m = (if s = 17 ∨ s = 18 then s else 0)
  else if s = 31 then true else m = (if s ≤ 18 then s else 0)

/-- POST of mailbox n, honoured for 48-55 (R243, R251). -/
def mbxPosts (n : Nat) (d : Dev) : Bool := 48 ≤ n && n ≤ 55 && rb (A.mbxCfg n) 31 d

/-- The mailbox bits of HST_INT_PEND follow FULL (R506, R516). -/
def syncIntPend (d : Dev) : Dev :=
  d |> wf A.hstIntPend 7 0 (maskOf 8 fun i => mbxFullBit (40 + i) d)
    |> wf A.hstIntPend 15 8 (maskOf 8 fun i => mbxFullBit (56 + i) d && decide (mbxRecv (56 + i) d = 18))

/-- Set or clear FULL (R241). -/
def setFull (n : Nat) (b : Bool) (d : Dev) : Dev := d |> wb (A.mbxFull (n / 32)) (n % 32) b |> syncIntPend

/-- The empty interrupt to the last writer of mailbox n (R241, R251, R505, R506). -/
def emptyInterrupt (n : Nat) (d : Dev) : Dev :=
  if !rb (A.mbxCfg n) 29 d then d
  else
    let w := (tabGet zeroDefault d.mbxLast n).toNat
    if w = 0 then irqMailbox d else if w = 17 then msixRaise 16 d
    else if w = 18 then raise A.hstIntPend 16 d else d

/-! ## What a source hears -/

/-- The source's buffer is free again (R228, R352, R377): the item was finished, dropped or freed as an orphan. -/
def returnBuf (it : Item) (d : Dev) : Dev :=
  match itemRing it with
  | none => if it.src0 = 3 ∧ it.arg.testBit 13 then freeCa (it.arg / 16384 % 4) (it.arg % 64) d else d
  | some r => giveBuf r ((it.buf.toNat - ringBase r d) / ringSize r d) d

/-- Dispatch drops an item (R352: RX_QDROP of the port). -/
def dropNotice (it : Item) (d : Dev) : Dev :=
  if it.src0 = 1 then incr (A.ethCnt (it.arg / 256 % 16) 0x2C) 31 0 d else d

/-- An outstanding store of a context has completed (R160): a sixth store that waited for it is issued. -/
def storeLanded (key seq : Nat) (d : Dev) : Dev :=
  let x := getCtx key d
  let x := { x with stores := dropIf (fun st => st.seq = seq) x.stores }
  match x.state, x.wait with
  | .blocked, .storeRoom st post =>
    if x.stores.length < 5 then unblock key ({ x with stores := x.stores ++ [st] }.setAs post) d else putCtx key x d
  | _, _ => putCtx key x d

/-- The item entered the arrival queue (R218): a posting store completes, a POST mailbox clears FULL like a read (R241, R243), a
receive object clears NEW (R402). -/
def itemTaken (it : Item) (d : Dev) : Dev :=
  if it.src = 8 then d |> setFull it.arg false |> emptyInterrupt it.arg
  else if it.src = 0 ∧ it.link ≠ 0 then storeLanded (it.link / 2 ^ 32) (it.link % 2 ^ 32 - 1) d
  else if it.src = 3 ∧ !it.arg.testBit 13 then
    let n := it.arg / 16384 % 4
    let x := getObj n (it.arg % 256) d
    putObj n (it.arg % 256) { x with status := setBit x.status 31 false } d
  else d

end Sys2Proof.Machine
end

