-- ==== Sys2Proof/Machine/Flows.lean ====
section
/-! DEFINITION. Machine/Flows.lean: Dispatch's shared operations: flows and their entries (R219), the arrival queue
(R218), readiness, drops and the trace (R219, R230, R236), selection (R220-R222), the slot and the descriptor (R225,
R226), release and revocation (R229-R233). -/

namespace Sys2Proof.Machine

/-! ## Flow entries -/

/-- Word w of flow f's entry (R219); MAXPAR is 1 at reset. -/
def flowDefault (i : Nat) : Word := if i % 4 = 2 then 1 else 0

/-- Words 0-2 of flow f (R219). -/
def flowWord (f w : Nat) (d : Dev) : Word :=
  match tabFind d.tabs (tabKey 17 (4 * f + w)) with
  | some v => v
  | none => flowDefault w

/-- EN of a flow. -/
def flowEn (f : Nat) (d : Dev) : Bool := bit (flowWord f 0 d) 31
/-- TYPE of a flow: 0 atomic, 1 ordered, 2 parallel; 3 acts as 0. -/
def flowType (f : Nat) (d : Dev) : Nat := let t := fld (flowWord f 0 d) 30 29; if t = 3 then 0 else t
/-- CYCLIC of a flow. -/
def flowCyclic (f : Nat) (d : Dev) : Bool := bit (flowWord f 0 d) 28
/-- TRACE of a flow. -/
def flowTrace (f : Nat) (d : Dev) : Bool := bit (flowWord f 0 d) 27
/-- PRIO of a flow. -/
def flowPrio (f : Nat) (d : Dev) : Nat := fld (flowWord f 0 d) 26 24
/-- SUBMIT of a flow; reserved values act as 0. -/
def flowSubmit (f : Nat) (d : Dev) : Nat := let t := fld (flowWord f 0 d) 23 20; if t ≤ 4 then t else 0
/-- GROUP of a flow. -/
def flowGroup (f : Nat) (d : Dev) : Nat := fld (flowWord f 0 d) 15 0
/-- TMO of a flow, in CORE cycles. -/
def flowTmo (f : Nat) (d : Dev) : Nat := 40 * fld (flowWord f 1 d) 31 16
/-- QMAX of a flow: 0 stands for 4,096. -/
def flowQmax (f : Nat) (d : Dev) : Nat := let q := fld (flowWord f 1 d) 11 0; if q = 0 then 4096 else q
/-- MAXPAR of a flow: 0 acts as 1. -/
def flowMaxpar (f : Nat) (d : Dev) : Nat := let q := fld (flowWord f 2 d) 5 0; if q = 0 then 1 else q

/-- WAITING of a flow (R219). -/
def flowWaiting (f : Nat) (d : Dev) : Nat := (d.dsp.ready.filter fun i => i.flow = f).length
/-- INSVC of a flow (R219). -/
def flowInsvc (f : Nat) (d : Dev) : Nat := (d.dsp.insvc.filter fun i => i.item.flow = f).length
/-- DROPS of a flow (R219). -/
def flowDrops (f : Nat) (d : Dev) : Nat := (tabGet zeroDefault d.dsp.drops f).toNat

/-- Word 3 of a flow's entry (R219). -/
def flowStatus (f : Nat) (d : Dev) : Word :=
  word (atBit (flowWaiting f d) 19 + atBit (flowInsvc f d % 64) 13 + flowDrops f d)

/-! ## Small operations -/

/-- Change Dispatch's state. -/
def modDsp (f : Dsp → Dsp) (d : Dev) : Dev := { d with dsp := f d.dsp }

/-- Dispatch runs (R234, R239): after commit with EN = 1, in service. -/
def dspOn (d : Dev) : Bool := inService d && committed d && rb A.schCtrl 0 d

/-- The next event of Dispatch. -/
def dspTick (d : Dev) : Dev := modDsp (fun q => { q with seq := q.seq + 1 }) d

/-- The pool's address of an entry (R217). -/
def poolAddr (e : Nat) (d : Dev) : Nat := 0x04000000 + 0x80000 * poolBank d + 128 * e

/-- Free pool entries and the fewest since reset (R239). -/
def poolLevel (d : Dev) : Dev :=
  let n := 4096 - d.dsp.used.length
  d |> wf A.schPoolLvl 12 0 n |> when (n < rf A.schPoolLvl 28 16 d) (wf A.schPoolLvl 28 16 n)

/-- Free a pool entry. -/
def poolFree (e : Nat) (d : Dev) : Dev := d |> modDsp (fun q => { q with used := dropIf (· = e) q.used }) |> poolLevel

/-- The entry of an item is freed, where it has one (R217, R231). -/
def freeEntry (it : Item) (d : Dev) : Dev := if it.token then d else poolFree it.entry d

/-! ## The decision trace -/

/-- Append a trace record (R236, R237): dropped when the ring is full; a failed write clears EN. -/
def traceRecord (evt : Nat) (it : Item) (ctx : Nat) (wait : Nat) (d : Dev) : Dev :=
  if !(rb A.schTraceCtrl 31 d && rb A.schTraceCtrl (evt - 1) d && flowTrace it.flow d) then d
  else
    let size := let z := rf A.schTraceCtrl 7 4 d; 256 * 2 ^ (if z < 8 then z else 7)
    let wp := rf A.schTraceWp 15 0 d % size
    let next := (wp + 1) % size
    if next = rf A.schTraceRp 15 0 d % size then
      d |> incrSat A.schTraceLost 15 0 |> raise A.schStat 6
    else
      let a := (rd A.schTraceBase d).toNat + 16 * wp
      match accessFail 23 true false a d with
      | some k => d |> accEvent 23 k true a |> wb A.schTraceCtrl 31 false |> raise A.schStat 7
      | none =>
        let w0 := leBytes 4 (tbNs 0 d).toNat
        let w1 := leBytes 4 (atBit evt 28 + (if it.token then 0 else atBit it.entry 16) + it.flow)
        let w2 := leBytes 4 (atBit ctx 24 + atBit (flowPrio it.flow d) 21)
        let w3 := leBytes 4 (min wait 0xFFFFFFFF)
        d |> memPut a (w0 ++ w1 ++ w2 ++ w3) |> wr A.schTraceWp (word next)

/-! ## Drops, readiness and arrival -/

/-- DROPS and DROP for a flow (R219). -/
def countDrop (f : Nat) (d : Dev) : Dev :=
  d |> modDsp (fun q => { q with drops := tabSet zeroDefault q.drops f (word (satInc 8191 (flowDrops f d))) })
    |> raise A.schStat 1

/-- An item is dropped (R218, R219): counted, traced, and its source gets its buffer back. -/
def dropItem (it : Item) (d : Dev) : Dev :=
  d |> countDrop it.flow |> traceRecord 4 it 0xFF 0 |> dropNotice it |> returnBuf it

/-- Does an item exceed its flow's QMAX, or name a disabled flow (R219, R235)? Boundary items are exempt from QMAX. -/
def dropsAt (it : Item) (d : Dev) : Bool :=
  !flowEn it.flow d || (!it.token && decide (flowQmax it.flow d < flowWaiting it.flow d + 1))

/-- Place an item among the ready ones, in order of readiness. -/
def insertReady (it : Item) : List Item → List Item
  | [] => [it]
  | x :: xs => if it.rank < x.rank then it :: x :: xs else x :: insertReady it xs

/-- The number that the next item of a flow to become ready takes (R220). -/
def nextFseq (f : Nat) (d : Dev) : Nat := tabGet zeroNat d.dsp.fseq f

/-- An item becomes ready in CORE cycle `at_` (R218, R220): it takes the flow's next FSEQ. -/
def makeReady (at_ : Nat) (it : Item) (d : Dev) : Dev :=
  let n := nextFseq it.flow d
  let it := { it with fseq := n, ready := at_, rank := d.dsp.seq }
  modDsp (fun q => { q with
    ready := insertReady it q.ready
    fseq := tabSet zeroNat q.fseq it.flow (n + 1) }) d

/-- Put an item back with its ready time and FSEQ (R232, R233). -/
def restoreReady (it : Item) (d : Dev) : Dev := modDsp (fun q => { q with ready := insertReady it q.ready }) d

/-- A new item: the cycle open now, TB_0 at its boundary and at the event (R216, R226). -/
def newItem (src flow arg : Nat) (head : List Byte) (len : Nat) (buf : Word) (d : Dev) : Item :=
  { src := src, flow := flow, icyc := rd A.memImgCycle d, bts := d.img.openTb, fseq := 0,
    epoch := (tbGet 0 d).epoch, arg := arg, token := false, entry := 0, hops := 0, headLen := min head.length 64,
    len := len, buf := buf, ts := tbNs 0 d, head := head.take 64, ready := 0, rank := 0, src0 := src, link := 0 }

/-- A source offers an item to the arrival queue (R218): it enters where there is room and no source waits, else its
source waits. With EN = 0 it is dropped at once (R544). Outside service no item is taken (R234). -/
def offerItem (it : Item) (d : Dev) : Dev :=
  if inService d && !rb A.schCtrl 0 d then d |> dropItem it |> itemTaken it
  else if d.dsp.arrival.length < 16 ∧ d.dsp.waiting = [] ∧ inService d then
    d |> modDsp (fun q => { q with arrival := q.arrival ++ [it] }) |> itemTaken it
  else modDsp (fun q => { q with waiting := q.waiting ++ [it] }) d

/-- The longest-waiting source's item enters the arrival queue (R218); with EN = 0 it is dropped (R544). -/
def admitWaiting (d : Dev) : Dev :=
  match d.dsp.waiting with
  | [] => d
  | it :: rest =>
    if inService d && !rb A.schCtrl 0 d then
      d |> modDsp (fun q => { q with waiting := rest }) |> dropItem it |> itemTaken it
    else if d.dsp.arrival.length < 16 ∧ inService d then
      d |> modDsp (fun q => { q with arrival := q.arrival ++ [it], waiting := rest }) |> itemTaken it
    else d

/-! ## Descriptor and slot -/

/-- The descriptor (R226), 32 bytes. -/
def descriptor (it : Item) (d : Dev) : List Byte :=
  let w0 := atBit it.src 28 + atBit (fld (flowWord it.flow 0 d) 30 29) 26 + atBit (flowPrio it.flow d) 23 +
    atBit it.hops 19 + it.flow
  let w2 := atBit (it.fseq % 65536) 16 + it.epoch % 65536
  let w3 := atBit (it.arg % 65536) 16 + atBit it.token.toNat 15 + (if it.token then 0 else it.entry)
  let w4 := atBit it.headLen 16 + it.len % 65536
  [w0, it.icyc.toNat, w2, w3, w4, it.buf.toNat, it.ts.toNat % 2 ^ 32, it.ts.toNat / 2 ^ 32].flatMap (leBytes 4)

/-- Descriptor word 0 (R226, R227). -/
def descWord0 (it : Item) (d : Dev) : Word := word (leNat ((descriptor it d).take 4))

/-- The head bytes of an item, 0 up to 64 bytes (R225). -/
def headBytes (it : Item) : List Byte := slice it.head 0 64

/-- Dispatch writes an item's pool entry (R217): descriptor, head, and 0 in the last row. -/
def writePool (it : Item) (d : Dev) : Dev :=
  let a := poolAddr it.entry d
  if banksReady a d then memPut a (descriptor it d ++ headBytes it ++ List.replicate 32 0) d
  else accEvent 20 1 true a d

/-- The local slot of a context (R225). -/
def slotAddr (c k : Nat) : Nat := 0x0801FB00 + 0x40000 * c + 0x80 * k

/-- Dispatch reads a row of the pool; one that fails reads 0 (R125, R130). -/
def poolRow (a : Nat) (d : Dev) : List Byte × Dev :=
  if !banksReady a d then (List.replicate 32 0, accEvent 20 1 false a d)
  else match badIn a 32 d with
    | some b => (List.replicate 32 0, parityMismatch false 20 b d)
    | none => (memBytes a 32 d, d)

/-- What goes into a context's slot (R225): the descriptor, the head, and 0 in the rest of the 96 bytes. An item with no head
takes one row of the pool, another three, a boundary item none (R223). -/
def slotBytes (it : Item) (d : Dev) : List Byte × Dev :=
  if it.token then (slice (descriptor it d) 0 96, d)
  else
    let a := poolAddr it.entry d
    let r0 := poolRow a d
    if it.headLen = 0 then (slice r0.1 0 96, r0.2)
    else
      let r1 := poolRow (a + 32) r0.2
      let r2 := poolRow (a + 64) r1.2
      (slice (r0.1 ++ (r1.1 ++ r2.1).take it.headLen) 0 96, r2.2)

/-- Dispatch writes the context's slot (R225); where the engine's bank is not accessible, the write is discarded (R130). -/
def writeSlot (c k : Nat) (it : Item) (d : Dev) : Dev :=
  let s := slotBytes it d
  if banksReady (slotAddr c k) s.2 then memPut (slotAddr c k) s.1 s.2 else accEvent 20 1 true (slotAddr c k) s.2

/-! ## Selection -/

/-- Is a ready item eligible (R220)? -/
def eligible (it : Item) (d : Dev) : Bool :=
  if flowType it.flow d = 0 then
    flowInsvc it.flow d = 0 && (d.dsp.ready.all fun x => x.flow ≠ it.flow || it.fseq ≤ x.fseq)
  else flowInsvc it.flow d < flowMaxpar it.flow d

/-- Rank of eligible items (R221): priority, then ready cycle, then boundary items first, flow number and FSEQ. -/
def ranksBefore (x y : Item) (d : Dev) : Bool :=
  let px := flowPrio x.flow d
  let py := flowPrio y.flow d
  if px ≠ py then py < px
  else if x.ready ≠ y.ready then x.ready < y.ready
  else if x.token ≠ y.token then x.token
  else if x.flow ≠ y.flow then x.flow < y.flow
  else x.fseq < y.fseq

/-- The item a context holds (R222, R227). -/
def heldItem (c k : Nat) (d : Dev) : Option InSvc :=
  d.dsp.insvc.find? fun i => i.core = c && i.ctx = k && i.state = .serving

/-- Is a context free (R222)? After a DONE it is from the next CORE cycle on. -/
def ctxFree (c k : Nat) (d : Dev) : Bool :=
  let st := (getCtx (ctxKey c k) d).state
  bit (rd (A.schCtxEn c) d) k && rb (A.peCtrl c) 0 d && st ≠ .disabled && st ≠ .halted && (heldItem c k d).isNone &&
    decide ((getCtx (ctxKey c k) d).freeSince ≤ d.now)

/-- The free contexts of engine c. -/
def freeCtxs (c : Nat) (d : Dev) : List Nat := (List.range 10).filter fun k => ctxFree c k d

/-- The engine of a GROUP with the most free contexts, ties to the lower number (R222). -/
def pickEngine (group : Nat) (d : Dev) : Option Nat :=
  (List.range 16).foldl (fun best c =>
    let n := (freeCtxs c d).length
    if !group.testBit c || n = 0 then best
    else match best with
      | none => some c
      | some b => if (freeCtxs b d).length < n then some c else best) none

/-- The context free longest, ties to the lower number (R222). -/
def pickCtx (c : Nat) (d : Dev) : Option Nat :=
  (freeCtxs c d).foldl (fun best k =>
    match best with
    | none => some k
    | some b =>
      if (getCtx (ctxKey c k) d).freeSince < (getCtx (ctxKey c b) d).freeSince then some k else best) none

/-- The highest-ranked eligible item whose GROUP holds a free context (R222). -/
def pickItem (d : Dev) : Option Item :=
  (d.dsp.ready.filter fun it => eligible it d && (pickEngine (flowGroup it.flow d) d).isSome).foldl
    (fun best it => match best with
      | none => some it
      | some b => if ranksBefore it b d then some it else best) none

/-- Eligible items whose GROUP includes engine c (R238). -/
def depthOf (c : Nat) (d : Dev) : Nat :=
  (d.dsp.ready.filter fun it => (flowGroup it.flow d).testBit c && eligible it d).length

/-- Record the largest DEPTH of the window for every engine (R238). -/
def trackDepth (d : Dev) : Dev :=
  (List.range 16).foldl (fun d c =>
    let n := depthOf c d
    if (getCore c d).maxDepth < n then modCore c (fun e => { e with maxDepth := n }) d else d) d

/-! ## Contexts: start and reset -/

/-- Start values of a context of engine c (R151): those of SR come from PE_CTRL; the Supervisor starts with DET = 0
(R70). The stores that it has issued go on (R154); one that still waited for room ends with that wait (the spec does not say
whether it counts as issued: DESIGN CHOICE, notes/assumptions/121.md). -/
def startCtx (c : Nat) (st : CtxState) (d : Dev) (x : Ctx) : Ctx :=
  let p := if c = 16 then 0 else rd (A.peCtrl c) d
  let sr := setBit (setBit (setBit (setBit 0 7 true) 8 (bit p 2)) 9 (bit p 3)) 10 (bit p 4)
  { ctxZero with state := st, sr := sr, stores := x.stores, freeSince := d.now }

/-- The divider loses a reset context's division (R154); a context that waits for it starts (R164). -/
def divReset (key : Nat) (d : Dev) : Dev :=
  let c := key / 16
  if (getCore c d).divBusy = some key then divNext c d else d

/-- A context reset (R154): every wait, load and division ends; the context restarts at PC 0x0000. -/
def resetCtx (key : Nat) (st : CtxState) (d : Dev) : Dev :=
  d |> divReset key |> dspTick |> fun d => modCtx key (startCtx (key / 16) st d) d

/-! ## Orphans and revocation -/

/-- Queue an orphan (R233): with the queue full its entry is freed and ORPH_LOST set; a boundary orphan of a flow that
has one is discarded. -/
def queueOrphan (reason c k : Nat) (it : Item) (d : Dev) : Dev :=
  if it.token && d.dsp.orphaned.any (fun x => x.token && x.flow = it.flow) then
    d |> countDrop it.flow |> traceRecord 4 it 0xFF 0 |> raise A.schStat 4
  else if d.dsp.orphans.length = 64 then d |> freeEntry it |> returnBuf it |> raise A.schStat 4
  else
    d |> modDsp (fun q => { q with
          orphans := q.orphans ++ [⟨reason, c, k, it.token, if it.token then it.flow else it.entry⟩]
          orphaned := q.orphaned ++ [it] })
      |> raise A.schStat 3 |> irqOther

/-- A boundary item becomes its flow's pending one (R231, R233): an older requeued one is discarded. -/
def requeueToken (it : Item) (d : Dev) : Dev :=
  if d.dsp.ready.any (fun x => x.token && x.flow = it.flow) then dropItem it d else restoreReady it d

/-- Requeue an item (R232, R233): QMAX is checked again, and a dropped orphan's entry is freed (R219). -/
def requeueItem (it : Item) (d : Dev) : Dev :=
  if it.token then requeueToken it d
  else if flowQmax it.flow d < flowWaiting it.flow d + 1 then d |> freeEntry it |> dropItem it
  else restoreReady it d

/-- An item that the context ended by DONE in this CORE cycle (R121, R232). -/
def justDone (c k : Nat) (d : Dev) : Option InSvc :=
  d.dsp.insvc.find? fun i => i.core = c && i.ctx = k && i.state ≠ .serving && i.state ≠ .revoked && i.ended = d.now

/-- Revoke the item a context holds (R232): the context is reset by the caller; a taken item is orphaned, another
requeued; the item stays in service until the context's stores complete. A revocation that meets a DONE of its cycle
loses (R121). In Twilight Dispatch stands still (R234). -/
def revokeHeld (reason c k : Nat) (d : Dev) : Dev :=
  if !inService d then d
  else match heldItem c k d with
  | none => raiseIf (justDone c k d).isSome A.schStat 5 d
  | some i =>
    let bound := (getCore c d).storeSeq
    let d := modDsp (fun q => { q with insvc := q.insvc.map fun x =>
      if x = i then { x with state := .revoked, bound := bound } else x }) d
    let d := traceRecord 3 i.item (16 * c + k) (d.now - i.assigned) d
    let d := if i.taken then queueOrphan reason c k i.item d else requeueItem i.item d
    trackDepth d

/-- Have the stores that a context issued before `bound` completed (R229, R232)? -/
def storesDone (c k bound : Nat) (d : Dev) : Bool := (getCtx (ctxKey c k) d).stores.all fun st => bound ≤ st.seq

/-! ## Forwarding and release -/

/-- A forward (R230): HOPS of 15 or a disabled target drops it; a boundary item takes the pool entry `entry`. -/
def forwardItem (it : Item) (target entry : Nat) (d : Dev) : Dev :=
  let full := it.token && d.dsp.used.length = 4096
  let it' := { it with src := 9, flow := target, hops := it.hops + 1, token := false,
                       entry := if it.token then entry else it.entry,
                       headLen := if it.token then 0 else it.headLen }
  if it.hops = 15 || !flowEn target d then
    d |> freeEntry it |> countDrop target |> traceRecord 4 { it with flow := target } 0xFF 0 |> dropNotice it |> returnBuf it
  else if full then
    d |> raise A.schStat 2 |> countDrop target |> traceRecord 4 { it with flow := target } 0xFF 0
  else
    let d := if it.token then d |> modDsp (fun q => { q with used := entry :: q.used }) |> poolLevel else d
    if flowQmax target d < flowWaiting target d + 1 then
      d |> freeEntry it' |> countDrop target |> traceRecord 4 it' 0xFF 0 |> dropNotice it |> returnBuf it
    else d |> makeReady d.now it' |> writePool { it' with fseq := nextFseq target d }

/-- Is a release held back by an earlier item of an ordered flow (R229)? -/
def heldByOrder (i : InSvc) (d : Dev) : Bool :=
  flowType i.item.flow d = 1 &&
    ((d.dsp.insvc.any fun x => x.item.flow = i.item.flow && decide (x.item.fseq < i.item.fseq) && x.state ≠ .revoked) ||
     (d.dsp.ready.any fun x => x.flow = i.item.flow && decide (x.fseq < i.item.fseq)))

end Sys2Proof.Machine
end

