-- ==== Sys2Proof/Machine/NetTime.lean ====
section
/-! DEFINITION. Machine/NetTime.lean: the time bases and their adjustment (R252-R259), time-stamp records and the
transmit time-stamp queues (R260, R262, R276-R278), and the target of a compare trigger (R267-R270). -/

namespace Sys2Proof.Machine

/-! ## Time bases -/

/-- The role of the device in its rack as strapped (R46): 0 standalone, 1 worker, 2 manager. -/
def role (d : Dev) : Nat := rf A.sysStrap 5 4 d

/-- 2.5 ns in units of 2^-32 ns (R253). -/
def tickUnit : Int := 10737418240

/-- A time base moved by an amount in units of 2^-32 ns, with carry and borrow into seconds modulo 2^48 (R253, R258). -/
def TimeBase.add (t : TimeBase) (u : Int) : TimeBase :=
  let x : Int := ((t.ns * 2 ^ 32 + t.frac : Nat) : Int) + u
  let n : Int := x / 4294967296
  { t with
    frac := (x % 4294967296).toNat
    ns := (n % 1000000000).toNat
    sec := (((t.sec : Int) + n / 1000000000) % 281474976710656).toNat }

/-- RATE of TB_j; a value outside the range acts as the nearer limit (R256). -/
def rateOf (j : Nat) (d : Dev) : Int := max (-10737418) (min 10737418 (rd (A.ntmTb j 0x10) d).toInt)

/-- SHIFT of TB_j; reserved values act as 11 (R257, R280); Meridian slews a worker's TB_0 at SHIFT 10 (R314). -/
def slewShift (j : Nat) (d : Dev) : Nat :=
  let s := rf (A.ntmTb j 0x1C) 4 0 d
  if j = 0 ∧ role d = 1 then 10 else if 10 ≤ s ∧ s ≤ 20 then s else 11

/-- What a slew adds in one CORE cycle (R257): 2.5 x 2^(32 - SHIFT) units, in the last cycle only what remains. -/
def slewStep (shift : Nat) (rem : Int) : Int :=
  let m : Int := (5 * 2 ^ (31 - shift) : Nat)
  if 0 ≤ rem then min rem m else max rem (-m)

/-- SLEW_REM shows the remaining amount in whole ns, rounded toward 0 (R280). -/
def showSlew (j : Nat) (d : Dev) : Dev :=
  wr (A.ntmTb j 0x18) (BitVec.ofInt 32 ((tbGet j d).slew.tdiv 4294967296)) d

/-- The addend of TB_j in a CORE cycle (R253), in units of 2^-32 ns. -/
def tbAddend (j : Nat) (d : Dev) : Int := tickUnit + rateOf j d + slewStep (slewShift j d) (tbGet j d).slew

/-- One CORE cycle of TB_j (R253). -/
def tbTick (j : Nat) (d : Dev) : Dev :=
  if !d.ntm.counting then d
  else
    let t := tbGet j d
    let s := slewStep (slewShift j d) t.slew
    d |> tbPut j { t.add (tbAddend j d) with slew := t.slew - s } |> showSlew j

/-- Is an adjustment of TB_j by firmware denied (R255)? -/
def adjDenied (j : Nat) (d : Dev) : Bool := j = 0 && role d = 1

/-- A slew of TB_j by an amount in ns (R257): it replaces a slew in progress; 0 ends it. -/
def startSlew (j : Nat) (amount : Int) (d : Dev) : Dev :=
  d |> tbPut j { tbGet j d with slew := amount * 4294967296 }
    |> wb (A.ntmTb j 0x38) 0 (decide (amount ≠ 0)) |> showSlew j

/-- NTM_TBn_SLEW (R255, R257). -/
def writeSlew (m j : Nat) (v : Word) (d : Dev) : Dev :=
  if adjDenied j d then raise (A.ntmTb j 0x38) 3 d
  else d |> storeReg m (A.ntmTb j 0x14) v |> startSlew j v.toInt

/-- NTM_TBn_RATE (R255, R256): a value outside the range is stored and sets RSVD_ENC. -/
def writeRate (m j : Nat) (v : Word) (d : Dev) : Dev :=
  if adjDenied j d then raise (A.ntmTb j 0x38) 3 d
  else
    let a := A.ntmTb j 0x10
    d |> storeReg m a v |> errIf (decide (v.toInt < -10737418 ∨ 10737418 < v.toInt)) (A.block 7) m errRsvd a

/-- The step command latched with its operands (R258, R280): SET_NS of 1,000,000,000 and above acts as 999,999,999. -/
def stepCmd (j op : Nat) (d : Dev) : StepCmd :=
  let r (o : Nat) : Nat := (rd (A.ntmTb j o) d).toNat
  { op := op
    sec := (r 0x28 % 65536) * 2 ^ 32 + r 0x24
    ns := min (r 0x20 % 2 ^ 30) 999999999
    ofs := signed 64 (r 0x30 * 2 ^ 32 + r 0x2C)
    due := d.now + 4 }

/-- NTM_TBn_CMD (R255, R258): with the key and OP 0b01 or 0b10 a step is latched for CORE cycle w + 4. -/
def writeTbCmd (m j : Nat) (v : Word) (d : Dev) : Dev :=
  if fld v 31 16 ≠ 0x0D5E then d
  else if adjDenied j d then raise (A.ntmTb j 0x38) 3 d
  else
    let d := storeReg m (A.ntmTb j 0x34) v d
    let op := fld v 1 0
    if op ≠ 1 ∧ op ≠ 2 then d
    else
      let t := tbGet j d
      tbPut j { t with step := t.step ++ [stepCmd j op d] } d

/-- The value of a time base after a step (R258): the fraction is kept and the epoch counts every step. -/
def TimeBase.stepped (t : TimeBase) (c : StepCmd) : TimeBase :=
  let v := if c.op = 1 then { t with sec := c.sec, ns := c.ns } else t.add (c.ofs * 4294967296)
  { v with epoch := (t.epoch + 1) % 65536, slew := 0 }

/-- A step of TB_j takes effect (R258): it ends a slew without SLEW_DONE and sets STEP. -/
def stepTb (j : Nat) (t : TimeBase) (d : Dev) : Dev :=
  { d with ntm := { d.ntm with steps := d.ntm.steps ++ [⟨j, d.now, { tbGet j d with slew := 0, step := [] }⟩] } }
    |> tbPut j t |> wb (A.ntmTb j 0x38) 0 false |> showSlew j |> raise (A.ntmTb j 0x38) 1

/-- The snapshot registers of TB_j take its value (R259). -/
def snapTb (j : Nat) (d : Dev) : Dev :=
  let t := tbGet j d
  d |> wr (A.ntmTb j 0) (word t.ns) |> wr (A.ntmTb j 4) (word t.sec)
    |> wr (A.ntmTb j 8) (word (atBit t.epoch 16 + t.sec / 2 ^ 32)) |> wr (A.ntmTb j 12) (word t.frac)

/-- NTM_SNAP (R259): CAP copies all four time bases at once. -/
def writeSnap (m : Nat) (v : Word) (d : Dev) : Dev :=
  d |> storeReg m A.ntmSnap v |> when (bit v 0) (fun d => (List.range 4).foldl (fun d j => snapTb j d) d)

/-- SLEW_START (R257): a write of NTM_TBn_SLEW. -/
def execSlewStart (m : Fin 20) (j : Fin 4) (v : Word) (s : State) : Host.Outcome State Fault Refusal :=
  onPow (writeSlew m j v) s

/-- SLEW_DONE (R257): the slew in progress has consumed its amount. -/
def execSlewDone (j : Fin 4) (s : State) : Host.Outcome State Fault Refusal :=
  onDev (fun d => when (rb (A.ntmTb j 0x38) 0 d && decide ((tbGet j d).slew = 0))
    (fun d => d |> wb (A.ntmTb j 0x38) 0 false |> raise (A.ntmTb j 0x38) 2) d) s

/-- STEP_TO_SET (R258): NTM_TBn_CMD with the key and OP 0b01. -/
def execStepToSet (m : Fin 20) (j : Fin 4) (s : State) : Host.Outcome State Fault Refusal :=
  onPow (writeTbCmd m j 0x0D5E0001) s

/-- STEP_BY_OFFSET (R258): NTM_TBn_CMD with the key and OP 0b10. -/
def execStepByOffset (m : Fin 20) (j : Fin 4) (s : State) : Host.Outcome State Fault Refusal :=
  onPow (writeTbCmd m j 0x0D5E0002) s

/-- CAP (R259): a write of NTM_SNAP. -/
def execCap (m : Fin 20) (v : Word) (s : State) : Host.Outcome State Fault Refusal := onPow (writeSnap m v) s

/-! ## Time stamps -/

/-- A time-stamp record (R260) of a base's value. -/
def stampOf (j tag : Nat) (t : TimeBase) : Stamp :=
  { w0 := word (atBit (tag % 65536) 16 + t.epoch)
    w1 := word (atBit j 30 + t.ns)
    w2 := word t.sec
    w3 := word (atBit (t.frac / 2 ^ 24) 24 + 2 ^ 23 + t.sec / 2 ^ 32) }

/-- The value of TB_j at an instant n / k of a CORE cycle after the value of this cycle (R254, R261); n may be negative. A
step between the instant and now did not reach it yet, and one in its own CORE cycle did (R279). The base's present speed
stands for the time between (notes/assumptions/128.md). -/
def tbAt (j : Nat) (n : Int) (k : Nat) (d : Dev) : TimeBase :=
  match d.ntm.steps.find? fun x => x.base = j && decide (((d.now : Int) + n / (k : Int)) < (x.at_ : Int)) with
  | some x => x.before.add ((n + ((d.now : Int) - (x.at_ : Int)) * (k : Int)) * tbAddend j d / (k : Int))
  | none => (tbGet j d).add (n * tbAddend j d / (k : Int))

/-- A stamp of base j taken `ofs` units of 2^-8 ns after the value of this cycle (R254, R261). -/
def stampAt (j tag : Nat) (ofs : Int) (d : Dev) : Stamp := stampOf j tag (tbAt j ofs 640 d)

/-- The record of a frame that was discarded before its start (R260, R276). -/
def stampDisc (j tag : Nat) (d : Dev) : Stamp :=
  { w0 := word (atBit (tag % 65536) 16 + (tbGet j d).epoch), w1 := word (atBit j 30), w2 := 0, w3 := 0x00C00000 }

/-- No time stamp. -/
def stampZero : Stamp := ⟨0, 0, 0, 0⟩

/-- The 16 bytes of a time-stamp record (R260). -/
def Stamp.bytes (x : Stamp) : List Byte := [x.w0, x.w1, x.w2, x.w3].flatMap fun w => leBytes 4 w.toNat

/-- Word i of a record. -/
def Stamp.wordAt (x : Stamp) (i : Nat) : Word := if i = 0 then x.w0 else if i = 1 then x.w1 else if i = 2 then x.w2 else x.w3

/-- The base of ETH_p's stamps and launch times (R280). -/
def ethBase (p : Nat) (d : Dev) : Nat := rf A.ntmTsSel (2 * p + 1) (2 * p) d
/-- The base of CAN_n's stamps (R280). -/
def canBase (n : Nat) (d : Dev) : Nat := rf A.ntmTsSel (2 * n + 21) (2 * n + 20) d
/-- The base of PIO event stamps (R280). -/
def pioBase (d : Dev) : Nat := rf A.ntmTsSel 29 28 d

/-- The time-stamp queue of port p (R276). -/
def tsqOf (p : Nat) (d : Dev) : List Stamp := tabGet (fun _ => []) d.ntm.tsq p

/-- Replace a time-stamp queue; COUNT shows its length (R280). -/
def tsqPut (p : Nat) (l : List Stamp) (d : Dev) : Dev :=
  { d with ntm := { d.ntm with tsq := tabSet (fun _ => []) d.ntm.tsq p l } } |> wf (A.ntmPtp p 0x18) 12 7 l.length

/-- A record enters port p's queue; with 32 records there it is lost (R276, R278). -/
def tsqPush (p : Nat) (x : Stamp) (d : Dev) : Dev :=
  if (tsqOf p d).length < 32 then tsqPut p (tsqOf p d ++ [x]) d
  else d |> raise (A.ntmPtp p 0x18) 0 |> incr (A.ntmPtp p 0x1C) 15 0

/-- The latch of port p (R277). -/
def tsqLatch (p : Nat) (d : Dev) : Stamp := tabGet (fun _ => stampZero) d.ntm.latch p

/-- A read of TSQ_Wi of port p (R277); a debug read changes nothing (R105). -/
def tsqRead (m p i : Nat) (d : Dev) : Word × Dev :=
  if i = 0 then
    let x := (tsqOf p d).head?.getD stampZero
    if m = 19 then (x.w0, d)
    else (x.w0, { d with ntm := { d.ntm with latch := tabSet (fun _ => stampZero) d.ntm.latch p x } })
  else
    let x := tsqLatch p d
    (x.wordAt i, if i = 3 ∧ m ≠ 19 ∧ bit x.w3 23 then tsqPut p (tsqOf p d).tail d else d)

/-- TSQ_READ_HEAD (R277): a read of TSQ_W0. -/
def execTsqReadHead (m : Fin 20) (p : Fin 10) (s : State) : Host.Outcome State Fault Refusal :=
  onPow (fun d => let r := tsqRead m p 0 d; giveRead m r.1 r.2) s

/-- TSQ_READ_LAST (R277): a read of TSQ_W3. -/
def execTsqReadLast (m : Fin 20) (p : Fin 10) (s : State) : Host.Outcome State Fault Refusal :=
  onPow (fun d => let r := tsqRead m p 3 d; giveRead m r.1 r.2) s

/-! ## Compare triggers: target and configuration -/

/-- What an unlisted trigger reads as. -/
def trigDefault (_ : Nat) : Trig := ⟨0, false, false, 0⟩

/-- Trigger k beyond its registers. -/
def getTrig (k : Nat) (d : Dev) : Trig := tabGet trigDefault d.ntm.trig k

/-- Replace trigger k. -/
def putTrig (k : Nat) (t : Trig) (d : Dev) : Dev :=
  { d with ntm := { d.ntm with trig := tabSet trigDefault d.ntm.trig k t } }

/-- NTM_TRIGk TGT_L (R270): held until TGT_H is written. -/
def writeTgtL (m k : Nat) (v : Word) (d : Dev) : Dev :=
  d |> storeReg m (A.ntmTrig k 0) v |> putTrig k { getTrig k d with held := true }

/-- NTM_TRIGk TGT_H (R270): both halves are loaded as TARGET. -/
def writeTgtH (m k : Nat) (v : Word) (d : Dev) : Dev :=
  d |> storeReg m (A.ntmTrig k 4) v
    |> fun d => putTrig k { getTrig k d with target := BitVec.ofNat 64 (v.toNat * 2 ^ 32 + (rd (A.ntmTrig k 0) d).toNat),
                                             held := false, skipping := false } d

/-- TARGET of a trigger changes by a firing (R269); its registers show it, but for a TGT_L that is held. -/
def moveTarget (k : Nat) (t : Trig) (d : Dev) : Dev :=
  d |> putTrig k t |> wr (A.ntmTrig k 4) (word (t.target.toNat / 2 ^ 32))
    |> when (!t.held) (wr (A.ntmTrig k 0) (word t.target.toNat))

/-- Is DEST in the range that ACT gives it (R268)? -/
def destOk (act dest : Nat) : Bool :=
  if act = 2 then dest < 256 && dest % 16 < 10
  else if act = 3 then dest < 160 && dest % 16 < 8
  else if act = 4 then dest < 32
  else if 5 ≤ act then dest < 16
  else true

/-- NTM_TRIGk CFG (R268, R270, R280): a DEST outside its range is stored and sets RSVD_ENC; ARM = 0 in the fire cycle is
late. A trigger that is disarmed no longer skips periods (R269). -/
def writeTrigCfg (m k : Nat) (v : Word) (d : Dev) : Dev :=
  let a := A.ntmTrig k 12
  d |> storeReg m a v |> when (!bit v 31) (putTrig k { getTrig k d with skipping := false })
    |> errIf (!destOk (fld v 27 25) (fld v 11 0)) (A.block 7) m errRsvd a
    |> raiseIf (!bit v 31 && decide ((getTrig k d).fired = d.now + 1)) (A.ntmTrig k 0x10) 4

/-- The difference that trigger k evaluates (R267, R268): CC actions compare against TARGET - 20 ns. -/
def trigDiff (k : Nat) (d : Dev) : Int :=
  let cfg := rd (A.ntmTrig k 12) d
  let lead : DWord := if 5 ≤ fld cfg 27 25 ∧ destOk (fld cfg 27 25) (fld cfg 11 0) = true then 20 else 0
  (tbNs (fld cfg 29 28) d - ((getTrig k d).target - lead)).toInt

/-- Does a step of trigger k's base fall in this CORE cycle and wait for STEP_TAKES_EFFECT? The trigger then evaluates the
stepped value (R267, R279). -/
def stepDue (k : Nat) (d : Dev) : Bool :=
  match (tbGet (rf (A.ntmTrig k 12) 29 28 d) d).step with
  | [] => false
  | c :: _ => decide (c.due ≤ d.now)

/-- One CORE cycle of an armed trigger whose new target is past (R269). -/
def trigSkip (k : Nat) (d : Dev) : Dev :=
  let t := getTrig k d
  if !t.skipping || !rb (A.ntmTrig k 12) 31 d || stepDue k d then d
  else if trigDiff k d < 0 then putTrig k { t with skipping := false } d
  else
    d |> moveTarget k { t with target := t.target + (rd (A.ntmTrig k 8) d).setWidth 64 }
      |> incrSat (A.ntmTrig k 0x14) 15 0 |> raise (A.ntmTrig k 0x10) 1

/-- TARGET_LOAD (R270): a write of TGT_H. -/
def execTargetLoad (m : Fin 20) (k : Fin 64) (v : Word) (s : State) : Host.Outcome State Fault Refusal :=
  onPow (writeTgtH m k v) s

/-- FIRED of triggers 32j .. 32j + 31 (R280). -/
def trigSum (j : Nat) (d : Dev) : Word := word (maskOf 32 fun i => rb (A.ntmTrig (32 * j + i) 0x10) 0 d)

/-- The state word of NTM (R280). -/
def ntmState (d : Dev) : Word :=
  word (atBit (maskOf 4 fun j => rb (A.ntmTb j 0x38) 0 d) 28 + atBit (countOf 64 fun k => rb (A.ntmTrig k 12) 31 d) 21)

end Sys2Proof.Machine
end

