-- ==== Sys2Proof/Machine/Can.lean ====
section
/-! DEFINITION. Machine/Can.lean: the CAN controllers (R382-R406). -/

namespace Sys2Proof.Machine

/-! ## State and mode -/

/-- Code of a state (R406). -/
def CanState.code (s : CanState) : Nat :=
  match s with | .off => 0 | .integrating => 1 | .active => 2 | .passive => 3 | .busOff => 4 | .detecting => 5

/-- The state of controller n (R385). -/
def canState (n : Nat) (d : Dev) : CanState :=
  match rf (A.canStat n) 23 21 d with
  | 1 => .integrating | 2 => .active | 3 => .passive | 4 => .busOff | 5 => .detecting | _ => .off

/-- Enter a state. -/
def setCan (n : Nat) (s : CanState) (d : Dev) : Dev := wf (A.canStat n) 23 21 s.code d

/-- The active candidate. -/
def canAcand (n : Nat) (d : Dev) : Nat := rf (A.canStat n) 20 18 d

/-- MODE (R406): 0b11 acts as listen-only. -/
def canMode (n : Nat) (d : Dev) : Nat := let m := rf (A.canCtrl n) 14 13 d; if m = 3 then 1 else m

/-- The controller is in listen-only mode (R384, R385, R389). -/
def canListen (n : Nat) (d : Dev) : Bool := if canMode n d = 2 then (getCan n d).listen else canMode n d = 1

/-- A counter of CAN_CNT rises by 1. -/
def countCan (n o : Nat) (d : Dev) : Dev := incr (A.canCnt n o) 31 0 d

/-- The controller takes part in traffic. -/
def canOnBus (n : Nat) (d : Dev) : Bool :=
  (inService d || d.sys.mode = .startup) && (canState n d = .active || canState n d = .passive)

/-- The controller sends its head: on the bus, not in listen-only mode, but for a frame that runs to its end (R405). -/
def canSends (n : Nat) (d : Dev) : Bool := canOnBus n d && (!canListen n d || (getCan n d).tail)

/-- The transmission under way ended. -/
def canTailEnd (n : Nat) (d : Dev) : Dev := modCan n (fun c => { c with tail := false }) d

/-! ## Candidates (R386-R389) -/

/-- Word w of candidate c. -/
def candWord (n c w : Nat) (d : Dev) : Word := tabGet zeroDefault d.tabs (tabKey (39 + n) (2 * c + w))

/-- Nominal quanta of a bit, and its duration in CORE cycles. -/
def nomBit (w : Word) : Nat × Nat :=
  let q := 1 + (fld w 23 16 + 1) + (fld w 15 9 + 1)
  (q, q * (fld w 8 0 + 1))

/-- Is a candidate usable (R388)? -/
def candOk (n c : Nat) (d : Dev) : Bool :=
  let w0 := candWord n c 0 d
  let w1 := candWord n c 1 d
  let nb := nomBit w0
  let dq := 1 + (fld w1 23 19 + 1) + (fld w1 18 15 + 1)
  bit w0 31 && decide (8 ≤ nb.1 ∧ 400 ≤ nb.2 ∧ fld w0 30 24 ≤ fld w0 15 9) &&
    (!bit w1 31 || decide (5 ≤ dq ∧ 50 ≤ dq * (fld w1 14 10 + 1) ∧ fld w1 27 24 ≤ fld w1 18 15))

/-- TRIPLE that is not honoured (R387). -/
def tripleBad (n c : Nat) (d : Dev) : Bool :=
  let w0 := candWord n c 0 d
  bit (candWord n c 1 d) 8 && !decide (3200 ≤ (nomBit w0).2 ∧ 2 ≤ fld w0 23 16 + 1)

/-- A candidate becomes active. -/
def activate (n c : Nat) (d : Dev) : Dev :=
  d |> wf (A.canStat n) 20 18 c |> raiseIf (tripleBad n c d) (A.canStat n) 9

/-- The usable candidates. -/
def usable (n : Nat) (d : Dev) : List Nat := (List.range 8).filter fun c => candOk n c d

/-- Detection gives up (R389): listen-only mode with CAND. -/
def detectFail (n : Nat) (d : Dev) : Dev :=
  d |> raise (A.canStat n) 12 |> modCan n (fun c => { c with listen := true })
    |> activate n (rf (A.canCtrl n) 10 8 d) |> setCan n .integrating

/-- The trial of candidate c begins (R389). -/
def startTrial (n c : Nat) (d : Dev) : Dev :=
  d |> modCan n (fun x => { x with trial := c, trialStart := d.now }) |> setCan n .detecting

/-- The next usable candidate is tried (R389); ROUNDS full passes end detection. -/
def nextTrial (n : Nat) (d : Dev) : Dev :=
  let x := getCan n d
  let r := rf (A.canDet n) 3 0 d
  match (usable n d).find? fun c => x.trial < c with
  | some c => startTrial n c d
  | none =>
    let d := modCan n (fun x => { x with rounds := x.rounds + 1 }) d
    if r ≠ 0 ∧ r ≤ (getCan n d).rounds then detectFail n d
    else match usable n d with
      | c :: _ => startTrial n c d
      | [] => detectFail n d

/-! ## Enable and disable (R385, R405) -/

/-- EN becomes 1. -/
def canStart (n : Nat) (d : Dev) : Dev :=
  let bad := (List.range 8).any fun c => bit (candWord n c 0 d) 31 && !candOk n c d
  let cand := rf (A.canCtrl n) 10 8 d
  let d := if canMode n d = 2 || candOk n cand d then canTailEnd n d else d
  if canMode n d = 2 then
    let d := d |> modCan n (fun x => { x with listen := true, rounds := 0 }) |> raiseIf bad (A.canStat n) 9
    match usable n d with
    | c :: _ => startTrial n c d
    | [] => detectFail n d
  else if candOk n cand d then
    d |> modCan n (fun x => { x with listen := false }) |> activate n cand |> setCan n .integrating
  else raise (A.canStat n) 9 d

/-- LEVEL and HWM (R406). -/
def showFifo (n : Nat) (d : Dev) : Dev :=
  let l := (getCan n d).fifo.length
  d |> wf (A.canTxlvl n) 5 0 l |> when (rf (A.canTxlvl n) 21 16 d < l) (wf (A.canTxlvl n) 21 16 l)

/-- Replace the FIFO. -/
def putFifo (n : Nat) (l : List CanTx) (d : Dev) : Dev := d |> modCan n (fun c => { c with fifo := l }) |> showFifo n

/-- A record enters the transmit event queue (R397). -/
def canEvent (n : Nat) (x : Stamp) (d : Dev) : Dev :=
  if (getCan n d).events.length < 32 then
    d |> modCan n (fun c => { c with events := c.events ++ [x] }) |> raise (A.canStat n) 0
  else d |> raise (A.canStat n) 5 |> incr (A.canTxevLost n) 15 0

/-- TAG of an entry. -/
def CanTx.tag (x : CanTx) : Nat := fld (x.words.getD 1 0) 31 16

/-- The DISC record of an entry that is removed (R396, R397). -/
def canDisc (n : Nat) (x : CanTx) (d : Dev) : Dev := canEvent n (stampDisc (canBase n d) x.tag d) d

/-- CAN_CTRL (R385, R405): EN starts the controller, or ends it and discards the FIFO; not in Twilight. A frame under way
when MODE becomes listen-only is finished. -/
def writeCanCtrl (m n : Nat) (v : Word) (d : Dev) : Dev :=
  let was := rb (A.canCtrl n) 15 d
  if d.sys.mode = .twilight && !was && bit v 15 then d
  else
    let sends := canSends n d
    let d := storeReg m (A.canCtrl n) v d
    let now := rb (A.canCtrl n) 15 d
    let d := when (was && now) (modCan n fun c => { c with tail := sends && canListen n d && !c.fifo.isEmpty }) d
    if !was && now then canStart n d
    else if was && !now then
      let l := (getCan n d).fifo
      l.foldl (fun d x => canDisc n x d) (d |> setCan n .off |> putFifo n [])
    else d

/-- CAN_ENABLE (R385). -/
def execCanEnable (m : Fin 20) (n : Fin 4) (s : State) : Host.Outcome State Fault Refusal :=
  onPow (fun d => writeCanCtrl m n (setBit (rd (A.canCtrl n) d) 15 true) d) s
/-- CAN_DISABLE (R385). -/
def execCanDisable (m : Fin 20) (n : Fin 4) (s : State) : Host.Outcome State Fault Refusal :=
  onPow (fun d => writeCanCtrl m n (setBit (rd (A.canCtrl n) d) 15 false) d) s

/-- The error state follows the counters (R385). -/
def canErrorState (n : Nat) (d : Dev) : Dev :=
  let tec := rf (A.canErrc n) 24 16 d
  let rec_ := rf (A.canErrc n) 15 8 d
  let s := canState n d
  if s ≠ .active ∧ s ≠ .passive then d
  else if 255 < tec then
    d |> setCan n .busOff |> raise (A.canStat n) 2 |> countCan n 0x1C |> wf (A.canErrc n) 7 0 0
  else if 127 < tec ∨ 127 < rec_ then (if s = .active then d |> setCan n .passive |> raise (A.canStat n) 1 else d)
  else setCan n .active d

/-- CAN_INTEGRATION (R385): 11 consecutive recessive bits. -/
def execCanIntegration (n : Fin 4) (s : State) : Host.Outcome State Fault Refusal :=
  onDev (fun d =>
    let high : Bool := 127 < rf (A.canErrc n) 24 16 d || 127 < rf (A.canErrc n) 15 8 d
    when (canState n d = .integrating) (setCan n (if high then .passive else .active)) d) s

/-! ## Transmission (R391-R399) -/

/-- Word k of master m's stage (R391). -/
def stageWord (n m k : Nat) (d : Dev) : Word := tabGet zeroDefault d.tabs (tabKey (50 + n) (32 * m + k))
/-- Store word k of master m's stage. -/
def setStage (n m k : Nat) (v : Word) (d : Dev) : Dev :=
  { d with tabs := tabSet zeroDefault d.tabs (tabKey (50 + n) (32 * m + k)) v }

/-- Is a staged frame refused (R393)? -/
def pushBad (n : Nat) (w : List Word) (d : Dev) : Bool :=
  let w0 := w.getD 0 0
  let w1 := w.getD 1 0
  (bit w0 31 && bit w0 30) || (bit w1 4 && !bit w0 31) || (bit w0 31 && !bit (candWord n (canAcand n d) 1 d) 31) ||
    (!bit w0 29 && fld w0 28 11 ≠ 0) || bit w1 15 || fld w1 7 6 ≠ 0

/-- CAN_TXPUSH (R391, R393): GO copies the writer's stage to the FIFO's tail. -/
def writeTxpush (m n : Nat) (v : Word) (d : Dev) : Dev :=
  let d := storeReg m (A.canTxpush n) v d
  let w := (List.range 18).map fun k => stageWord n m k d
  let l := (getCan n d).fifo
  if !bit v 0 then d
  else if pushBad n w d then d |> countCan n 0x24 |> raise (A.canStat n) 7
  else if 32 ≤ l.length then raise (A.canStat n) 6 d
  else putFifo n (l ++ [⟨w, 0⟩]) d

/-- CAN_TXPUSH (R391). -/
def execCanTxpush (m : Fin 20) (n : Fin 4) (v : Word) (s : State) : Host.Outcome State Fault Refusal :=
  onPow (writeTxpush m n v) s

/-- Abort the entries that p names (R396). `progress` is the head's: 0 before SOF, 1 before its commit point, 2 after
it; a controller that does not send, in listen-only mode say, has its head before SOF. -/
def canAbort (n : Nat) (p : CanTx → Bool) (progress : Nat) (d : Dev) : Dev :=
  let l := (getCan n d).fifo
  let prog := if canSends n d then progress else 0
  match l with
  | [] => d
  | h :: t =>
    let keep := if p h && prog = 0 then [] else [if p h then { h with held := prog } else h]
    let gone := (if p h && prog = 0 then [h] else []) ++ t.filter p
    gone.foldl (fun d x => canDisc n x d) (putFifo n (keep ++ dropIf p t) d)

/-- CAN_TXABORT (R396). -/
def writeTxabort (m n : Nat) (v : Word) (progress : Nat) (d : Dev) : Dev :=
  let d := storeReg m (A.canTxabort n) v d
  if fld v 17 16 = 1 then canAbort n (fun x => x.tag = fld v 15 0) progress d
  else if fld v 17 16 = 2 then canAbort n (fun _ => true) progress d else d

/-- CAN_ABORT_BY_TAG (R396): CAN_TXABORT with OP 0b01. -/
def execCanAbortByTag (m : Fin 20) (n : Fin 4) (tag : BitVec 16) (progress : Fin 3) (s : State) :
    Host.Outcome State Fault Refusal :=
  onPow (writeTxabort m n (word (0x10000 + tag.toNat)) progress) s
/-- CAN_ABORT_ALL (R396): CAN_TXABORT with OP 0b10. -/
def execCanAbortAll (m : Fin 20) (n : Fin 4) (progress : Fin 3) (s : State) : Host.Outcome State Fault Refusal :=
  onPow (writeTxabort m n 0x20000 progress) s

/-- The words of an entry as sent (R382): ESI is 1 while the controller is error passive, whatever was staged. -/
def sentWords (n : Nat) (x : CanTx) (d : Dev) : List Word :=
  x.words.set 1 (setBit (x.words.getD 1 0) 5 (decide (canState n d = .passive)))

/-- CAN_FRAME_SENT (R396, R397): the head succeeds; its SOF edge came `ago` units of 2^-8 ns ago. TEC falls by 1, as ISO
11898-1 has it. -/
def execCanFrameSent (n : Fin 4) (ago : Nat) (s : State) : Host.Outcome State Fault Refusal :=
  onDev (fun d =>
    match (getCan n d).fifo with
    | [] => d
    | h :: t => when (canSends n d)
        (fun d =>
          let d := { d with out := d.out ++ [.can n (sentWords n h d)] }
          d |> canTailEnd n |> putFifo n t |> countCan n 4 |> wf (A.canErrc n) 24 16 (rf (A.canErrc n) 24 16 d - 1)
            |> raiseIf (decide (h.held ≠ 0)) (A.canStat n) 8
            |> canEvent n (stampAt (canBase n d) h.tag (-(ago : Int)) d) |> canErrorState n) d) s

/-- CAN_ARBITRATION_LOST (R394, R396). -/
def execCanArbitrationLost (n : Fin 4) (s : State) : Host.Outcome State Fault Refusal :=
  onDev (fun d =>
    match (getCan n d).fifo with
    | [] => d
    | h :: t => when (canSends n d)
        (fun d =>
          let d := d |> canTailEnd n |> countCan n 0x14
          if h.held = 0 then d else d |> putFifo n t |> canDisc n h) d) s

/-- A bus error (R382, R385, R389, R396): the counter of the sender or of the receiver rises by `step`, as ISO 11898-1
has it; a held abort removes the head. -/
def canError (n : Nat) (tx data : Bool) (lec step : Nat) (d : Dev) : Dev :=
  if canState n d = .detecting then nextTrial n d
  else if !canOnBus n d || (tx && !canSends n d) then d
  else
    let a := A.canErrc n
    let d := if data then wf a 28 26 lec d else wf a 31 29 lec d
    if canListen n d && !(tx && (getCan n d).tail) then d
    else
      let d := d |> when tx (canTailEnd n) |> countCan n 0x18
      let d := if tx then wf a 24 16 (min 511 (rf a 24 16 d + step)) d else wf a 15 8 (min 255 (rf a 15 8 d + step)) d
      let d := match (getCan n d).fifo with
        | h :: t => if tx ∧ h.held ≠ 0 then d |> putFifo n t |> canDisc n h else d
        | [] => d
      canErrorState n d

/-- CAN_ERROR (R385). -/
def execCanError (n : Fin 4) (tx data : Bool) (lec : Fin 7) (step : Fin 9) (s : State) :
    Host.Outcome State Fault Refusal :=
  onDev (canError n tx data lec step) s

/-- BUS_OFF_RECOVERY (R385): `occ` further occurrences of 11 recessive bits, which RCNT counts; the 128th ends the state. -/
def execBusOffRecovery (n : Fin 4) (occ : Fin 129) (s : State) : Host.Outcome State Fault Refusal :=
  onDev (fun d => when (canState n d = .busOff)
    (fun d =>
      let k := min 128 (rf (A.canErrc n) 7 0 d + occ)
      d |> wf (A.canErrc n) 7 0 k
        |> when (decide (k = 128)) (fun d => d |> setCan n .active |> wf (A.canErrc n) 24 16 0 |> wf (A.canErrc n) 15 8 0)) d) s

/-- CAN_PROTOCOL_EXCEPTION (R383). -/
def execCanProtocolException (n : Fin 4) (s : State) : Host.Outcome State Fault Refusal :=
  onDev (fun d => when (canOnBus n d)
    (fun d => d |> setCan n .integrating |> countCan n 0x20 |> raise (A.canStat n) 10) d) s

/-- DWELL in CORE cycles (R406): 0 acts as 100 ms. -/
def canDwell (n : Nat) (d : Dev) : Nat := let w := rf (A.canDet n) 15 8 d; usCycles (1000 * (if w = 0 then 100 else w))

/-- DETECTION_DWELL_EXPIRY (R389). -/
def execDetectionDwellExpiry (n : Fin 4) (s : State) : Host.Outcome State Fault Refusal :=
  onDev (fun d => when (canState n d = .detecting && decide ((getCan n d).trialStart + canDwell n d ≤ d.now)) (nextTrial n) d) s

/-! ## Reception (R390, R400-R404) -/

/-- A received frame. -/
structure CanFrame where
  fdf : Bool
  rtr : Bool
  ide : Bool
  id : BitVec 29
  esi : Bool
  brs : Bool
  dlc : Fin 16
  data : List Byte
  deriving DecidableEq, Repr

/-- Data bytes of a DLC (R390). -/
def dlcLen (fdf : Bool) (dlc : Nat) : Nat :=
  if dlc ≤ 8 then dlc else if !fdf then 8
  else ([12, 16, 20, 24, 32, 48, 64] : List Nat).getD (dlc - 9) 64

/-- Bytes of the data field of a received frame: a remote frame carries none (R390). -/
def CanFrame.len (f : CanFrame) : Nat := if f.rtr then 0 else dlcLen f.fdf f.dlc

/-- The frame record (R390). -/
def CanFrame.record (f : CanFrame) (tag : Nat) : List Word :=
  let id := if f.ide then f.id.toNat else f.id.toNat % 2048
  let data := slice (f.data.take f.len) 0 64
  [word (atBit f.fdf.toNat 31 + atBit f.rtr.toNat 30 + atBit f.ide.toNat 29 + id),
   word (atBit (tag % 65536) 16 + atBit f.len 8 + atBit f.esi.toNat 5 + atBit f.brs.toNat 4 + f.dlc)] ++
    (List.range 16).map fun i => word (leNat (slice data (4 * i) 4))

/-- Word w of object o's entry in the object table (R400). -/
def objWord (n o w : Nat) (d : Dev) : Word := tabGet zeroDefault d.tabs (tabKey (35 + n) (2 * o + w))

/-- The object that a frame matches (R400); a remote frame needs RMT. -/
def objMatch (n : Nat) (f : CanFrame) (d : Dev) : Option Nat :=
  let id := if f.ide then f.id.toNat else f.id.toNat % 2048
  match (List.range 256).find? fun o =>
      let w := objWord n o 0 d
      bit w 31 && bit w 30 == f.ide && fld w 28 0 = id with
  | some o => if f.rtr && !bit (objWord n o 1 d) 30 then none else some o
  | none => none

/-- The item of a received frame (R402, R404). -/
def canItem (flow arg : Nat) (f : CanFrame) (rec_ : List Word) (sof : TimeBase) (d : Dev) : Item :=
  let head := (rec_.take 2).flatMap (fun w => leBytes 4 w.toNat) ++ (slice f.data 0 f.len).take 56
  { newItem 3 flow arg head (8 + f.len) 0 d with ts := sof.ns64, epoch := sof.epoch }

/-- Does a post of object o of controller n still wait (R402)? -/
def objPostWaits (n o : Nat) (d : Dev) : Bool := d.dsp.waiting.any fun x => x.src0 = 3 && x.arg = 16384 * n + o

/-- Post for an object (R402): a newer frame replaces the content of a post that still waits. -/
def canPost (n o : Nat) (it : Item) (d : Dev) : Dev :=
  if objPostWaits n o d then
    modDsp (fun q => { q with waiting := q.waiting.map fun x => if x.src0 = 3 && x.arg = it.arg then it else x }) d
  else offerItem it d

/-- Store a frame in object o (R401, R402): one that overwrites a frame not taken yet sets LOST. -/
def storeObj (n o : Nat) (f : CanFrame) (rec_ : List Word) (stamp : Stamp) (sof : TimeBase) (d : Dev) : Dev :=
  let x := getObj n o d
  let w1 := objWord n o 1 d
  let was := bit x.status 31 || (bit w1 31 && objPostWaits n o d)
  let st := setFld x.status 29 22 (fld x.status 29 22 + 1)
  let st := setBit (if was then setBit st 30 true else st) 31 true
  let d := d |> putObj n o ⟨st, rec_, stamp⟩
    |> when was (fun d => d |> raise (A.canStat n) 3 |> countCan n 0x10)
  if bit w1 31 then canPost n o (canItem (fld w1 11 0) (16384 * n + o) f rec_ sof d) d else d

/-- A frame that matches no object (R403, R404). -/
def storeCa (n : Nat) (f : CanFrame) (rec_ : List Word) (stamp : Stamp) (sof : TimeBase) (d : Dev) : Dev :=
  if !rb (A.canCaCfg n) 31 d then countCan n 8 d
  else match (List.range 64).find? fun e => e ∉ (getCan n d).ca with
    | none => d |> countCan n 12 |> raise (A.canStat n) 4
    | some e =>
      let d := { d with canCa := tabSet canObjDefault d.canCa (64 * n + e) ⟨0, rec_, stamp⟩ }
        |> modCan n (fun c => { c with ca := c.ca ++ [e] }) |> showCa n
      if rb (A.canCaCfg n) 30 d then
        offerItem (canItem (rf (A.canCaCfg n) 11 0 d) (16384 * n + 8192 + e) f rec_ sof d) d
      else d

/-- The receive error counter after a valid frame: ISO 11898-1 lowers it by 1, and sets a value from 119 to 127 where it
stood above 127. -/
def recDown (n : Nat) (d : Dev) : Dev :=
  let a := A.canErrc n
  let r := rf a 15 8 d
  if r ≤ 127 then wf a 15 8 (r - 1) d
  else
    let v := freeWord d
    wf a 15 8 (119 + v.1.toNat % 9) v.2

/-- A valid frame (R384, R385, R389, R401-R403): in listen-only mode, as in detection, no error counter changes. -/
def canReceive (n : Nat) (f : CanFrame) (ago : Nat) (d : Dev) : Dev :=
  let det : Bool := canState n d = .detecting
  let c := getCan n d
  let cand := if det then c.trial else canAcand n d
  if !(canOnBus n d || det) || (f.fdf && !bit (candWord n cand 1 d) 31) || (f.fdf && f.rtr) then d
  else
    let quiet := det || canListen n d
    let d := if !det then d else
      let go := rb (A.canCtrl n) 12 d
      d |> activate n cand |> raise (A.canStat n) 11 |> setCan n (if go then .integrating else .active)
        |> modCan n (fun c => { c with listen := !go })
    let seq := (getCan n d).rseq
    let rec_ := f.record seq
    let sof := tbAt 0 (-(ago : Int)) 640 d
    let stamp := stampAt (canBase n d) seq (-(ago : Int)) d
    let d := d |> modCan n (fun c => { c with rseq := (c.rseq + 1) % 65536 }) |> countCan n 0
      |> when (!quiet) (fun d => d |> recDown n |> canErrorState n)
    match objMatch n f d with
    | some o => storeObj n o f rec_ stamp sof d
    | none => storeCa n f rec_ stamp sof d

/-- CAN_FRAME_RECEIVED (R401): its SOF edge came `ago` units of 2^-8 ns ago. -/
def execCanFrameReceived (n : Fin 4) (fdf rtr ide : Bool) (id : BitVec 29) (esi brs : Bool) (dlc : Fin 16)
    (data : List Byte) (ago : Nat) (s : State) : Host.Outcome State Fault Refusal :=
  onDev (canReceive n ⟨fdf, rtr, ide, id, esi, brs, dlc, data⟩ ago) s

/-! ## Reads and POP -/

/-- A read of CAN_TXEV_Wi (R397), exactly as TSQ_Wi. -/
def txevRead (m n i : Nat) (d : Dev) : Word × Dev :=
  if i = 0 then
    let x := (getCan n d).events.head?.getD stampZero
    (x.w0, if m = 19 then d else modCan n (fun c => { c with latch := x }) d)
  else
    let x := (getCan n d).latch
    (x.wordAt i, if i = 3 ∧ m ≠ 19 ∧ bit x.w3 23 then modCan n (fun c => { c with events := c.events.tail }) d else d)

/-- CAN_TXEV_READ_HEAD (R397). -/
def execCanTxevReadHead (m : Fin 20) (n : Fin 4) (s : State) : Host.Outcome State Fault Refusal :=
  onPow (fun d => let r := txevRead m n 0 d; giveRead m r.1 r.2) s
/-- CAN_TXEV_READ_LAST (R397). -/
def execCanTxevReadLast (m : Fin 20) (n : Fin 4) (s : State) : Host.Outcome State Fault Refusal :=
  onPow (fun d => let r := txevRead m n 3 d; giveRead m r.1 r.2) s

/-- The words of an object from +0x08, or of a catch-all entry (R401, R403). -/
def objBytesWord (x : CanObj) (o : Nat) : Word :=
  if o = 0 then x.status else if o < 8 then 0
  else if o < 0x50 then x.words.getD ((o - 8) / 4) 0 else x.stamp.wordAt ((o - 0x50) / 4)

/-- A read of an object's word (R401): STATUS clears NEW and LOST, but for debug (R105). -/
def objRead (m n o off : Nat) (d : Dev) : Word × Dev :=
  let x := getObj n o d
  (objBytesWord x off,
   if off = 0 ∧ m ≠ 19 then putObj n o { x with status := setFld x.status 31 30 0 } d else d)

/-- OBJECT_STATUS_READ (R401). -/
def execObjectStatusRead (m : Fin 20) (n : Fin 4) (o : Fin 256) (s : State) : Host.Outcome State Fault Refusal :=
  onPow (fun d => let r := objRead m n o 0 d; giveRead m r.1 r.2) s

/-- CAN_CA_POP (R404): the oldest entry is freed; none with CA_POST = 1. -/
def writeCaPop (m n : Nat) (v : Word) (d : Dev) : Dev :=
  let d := storeReg m (A.canCaPop n) v d
  match (getCan n d).ca with
  | e :: _ => if bit v 0 && !rb (A.canCaCfg n) 30 d then freeCa n e d else d
  | [] => d

/-- POP (R404). -/
def execCanCaPop (m : Fin 20) (n : Fin 4) (v : Word) (s : State) : Host.Outcome State Fault Refusal :=
  onPow (writeCaPop m n v) s

/-- LOST of objects 32j .. 32j + 31 (R406). -/
def canLostWord (n j : Nat) (d : Dev) : Word := word (maskOf 32 fun i => bit (getObj n (32 * j + i) d).status 30)

/-- The state word of CAN_n (R406). -/
def canStateWord (n : Nat) (d : Dev) : Word :=
  word (atBit (rf (A.canStat n) 23 21 d) 29 + atBit (getCan n d).fifo.length 23 + atBit (getCan n d).ca.length 16)

/-- Twilight (R405): the controller enters OFF and keeps what it holds. -/
def canTwilight (n : Nat) (d : Dev) : Dev := setCan n .off d

end Sys2Proof.Machine
end

