-- ==== Sys2Proof/Machine/Ethernet.lean ====
section
/-! DEFINITION. Machine/Ethernet.lean: the Ethernet MACs: ports and links, receive checks, classification, receive queues
and counters (R341-R357). -/

namespace Sys2Proof.Machine

/-! ## Ports -/

/-- A port at reset; ETH_8 and ETH_9 have one speed (R341). -/
def ethDefault (p : Nat) : Eth := ⟨.off, false, if 8 ≤ p then 3 else 2, 0, 0, 0, 0, 0, 0, 0, 0, 0⟩
/-- Port p. -/
def getEth (p : Nat) (d : Dev) : Eth := tabGet ethDefault d.eths p
/-- Change port p. -/
def modEth (p : Nat) (f : Eth → Eth) (d : Dev) : Dev := { d with eths := tabSet ethDefault d.eths p (f (getEth p d)) }

/-- A counter of ETH_CNT rises by 1. -/
def countEth (p o : Nat) (d : Dev) : Dev := incr (A.ethCnt p o) 31 0 d

/-- Link modes (R341): RGMII selected on ETH_0-ETH_3. -/
def ethRgmii (p : Nat) (d : Dev) : Bool := p < 4 && rb (A.ethCtrl p) 12 d
/-- LMODE: 0b11 acts as 0b00; RGMII has 0b01 as 0b10. -/
def ethLmode (p : Nat) (d : Dev) : Nat :=
  let m := rf (A.ethCtrl p) 11 10 d
  if m = 3 then 0 else if ethRgmii p d ∧ m = 1 then 2 else m
/-- The running speed where the PHY reports `phy` (R341, R357's code): fixed on ETH_8 and ETH_9, SPEED in forced mode,
1000 Mb/s in 1000BASE-X mode. -/
def runSpeed (p phy : Nat) (d : Dev) : Nat :=
  if 8 ≤ p then 3
  else if ethLmode p d = 2 then (let s := rf (A.ethCtrl p) 9 8 d; if s = 3 then 2 else s)
  else if ethLmode p d = 1 then 2
  else min phy 2

/-- Byte time of a line speed in 0.1 ns (R272). -/
def byteTime (speed : Nat) : Nat := if speed = 0 then 8000 else if speed = 1 then 800 else if speed = 2 then 80 else 8

/-- The instants at which a frame may start on port p's line (R272): the first byte boundary at or after `t`, in 0.1 ns. They
lie 6.4 ns apart on ETH_8 and ETH_9 and one byte time apart elsewhere; where they lie is open. -/
def byteBoundary (p t : Nat) (d : Dev) : Nat :=
  let s := (getEth p d).speed
  let g := if 3 ≤ s then 64 else byteTime s
  t + (Config.byteGrid p s % g + g - t % g) % g

/-- MAXLEN (R343, R357): values outside 1,522-9,216 act as the nearer limit. -/
def maxLen (p : Nat) (d : Dev) : Nat := min 9216 (max 1522 (rf (A.ethFrame p) 13 0 d))

/-- The state word of ETH_p (R356, R357): in Twilight every port reads DOWN. -/
def ethState (p : Nat) (d : Dev) : Word :=
  let e := getEth p d
  let l := if d.sys.mode = .twilight then 1 else
    match e.link with | .off => 0 | .down => 1 | .hold => 2 | .up => 3
  word (atBit l 30 + atBit e.speed 28 + atBit e.lane.toNat 27 + atBit (rf (A.ethMmStat p) 2 0 d) 24)

/-- Preemption is active (R353): EN, and verified or VDIS. -/
def mmActive (p : Nat) (d : Dev) : Bool :=
  decide (p < 8) && rb (A.ethMmCtrl p) 4 d && (rf (A.ethMmStat p) 2 0 d = 3 || rb (A.ethMmCtrl p) 3 d)
/-- A class is preemptable on the port (R353): no class is while preemption is not active. -/
def preemptable (p c : Nat) (d : Dev) : Bool := mmActive p d && rb (A.ethMmCtrl p) (8 + c) d

/-- VSTAT (R353, R357). -/
def setVstat (p v : Nat) (d : Dev) : Dev := wr (A.ethMmStat p) (word v) d

/-- ETH_MM_STAT as read (R353, R357). -/
def mmStatWord (p : Nat) (d : Dev) : Word := setBit (rd (A.ethMmStat p) d) 3 (mmActive p d)

/-! ## Frame fields (R346) -/

/-- Big-endian 16 bits at offset i of a frame. -/
def be16 (bs : List Byte) (i : Nat) : Nat := 256 * (bs.getD i 0).toNat + (bs.getD (i + 1) 0).toNat

/-- Is a frame tagged (R346)? -/
def isTagged (bs : List Byte) : Bool := be16 bs 12 = 0x8100 || be16 bs 12 = 0x88A8

/-- ETYPE (R346): the first type field after the outer tag and one inner 0x8100 tag. -/
def etherType (bs : List Byte) : Nat :=
  if isTagged bs then (if be16 bs 16 = 0x8100 then be16 bs 20 else be16 bs 16) else be16 bs 12

/-- PCP of a frame on port p (R346). -/
def framePcp (p : Nat) (bs : List Byte) (d : Dev) : Nat :=
  if isTagged bs then be16 bs 14 / 8192 else rf (A.ethFrame p) 31 29 d
/-- VID of a frame on port p (R346). -/
def frameVid (p : Nat) (bs : List Byte) (d : Dev) : Nat :=
  if isTagged bs then be16 bs 14 % 4096 else rf (A.ethFrame p) 27 16 d

/-- Offset of the first type field after at most one tag (R263). -/
def l2Len (bs : List Byte) : Nat := if isTagged bs then 18 else 14

/-- Offset of the UDP header of an IPv4 or IPv6 frame (R263). -/
def udpOffset (bs : List Byte) : Option Nat :=
  let l := l2Len bs
  let t := be16 bs (l - 2)
  let b (i : Nat) : Nat := (bs.getD (l + i) 0).toNat
  if t = 0x0800 ∧ b 0 / 16 = 4 ∧ b 9 = 17 then some (l + 4 * (b 0 % 16))
  else if t = 0x86DD ∧ b 6 = 17 then some (l + 40)
  else none

/-- Offset of the PTP header of a PTP frame (R263). -/
def ptpOffset (bs : List Byte) : Option Nat :=
  if be16 bs (l2Len bs - 2) = 0x88F7 then some (l2Len bs)
  else match udpOffset bs with
    | some u => if be16 bs (u + 2) = 319 ∨ be16 bs (u + 2) = 320 then some (u + 8) else none
    | none => none

/-- messageType of a PTP header. -/
def ptpType (bs : List Byte) (o : Nat) : Nat := (bs.getD o 0).toNat % 16

/-- The peer-delay multicast addresses of R266: 224.0.0.107 and FF02::6B. -/
def peerDelayIp (bs : List Byte) : Bool :=
  let l := l2Len bs
  if be16 bs (l - 2) = 0x0800 then slice bs (l + 16) 4 = [224, 0, 0, 107]
  else slice bs (l + 24) 16 = [0xFF, 0x02, 0, 0, 0, 0, 0, 0, 0, 0, 0, 0, 0, 0, 0, 0x6B]

/-- Is a frame trapped on port p (R266)? -/
def trapped (p : Nat) (bs : List Byte) (d : Dev) : Bool :=
  rb (A.ntmPtp p 0) 9 d &&
    (slice bs 0 6 = [0x01, 0x80, 0xC2, 0, 0, 0x0E] ||
     (rf (A.ntmPtp p 0) 7 6 d = 2 && peerDelayIp bs &&
       (match udpOffset bs, ptpOffset bs with
        | some _, some o => ptpType bs o = 2 || ptpType bs o = 3 || ptpType bs o = 10
        | _, _ => false)))

/-! ## Steering rules (R347, R348) -/

/-- Word w of rule r of port p. -/
def ruleWord (p r w : Nat) (d : Dev) : Word := tabGet zeroDefault d.tabs (tabKey (21 + p) (4 * r + w))

/-- Does rule r match (R347)? -/
def ruleMatches (p r : Nat) (bs : List Byte) (d : Dev) : Bool :=
  let w0 := ruleWord p r 0 d
  let w1 := ruleWord p r 1 d
  let w2 := ruleWord p r 2 d
  let t := fld w0 23 22
  bit w0 31 && (frameVid p bs d ^^^ fld w1 27 16) &&& fld w1 11 0 = 0 &&
    (framePcp p bs d ^^^ fld w0 21 19) &&& fld w0 18 16 = 0 &&
    (etherType bs ^^^ fld w2 31 16) &&& fld w2 15 0 = 0 &&
    (if t = 1 then !isTagged bs else if t = 2 then isTagged bs else true)

/-- ACTION and QUEUE for a frame (R346, R347). -/
def steer (p : Nat) (bs : List Byte) (d : Dev) : Nat × Nat :=
  match (List.range 64).find? fun r => ruleMatches p r bs d with
  | some r => (fld (ruleWord p r 0 d) 30 29, fld (ruleWord p r 0 d) 27 24)
  | none => (rf (A.ethDefault p) 30 29 d, rf (A.ethDefault p) 27 24 d)

/-- What the MAC does with a frame (R346): consumed, trapped, or steered. -/
inductive Verdict where
  | control
  | trap
  | action (sw : Bool) (queue : Option Nat)
  | drop
  deriving DecidableEq, Repr

/-- Classification (R342, R346, R347). -/
def verdict (p : Nat) (bs : List Byte) (d : Dev) : Verdict :=
  if be16 bs 12 = 0x8808 then .control
  else if trapped p bs d then .trap
  else
    let a := steer p bs d
    if a.1 = 0 then .action true none else if a.1 = 1 then .action false (some a.2)
    else if a.1 = 2 then .action true (some a.2) else .drop

/-! ## Receive queues (R349-R352) -/

/-- Can the MAC's write of n bytes at a pass (R130, R352)? It uses the switch's master code. -/
def macWriteFail (a n : Nat) (d : Dev) : Option (Nat × Nat) :=
  match accessFail 21 true false a d with
  | some k => some (k, a)
  | none => (accessFail 21 true false (a + n - 1) d).map fun k => (k, a + n - 1)

/-- Items of port p that wait for the arrival queue (R351). -/
def portWaiting (p : Nat) (d : Dev) : Nat := (d.dsp.waiting.filter fun it => it.src0 = 1 && it.arg / 256 = p).length

/-- TB_j where the first bit after the start frame delimiter arrived `ago` units of 2^-8 ns ago, with ING_LAT applied (R261,
R262). -/
def ingressTb (p j ago : Nat) (d : Dev) : TimeBase :=
  (tbAt j (-(ago : Int)) 640 d).add (-((rd (A.ntmPtp p 4) d).toInt) * 16777216)

/-- The record of an Ethernet stamp in the port's base (R260); on ETH_8 and ETH_9 FRAC rounds to the nearest step (R261). -/
def ethStamp (p tag : Nat) (t : TimeBase) (d : Dev) : Stamp :=
  stampOf (ethBase p d) tag (if 8 ≤ p then t.add 8388608 else t)

/-- The buffer that a frame takes at classification and writes as it arrives (R350, R352); none where the queue cannot hold the
frame. -/
def bufferFrame (p q : Nat) (bs : List Byte) (d : Dev) : Option Nat × Dev :=
  let r := 16 * p + q
  let nobuf (d : Dev) : Dev := countEth p 0x24 d
  if !ringEn r d then (none, countEth p 0x20 d)
  else if (getRing r d).failed then (none, nobuf d)
  else match takeBuf r d with
    | none => (none, d |> nobuf |> raise (A.ethStat p) 1)
    | some (i, d) =>
      if ringSize r d - 16 < bs.length then (none, d |> giveBuf r i |> nobuf)
      else match macWriteFail (bufAddr r i d) (16 + bs.length) d with
        | some (k, b) =>
          (none, d |> giveBuf r i |> accEvent 21 k true b |> raise (A.ethStat p) 2
            |> fun d => putRing r { getRing r d with failed := true } d)
        | none => (some i, d)

/-- The queue copy of a good frame (R349-R352). -/
def queueFrame (p q : Nat) (bs : List Byte) (stamp : Stamp) (ts : TimeBase) (d : Dev) : Dev :=
  let r := 16 * p + q
  match bufferFrame p q bs d with
  | (none, d) => d
  | (some i, d) =>
    let a := bufAddr r i d
    let d := memPut a (stamp.bytes ++ bs) d
    if 16 ≤ portWaiting p d then d |> countEth p 0x28 |> giveBuf r i
    else
      let it := newItem 1 (rf (ringCtl r) 11 0 d) (256 * p + q) (bs.take 64) bs.length (word a) d
      offerItem { it with ts := ts.ns64, epoch := ts.epoch } d

/-- A frame that fails R344 releases the buffer it had taken as if it had never been written (R344); a giant was written up to
MAXLEN. -/
def releaseTaken (p : Nat) (bs : List Byte) (d : Dev) : Dev :=
  match verdict p bs d with
  | .action _ (some q) =>
    match bufferFrame p q (bs.take (maxLen p d)) d with
    | (some i, d) => giveBuf (16 * p + q) i d
    | (none, d) => d
  | .drop => countEth p 0x20 d
  | _ => d

/-! ## Frames for the switch -/

/-- A frame from port p as the switch receives it (R359, R377). -/
def macFrame (p : Nat) (bs : List Byte) (stamp : Stamp) (ts : TimeBase) (ago : Nat) (d : Dev) : Frame :=
  let tc := ingressTb p (rf A.ntmTcCtrl 1 0 d) ago d
  let vid := frameVid p bs d
  let tagged := isTagged bs && vid ≠ 0
  { id := d.swc.nextId, bytes := bs, good := true, port := p, arrival := d.now - ago / 640, stamp := stamp
    ts0 := ts.ns64, ts0Epoch := ts.epoch
    tcTime := (tc.sec * 1000000000 + tc.ns) * 2 ^ 32 + tc.frac, tcEpoch := tc.epoch
    pcp := if tagged then framePcp p bs d else rf (A.ethFrame p) 31 29 d
    vid := if tagged then vid else rf (A.ethFrame p) 27 16 d
    untag := 0, direct := false, tsreq := false, tsid := 0, onestep := false, ptpoff := 0
    launch := none, trig := false, sample := false, trap := false, planned := false, mask := 0, cls := 0, started := 0, upset := false }

/-- Change the switch's state. -/
def modSwc (f : Swc → Swc) (d : Dev) : Dev := { d with swc := f d.swc }

/-- A frame reaches the switch (R359). -/
def toSwitch (f : Frame) (d : Dev) : Dev :=
  modSwc (fun s => { s with inbound := s.inbound ++ [{ f with id := s.nextId }], nextId := s.nextId + 1 }) d

/-! ## Counters (R357) -/

/-- Words of RX_BYTES and TX_BYTES: a read of _L latches the matching _H (R357). A debug read latches nothing (R105). -/
def ethCntRead (m p o : Nat) (d : Dev) : Word × Dev :=
  let e := getEth p d
  if o = 0x04 then
    (word e.rxBytes.toNat, if m = 19 then d else modEth p (fun e => { e with latchRx := word (e.rxBytes.toNat / 2 ^ 32) }) d)
  else if o = 0x34 then
    (word e.txBytes.toNat, if m = 19 then d else modEth p (fun e => { e with latchTx := word (e.txBytes.toNat / 2 ^ 32) }) d)
  else if o = 0x08 then (e.latchRx, d)
  else if o = 0x38 then (e.latchTx, d)
  else (rd (A.ethCnt p o) d, d)

/-- ETH_COUNTER_LATCH_READ (R357): a read of RX_BYTES_L, or of TX_BYTES_L. -/
def execEthCounterLatchRead (m : Fin 20) (p : Fin 10) (tx : Bool) (s : State) : Host.Outcome State Fault Refusal :=
  onPow (fun d => let r := ethCntRead m p (if tx then 0x34 else 0x04) d; giveRead m r.1 r.2) s

end Sys2Proof.Machine
end

