-- ==== Sys2Proof/Machine/Switch.lean ====
section
/-! DEFINITION. Machine/Switch.lean: the switch core's tables, classification, stream filters, buffer, admission, gates,
selection and egress (R358-R380, R262-R266, R272-R275). -/

namespace Sys2Proof.Machine

/-! ## Tables (R362, R363, R365, R371) -/

/-- Word w of address entry e. -/
def addrWord (e w : Nat) (d : Dev) : Word := tabGet zeroDefault d.tabs (tabKey 31 (4 * e + w))
/-- Store word w of address entry e. -/
def setAddr (e w : Nat) (v : Word) (d : Dev) : Dev :=
  { d with tabs := tabSet zeroDefault d.tabs (tabKey 31 (4 * e + w)) v }
/-- Word w of stream entry e. -/
def streamWord (e w : Nat) (d : Dev) : Word := tabGet zeroDefault d.tabs (tabKey 32 (8 * e + w))
/-- Store word w of stream entry e. -/
def setStream (e w : Nat) (v : Word) (d : Dev) : Dev :=
  { d with tabs := tabSet zeroDefault d.tabs (tabKey 32 (8 * e + w)) v }
/-- Reset value of the VLAN word of VID v (R363). -/
def vlanDefault (v : Nat) : Word := if v = 1 then 0x0FFFFFFF else 0
/-- The VLAN word of VID v. -/
def vlanWord (v : Nat) (d : Dev) : Word := (tabFind d.tabs (tabKey 33 v)).getD (vlanDefault v)
/-- Entry e of gate-list bank b of port p (R371). -/
def gateWord (p b e : Nat) (d : Dev) : Word := (tabFind d.tabs (tabKey 34 (256 * p + 128 * b + e))).getD 0xFF000001

/-- A counter of SWC_CNT_p rises by 1. -/
def countSwc (p o : Nat) (d : Dev) : Dev := incr (A.swcCnt p o) 31 0 d

/-- The switch runs (R381): EN after commit, in service. -/
def swcOn (d : Dev) : Bool := rb A.swcCtrl 0 d && committed d && inService d

/-- STATE of port p. -/
def portState (p : Nat) (d : Dev) : Nat := rf (A.swcPort p 0) 31 30 d
/-- The class that port p gives a PCP (R360). -/
def pcpClass (p pcp : Nat) (d : Dev) : Nat := rf (A.swcPort p 0) (3 * pcp + 2) (3 * pcp) d

/-- A MAC address of a frame as a number: MACH above MACL. -/
def macAt (bs : List Byte) (i : Nat) : Nat := beNat (slice bs i 6)

/-! ## Address table (R362) -/

/-- The bucket of address M in filtering database F. -/
def addrBucket (mac fid : Nat) : Nat :=
  crc32c ((leBytes 6 mac).reverse ++ [BitVec.ofNat 8 fid, 0]) % 2048

/-- The entry that holds an address. -/
def addrHit (mac fid : Nat) (d : Dev) : Option Nat :=
  ((List.range 4).map fun w => 4 * addrBucket mac fid + w).find? fun e =>
    bit (addrWord e 1 d) 11 && (addrWord e 0 d).toNat = mac % 2 ^ 32 && fld (addrWord e 1 d) 31 16 = mac / 2 ^ 32 &&
      fld (addrWord e 1 d) 15 12 = fid

/-- The flood mask: every port, less the engine ports outside EPFLOOD. -/
def floodMask (d : Dev) : Nat := 0x3FF + 1024 * rf A.swcCtrl 15 12 d

/-- The egress mask of a destination (R362). -/
def lookupMask (mac fid : Nat) (d : Dev) : Nat :=
  match addrHit mac fid d with
  | some e => fld (addrWord e 2 d) 13 0
  | none => floodMask d

/-- A learned entry. -/
def learnAt (e mac fid p : Nat) (d : Dev) : Dev :=
  d |> setAddr e 0 (word mac) |> setAddr e 1 (word (atBit (mac / 2 ^ 32) 16 + atBit fid 12 + 2048))
    |> setAddr e 2 (word (2 ^ p)) |> setAddr e 3 0

/-- The way that learning takes on a miss (R362): a free one, else the dynamic one with the highest AGE. -/
def learnWay (mac fid : Nat) (d : Dev) : Option Nat :=
  let ways := (List.range 4).map fun w => 4 * addrBucket mac fid + w
  match ways.find? fun e => !bit (addrWord e 1 d) 11 with
  | some e => some e
  | none => (ways.filter fun e => !bit (addrWord e 1 d) 10).foldl (fun best e => match best with
      | none => some e
      | some b => if fld (addrWord b 3 d) 31 16 < fld (addrWord e 3 d) 31 16 then some e else best) none

/-- Learning of a source address at port p (R362). -/
def learn (p mac fid : Nat) (d : Dev) : Dev :=
  if !rb (A.swcPort p 0) 29 d || (mac / 2 ^ 40) % 2 = 1 then d
  else match addrHit mac fid d with
    | some e => if bit (addrWord e 1 d) 10 then d else d |> setAddr e 2 (word (2 ^ p)) |> setAddr e 3 0
    | none => match learnWay mac fid d with
      | some e => learnAt e mac fid p d
      | none => d |> countSwc p 0xB4 |> raise A.swcStat 5

/-! ## Stream filters (R365, R366) -/

/-- The first stream entry that matches a frame (R366). -/
def streamMatch (f : Frame) (d : Dev) : Option Nat :=
  (List.range 512).find? fun e =>
    let w1 := streamWord e 1 d
    let w2 := streamWord e 2 d
    let mode := fld w2 30 29
    let mac := macAt f.bytes (if mode = 1 then 6 else 0)
    bit w2 31 && (fld w2 13 0).testBit f.port && (streamWord e 0 d).toNat = mac % 2 ^ 32 && fld w1 31 16 = mac / 2 ^ 32 &&
      fld w1 15 4 = f.vid && (mode ≠ 2 || fld w1 3 1 = f.pcp)

/-- CORE cycles of one second (R82): the unit of a bucket's fill. -/
def secCycles : Nat := 400000000

/-- The bucket of stream entry e now (R366): it gained CIR x 125 bytes per second, capped at CBS. -/
def bucketNow (e : Nat) (d : Dev) : Nat :=
  let b := tabGet (fun _ => (⟨0, 0⟩ : Bucket)) d.swc.buckets e
  min (fld (streamWord e 5 d) 19 0 * secCycles) (b.fill + fld (streamWord e 4 d) 23 0 * 125 * (d.now - b.time))

/-- Replace a bucket. -/
def putBucket (e fill : Nat) (d : Dev) : Dev :=
  modSwc (fun s => { s with buckets := tabSet (fun _ => (⟨0, 0⟩ : Bucket)) s.buckets e ⟨fill, d.now⟩ }) d

/-- DROPS of a stream entry. -/
def streamDrop (e : Nat) (d : Dev) : Dev :=
  let w := streamWord e 7 d
  setStream e 7 (setFld w 30 0 (satInc (2 ^ 31 - 1) (fld w 30 0))) d

/-- A matched frame of `len` bytes meets the checks of R366; the mark says whether it passes. -/
def streamChecks (e len port : Nat) (d : Dev) : Bool × Dev :=
  let w2 := streamWord e 2 d
  let sdu := fld (streamWord e 3 d) 13 0
  let d := setStream e 6 (streamWord e 6 d + 1) d
  if bit (streamWord e 7 d) 31 then (false, d |> streamDrop e |> countSwc port 0x8C)
  else if sdu ≠ 0 ∧ sdu < len then
    (false, d |> streamDrop e |> countSwc port 0x8C
      |> when (bit w2 24) (fun d => setStream e 7 (setBit (streamWord e 7 d) 31 true) d))
  else if bit w2 23 then
    let have' := bucketNow e d
    let need := (len + 4) * secCycles
    if need ≤ have' then (true, putBucket e (have' - need) d)
    else (false, d |> putBucket e have' |> streamDrop e |> countSwc port 0x88)
  else (true, d)

/-- The stream filter (R366): whether the frame passes and the class it imposes. -/
def streamFilter (f : Frame) (len : Nat) (d : Dev) : Bool × Option Nat × Dev :=
  match streamMatch f d with
  | none => (true, none, d)
  | some e =>
    let r := streamChecks e len f.port d
    let w2 := streamWord e 2 d
    (r.1, if bit w2 28 then some (fld w2 27 25) else none, r.2)

/-! ## Classification (R360) -/

/-- Ports in the forwarding state. -/
def fwdMask (d : Dev) : Nat := maskOf 14 fun q => portState q d = 3

/-- The decisions of classification, for a frame of `len` bytes; none where it is dropped. -/
def classify (f : Frame) (len : Nat) (d : Dev) : Option Frame × Dev :=
  if f.trap then
    (some { f with planned := true, direct := true, mask := 2 ^ (10 + rf (A.ntmPtp f.port 0) 11 10 d),
                   cls := pcpClass f.port f.pcp d }, d)
  else if f.direct then (some { f with planned := true }, d)
  else
    let v := vlanWord f.vid d
    let fid := fld v 31 28
    let member := fld v 13 0
    let st := portState f.port d
    let src := macAt f.bytes 6
    if st ≠ 3 then
      (none, d |> when (decide (st = 2)) (learn f.port src fid) |> countSwc f.port 0x84)
    else if f.vid = 4095 || (rb (A.swcPort f.port 0) 28 d && !member.testBit f.port) then (none, countSwc f.port 0x80 d)
    else
      let r := streamFilter f len d
      if !r.1 then (none, r.2.2)
      else
        let d := learn f.port src fid r.2.2
        let m := lookupMask (macAt f.bytes 0) fid d &&& member &&& fwdMask d
        let m := if m.testBit f.port then m - 2 ^ f.port else m
        (some { f with planned := true, mask := m, untag := fld v 27 14,
                       cls := r.2.1.getD (pcpClass f.port f.pcp d) }, d)

/-! ## Buffer (R367) -/

/-- Cells of a frame of F bytes with its frame check sequence (R367). -/
def cellsOf (f : Nat) : Nat := (f + 255) / 256

/-- Pool cells held: a frame holds its cells once (R367). -/
def poolUsed (l : List Copy) : Nat :=
  (l.foldl (fun (acc : List Nat × Nat) c =>
    if acc.1.contains c.frame.id then acc else (c.frame.id :: acc.1, acc.2 + c.cells)) ([], 0)).2

/-- Free pool cells (R367). -/
def poolFreeCells (l : List Copy) : Nat := 15880 - poolUsed l

/-- Cells queued for egress port q. -/
def portCells (q : Nat) (l : List Copy) : Nat := ((l.filter fun c => c.port = q).map (·.cells)).foldl (· + ·) 0

/-- SWC_POOL and CELLS, MAX of every port follow the queues (R381). -/
def showSwc (d : Dev) : Dev :=
  let l := d.swc.queues
  let n := poolFreeCells l
  let d := d |> wf A.swcPool 13 0 n |> when (n < rf A.swcPool 29 16 d) (wf A.swcPool 29 16 n)
  (List.range 14).foldl (fun d q =>
    let c := portCells q l
    d |> wf (A.swcPort q 0x14) 13 0 c |> when (rf (A.swcPort q 0x14) 29 16 d < c) (wf (A.swcPort q 0x14) 29 16 c)) d

/-- Replace the queues. -/
def putQueues (l : List Copy) (d : Dev) : Dev := d |> modSwc (fun s => { s with queues := l }) |> showSwc

/-- Are two copies the same queue entry? -/
def sameCopy (a b : Copy) : Bool := a.frame.id = b.frame.id && a.port = b.port

/-- Remove a copy from its queue. -/
def removeCopy (c : Copy) (d : Dev) : Dev := putQueues (dropIf (sameCopy c) d.swc.queues) d

/-- Replace a copy in its queue. -/
def updateCopy (c : Copy) (d : Dev) : Dev := putQueues (d.swc.queues.map fun x => if sameCopy c x then c else x) d

/-- The DISC record of a copy that is discarded before its start (R276). -/
def discRecord (c : Copy) (d : Dev) : Dev :=
  if c.frame.tsreq ∧ c.port < 10 then tsqPush c.port (stampDisc (ethBase c.port d) c.frame.tsid d) d else d

/-- A copy is discarded before its start. -/
def discardCopy (c : Copy) (d : Dev) : Dev := d |> removeCopy c |> discRecord c

/-- The head of class c on port q (R369): the oldest copy that has not started. -/
def headOf (q c : Nat) (d : Dev) : Option Copy :=
  d.swc.queues.find? fun x => x.port = q && x.cls = c && !x.started

/-- The copies under way on port q. -/
def underWay (q : Nat) (d : Dev) : List Copy := d.swc.queues.filter fun x => x.port = q && x.started

/-! ## Gates (R371, R372) -/

/-- ALEN: 0 and 129-255 act as 128 (R381). -/
def adminLen (p : Nat) (d : Dev) : Nat := let n := rf (A.swcGate p 0) 7 0 d; if 1 ≤ n ∧ n ≤ 128 then n else 128
/-- ABASE as ns64. -/
def adminBase (p : Nat) (d : Dev) : Nat := (rd (A.swcGate p 8) d).toNat * 2 ^ 32 + (rd (A.swcGate p 4) d).toNat
/-- ACYCLE: values outside the range act as the nearer limit (R381). -/
def adminCycle (p : Nat) (d : Dev) : Nat := min 1000000000 (max 1000 (rd (A.swcGate p 12) d).toNat)

/-- A port's gate control at reset. -/
def gateDefault (_ : Nat) : Gate := ⟨0, 0, false, none, 0⟩
/-- Gate control of port p. -/
def getGate (p : Nat) (d : Dev) : Gate := tabGet gateDefault d.swc.gates p
/-- Change the gate control of port p. -/
def modGate (p : Nat) (f : Gate → Gate) (d : Dev) : Dev :=
  modSwc (fun s => { s with gates := tabSet gateDefault s.gates p (f (getGate p d)) }) d

/-- n entries of a list of port p as runs (states, start, end) in ns within a cycle of `cyc` ns (R371): the last entry holds,
an entry past the cycle's end is cut. -/
def listRuns (p bank n cyc : Nat) (d : Dev) : List (Nat × Nat × Nat) :=
  let r := (List.range n).foldl (fun (acc : List (Nat × Nat × Nat) × Nat) e =>
    let w := gateWord p bank e d
    let t := 8 * max 1 (fld w 23 0)
    let stop := if e + 1 = n then max cyc (acc.2 + t) else acc.2 + t
    (acc.1 ++ [(fld w 31 24, acc.2, min stop cyc)], acc.2 + t)) ([], 0)
  r.1.filter fun x => x.2.1 < x.2.2

/-- The operating list of port p (R371). -/
def gateRuns (p : Nat) (d : Dev) : List (Nat × Nat × Nat) :=
  listRuns p (rf (A.swcGate p 0x14) 14 14 d) (rf (A.swcGate p 0x14) 23 16 d) (getGate p d).cycle d

/-- The admin list of port p (R373). -/
def adminRuns (p : Nat) (d : Dev) : List (Nat × Nat × Nat) :=
  listRuns p (1 - rf (A.swcGate p 0x14) 14 14 d) (adminLen p d) (adminCycle p d) d

/-- Gate states of port p at base time t (R371). -/
def gateStates (p t : Nat) (d : Dev) : Nat :=
  let g := getGate p d
  if !rb (A.swcGate p 0) 23 d then 255
  else if !g.begun || t < g.base then rf (A.swcGate p 0) 31 24 d
  else
    let pos := (t - g.base) % max 1 g.cycle
    match (gateRuns p d).find? fun r => r.2.1 ≤ pos && pos < r.2.2 with
    | some r => r.1
    | none => 255

/-- How long class c stays open over the runs, in order; none where it never closes among them. -/
def openSpan (c : Nat) : List (Nat × Nat × Nat) → Nat → Option Nat
  | [], _ => none
  | r :: rs, acc => if r.1.testBit c then openSpan c rs (acc + (r.2.2 - r.2.1)) else some acc

/-- How long gate c of port p stays open from base time t on under the operating list, in ns; none without an end (R372). -/
def openListed (p c t : Nat) (d : Dev) : Option Nat :=
  let g := getGate p d
  let runs := gateRuns p d
  if !rb (A.swcGate p 0) 23 d then none
  else if !g.begun then (if rb (A.swcGate p 0) (24 + c) d then none else some 0)
  else if t < g.base then
    if rb (A.swcGate p 0) (24 + c) d then (openSpan c runs 0).map fun n => g.base - t + n else some 0
  else
    let pos := (t - g.base) % max 1 g.cycle
    let later := runs.filter fun r => pos < r.2.2
    let cut := later.map fun r => (r.1, max pos r.2.1, r.2.2)
    openSpan c (cut ++ runs) 0

/-- How long gate c of port p stays open from base time t on (R372); at a change time T the admin list takes over (R373). -/
def openFor (p c t : Nat) (d : Dev) : Option Nat :=
  let now := openListed p c t d
  match (getGate p d).change with
  | none => now
  | some T =>
    if !rb (A.swcGate p 0) 23 d || T ≤ t then now
    else if (match now with | none => true | some n => decide (T - t ≤ n)) then
      (openSpan c (adminRuns p d ++ adminRuns p d) 0).map fun n => T - t + n
    else now

/-- The longest contiguous open span of class c in the operating list (R372); none without an end. -/
def longestSpan (p c : Nat) (d : Dev) : Option Nat :=
  let runs := gateRuns p d
  if runs.all fun r => r.1.testBit c then none
  else some ((runs ++ runs).foldl (fun (acc : Nat × Nat) r =>
    if r.1.testBit c then (acc.1 + (r.2.2 - r.2.1), max acc.2 (acc.1 + (r.2.2 - r.2.1))) else (0, acc.2)) (0, 0)).2

/-- Duration in ns of n byte times on port p, rounded up. -/
def lineNs (p n : Nat) (d : Dev) : Nat := (n * byteTime (getEth p d).speed + 9) / 10

/-- ns64 of port p's base. -/
def portNs (p : Nat) (d : Dev) : Nat := (tbNs (ethBase p d) d).toNat

/-- May n byte times of class c pass before its gate closes (R372)? -/
def gateFits (p c n : Nat) (d : Dev) : Bool :=
  match openFor p c (portNs p d) d with
  | none => true
  | some s => lineNs p n d ≤ s

/-- Can n byte times of class c never pass the operating list (R372)? -/
def gateNever (p c n : Nat) (d : Dev) : Bool :=
  rb (A.swcGate p 0) 23 d && (getGate p d).begun &&
    (match longestSpan p c d with | none => false | some s => s < lineNs p n d)

/-- The gate of class c is open (R371): OSTATES shows the states in force. -/
def gateOpen (p c : Nat) (d : Dev) : Bool := !rb (A.swcGate p 0) 23 d || rb (A.swcGate p 0x18) c d

/-- OSTATES follows the list (R371). -/
def showGate (p : Nat) (d : Dev) : Dev := wr (A.swcGate p 0x18) (word (gateStates p (portNs p d) d)) d

/-! ## The frame on the line (R264, R265, R345, R361) -/

/-- Tags on egress port q (R361). -/
def editTags (f : Frame) (q : Nat) : List Byte :=
  if f.direct || f.sample then f.bytes
  else
    let body := if isTagged f.bytes then f.bytes.drop 16 else f.bytes.drop 12
    let dei := if isTagged f.bytes then be16 f.bytes 14 / 4096 % 2 else 0
    if f.untag.testBit q then f.bytes.take 12 ++ body
    else
      let tci := 8192 * f.pcp + 4096 * dei + f.vid
      f.bytes.take 12 ++ [0x81, 0x00, BitVec.ofNat 8 (tci / 256), BitVec.ofNat 8 tci] ++ body

/-- Replace bytes at offset i. -/
def putAt (bs : List Byte) (i : Nat) (new : List Byte) : List Byte :=
  bs.take i ++ new ++ bs.drop (i + new.length)

/-- Sum of the 16-bit words from offset i on. -/
def sum16 : Nat → List Byte → Nat → Nat
  | 0, _, _ => 0
  | n + 1, bs, i => be16 bs i + sum16 n bs (i + 2)

/-- A non-zero UDP checksum follows a change of the bytes behind it (R264). -/
def fixUdp (old new : List Byte) : List Byte :=
  match udpOffset new with
  | none => new
  | some u =>
    let c := be16 old (u + 6)
    if c = 0 then new
    else
      let n := (new.length - u) / 2
      let s := (65535 - c) + 65535 * (n + 1) - sum16 (n - 4) old (u + 8) + sum16 (n - 4) new (u + 8)
      let r := 65535 - s % 65535
      putAt new (u + 6) [BitVec.ofNat 8 (r / 256), BitVec.ofNat 8 r]

/-- Add to correctionField of the PTP header at o. -/
def addCorrection (bs : List Byte) (o : Nat) (x : Int) : List Byte :=
  let v := (signed 64 (beNat (slice bs (o + 8) 8)) + x)
  putAt bs (o + 8) ((leBytes 8 (wrapInt 64 v)).reverse)

/-- The transparent-clock update that port q applies to a frame (R265): its link delay in 2^-16 ns, none where no update
applies. -/
def tcMode (f : Frame) (q : Nat) (bs : List Byte) (d : Dev) : Option (Nat × Int) :=
  match ptpOffset bs with
  | none => none
  | some o =>
    let m := rf (A.ntmPtp q 0) 7 6 d
    if 10 ≤ f.port ∨ 10 ≤ q then none
    else if m = 1 ∧ (ptpType bs o = 0 ∨ ptpType bs o = 1) then some (o, 0)
    else if m = 2 ∧ ptpType bs o = 0 then some (o, (rd (A.ntmPtp f.port 12) d).toNat)
    else none

/-- TB_j at an egress instant `x` of port q, in 0.1 ns, with EGR_LAT applied (R261, R262). -/
def egressTb (q j x : Nat) (d : Dev) : TimeBase :=
  (tbAt j ((x : Int) - 25 * (d.now : Int)) 25 d).add ((rd (A.ntmPtp q 8) d).toInt * 16777216)

/-- One-step insertion (R264): originTimestamp and FRAC in correctionField. -/
def insertOrigin (bs : List Byte) (o : Nat) (t : TimeBase) : List Byte :=
  let bs := putAt bs (o + 34) ((leBytes 6 t.sec).reverse ++ (leBytes 4 t.ns).reverse)
  addCorrection bs o ((t.frac / 2 ^ 24 * 256 : Nat) : Int)

/-- What starting a copy on ETH port q yields: the bytes on the line, or a discard under R265. -/
inductive Launch where
  | bytes (bs : List Byte) (upd ign : Bool)
  | step
  deriving DecidableEq, Repr

/-- The bytes on the line of an ETH port for a copy whose frame starts at the instant `x` (R264, R265, R345). -/
def lineBytes (c : Copy) (x : Nat) (d : Dev) : Launch :=
  let q := c.port
  let f := c.frame
  let b0 := editTags f q
  let j := rf A.ntmTcCtrl 1 0 d
  let shift (o : Nat) : Nat := o + b0.length - f.bytes.length
  let o1 := shift f.ptpoff
  let sync : Bool := f.onestep && rb (A.ntmPtp q 0) 8 d && ptpType b0 o1 = 0 && decide (o1 + 44 ≤ b0.length)
  let two : Bool := (b0.getD (o1 + 6) 0).toNat.testBit 1
  let go (bs : List Byte) (upd : Bool) : Launch :=
    let bs := if sync && !two then fixUdp bs (insertOrigin bs o1 (egressTb q (ethBase q d) x d)) else bs
    .bytes (bs ++ List.replicate (60 - bs.length) 0) upd (f.onestep && !sync)
  match tcMode f q b0 d with
  | none => go b0 false
  | some (o, dly) =>
    let t := egressTb q j x d
    if t.epoch ≠ f.tcEpoch then .step
    else
      let res : Int := (((t.sec * 1000000000 + t.ns) * 2 ^ 32 + t.frac : Nat) : Int) - (f.tcTime : Int)
      go (fixUdp b0 (addCorrection b0 o (res / 65536 + dly))) true

/-! ## The switch buffer's parity (R134) -/

/-- The log of the first parity mismatch, for one in the switch packet buffer (R131, R148): the scrubber gives its
sub-bank, row and lane; at a dequeue the frame's place in the buffer is open. MASTER is that of `m`, 21 at an engine port; R147
has no code for the dequeue of an Ethernet port, so it is a free value there (notes/assumptions/50.md). -/
def swbLog (m : Option Nat) (place : Option (Nat × Nat × Nat)) (d : Dev) : Dev :=
  if rb A.memParLog0 31 d then d
  else match place with
    | some (sub, row, lane) =>
      d |> wr A.memParLog0 (word (2 ^ 31 + 2 ^ 30 + atBit 58 24 + atBit row 8 + lane))
        |> wf A.memParLog1 31 27 24 |> wf A.memParLog1 19 16 sub
    | none =>
      let p := freeWord d
      p.2 |> wr A.memParLog0 (word (2 ^ 31 + atBit 58 24 + atBit (fld p.1 12 0) 8 + fld p.1 17 13))
          |> wf A.memParLog1 31 27 (m.getD (fld p.1 22 18)) |> wf A.memParLog1 19 16 (fld p.1 26 23)

/-- A parity mismatch in the switch packet buffer (R134): counted; eight within 1 ms are a fault. -/
def swbParity (m : Option Nat) (place : Option (Nat × Nat × Nat)) (d : Dev) : Dev :=
  let l := d.now :: d.swc.parity.filter fun t => d.now < t + 400000
  d |> swbLog m place |> incr A.memSwbPar 15 0 |> modSwc (fun s => { s with parity := l })
    |> when (decide (8 ≤ l.length)) (report 0x41 4 0 0)

/-! ## Transmission selection (R369-R372) -/

/-- The launch time has come (R272), as a signed difference. -/
def launchDue (q : Nat) (l : DWord) (d : Dev) : Bool := 0 ≤ (tbNs (ethBase q d) d - l).toInt

/-- How long ago, in 0.1 ns, the launch time of a head came, where it came in this CORE cycle (R272). -/
def launchAge (c : Copy) (d : Dev) : Option Nat :=
  match c.launch with
  | none => none
  | some l =>
    let t := tbGet (ethBase c.port d) d
    let u : Int := (t.ns64 - l).toInt * 4294967296 + t.frac
    if 0 ≤ u ∧ u < tickUnit then some (u * 25 / tickUnit).toNat else none

/-- Byte time of port q's line in 0.1 ns. -/
def portByte (q : Nat) (d : Dev) : Nat := byteTime (getEth q d).speed

/-- A timed frame that starts at its launch time (R272): its preamble of 8 byte times went before, on a free line through an
open gate; the mark tells that this held. -/
def onTime (c : Copy) (d : Dev) : Option Nat :=
  let q := c.port
  match launchAge c d with
  | none => none
  | some a =>
    let x := 25 * d.now - a
    let lead := 8 * portByte q d
    if (getEth q d).lineAt + lead ≤ x && (gateStates q (portNs q d - lead / 10) d).testBit c.cls then some x else none

/-- The instant in 0.1 ns at which the frame of a head starts if it is selected now (R272): at its launch time, else after
the inter-frame gap (R376) and a preamble that begins now; always at a byte boundary. -/
def startAt (c : Copy) (d : Dev) : Nat :=
  let q := c.port
  byteBoundary q ((onTime c d).getD (max (25 * d.now) (getEth q d).lineAt + 8 * portByte q d)) d

/-- May the head start now (R369, R372)? The preamble of a frame that starts at its launch time has gone. -/
def mayStart (c : Copy) (d : Dev) : Bool :=
  let q := c.port
  let n := max 64 ((editTags c.frame q).length + 4)
  let n := if (onTime c d).isSome then n else 8 + n
  !c.trigHeld && (match c.launch with | none => true | some l => launchDue q l d) && gateOpen q c.cls d &&
    (preemptable q c.cls d || gateFits q c.cls n d)

/-- A head that no span of the list fits (R372). -/
def neverFits (c : Copy) (d : Dev) : Bool :=
  !preemptable c.port c.cls d && gateNever c.port c.cls (8 + max 64 ((editTags c.frame c.port).length + 4)) d

/-- A selected copy starts, or is discarded at dequeue (R134, R264, R265, R345, R276). -/
def startCopy (c : Copy) (d : Dev) : Dev :=
  let q := c.port
  let d := countSwc q (0x10 * c.cls) d
  let x := startAt c d
  if c.frame.upset then d |> swbParity none none |> discardCopy c
  else if maxLen q d < (editTags c.frame q).length + 4 then d |> countEth q 0x44 |> discardCopy c
  else match lineBytes c x d with
    | .step => d |> incrSat (A.ntmPtp q 0x34) 15 0 |> raise (A.ntmPtp q 0x18) 3 |> discardCopy c
    | .bytes bs upd ign =>
      d |> when upd (incr (A.ntmPtp q 0x34) 31 16)
        |> raiseIf ign (A.ntmPtp q 0x18) 4
        |> when c.frame.tsreq (tsqPush q (ethStamp q c.frame.tsid (egressTb q (ethBase q d) x d) d))
        |> updateCopy { c with started := true, line := bs, since := x }

/-- The copy on the line of port q. -/
def onLine (q : Nat) (d : Dev) : Option Copy := (underWay q d).find? fun x => !x.paused

/-- Bytes of a copy that have left since its fragment began. -/
def bytesOut (x : Copy) (d : Dev) : Nat := (25 * d.now - x.since) / portByte x.port d

/-- May the preemptable copy on the line be cut here (R353)? Not one in cut-through; a fragment that is not the last has at
least (ADDFRAG + 1) x 64 bytes with its check sequence, and bytes of the frame are left. -/
def canSplit (x : Copy) (d : Dev) : Bool :=
  preemptable x.port x.cls d && !x.cut &&
    decide (64 * (rf (A.ethMmCtrl x.port) 1 0 d + 1) ≤ bytesOut x d + 4 ∧ x.sent + bytesOut x d < x.line.length)

/-- The fragment on the line ends (R353): 4 bytes of check sequence and the gap of 12 byte times follow (R376). -/
def splitCopy (x : Copy) (d : Dev) : Dev :=
  d |> updateCopy { x with frags := x.frags + 1, sent := x.sent + bytesOut x d, paused := true } |> countEth x.port 0x4C
    |> modEth x.port (fun e => { e with lineAt := 25 * d.now + 16 * portByte x.port d })

/-- May port q select another copy: nothing is on the line, or a preemptable copy that an express one may preempt (R353)? A
preemptable frame waits for the one that is between two fragments. -/
def lineFree (c : Copy) (d : Dev) : Bool :=
  let p : Bool := preemptable c.port c.cls d
  match onLine c.port d with
  | none => !p || (underWay c.port d).isEmpty
  | some x => !p && canSplit x d

/-- The preempted copy's fragment ends (R353). -/
def preempt (q : Nat) (d : Dev) : Dev :=
  match onLine q d with
  | some x => splitCopy x d
  | none => d

/-- A copy between two fragments goes on where the line is free and its gate open (R353, R372). -/
def resumeCopy (q : Nat) (d : Dev) : Dev :=
  match onLine q d, (underWay q d).find? fun x => gateOpen q x.cls d with
  | none, some x =>
    updateCopy { x with paused := false, since := byteBoundary q (max (25 * d.now) (getEth q d).lineAt + 8 * portByte q d) d } d
  | _, _ => d

/-- A preemptable copy whose gate closed is held at the next fragment boundary (R372). -/
def holdCopy (q : Nat) (d : Dev) : Dev :=
  match onLine q d with
  | some x => when (!gateOpen q x.cls d && canSplit x d) (splitCopy x) d
  | none => d

/-- The head that port q selects: the highest class whose head may start (R369). -/
def pickHead (q : Nat) (d : Dev) : Option Copy :=
  ([7, 6, 5, 4, 3, 2, 1, 0].filterMap fun c => headOf q c d).find? fun c => mayStart c d && lineFree c d

/-- Has the late window of a head passed (R273)? LATE_WIN of 0xFFFF_FFFF disables the rule. -/
def isLate (c : Copy) (d : Dev) : Bool :=
  let w := (rd (A.ntmPtp c.port 0x10) d).toNat
  match c.launch with
  | some l => w ≠ 0xFFFFFFFF && decide ((w : Int) < (tbNs (ethBase c.port d) d - l).toInt)
  | none => false

/-- A late head is discarded (R273). -/
def discardLate (c : Copy) (d : Dev) : Dev :=
  d |> discardCopy c |> incrSat (A.ntmPtp c.port 0x30) 15 0 |> raise (A.ntmPtp c.port 0x18) 1

/-- A head to discard: late (0, R273), beyond its horizon (1, R274), or in no span of its class (2, R372). The late rule
waits for the link during a hold (R380). -/
def badHead (q : Nat) (d : Dev) : Option (Copy × Nat) :=
  ((List.range 8).filterMap fun c => headOf q c d).findSome? fun c =>
    let h := (rd (A.ntmPtp q 0x14) d).toNat
    let h := if h = 0 then 1000000 else h
    let far : Bool := match c.launch with
      | some l => !c.trigHeld && decide (((h * 1000 : Nat) : Int) < (l - tbNs (ethBase q d) d).toInt)
      | none => false
    if isLate c d && (getEth q d).link = .up then some (c, 0)
    else if far then some (c, 1) else if neverFits c d then some (c, 2) else none

/-- A bad head is discarded (R273, R274, R372). -/
def discardBad (c : Copy) (why : Nat) (d : Dev) : Dev :=
  match why with
  | 0 => discardLate c d
  | 1 => d |> discardCopy c |> incrSat (A.ntmPtp c.port 0x30) 31 16 |> raise (A.ntmPtp c.port 0x18) 2
  | _ => d |> discardCopy c |> countSwc c.port 0x98

/-- Heads are checked and a free line takes the next copy (R273, R274, R369), at most n times. -/
def serveN : Nat → Nat → Dev → Dev
  | 0, _, d => d
  | n + 1, q, d =>
    match badHead q d with
    | some (c, why) => serveN n q (discardBad c why d)
    | none =>
      if (getEth q d).link ≠ .up then d
      else match pickHead q d with
        | none => d |> holdCopy q |> resumeCopy q
        | some c => serveN n q (d |> preempt q |> startCopy c)

/-- Port q looks for a frame to send (R369); engine ports deliver by their own command. -/
def serve (q : Nat) (d : Dev) : Dev :=
  if q < 10 ∧ swcOn d then serveN (d.swc.queues.length + 1) q d else d

/-! ## Admission and push-out (R364, R368) -/

/-- QUOTA of port q. -/
def quotaOf (q : Nat) (d : Dev) : Nat := rf (A.swcPort q 8) 13 0 d

/-- Does a copy of n cells fit (R368)? `first` is the frame's first copy. -/
def copyFits (q n : Nat) (first : Bool) (l : List Copy) (d : Dev) : Bool :=
  (quotaOf q d = 0 || portCells q l + n ≤ quotaOf q d) && (!first || n ≤ poolFreeCells l)

/-- The most recently enqueued copy of the lowest class below c among those of p. -/
def lowestVictim (c : Nat) (p : Copy → Bool) (l : List Copy) : Option Copy :=
  (l.filter fun x => x.cls < c && !x.started && !x.cut && p x).foldl (fun best x => match best with
    | none => some x
    | some b => if x.cls ≤ b.cls then some x else best) none

/-- Victims for a copy of class c on port q (R368), at most k; none where they do not make room. -/
def victims : Nat → Nat → Nat → Nat → Bool → List Copy → Dev → Option (List Copy)
  | k, q, c, n, first, l, d =>
    if copyFits q n first l d then some []
    else match k with
      | 0 => none
      | k + 1 =>
        let v := match lowestVictim c (fun x => x.port = q) l with
          | some x => some x
          | none => if first && decide (poolFreeCells l < n) then lowestVictim c (fun _ => true) l else none
        match v with
        | none => none
        | some x => (victims k q c n first (dropIf (sameCopy x) l) d).map fun r => x :: r

/-- A victim is evicted (R368). -/
def evict (x : Copy) (d : Dev) : Dev :=
  d |> discardCopy x |> countSwc x.port (0x10 * x.cls + 8) |> raise A.swcStat 2

/-- The copy of a frame for port q (R370, R378): engine ports ignore TIMED and TRIG. -/
def copyFor (f : Frame) (q cells : Nat) : Copy :=
  { frame := f, port := q, cls := f.cls, launch := if q < 10 then f.launch else none
    trigHeld := q < 10 && f.trig, started := false, cut := false, cells := cells, line := [], frags := 0, sent := 0, since := 0
    paused := false }

/-- Admit a copy to egress port q (R354, R364, R368); the mark says whether it entered its queue. -/
def admitCopy (c : Copy) (first : Bool) (d : Dev) : Bool × Dev :=
  let q := c.port
  if portState q d = 0 || (10 ≤ q && !rb (A.swcEp (q - 10) 0) 31 d) then
    (false, d |> countSwc q 0x94 |> raise A.swcStat 0 |> discRecord c)
  else if q < 10 && ((getEth q d).link = .down || (getEth q d).link = .off) then (false, d |> countEth q 0x40 |> discRecord c)
  else match victims 4 q c.cls c.cells first d.swc.queues d with
    | none => (false, d |> countSwc q (0x10 * c.cls + 12) |> raise A.swcStat 1 |> discRecord c)
    | some vs =>
      let d := vs.foldl (fun d x => evict x d) d
      let d := putQueues (d.swc.queues ++ [c]) d
      (true, vs.foldl (fun d x => serve x.port d) d)

/-- Admit a planned frame to each egress port of its mask, in ascending order (R359). -/
def admitFrame (f : Frame) (cells : Nat) (d : Dev) : Dev :=
  ((List.range 14).foldl (fun (acc : Bool × Dev) q =>
    if f.mask.testBit q && !f.started.testBit q then
      let r := admitCopy (copyFor f q cells) acc.1 acc.2
      (acc.1 && !r.1, serve q r.2)
    else acc) (decide (f.started = 0) || d.swc.queues.all fun c => c.frame.id ≠ f.id, d)).2

/-! ## Sampling (R379) -/

/-- The sampling copy of a frame (R379): truncated to 128 bytes, TAG its original length. SAMPLED or SAMPLE_DROP counts it when
the engine port delivers it or cannot. -/
def sampleCopy (f : Frame) (d : Dev) : Dev :=
  let w := rd (A.swcPort f.port 0x10) d
  let q := 10 + fld w 1 0
  let g : Frame := { f with
    id := d.swc.nextId, bytes := f.bytes.take 128, sample := true, planned := true, mask := 2 ^ q, cls := fld w 4 2
    stamp := { f.stamp with w0 := setFld f.stamp.w0 31 16 f.bytes.length }, tsreq := false, launch := none, trig := false }
  let c := copyFor g q (cellsOf (g.bytes.length + 4))
  let d := modSwc (fun s => { s with nextId := s.nextId + 1 }) d
  if portState q d ≠ 0 && rb (A.swcEp (q - 10) 0) 31 d && copyFits q c.cells true d.swc.queues d then
    putQueues (d.swc.queues ++ [c]) d
  else countSwc f.port 0xA0 d

/-- Sampling of the frames of ETH port p (R379). -/
def sampleFrame (f : Frame) (d : Dev) : Dev :=
  if 10 ≤ f.port then d
  else
    let n := rf (A.swcPort f.port 0x10) 31 16 d
    if n = 0 then d
    else
      let k := tabGet (fun _ => 0) d.swc.sample f.port + 1
      let put (v : Nat) (d : Dev) : Dev := modSwc (fun s => { s with sample := tabSet (fun _ => 0) s.sample f.port v }) d
      if n ≤ k then d |> put 0 |> sampleCopy f else put k d

/-- A frame that reached the switch is sampled, classified and admitted (R359). -/
def switchFrame (f : Frame) (d : Dev) : Dev :=
  let d := sampleFrame f d
  if f.planned then admitFrame f (cellsOf (f.bytes.length + 4)) d
  else match classify f f.bytes.length d with
    | (none, d) => d
    | (some g, d) => admitFrame g (cellsOf (g.bytes.length + 4)) d

/-- The state word of SWC (R381). -/
def swcState (d : Dev) : Word := word (atBit (rf A.swcCtrl 0 0 d) 31 + atBit (poolFreeCells d.swc.queues) 16)

end Sys2Proof.Machine
end

