-- ==== Sys2Proof/Machine/Timed.lean ====
section
/-! DEFINITION. Machine/Timed.lean: timed frames, late frames, gate lists and steps of a time base (R258, R268-R275, R370,
R371, R373, R374). -/

namespace Sys2Proof.Machine

/-! ## Gate lists (R371, R373) -/

/-- The change time T (R373): ABASE + k x ACYCLE for the smallest k at or after now. -/
def changeTime (p : Nat) (d : Dev) : Nat :=
  let b := adminBase p d
  let c := adminCycle p d
  let t := portNs p d
  if t ≤ b then b else b + (t - b + c - 1) / c * c

/-- SWC_GATE_p +0x00 (R371): EN and INIT act at once. -/
def writeGate (m p : Nat) (v : Word) (d : Dev) : Dev := d |> storeReg m (A.swcGate p 0) v |> showGate p |> serve p

/-- SWC_GATE_p +0x10 (R373): CHANGE, or a cancel before T. -/
def writeGateCmd (m p : Nat) (v : Word) (d : Dev) : Dev :=
  if fld v 31 16 ≠ 0x0D6A then d
  else
  let d := storeReg m (A.swcGate p 0x10) v d
  if fld v 1 0 = 1 then
    d |> modGate p (fun g => { g with change := some (changeTime p d) }) |> wb (A.swcGate p 0x14) 15 true
  else if fld v 1 0 = 2 then
    match (getGate p d).change with
    | none => raiseIf (decide ((getGate p d).taken ≠ 0)) (A.swcGate p 0x14) 1 d
    | some t =>
      if portNs p d < t then d |> modGate p (fun g => { g with change := none }) |> wb (A.swcGate p 0x14) 15 false
      else raise (A.swcGate p 0x14) 1 d
  else d

/-- T arrives (R373): the admin bank becomes the operating one. -/
def gateSwap (p : Nat) (d : Dev) : Dev :=
  let st := A.swcGate p 0x14
  d |> wf st 23 16 (adminLen p d) |> wb st 14 (!rb st 14 d) |> wb st 15 false |> raise st 0
    |> modGate p (fun _ => ⟨adminBase p d, adminCycle p d, true, none, d.now + 1⟩)
    |> showGate p |> serve p

/-- CHANGE (R373). -/
def execGateAdminChange (m : Fin 20) (p : Fin 10) (s : State) : Host.Outcome State Fault Refusal :=
  onPow (writeGateCmd m p 0x0D6A0001) s
/-- CANCEL (R373). -/
def execGateAdminCancel (m : Fin 20) (p : Fin 10) (s : State) : Host.Outcome State Fault Refusal :=
  onPow (writeGateCmd m p 0x0D6A0002) s

/-- GATE_CHANGE_TIME (R373): the base has reached T. -/
def execGateChangeTime (p : Fin 10) (s : State) : Host.Outcome State Fault Refusal :=
  onDev (fun d =>
    match (getGate p d).change with
    | some t => when (decide (t ≤ portNs p d) && inService d) (gateSwap p) d
    | none => d) s

/-- GATE_CHANGE (R371): the gate states follow the list, and the port may send. -/
def execGateChange (p : Fin 10) (s : State) : Host.Outcome State Fault Refusal :=
  onDev (fun d => when (inService d) (fun d => d |> showGate p |> serve p) d) s

/-! ## Timed, late and aged heads (R272-R275, R374) -/

/-- TIMED_LAUNCH (R272): the launch time of the head of a class has come; the port sends what it selects. -/
def execTimedLaunch (p : Fin 10) (cls : Fin 8) (s : State) : Host.Outcome State Fault Refusal :=
  onDev (fun d =>
    match headOf p cls d with
    | none => d
    | some c => when (match c.launch with | some l => launchDue p l d | none => false) (serve p) d) s

/-- LATE_DISCARD (R273); during a hold the rule waits for the link (R380). -/
def execLateDiscard (p : Fin 10) (cls : Fin 8) (s : State) : Host.Outcome State Fault Refusal :=
  onDev (fun d =>
    match headOf p cls d with
    | none => d
    | some c => when (swcOn d && isLate c d && (getEth p d).link ≠ .hold) (fun d => d |> discardLate c |> serve p) d) s

/-- Late heads of every class of port p (R273, R355). -/
def discardLateHeads (p : Nat) (d : Dev) : Dev :=
  d.swc.queues.foldl (fun d c => if c.port = p ∧ !c.started ∧ isLate c d then discardLate c d else d) d

/-- The age limit of a class in microseconds (R374, R381). -/
def ageLimit (q c : Nat) (d : Dev) : Nat := rf (A.swcPort q (0x20 + 4 * (c / 2))) (16 * (c % 2) + 15) (16 * (c % 2)) d

/-- FRAME_AGED (R374): the head of a class is older than its limit, counted on the 1 us tick. -/
def execFrameAged (q : Fin 14) (cls : Fin 8) (s : State) : Host.Outcome State Fault Refusal :=
  onDev (fun d =>
    match headOf q cls d with
    | none => d
    | some c =>
      let l := ageLimit q cls d
      when (swcOn d && decide (l ≠ 0 ∧ c.frame.arrival / 400 + l < d.now / 400))
        (fun d => d |> discardCopy c |> countSwc q (0x10 * cls.val + 4) |> serve q) d) s

/-- A compare trigger launches the head of a class (R268, R370); the mark says whether a head stood there. -/
def triggerLaunch (p cls : Nat) (target : DWord) (d : Dev) : Bool × Dev :=
  match headOf p cls d with
  | none => (false, d)
  | some c => (true, d |> updateCopy { c with launch := some target, trigHeld := false } |> serve p)

/-! ## Steps (R258, R274, R371, R373) -/

/-- A step of TB_j to a value: gate lists, change times and heads of the ports on that base follow. -/
def stepBase (j : Nat) (t : TimeBase) (d : Dev) : Dev :=
  let d := stepTb j t d
  (List.range 10).foldl (fun d p =>
    if ethBase p d ≠ j then d
    else
      let d := match (getGate p d).change with
        | some _ => modGate p (fun g => { g with change := some (changeTime p d) }) d
        | none => d
      d |> showGate p |> serve p) d

/-- Triggers on TB_j that skip periods evaluate its stepped value (R267, R269). -/
def skipAfter (j : Nat) (d : Dev) : Dev :=
  (d.ntm.trig.map (·.1)).foldl (fun d k => if rf (A.ntmTrig k 12) 29 28 d = j then trigSkip k d else d) d

/-- STEP_TAKES_EFFECT (R258): four CORE cycles after its command. -/
def execStepTakesEffect (j : Fin 4) (s : State) : Host.Outcome State Fault Refusal :=
  onDev (fun d =>
    let t := tbGet j d
    match t.step with
    | [] => d
    | c :: rest => when (decide (c.due ≤ d.now)) (fun d => d |> stepBase j { t.stepped c with step := rest } |> skipAfter j) d) s

end Sys2Proof.Machine
end

