-- ==== Sys2Proof/Machine/EthCommands.lean ====
section
/-! DEFINITION. Machine/EthCommands.lean: the commands of the Ethernet ports and of the switch core (R344, R353-R356,
R359, R362, R365, R369, R375, R377, R378). -/

namespace Sys2Proof.Machine

/-! ## Link state (R354-R356) -/

/-- A flush (R355): every queued frame of the port's egress is discarded and counted. -/
def flushPort (p : Nat) (d : Dev) : Dev :=
  d.swc.queues.foldl (fun d c => if c.port = p ∧ !c.started then d |> countEth p 0x40 |> discardCopy c else d) d

/-- A frame in transmission is cut short (R356). -/
def abortTransmit (p : Nat) (d : Dev) : Dev :=
  (underWay p d).foldl (fun d c => d |> countEth p 0x3C |> removeCopy c) d

/-- ETH_CTRL (R341, R354): IF = 1 is reserved on ETH_4-ETH_9 and powers the lane of ETH_0-ETH_3 down; EN starts the port or flushes it and powers the lane down; not in Twilight. -/
def writeEthCtrl (m p : Nat) (v : Word) (d : Dev) : Dev :=
  let was := rb (A.ethCtrl p) 15 d
  if d.sys.mode = .twilight && !was && bit v 15 then d
  else
    let d := d |> storeReg m (A.ethCtrl p) v
      |> errIf (bit v 12 && decide (4 ≤ p) && !committed d) (A.block (0xC + p)) m errRsvd (A.ethCtrl p)
      |> fun d => when (ethRgmii p d) (modEth p fun e => { e with lane := false }) d
    let now := rb (A.ethCtrl p) 15 d
    if !was && now then modEth p (fun e => { e with link := .down, lane := false }) d
    else if was && !now then
      let up : Bool := (getEth p d).link = .up
      d |> abortTransmit p |> flushPort p |> raiseIf up (A.ethStat p) 0
        |> modEth p (fun e => { e with link := .off, lane := false }) |> setVstat p 0
    else d

/-- PORT_ENABLE (R354): EN becomes 1. -/
def execPortEnable (m : Fin 20) (p : Fin 10) (s : State) : Host.Outcome State Fault Refusal :=
  onPow (fun d => writeEthCtrl m p (setBit (rd (A.ethCtrl p) d) 15 true) d) s
/-- PORT_DISABLE (R354): EN becomes 0. -/
def execPortDisable (m : Fin 20) (p : Fin 10) (s : State) : Host.Outcome State Fault Refusal :=
  onPow (fun d => writeEthCtrl m p (setBit (rd (A.ethCtrl p) d) 15 false) d) s

/-- Verification starts with the link (R353). -/
def verifyStart (p : Nat) (d : Dev) : Dev :=
  d |> modEth p (fun e => { e with verify := 0, verifyLast := 0 })
    |> setVstat p (if p < 8 && rb (A.ethMmCtrl p) 4 d && !rb (A.ethMmCtrl p) 3 d then 1 else 0)

/-- The link comes up (R354, R355): survivors of a hold are first tested against their late window. -/
def linkUp (p phy : Nat) (d : Dev) : Dev :=
  let hold : Bool := (getEth p d).link = .hold
  d |> modEth p (fun e => { e with link := .up, speed := runSpeed p phy d }) |> raise (A.ethStat p) 0
    |> verifyStart p |> when hold (discardLateHeads p) |> serve p

/-- LINK_UP (R354): the interface reports link, at the speed that the PHY reports. -/
def execLinkUp (p : Fin 10) (phy : Fin 3) (s : State) : Host.Outcome State Fault Refusal :=
  onDev (fun d =>
    let e := getEth p d
    when (inService d && (e.link = .down || e.link = .hold) && (e.lane || ethRgmii p d)) (linkUp p phy) d) s

/-- LINK_DOWN (R354, R356): the link is lost; HOLD_US decides between a flush and a hold. -/
def execLinkDown (p : Fin 10) (s : State) : Host.Outcome State Fault Refusal :=
  onDev (fun d =>
    let hold := rf (A.ethHold p) 15 0 d
    when (inService d && (getEth p d).link = .up)
      (fun d =>
        let d := d |> abortTransmit p |> raise (A.ethStat p) 0 |> setVstat p 0
        if hold = 0 then d |> modEth p (fun e => { e with link := .down }) |> flushPort p
        else modEth p (fun e => { e with link := .hold, holdEnd := d.now + usCycles hold }) d) d) s

/-- LINK_HOLD_EXPIRY (R354). -/
def execLinkHoldExpiry (p : Fin 10) (s : State) : Host.Outcome State Fault Refusal :=
  onDev (fun d =>
    let e := getEth p d
    when (inService d && e.link = .hold && decide (e.holdEnd ≤ d.now))
      (fun d => d |> modEth p (fun e => { e with link := .down }) |> flushPort p) d) s

/-- VERIFY_FRAME (R353): up to three verify frames, 10 ms apart; `answered` tells of the link partner's response. -/
def execVerifyFrame (p : Fin 8) (answered : Bool) (s : State) : Host.Outcome State Fault Refusal :=
  onDev (fun d =>
    let e := getEth p d
    let v := rf (A.ethMmStat p) 2 0 d
    when (inService d && e.link = .up && (v = 1 || v = 2) && (e.verify = 0 || decide (e.verifyLast + usCycles 10000 ≤ d.now)))
      (fun d =>
        if 3 ≤ e.verify then setVstat p 4 d
        else d |> modEth p (fun e => { e with verify := e.verify + 1, verifyLast := d.now })
               |> setVstat p (if answered then 3 else 2)) d) s

/-! ## Reception (R344, R356, R375) -/

/-- What fails a received frame (R343, R344, R353). -/
inductive RxFault where
  | runt | code | giant | fcs | merge
  deriving DecidableEq, Repr

/-- The failures of a frame of `len` bytes without its frame check sequence (R344): a giant with a bad frame check sequence
counts as a giant only, and an assembly error ends a frame before its checks (R353). -/
def rxFaults (p len : Nat) (fcs code merge : Bool) (d : Dev) : List RxFault :=
  let giant : Bool := decide (maxLen p d < len + 4)
  if merge then [.merge]
  else (if len + 4 < 64 then [.runt] else []) ++ (if code then [.code] else []) ++ (if giant then [.giant] else []) ++
    (if fcs || giant then [] else [.fcs])

/-- The counter of a failure (R344, R353, R357). -/
def countFault (p : Nat) (d : Dev) (e : RxFault) : Dev :=
  match e with
  | .runt => countEth p 0x0C d
  | .code => countEth p 0x18 d
  | .giant => countEth p 0x14 d
  | .fcs => countEth p 0x10 d
  | .merge => d |> countEth p 0x50 |> raise (A.ethStat p) 3

/-- The frame of port p in cut-through (R375). -/
def cutFrame (p : Nat) (d : Dev) : Option Frame := d.swc.cutIn.find? fun f => f.port = p

/-- A cut-through copy gets the whole frame g (R265, R375): its cells are corrected and a transparent-clock update is applied at
the instant of its start. A frame above the egress port's MAXLEN leaves cut there with an inverted frame check sequence
(R345, notes/assumptions/129.md). -/
def cutLine (g : Frame) (c : Copy) (d : Dev) : Copy × Dev :=
  let q := c.port
  let cells := cellsOf (g.bytes.length + 4)
  let r : List Byte × Bool := match lineBytes { c with frame := g } c.since d with
    | .bytes bs upd _ => (bs, upd)
    | .step => (editTags g q, false)
  let long : Bool := decide (maxLen q d < r.1.length + 4)
  ({ c with frame := { g with good := g.good && !long }, cut := false, cells := cells
            line := if long then r.1.take (maxLen q d - 4) else r.1 },
   d |> when r.2 (incr (A.ntmPtp q 0x34) 31 16) |> when long (countEth q 0x44) |> when (!g.good) (countSwc q 0x90))

/-- The cut-through copies of frame f get its bytes (R375). A bad frame leaves up to the ingress port's MAXLEN, with an inverted
frame check sequence. -/
def endCut (f : Frame) (bs : List Byte) (good : Bool) (d : Dev) : Dev :=
  let g := { f with bytes := if good then bs else bs.take (maxLen f.port d - 4), good := good }
  let d := modSwc (fun s => { s with cutIn := dropIf (fun x => x.port = f.port) s.cutIn }) d
  (d.swc.queues.filter fun c => c.frame.id = f.id && c.cut).foldl (fun d c => let r := cutLine g c d; updateCopy r.1 r.2) d

/-- A frame ends at the MAC (R344, R346, R349-R352). `bs` is the frame without its frame check sequence, `ago` how long
ago, in 2^-8 ns, the first bit after the start frame delimiter arrived. -/
def frameReceive (p : Nat) (bs : List Byte) (fcs code merge : Bool) (frags ago : Nat) (d : Dev) : Dev :=
  let e := rxFaults p bs.length fcs code merge d
  let d := wf (A.ethCnt p 0x48) 31 0 ((rd (A.ethCnt p 0x48) d).toNat + frags) d
  if e ≠ [] then
    let d := e.foldl (countFault p) d
    let d := match cutFrame p d with | some f => endCut f bs false d | none => d
    if e.contains .runt || e.contains .merge then d else releaseTaken p bs d
  else
    let d := countEth p 0x00 d
    let d := modEth p (fun x => { x with rxBytes := x.rxBytes + BitVec.ofNat 64 (bs.length + 4), rseq := (x.rseq + 1) % 65536 }) d
    let seq := ((getEth p d).rseq + 65535) % 65536
    let stamp := ethStamp p seq (ingressTb p (ethBase p d) ago d) d
    let ts := ingressTb p 0 ago d
    let f := macFrame p bs stamp ts ago d
    match verdict p bs d with
    | .control => countEth p 0x1C d
    | .drop => countEth p 0x20 d
    | .trap => toSwitch { f with trap := true } d
    | .action sw q =>
      let d := if !sw then d else match cutFrame p d with
        | some c => d |> endCut c bs true
            |> modSwc fun s => { s with inbound := s.inbound ++ [{ c with bytes := bs, stamp := stamp }] }
        | none => toSwitch f d
      match q with
      | some q => queueFrame p q bs stamp ts d
      | none => d

/-- ETH_FRAME_RECEIVE (R344): on a port whose link is up, in service; a frame whose link was lost ends with a code error
(R356). -/
def execEthFrameReceive (p : Fin 10) (bs : List Byte) (fcs code merge : Bool) (frags ago : Nat) (s : State) :
    Host.Outcome State Fault Refusal :=
  onDev (fun d =>
    let l := (getEth p d).link
    when (inService d && (l = .up || (code && (l ≠ .off || (cutFrame p d).isSome)))) (frameReceive p bs fcs code merge frags ago) d) s

/-! ## Admission and transmission -/

/-- SWITCH_ADMISSION (R359): the frame that reached the switch first; `upset` tells of a bit that flips in its cells (R134). -/
def execSwitchAdmission (upset : Bool) (s : State) : Host.Outcome State Fault Refusal :=
  onDev (fun d =>
    match d.swc.inbound with
    | [] => d
    | f :: rest =>
      let d' := modSwc (fun s => { s with inbound := rest }) d
      if swcOn d then switchFrame { f with upset := upset } d' else if inService d then d' else d) s

/-- May a copy of frame f for egress q go cut-through (R372, R375)? -/
def cutOk (f : Frame) (q : Nat) (d : Dev) : Bool :=
  let e := getEth q d
  q < 10 && rb (A.swcPort f.port 12) q d && e.speed ≤ (getEth f.port d).speed && e.link = .up &&
    (d.swc.queues.all fun c => c.port ≠ q || (c.cls ≠ f.cls && !c.started)) &&
    gateOpen q f.cls d && gateFits q f.cls (8 + maxLen q d) d

/-- A copy that qualifies is admitted and starts (R368, R375): its cells count as MAXLEN of the ingress port. Where no
room can be made it is dropped like any copy; `first` tells whether it would take the frame's pool cells. -/
def startCut (f : Frame) (first : Bool) (q : Nat) (d : Dev) : Dev :=
  let c := copyFor f q (cellsOf (maxLen f.port d))
  let x := startAt c d
  match lineBytes c x d, victims 4 q c.cls c.cells first d.swc.queues d with
  | .bytes bs _ _, some vs =>
    let d := vs.foldl (fun d x => evict x d) d
    let d := d |> putQueues (d.swc.queues ++ [{ c with started := true, cut := true, line := bs, since := x }])
      |> countSwc q (0x10 * c.cls)
    vs.foldl (fun d x => serve x.port d) d
  | .step, _ => d |> incrSat (A.ntmPtp q 0x34) 15 0 |> raise (A.ntmPtp q 0x18) 3
  | _, none => d |> countSwc q (0x10 * c.cls + 12) |> raise A.swcStat 1

/-- The first 64 bytes of a frame of `len` bytes were received on port p (R375): it is classified, and every copy that
qualifies starts. What was decided holds at the frame's end; a frame that classification drops has no egress port left. -/
def cutThrough (p : Nat) (bs : List Byte) (len ago : Nat) (d : Dev) : Dev :=
  let stamp := ethStamp p (getEth p d).rseq (ingressTb p (ethBase p d) ago d) d
  let f := macFrame p bs stamp (ingressTb p 0 ago d) ago d
  let r := classify f len d
  let f := r.1.getD { f with planned := true, mask := 0 }
  let cut := (List.range 10).filter fun q => f.mask.testBit q && cutOk f q r.2
  let d := cut.foldl (fun d q => startCut f (d.swc.queues.all fun c => c.frame.id ≠ f.id) q d) r.2
  let mask := maskOf 10 fun q => cut.contains q
  modSwc (fun s => { s with cutIn := { f with started := mask } :: dropIf (fun x => x.port = p) s.cutIn, nextId := s.nextId + 1 }) d

/-- CUT_THROUGH_START (R375): at the 64th byte, for a frame that goes to the switch from a port with cut-through. -/
def execCutThroughStart (p : Fin 10) (bs : List Byte) (len ago : Nat) (s : State) : Host.Outcome State Fault Refusal :=
  onDev (fun d =>
    let sw : Bool := match verdict p bs d with | .action sw _ => sw | _ => false
    when (swcOn d && (getEth p d).link = .up && sw && decide (rf (A.swcPort p 12) 9 0 d ≠ 0) && decide (64 ≤ bs.length) &&
        (cutFrame p d).isNone)
      (cutThrough p bs len ago) d) s

/-- A frame ends on the line of port p with its frame check sequence, inverted where it is bad (R134, R345, R353, R357); the gap
of 12 byte times follows (R376). `flip` tells of a parity mismatch found in the switch
buffer while it was sent. -/
def transmitEnd (c : Copy) (flip : Bool) (d : Dev) : Dev :=
  let p := c.port
  let good := c.frame.good && !flip
  let line := c.line ++ List.replicate (60 - c.line.length) 0
  let sum := if good then crc32 line else crc32 line ^^^ 0xFFFFFFFF
  let d := { d with out := d.out ++ [.eth p (line ++ leBytes 4 sum) good] }
  d |> when flip (swbParity none none)
    |> when good (fun d => d |> countEth p 0x30
        |> modEth p (fun e => { e with txBytes := e.txBytes + BitVec.ofNat 64 (line.length + 4) }))
    |> when (decide (c.frags ≠ 0)) (countEth p 0x4C)
    |> modEth p (fun e => { e with lineAt := 25 * d.now + 12 * portByte p d }) |> removeCopy c |> serve p

/-- ETH_TRANSMIT_END (R369): the frame under way ends; a cut-through copy ends only after its frame. -/
def execEthTransmitEnd (p : Fin 10) (flip : Bool) (s : State) : Host.Outcome State Fault Refusal :=
  onDev (fun d =>
    match onLine p d with
    | some c => when (inService d && !c.cut && (getEth p d).link = .up) (transmitEnd c flip) d
    | none => d) s

/-! ## Tables -/

/-- STREAM_BLOCK_CLEAR (R365): a write of 0 to word 7 clears BLOCKED and DROPS. -/
def execStreamBlockClear (e : Fin 512) (s : State) : Host.Outcome State Fault Refusal := onPow (setStream e 7 0) s

/-- One second of ageing for an address entry (R362). -/
def ageEntry (e : Nat) (d : Dev) : Dev :=
  let w1 := addrWord e 1 d
  if !bit w1 11 || bit w1 10 then d
  else
    let age := satInc 65535 (fld (addrWord e 3 d) 31 16)
    let tmo := rf A.swcCtrl 31 16 d
    if tmo ≠ 0 ∧ tmo ≤ age then (List.range 4).foldl (fun d w => setAddr e w 0 d) d
    else setAddr e 3 (word (atBit age 16)) d

/-- The address entries that are listed. -/
def listedAddrs (d : Dev) : List Nat :=
  d.tabs.filterMap fun p => if 31 * 65536 ≤ p.1 ∧ p.1 < 32 * 65536 ∧ p.1 % 4 = 1 then some ((p.1 - 31 * 65536) / 4) else none

/-- ADDRESS_AGEING (R362): once a second. -/
def execAddressAgeing (s : State) : Host.Outcome State Fault Refusal :=
  onDev (fun d => when (swcOn d && decide (d.swc.lastAge + secCycles ≤ d.now))
    (fun d => (listedAddrs d).eraseDups.foldl (fun d e => ageEntry e d) (modSwc (fun s => { s with lastAge := d.now }) d)) d) s

/-! ## Engine ports (R377, R378) -/

/-- The head of engine port n (R369): the highest class with a copy. -/
def epHead (n : Nat) (d : Dev) : Option Copy := [7, 6, 5, 4, 3, 2, 1, 0].findSome? fun c => headOf (10 + n) c d

/-- Deliver a copy into a buffer of engine port n and post its item (R377); a sampling copy counts for its ingress port (R379). -/
def epDeliver (n : Nat) (c : Copy) (d : Dev) : Dev :=
  let r := 160 + n
  let f := c.frame
  let bs := editTags f c.port
  let lost (d : Dev) (o : Nat) : Dev := if f.sample then countSwc f.port 0xA0 d else countSwc (10 + n) o d
  let nobuf (d : Dev) : Dev := when (!f.sample) (raise A.swcStat 3) (lost d 0xA4)
  let d := d |> countSwc c.port (0x10 * c.cls) |> removeCopy c
  if f.upset then swbParity (some 21) none d
  else if (getRing r d).failed || decide (ringSize r d - 16 < bs.length) then nobuf d
  else match takeBuf r d with
    | none => nobuf d
    | some (i, d) =>
      let a := bufAddr r i d
      match macWriteFail a (16 + bs.length) d with
      | some (k, b) => d |> accEvent 21 k true b |> giveBuf r i |> nobuf
      | none =>
        let d := memPut a (f.stamp.bytes ++ bs) d
        if 16 ≤ (d.dsp.waiting.filter fun it => it.src0 = 10 && it.arg % 4 = n).length then
          giveBuf r i (lost d 0xA8)
        else
          let arg := atBit f.port 12 + atBit f.sample.toNat 11 + atBit f.trap.toNat 10 + atBit c.cls 7 + n
          let flow := (rf (ringCtl r) 11 0 d + if rb (ringCtl r) 12 d then c.cls else 0) % 4096
          d |> when f.sample (countSwc f.port 0x9C)
            |> offerItem { newItem 10 flow arg (bs.take 64) bs.length (word a) d with ts := f.ts0, epoch := f.ts0Epoch }

/-- ENGINE_PORT_DELIVERY (R377); a parity mismatch at dequeue discards the frame (R134). -/
def execEnginePortDelivery (n : Fin 4) (flip : Bool) (s : State) : Host.Outcome State Fault Refusal :=
  onDev (fun d =>
    match epHead n d with
    | none => d
    | some c => when (swcOn d) (fun d => if flip then d |> removeCopy c |> swbParity (some 21) none else epDeliver n c d) d) s

/-- Bytes that the submit DMA reads as master 21 (R130): a failed access reads 0. -/
def dmaRead (a n : Nat) (d : Dev) : List Byte × Dev :=
  match macReadFail a n d with
  | some (k, b) => (List.replicate n 0, accEvent 21 k false b d)
  | none => match badIn a n d with
    | some b => (List.replicate n 0, parityMismatch false 21 b d)
    | none => (memBytes a n d, d)
where
  macReadFail (a n : Nat) (d : Dev) : Option (Nat × Nat) :=
    match accessFail 21 false false a d with
    | some k => some (k, a)
    | none => (accessFail 21 false false (a + n - 1) d).map fun k => (k, a + n - 1)

/-- Is a submit at X refused (R378)? `len` is the item's LEN, `reg` a register submit. -/
def submitBad (x len : Nat) (reg : Bool) (hdr : List Byte) : Bool :=
  let w0 := word (leNat (slice hdr 0 4))
  let w1 := word (leNat (slice hdr 4 4))
  let fl := if fld w0 13 0 = 0 then len else fld w0 13 0
  x % 32 ≠ 0 || decide (region x ≠ .sram) || decide (0x05000000 < x + 16 + fl) || fl = 0 || decide (9212 < fl) || bit w0 14 ||
    fld w1 15 14 ≠ 0 || (reg && !bit w0 31)

/-- The source of a refused or finished submit gets its buffer back (R378). -/
def submitReturn (it : Option Item) (d : Dev) : Dev := match it with | some i => returnBuf i d | none => d

/-- The submits that wait at engine port n. -/
def submitsOf (n : Nat) (d : Dev) : List Submit := tabGet (fun _ => []) d.swc.submits n

/-- Replace the submits of engine port n. -/
def putSubmits (n : Nat) (l : List Submit) (d : Dev) : Dev :=
  modSwc (fun s => { s with submits := tabSet (fun _ => []) s.submits n l }) d

/-- A submit at engine port n (R378). -/
def submitAt (n x : Nat) (it : Option Item) (m : Nat) (d : Dev) : Dev :=
  let len := match it with | some i => i.len | none => 0
  let r : List Byte × Dev := if x % 32 = 0 ∧ region x = .sram then dmaRead x 16 d else ([], d)
  if submitBad x len it.isNone r.1 then r.2 |> countSwc (10 + n) 0xAC |> raise A.swcStat 4 |> submitReturn it
  else if 64 ≤ (submitsOf n d).length then r.2 |> countSwc (10 + n) 0xB0 |> submitReturn it
  else putSubmits n (submitsOf n d ++ [⟨x, it, m, d.now⟩]) r.2

/-- SWC_EP_n TXADDR (R378): a submit of an engine, the Supervisor or a host, not of debug. -/
def writeTxaddr (m n : Nat) (v : Word) (d : Dev) : Dev :=
  d |> storeReg m (A.swcEp n 8) v |> when (decide (m ≠ 19)) (submitAt n v.toNat none m)

/-- TXADDR_SUBMIT (R378): an engine's context must be in system mode (R167). -/
def execTxaddrSubmit (m : Fin 20) (n : Fin 4) (v : Word) (s : State) : Host.Outcome State Fault Refusal :=
  onPow (byMaster m none true (A.swcEp n 8) (writeTxaddr m n v)) s

/-- The frame of a submit (R360, R378): it enters the switch as ingress on port 10 + n. -/
def submitFrame (n : Nat) (x : Submit) (hdr bs : List Byte) (d : Dev) : Frame :=
  let w0 := word (leNat (slice hdr 0 4))
  let w1 := word (leNat (slice hdr 4 4))
  let q := 10 + n
  let vid := be16 bs 14 % 4096
  let tagged := isTagged bs && vid ≠ 0
  { id := 0, bytes := bs, good := true, port := q, arrival := x.arrival, stamp := stampZero
    ts0 := tbNs 0 d, ts0Epoch := (tbGet 0 d).epoch, tcTime := 0, tcEpoch := 0
    pcp := if tagged then be16 bs 14 / 8192 else rf (A.swcPort q 4) 31 29 d
    vid := if tagged then vid else rf (A.swcPort q 4) 27 16 d
    untag := 0, direct := bit w0 30, tsreq := bit w0 29, tsid := fld w1 31 16
    onestep := bit w0 28, ptpoff := fld w0 22 15
    launch := if bit w0 27 then some (BitVec.ofNat 64 (leNat (slice hdr 8 8))) else none
    trig := bit w0 26, sample := false, trap := false, planned := false
    mask := if bit w0 30 then fld w1 13 0 else 0, cls := if bit w0 30 then fld w0 25 23 else 0, started := 0, upset := false }

/-- The copy of the oldest submit of engine port n is complete (R378). -/
def submitDone (n : Nat) (x : Submit) (d : Dev) : Dev :=
  let h := dmaRead x.addr 16 d
  let w0 := word (leNat (slice h.1 0 4))
  let len := if fld w0 13 0 = 0 then (match x.item with | some i => i.len | none => 0) else fld w0 13 0
  let b := dmaRead (x.addr + 16) len h.2
  let f := submitFrame n x h.1 b.1 b.2
  let d := b.2 |> putSubmits n (submitsOf n b.2).tail |> toSwitch f
  match x.item with
  | some i => returnBuf i d
  | none => 
    if banksReady x.addr d then memPut (x.addr + 3) [memByte (x.addr + 3) d &&& 0x7F] d else accEvent 21 1 true x.addr d

/-- SUBMIT_COPY_DONE (R378). -/
def execSubmitCopyDone (n : Fin 4) (s : State) : Host.Outcome State Fault Refusal :=
  onDev (fun d =>
    match submitsOf n d with
    | [] => d
    | x :: _ => when (swcOn d && rb (A.swcEp n 0) 31 d) (submitDone n x) d) s

end Sys2Proof.Machine
end

