-- ==== Sys2Proof/Machine/Branch.lean ====
section
/-! DEFINITION. Machine/Branch.lean: branches, the system group, events and time (R162, R165, R169-R172, R180, R204-R206).
-/

namespace Sys2Proof.Machine

/-- Continue in the delay slot (R162): the slot's instruction issues next, then the target. -/
def toSlot (key : Nat) (x : Ctx) (target : Nat) (d : Dev) : Dev :=
  putCtx key { x with pc := x.pc + 4, slot := some (target, x.pc.toNat) } d

/-- A branch-class instruction (R162, R205): in a delay slot it raises its exception. -/
def branch (c : Nat) (f : Nat → Ctx → Dev → Dev) : Dev → Dev :=
  issue c fun key x d => if x.slot.isSome then takeExc key { cause := 2 } d else f key x d

/-- Target of a relative branch (R205). -/
def relTarget (x : Ctx) (off : BitVec 21) : Nat := (x.pc + sext 21 off.toNat * 4).toNat

/-- An address register as a target: bits 1:0 cleared (R205). -/
def absTarget (w : Word) : Nat := (w &&& ~~~3).toNat

/-- Bcc (R204, R205): condition code 0xF is reserved. -/
def execBcc (c : Fin 17) (cc : Fin 16) (off : BitVec 21) (s : State) : Host.Outcome State Fault Refusal :=
  onDev (issue c fun key x d =>
    match condHolds cc x.sr with
    | none => illegal key d
    | some t =>
      if x.slot.isSome then takeExc key { cause := 2 } d
      else toSlot key x (if t then relTarget x off else (x.pc + 8).toNat) d) s

/-- CALL (R205). -/
def execCall (c : Fin 17) (off : BitVec 21) (s : State) : Host.Outcome State Fault Refusal :=
  onDev (branch c fun key x d => toSlot key { x with lr := x.pc + 8 } (relTarget x off) d) s

/-- JR (R205). -/
def execJr (c : Fin 17) (an : Fin 8) (s : State) : Host.Outcome State Fault Refusal :=
  onDev (branch c fun key x d => toSlot key x (absTarget (x.ar an)) d) s

/-- CALLR (R205). -/
def execCallr (c : Fin 17) (an : Fin 8) (s : State) : Host.Outcome State Fault Refusal :=
  onDev (branch c fun key x d => toSlot key { x with lr := x.pc + 8 } (absTarget (x.ar an)) d) s

/-- RET (R205). -/
def execRet (c : Fin 17) (s : State) : Host.Outcome State Fault Refusal :=
  onDev (branch c fun key x d => toSlot key x (absTarget x.lr) d) s

/-- RFE (R169): the return takes effect after its delay slot; in user mode it is a privilege exception. -/
def execRfe (c : Fin 17) (s : State) : Host.Outcome State Fault Refusal :=
  onDev (branch c fun key x d =>
    if !x.sys then takeExc key { cause := 5 } d
    else toSlot key { x with rfe := true } x.epc.toNat d) s

/-- Special register s of a context (R157): CTX is 0xF0 for the Supervisor, CYC counts CORE cycles. It counts on through
RETAIN, where the spec does not say whether it stands (DESIGN CHOICE, notes/assumptions/122.md). -/
def specialReg (key : Nat) (x : Ctx) (s : Nat) (d : Dev) : Option Word :=
  match s with
  | 0 => some x.sr | 1 => some x.lr | 2 => some x.epc | 3 => some x.esr | 4 => some x.ebad
  | 5 => some (if key = supKey then 0xF0 else word key)
  | 6 => some x.ring | 7 => some x.icyc | 8 => some x.btl | 9 => some x.bth | 10 => some (word d.now)
  | _ => none

/-- MFS (R157, R206). -/
def execMfs (c : Fin 17) (rd : Fin 16) (s : BitVec 5) (s' : State) : Host.Outcome State Fault Refusal :=
  onDev (issue c fun key x d =>
    match specialReg key x s.toNat d with
    | none => illegal key d
    | some v =>
      if s.toNat = 10 ∧ x.det then takeExc key { cause := 9 } d else retire key (x.setD rd v) d) s'

/-- A write of SR (R157, R158): bits 11:7 only in system mode. -/
def writeSr (x : Ctx) (v : Word) : Ctx :=
  let m : Word := if x.sys then 0xFBF else 0x3F
  { x with sr := (x.sr &&& ~~~m) ||| (v &&& m) }

/-- MTS (R157, R206): read-only and reserved numbers are illegal, a write that system mode reserves is a privilege
exception in user mode. -/
def execMts (c : Fin 17) (s : BitVec 5) (rs : Fin 16) (s' : State) : Host.Outcome State Fault Refusal :=
  onDev (issue c fun key x d =>
    let v := x.dr rs
    let sysOnly (y : Ctx) : Dev := if x.sys then retire key y d else takeExc key { cause := 5 } d
    match s.toNat with
    | 0 => if !x.sys && decide (fld (v ^^^ x.sr) 11 7 ≠ 0) then takeExc key { cause := 5 } d
           else retire key (writeSr x v) d
    | 1 => retire key { x with lr := v } d
    | 2 => sysOnly { x with epc := v }
    | 3 => sysOnly { x with esr := v &&& 0xFFF0F0FF }
    | 4 => sysOnly { x with ebad := v }
    | 6 => retire key { x with ring := v } d
    | _ => illegal key d) s'

/-- DBG_ACC is granted at this moment (R171, R492): in BLANK, DEVELOP and RETURN, and in SEALED while a session is open,
which a vendor's is not for DBG_ACC; never with DEBUG_KILL set, nor before phase 5 has completed. -/
def dbgAccGranted (d : Dev) : Bool :=
  let st := lifeState d
  lifeKnown d && !rb A.secLc 25 d && (st = 0 || st = 1 || st = 4 || (st = 2 && rf A.secLc 11 9 d = 2))

/-- BRK (R171, R206): held for the debugger, which is shown the code, with DBGH = 1 and DBG_ACC granted; else the
breakpoint exception. -/
def execBrk (c : Fin 17) (code : BitVec 10) (s : State) : Host.Outcome State Fault Refusal :=
  onDev (issue c fun key x d =>
    if c.val ≠ 16 ∧ rb (A.peCtrl c) 1 d ∧ dbgAccGranted d then
      d |> putCtx key { x.advance with state := .halted, hold := true, brk := code } |> schedule c
    else takeExc key { cause := 8 } d) s

/-- NOP (R206). -/
def execNop (c : Fin 17) (s : State) : Host.Outcome State Fault Refusal :=
  onDev (issue c fun key x d => retire key x d) s

/-- WFE (R172): a mask of 0 is reserved; it completes at once when an enabled event is pending. -/
def execWfe (c : Fin 17) (rd : Fin 16) (mask : BitVec 4) (s : State) : Host.Outcome State Fault Refusal :=
  onDev (issue c fun key x d =>
    let m := mask.toNat
    if m = 0 then illegal key d
    else
      let p := x.pend &&& m
      if p ≠ 0 then retire key ({ x with pend := x.pend ^^^ p }.setD rd (word p)) d
      else block key x (.wfe rd m) d) s

/-- SEV (R172, R206): it sets SOFT of context k of the same engine; 10-15 are illegal. The Supervisor has context 0
only (notes/assumptions/11.md). -/
def execSev (c : Fin 17) (k : Fin 16) (s : State) : Host.Outcome State Fault Refusal :=
  onDev (issue c fun key x d =>
    if 10 ≤ k.val then illegal key d
    else
      let d := retire key x d
      if c.val = 16 ∧ k.val ≠ 0 then d else pendEvent (ctxKey c k) 8 d) s

/-- Time base j minus a target, as a signed 64-bit difference (R180). -/
def tbDiff (j : Nat) (target : DWord) (d : Dev) : Int := (tbNs j d - target).toInt

/-- TCMP (R180, R206): Z and N from the difference; DET = 1 is a violation (R165). -/
def execTcmp (c : Fin 17) (rs : Fin 16) (j : Fin 4) (s : State) : Host.Outcome State Fault Refusal :=
  onDev (issue c fun key x d =>
    if rs.val % 2 = 1 then illegal key d
    else if x.det then takeExc key { cause := 9 } d
    else
      let i := tbDiff j (x.pair rs) d
      retire key { x with sr := setBit (setBit x.sr 0 (decide (i = 0))) 1 (decide (i < 0)) } d) s

/-- TWAIT (R153, R180, R206): it blocks; the Supervisor has no such instruction (R70). -/
def execTwait (c : Fin 17) (rs : Fin 16) (j : Fin 4) (s : State) : Host.Outcome State Fault Refusal :=
  onDev (issue c fun key x d =>
    if c.val = 16 ∨ rs.val % 2 = 1 then illegal key d
    else if x.det then takeExc key { cause := 9 } d
    else block key x (.timeBase j (x.pair rs)) d) s

/-- TWAIT_END (R180): the difference is 0 or more. -/
def execTwaitEnd (c : Fin 16) (k : Fin 10) (s : State) : Host.Outcome State Fault Refusal :=
  onDev (fun d =>
    let key := ctxKey c k
    let x := getCtx key d
    match x.state, x.wait with
    | .blocked, .timeBase j t => when (coreRuns c d && decide (0 ≤ tbDiff j t d)) (unblock key x) d
    | _, _ => d) s

/-- ILLEGAL_INSTRUCTION (R194): an encoding that names no instruction. -/
def execIllegalInstruction (c : Fin 17) (s : State) : Host.Outcome State Fault Refusal :=
  onDev (issue c fun key _ d => illegal key d) s

/-- QUANTUM_EXPIRY (R152, R154): the running context yields to another READY one, else its count restarts; a quantum of
0 disables it. -/
def execQuantumExpiry (c : Fin 16) (s : State) : Host.Outcome State Fault Refusal :=
  onDev (fun d =>
    let q := rf (A.peQuantum c) 15 0 d
    if !coreRuns c d || q = 0 || d.now < (getCore c d).quantumStart + q then d
    else match running c d with
      | none => d
      | some key =>
        if (ctxKeys c).any fun k => (getCtx k d).state = .ready then
          d |> modCtx key (fun x => { x with state := .ready })
            |> schedule c
        else modCore c (fun e => { e with quantumStart := d.now }) d) s

/-- DEBUGGER_RESUME (R150): a context held for the debugger continues at the instruction after BRK. -/
def execDebuggerResume (n : Fin 16) (k : Fin 10) (s : State) : Host.Outcome State Fault Refusal :=
  onDev (fun d =>
    let key := ctxKey n k
    when (decide ((getCtx key d).state = .halted))
      (fun d => d |> modCtx key (fun x => { x with state := .ready, hold := false }) |> schedule n) d) s

end Sys2Proof.Machine
end

