-- ==== Sys2Proof/Machine/FlowCommands.lean ====
section
/-! DEFINITION. Machine/FlowCommands.lean: Dispatch's commands and the engine registers that start, stop and reset
contexts (R150, R154, R188-R190, R218-R239, R544). -/

namespace Sys2Proof.Machine

/-! ## Engines and their registers -/

/-- An engine starts (R150, R190): its CTX_EN contexts are READY with their start values and its watchdog runs. No context has
issued yet, and the spec gives the round robin no start then: context 0 comes first (DESIGN CHOICE,
notes/assumptions/120.md). -/
def startEngine (n : Nat) (d : Dev) : Dev :=
  let d := modCore n (fun e => { e with wdogStart := d.now, last := 9 }) d
  (List.range 10).foldl (fun d k =>
    if bit (rd (A.peCtrl n) d) (12 + k) then modCtx (ctxKey n k) (startCtx n .ready d) d else d) d |> schedule n

/-- An engine stops (R150, R232, R235): every context is DISABLED, its items orphaned or requeued. -/
def stopEngine (n : Nat) (d : Dev) : Dev :=
  (List.range 10).foldl (fun d k => d |> resetCtx (ctxKey n k) .disabled |> revokeHeld 3 n k) d

/-- PE_CTRL (R188, R189): only the Supervisor writes it; EN acts at once after commit; a halted engine is not enabled
in Twilight (R462). -/
def writePeCtrl (m n : Nat) (v : Word) (d : Dev) : Dev :=
  let a := A.peCtrl n
  let was := rb a 0 d
  if m ≠ 0 || (d.sys.mode = .twilight && !was && bit v 0) then d
  else
    let d := storeReg m a v d
    if committed d && !was && rb a 0 d then startEngine n d
    else if was && !rb a 0 d then stopEngine n d else d

/-- PE_CTX_RST (R154, R188, R190, R232): only the Supervisor, with its key, on contexts of CTX_EN. -/
def writeCtxRst (m n : Nat) (v : Word) (d : Dev) : Dev :=
  if m ≠ 0 ∨ fld v 31 16 ≠ 0x0C7A then d
  else
    (List.range 10).foldl (fun d k =>
      if bit v k && bit (rd (A.peCtrl n) d) (12 + k) && (getCtx (ctxKey n k) d).state ≠ .disabled then
        d |> resetCtx (ctxKey n k) .ready |> revokeHeld 2 n k |> schedule n
      else d) (storeReg m (A.peCtxRst n) v d)

/-- PE_WDOG_SVC (R188, R190): only the engine itself, with the key; its period restarts. -/
def writeWdogSvc (m n : Nat) (v : Word) (d : Dev) : Dev :=
  if m ≠ n + 1 ∨ fld v 31 16 ≠ 0x0A7D then d
  else d |> storeReg m (A.peWdogSvc n) v |> modCore n (fun e => { e with wdogStart := d.now })

/-- ENGINE_ENABLE (R150): the Supervisor sets PE_CTRL.EN. -/
def execEngineEnable (m : Fin 20) (n : Fin 16) (s : State) : Host.Outcome State Fault Refusal :=
  onPow (fun d => writePeCtrl m n (setBit (rd (A.peCtrl n) d) 0 true) d) s

/-- ENGINE_DISABLE (R150): the Supervisor clears PE_CTRL.EN. -/
def execEngineDisable (m : Fin 20) (n : Fin 16) (s : State) : Host.Outcome State Fault Refusal :=
  onPow (fun d => writePeCtrl m n (setBit (rd (A.peCtrl n) d) 0 false) d) s

/-- CONTEXT_RESET (R154): a write of PE_CTX_RST. -/
def execContextReset (m : Fin 20) (n : Fin 16) (v : Word) (s : State) : Host.Outcome State Fault Refusal :=
  onPow (writeCtxRst m n v) s

/-- ENGINE_WATCHDOG_SERVICE (R190): a write of PE_WDOG_SVC. -/
def execEngineWatchdogService (m : Fin 20) (n : Fin 16) (v : Word) (s : State) : Host.Outcome State Fault Refusal :=
  onPow (writeWdogSvc m n v) s

/-- The watchdog period of engine n in CORE cycles: reserved values act as 500 us (R189). -/
def wdogPeriod (n : Nat) (d : Dev) : Nat :=
  let p := rf (A.peWdog n) 8 0 d
  usCycles (if 10 ≤ p ∧ p ≤ 500 then p else 500)

/-- ENGINE_WATCHDOG_EXPIRY (R190): the period of a running engine elapsed: code 0x47. -/
def execEngineWatchdogExpiry (n : Fin 16) (s : State) : Host.Outcome State Fault Refusal :=
  onDev (fun d =>
    when (coreRuns n d && committed d && decide ((getCore n d).wdogStart + wdogPeriod n d ≤ d.now))
      (report 0x47 (0x20 + n) 0 0) d) s

/-! ## GET and DONE -/

/-- Mark the item that context (c, k) holds as taken. -/
def markTaken (c k : Nat) (d : Dev) : Dev :=
  modDsp (fun q => { q with insvc := q.insvc.map fun x =>
    if x.core = c ∧ x.ctx = k ∧ x.state = .serving then { x with taken := true } else x }) d

/-- What GET leaves in a context (R227): word 0 in Dd, ITEM cleared, ICYC and TB_0 at its boundary. -/
def gotItem (rd : Nat) (it : Item) (x : Ctx) (d : Dev) : Ctx :=
  { x with pend := x.pend ^^^ (x.pend &&& 1), icyc := it.icyc,
           btl := word (it.bts.toNat % 2 ^ 32), bth := word (it.bts.toNat / 2 ^ 32) }.setD rd (descWord0 it d)

/-- GET (R227, R206): at once where an item stands in the slot, again the same where it was taken before; else it
blocks. The Supervisor has no such instruction (R70). -/
def execGet (c : Fin 17) (rd : Fin 16) (s : State) : Host.Outcome State Fault Refusal :=
  onDev (issue c fun key x d =>
    if c.val = 16 then illegal key d
    else match heldItem c (key % 16) d with
      | some i =>
        if i.taken then retire key (x.setD rd (descWord0 i.item d)) d
        else if i.prefetched then d |> markTaken c (key % 16) |> retire key (gotItem rd i.item x d)
        else block key x (.get rd) d
      | none => block key x (.get rd) d) s

/-- DONE Ds (R228): it ends the item the context holds; ACT and the target flow come from Ds. -/
def doneInstr (c rs : Nat) : Dev → Dev :=
  issue c fun key x d =>
    if c = 16 then illegal key d
    else match heldItem c (key % 16) d with
      | none => d |> raise A.schStat 0 |> retire key x
      | some i =>
        let v := x.dr rs
        let act := fld v 31 30
        let d := if act = 3 then errAt (A.block 6) (c + 1) errRsvd 0x1006FFFC d else d
        let bound := (getCore c d).storeSeq
        d |> dspTick
          |> modDsp (fun q => { q with insvc := q.insvc.map fun y =>
              if y = i then { y with state := .done (if act = 3 then 0 else act) (fld v 11 0), bound := bound, ended := d.now } else y })
          |> retire key { x with freeSince := d.now + 1 }

/-- DONE with ACT 0b00 (R228). -/
def execDoneFinish (c : Fin 17) (rs : Fin 16) (s : State) : Host.Outcome State Fault Refusal := onDev (doneInstr c rs) s
/-- DONE with ACT 0b01 (R228, R230). -/
def execDoneForward (c : Fin 17) (rs : Fin 16) (s : State) : Host.Outcome State Fault Refusal := onDev (doneInstr c rs) s
/-- DONE with ACT 0b10 (R228, R378). -/
def execDoneSubmit (c : Fin 17) (rs : Fin 16) (s : State) : Host.Outcome State Fault Refusal := onDev (doneInstr c rs) s

/-! ## Arrival, readiness, assignment -/

/-- SCH_POST (R216, R218, R239): a headless item; `link` names the engine store that waits with it. -/
def writeSchPost (m : Nat) (v : Word) (link : Nat) (d : Dev) : Dev :=
  d |> storeReg m A.schPost v
    |> fun d => offerItem { newItem 0 (fld v 11 0) (fld v 27 12) [] 0 0 d with link := link } d

/-- ITEM_ARRIVAL (R218): the source that has waited longest enters a place that is free. -/
def execItemArrival (s : State) : Host.Outcome State Fault Refusal := onDev admitWaiting s

/-- ITEM_READY (R218, R219): the head of the arrival queue takes pool entry `entry` and is ready, or is dropped. -/
def itemReady (entry : Nat) (d : Dev) : Dev :=
  if !dspOn d then d else
  match d.dsp.arrival with
  | [] => d
  | it :: rest =>
    let popped := modDsp (fun q => { q with arrival := rest }) d
    if d.dsp.used.length = 4096 then popped |> raise A.schStat 2 |> dropItem it
    else if dropsAt it d then dropItem it popped
    else if entry ∈ d.dsp.used then d
    else
      let it := { it with entry := entry, fseq := nextFseq it.flow d }
      popped |> dspTick |> modDsp (fun q => { q with used := entry :: q.used }) |> poolLevel |> makeReady d.now it
        |> writePool it |> trackDepth

/-- ITEM_READY (R218). -/
def execItemReady (entry : Fin 4096) (s : State) : Host.Outcome State Fault Refusal := onDev (itemReady entry) s

/-- Assign an item to context k of engine c (R222): in service, with its wait counted. -/
def assignItem (it : Item) (c k : Nat) (d : Dev) : Dev :=
  let wait := d.now - it.ready
  d |> modDsp (fun q => { q with
        ready := dropIf (fun x => x = it) q.ready
        assignedAt := d.now + 1
        insvc := q.insvc ++ [⟨it, c, k, false, false, d.now, .serving, 0, 0, 0⟩] })
    |> modCore c (fun e => { e with assigns := e.assigns + 1, waitSum := e.waitSum + wait, waitMax := max e.waitMax wait })
    |> traceRecord 1 it (16 * c + k) wait

/-- ITEM_ASSIGNMENT (R222): the highest-ranked eligible item goes to a free context, one in a CORE cycle; none in DOZE (R234). -/
def itemAssignment (d : Dev) : Dev :=
  if !dspOn d || inDoze d || decide (d.dsp.assignedAt = d.now + 1) then d else
  match pickItem d with
  | none => d
  | some it =>
    match pickEngine (flowGroup it.flow d) d with
    | none => d
    | some c => match pickCtx c d with
      | none => d
      | some k => d |> trackDepth |> assignItem it c k

/-- ITEM_ASSIGNMENT (R222). -/
def execItemAssignment (s : State) : Host.Outcome State Fault Refusal := onDev itemAssignment s

/-- A context made READY by ITEM preempts the running one (R152, R173). -/
def wakeByItem (key : Nat) (x : Ctx) (d : Dev) : Dev :=
  let c := key / 16
  let d := dspTick d
  let d := putCtx key { x.advance with state := .ready, wait := .none, woken := some d.dsp.seq } d
  let d := match running c d with
    | some r => modCtx r (fun y => { y with state := .ready }) d
    | none => d
  schedule c d

/-- PREFETCH_DONE (R223, R225, R227): the slot is written and ITEM set; a context waiting in GET or WFE wakes. -/
def prefetchDone (c k : Nat) (d : Dev) : Dev :=
  match heldItem c k d with
  | none => d
  | some i =>
    if i.prefetched || !inService d then d else
    let key := ctxKey c k
    let d := d |> writeSlot c k i.item
      |> modDsp (fun q => { q with insvc := q.insvc.map fun y => if y = i then { y with prefetched := true } else y })
    let x := getCtx key d
    let x := { x with pend := x.pend ||| 1 }
    match x.state, x.wait with
    | .blocked, .get rd => d |> markTaken c k |> wakeByItem key (gotItem rd i.item x d)
    | .blocked, .wfe rd m =>
      if m % 2 = 1 then
        let p := x.pend &&& m
        wakeByItem key ({ x with pend := x.pend ^^^ p }.setD rd (word p)) d
      else putCtx key x d
    | _, _ => putCtx key x d

/-- PREFETCH_DONE (R223). -/
def execPrefetchDone (c : Fin 16) (k : Fin 10) (s : State) : Host.Outcome State Fault Refusal := onDev (prefetchDone c k) s

/-! ## Release, timeout and orphans -/

/-- The engine port that a flow's SUBMIT names takes BUF and LEN (R228, R378). -/
def submitItem (it : Item) (sub : Nat) (d : Dev) : Dev := submitAt (sub - 1) it.buf.toNat (some it) 20 d

/-- Has the context ended an item by DONE that may be released (R229): its stores have completed and its order permits? -/
def releasable (c k : Nat) (i : InSvc) (d : Dev) : Bool :=
  i.core = c && i.ctx = k && i.state ≠ .serving && i.state ≠ .revoked && storesDone c k i.bound d && !heldByOrder i d

/-- Does the action need a pool entry, and is the one named in use while another is free (notes/assumptions/59.md)? -/
def entryTaken (it : Item) (act target entry : Nat) (d : Dev) : Bool :=
  act = 1 && it.token && it.hops ≠ 15 && flowEn target d && entry ∈ d.dsp.used && d.dsp.used.length ≠ 4096

/-- ITEM_RELEASE (R229, R230): the first item of the context that may be released is, and its action takes effect. -/
def itemRelease (c k entry : Nat) (d : Dev) : Dev :=
  match d.dsp.insvc.find? fun i => releasable c k i d with
  | none => d
  | some i =>
    match i.state with
    | .done act target =>
      if !inService d || entryTaken i.item act target entry d then d
      else
        let it := i.item
        let d := d |> dspTick |> modDsp (fun q => { q with insvc := dropIf (fun y => y = i) q.insvc })
          |> traceRecord 2 it (16 * c + k) (d.now - i.assigned)
        let sub := flowSubmit it.flow d
        let d := if act = 1 then forwardItem it target entry d
          else if act = 2 ∧ sub ≠ 0 then d |> freeEntry it |> submitItem it sub
          else d |> freeEntry it |> returnBuf it
        trackDepth d
    | _ => d

/-- ITEM_RELEASE (R229). -/
def execItemRelease (c : Fin 16) (k : Fin 10) (entry : Fin 4096) (s : State) : Host.Outcome State Fault Refusal :=
  onDev (itemRelease c k entry) s

/-- FLOW_TIMEOUT (R232): at a tick (every 40 CORE cycles) at or after assignment + TMO the item is revoked; timeouts
freeze in DOZE. A timeout that meets a DONE of its cycle loses (R121). -/
def flowTimeout (c k : Nat) (d : Dev) : Dev :=
  let early (i : InSvc) : Bool := let tmo := flowTmo i.item.flow d
    tmo = 0 || !dspOn d || inDoze d || decide (d.now / 40 * 40 < i.assigned + i.frozen + tmo)
  match heldItem c k d with
  | none => raiseIf ((justDone c k d).any fun i => !early i) A.schStat 5 d
  | some i =>
    if early i then d
    else d |> resetCtx (ctxKey c k) .ready |> revokeHeld 1 c k |> schedule c

/-- FLOW_TIMEOUT (R232). -/
def execFlowTimeout (c : Fin 16) (k : Fin 10) (s : State) : Host.Outcome State Fault Refusal := onDev (flowTimeout c k) s

/-- REVOKED_ITEM_RELEASE (R232): after the revoked context's stores, INSVC falls; not in Twilight (R234). -/
def execRevokedItemRelease (c : Fin 16) (k : Fin 10) (s : State) : Host.Outcome State Fault Refusal :=
  onDev (fun d =>
    match d.dsp.insvc.find? fun i => i.core = c.val && i.ctx = k.val && i.state = .revoked with
    | none => d
    | some i => when (inService d && storesDone c k i.bound d)
        (fun d => d |> dspTick |> modDsp (fun q => { q with insvc := dropIf (fun y => y = i) q.insvc }) |> trackDepth) d) s

/-- The word of an orphan-queue entry (R239). -/
def orphanWord (o : Orphan) : Word :=
  word (2 ^ 31 + atBit o.reason 28 + atBit o.core 24 + atBit o.ctx 20 + atBit o.token.toNat 19 + o.item)

/-- A read of SCH_ORPH (R233): the Supervisor and the hosts pop, debug looks, an engine reads 0. -/
def readOrph (m : Nat) (d : Dev) : Word × Dev :=
  match d.dsp.orphans with
  | [] => (0, d)
  | o :: rest =>
    if m = 19 then (orphanWord o, d)
    else if m = 0 ∨ m = 17 ∨ m = 18 then (orphanWord o, modDsp (fun q => { q with orphans := rest }) d)
    else (0, d)

/-- ORPHAN_POP (R233). -/
def execOrphanPop (m : Fin 20) (s : State) : Host.Outcome State Fault Refusal :=
  onPow (fun d => let p := readOrph m d; giveRead m p.1 p.2) s

/-- SCH_ORPH_CMD (R233, R235, R239): only the Supervisor, with its key; one that names no orphan is ignored. -/
def writeOrphCmd (m : Nat) (v : Word) (d : Dev) : Dev :=
  if m ≠ 0 ∨ fld v 31 16 ≠ 0x0F1D then d
  else
    let d := storeReg m A.schOrphCmd v d
    let token := bit v 13
    let n := fld v 11 0
    match d.dsp.orphaned.find? fun it => it.token = token && (if token then it.flow = n else it.entry = n) with
    | none => d
    | some it =>
      let gone := modDsp (fun q => { q with orphaned := dropIf (fun x => x = it) q.orphaned }) d
      if fld v 15 14 = 1 then gone |> freeEntry it |> returnBuf it
      else if fld v 15 14 = 2 then gone |> requeueItem it |> trackDepth
      else d

/-- ORPHAN_FREE (R233): SCH_ORPH_CMD with OP 0b01. -/
def execOrphanFree (m : Fin 20) (token : Bool) (item : Fin 4096) (s : State) : Host.Outcome State Fault Refusal :=
  onPow (writeOrphCmd m (word (0x0F1D4000 + atBit token.toNat 13 + item))) s

/-- ORPHAN_REQUEUE (R233): SCH_ORPH_CMD with OP 0b10. -/
def execOrphanRequeue (m : Fin 20) (token : Bool) (item : Fin 4096) (s : State) : Host.Outcome State Fault Refusal :=
  onPow (writeOrphCmd m (word (0x0F1D8000 + atBit token.toNat 13 + item))) s

/-! ## Observation -/

/-- SCH_TRACE_CTRL (R239): a write of EN = 1 sets WP to RP. -/
def writeTraceCtrl (m : Nat) (v : Word) (d : Dev) : Dev :=
  d |> storeReg m A.schTraceCtrl v
    |> when (bit v 31) (fun d => wr A.schTraceWp (word (rf A.schTraceRp 15 0 d)) d)

/-- TRACE_ENABLE (R239). -/
def execTraceEnable (m : Fin 20) (v : Word) (s : State) : Host.Outcome State Fault Refusal :=
  onPow (writeTraceCtrl m v) s

/-- The statistics window in CORE cycles: 0 acts as 1,000 us (R239). -/
def statWindow (d : Dev) : Nat := let u := rf A.schStatWin 15 0 d; usCycles (if u = 0 then 1000 else u)

/-- The figures of one engine are latched (R238, R239). -/
def latchStats (span c : Nat) (d : Dev) : Dev :=
  let e := getCore c d
  d |> wf (A.schEngStat c 0) 31 16 e.maxDepth
    |> wr (A.schEngStat c 4) (word (if e.assigns = 0 then 0 else e.waitSum / e.assigns))
    |> wr (A.schEngStat c 8) (word e.waitMax)
    |> wr (A.schEngStat c 12) (word (atBit (min e.assigns 0xFFFF) 16 + min 100 (100 * e.issued / max span 1)))
    |> modCore c (fun e => { e with issued := 0, assigns := 0, waitSum := 0, waitMax := 0, maxDepth := depthOf c d })

/-- STATISTICS_WINDOW (R238). -/
def execStatisticsWindow (s : State) : Host.Outcome State Fault Refusal :=
  onDev (fun d =>
    if d.now < d.dsp.winStart + statWindow d then d
    else
      let span := d.now - d.dsp.winStart
      (List.range 16).foldl (fun d c => latchStats span c d) d |> modDsp (fun q => { q with winStart := d.now })) s

end Sys2Proof.Machine
end

