-- ==== Sys2Proof/Machine/Mailbox.lean ====
section
/-! DEFINITION. Machine/Mailbox.lean: mailboxes, MBWAIT, lock registers (R240-R251) and the host interrupts that a
mailbox raises (R242, R505, R506). -/

namespace Sys2Proof.Machine

/-! ## Interrupts -/

/-- INT_N is asserted (R506). -/
def intAsserted (d : Dev) : Bool := (rd A.hstIntPend d &&& rd A.hstIntEn d &&& 0xFFFFFF) ≠ 0

/-- The MBX event reaches an engine (R242): every context that waits in MBWAIT, or in WFE with the MBX bit. -/
def mbxEvent (c : Nat) (d : Dev) : Dev :=
  (List.range 10).foldl (fun d k =>
    let key := ctxKey c k
    let x := getCtx key d
    match x.state, x.wait with
    | .blocked, .mbTest _ _ _ => putCtx key { x with pend := x.pend ||| 2 } d
    | .blocked, .wfe _ m => if m.testBit 1 then pendEvent key 2 d else d
    | _, _ => d) d

/-- The full interrupt of mailbox n (R241, R242): FIE concerns the Supervisor and the hosts. -/
def fullInterrupt (n : Nat) (d : Dev) : Dev :=
  let r := mbxRecv n d
  let fie := rb (A.mbxCfg n) 30 d
  if 1 ≤ r ∧ r ≤ 16 then mbxEvent (r - 1) d
  else if !fie then d
  else if r = 0 then irqMailbox d
  else if r = 17 then (if 32 ≤ n ∧ n < 40 then msixRaise (n - 32) d else if 56 ≤ n then msixRaise (n - 48) d else d)
  else d

/-- DENY (R241, R251): MBX_ERR_ADDR records the master and the address; its KIND stays. -/
def mbxDeny (m a : Nat) (d : Dev) : Dev :=
  d |> raise A.mbxStat 0
    |> wf (A.block 5 + 8) 31 27 m |> wf (A.block 5 + 8) 21 0 (errOffset a)

/-- A write of MBX_DATA_n by master m (R241, R243). -/
def mbxWrite (m n : Nat) (v : Word) (d : Dev) : Dev :=
  let a := A.mbxData n
  if !mbxMaySend m n d then mbxDeny m a d
  else
    let coll := mbxFullBit n d
    let d := d |> when coll (raise (A.mbxColl (n / 8)) (n % 8)) |> wr a v |> setFull n true
    let d := { d with mbxLast := tabSet zeroDefault d.mbxLast n (word m) }
    if mbxPosts n d then offerItem (newItem 8 (rf (A.mbxCfg n) 27 16 d) n [] 0 v d) d
    else fullInterrupt n d

/-- A read of MBX_DATA_n by master m (R241, R243, R105). -/
def mbxRead (m n : Nat) (d : Dev) : Word × Dev :=
  let a := A.mbxData n
  if m = 19 then (rd a d, d)
  else if mbxPosts n d then (0, mbxDeny m a d)
  else if m ≠ mbxRecv n d then (0, mbxDeny m a d)
  else if mbxFullBit n d then (rd a d, d |> setFull n false |> emptyInterrupt n)
  else (rd a d, d)

/-- MAILBOX_WRITE (R241): an engine's access to MBX_56-MBX_63 is refused (R240). -/
def execMailboxWrite (m : Fin 20) (n : Fin 64) (v : Word) (s : State) : Host.Outcome State Fault Refusal :=
  onPow (byMaster m none true (A.mbxData n) (mbxWrite m n v)) s

/-- MAILBOX_READ (R241): an engine's access to MBX_56-MBX_63 is refused (R240). -/
def execMailboxRead (m : Fin 20) (n : Fin 64) (s : State) : Host.Outcome State Fault Refusal :=
  onPow (byMaster m none false (A.mbxData n) fun d => let p := mbxRead m n d; giveRead m p.1 p.2) s

/-- MAILBOX_POST (R243): a write of a POST mailbox. -/
def execMailboxPost (m : Fin 20) (n : Fin 64) (v : Word) (s : State) : Host.Outcome State Fault Refusal :=
  onPow (fun d => when (mbxPosts n d) (byMaster m none true (A.mbxData n) (mbxWrite m n v)) d) s

/-! ## MBWAIT -/

/-- The status MBWAIT writes (R246): the named condition and the engine's own incoming mailbox; the Supervisor has no
incoming mailbox of its own (notes/assumptions/12.md). -/
def mbwaitStatus (c n : Nat) (full : Bool) (d : Dev) : Nat :=
  (mbxFullBit n d == full).toNat + 2 * (decide (c ≠ 16) && mbxFullBit c d).toNat

/-- MBWAIT (R246): DENIED for MBX_56-MBX_63, else it blocks. -/
def execMbwait (c : Fin 17) (rd rs : Fin 16) (s : State) : Host.Outcome State Fault Refusal :=
  onDev (issue c fun key x d =>
    let n := fld (x.dr rs) 5 0
    if 56 ≤ n then retire key (x.setD rd 4) d
    else block key x (.mbTest rd n (bit (x.dr rs) 6)) d) s

/-- MBWAIT_END (R246): the context's stores have completed and the named condition or the incoming mailbox holds. -/
def execMbwaitEnd (c : Fin 17) (k : Fin 10) (s : State) : Host.Outcome State Fault Refusal :=
  onDev (fun d =>
    let key := ctxKey c k
    let x := getCtx key d
    match x.state, x.wait with
    | .blocked, .mbTest rd n full =>
      let st := mbwaitStatus c n full d
      when (coreRuns c d && decide (x.stores = []) && decide (st ≠ 0)) (unblock key (x.setD rd (word st))) d
    | _, _ => d) s

/-! ## Locks -/

/-- Who holds a lock that is listed nowhere: nobody, master code 31. -/
def lockDefault (_ : Nat) : Owner := ⟨31, 0⟩

/-- The owner of lock n, where it has one (R248). -/
def lockOwner (n : Nat) (d : Dev) : Option Owner := tabFind d.locks n

/-- The identity of master m with context ctx (R248). -/
def identity (m ctx : Nat) : Owner := ⟨m, if 1 ≤ m ∧ m ≤ 16 then ctx else 0⟩

/-- The BUSY value of a held lock (R251). -/
def busyWord (o : Owner) : Word := word (2 ^ 31 + atBit o.master 8 + o.ctx)

/-- MEM_LOCK_HELD shows whether lock n is held (R251). -/
def setHeld (n : Nat) (b : Bool) (d : Dev) : Dev := wb (A.memLockHeld (n / 32)) (n % 32) b d

/-- Lock n is taken. -/
def takeLock (n : Nat) (o : Owner) (d : Dev) : Dev :=
  { d with locks := tabSet lockDefault d.locks n o } |> setHeld n true

/-- Lock n is free. -/
def freeLock (n : Nat) (d : Dev) : Dev := { d with locks := tabErase d.locks n } |> setHeld n false

/-- Lock n was released by its owner in this CORE cycle (R250). -/
def justReleased (n : Nat) (d : Dev) : Option Nat :=
  match tabFind d.lockRel n with
  | some o => if o.ctx = d.now then some o.master else none
  | none => none

/-- A read of MEM_LOCK_n (R248). -/
def lockRead (m ctx n : Nat) (d : Dev) : Word × Dev :=
  match lockOwner n d with
  | some o => (busyWord o, d)
  | none => if m = 19 then (0x40000000, d) else (0, takeLock n (identity m ctx) d)

/-- A write of MEM_LOCK_n (R248, R251): the owner writing its own identity releases; anything else sets BAD_REL. -/
def lockWrite (m ctx n : Nat) (v : Word) (d : Dev) : Dev :=
  let d := errIf (decide (v &&& 0xFFFFE0F0 ≠ 0)) (A.block 4) m errRsvd (A.memLock n) d
  let me := identity m ctx
  if lockOwner n d = some me ∧ fld v 12 8 = me.master ∧ fld v 3 0 = me.ctx then
    freeLock n { d with lockRel := tabInsert d.lockRel n ⟨m, d.now⟩ }
  else raise A.memLockStat 0 d

/-- The Supervisor revokes lock n, where it is held (R250); a revoke that meets a release of its cycle loses (R121). -/
def revokeLock (n : Nat) (d : Dev) : Dev :=
  match lockOwner n d with
  | none => raiseIf (justReleased n d).isSome A.memLockStat 2 d
  | some _ => d |> freeLock n |> raise A.memLockStat 1

/-- MEM_LOCK_REVOKE (R250, R251): only the Supervisor, with its key. -/
def writeLockRevoke (m : Nat) (v : Word) (d : Dev) : Dev :=
  if m ≠ 0 ∨ fld v 31 16 ≠ 0x0E0C then d
  else
    let d := storeReg m A.memLockRevoke v d
    if fld v 15 14 = 1 then revokeLock (fld v 5 0) d
    else if fld v 15 14 = 2 then
      (List.range 64).foldl (fun d n =>
        match lockOwner n d with
        | some o => if o.master = fld v 12 8 then revokeLock n d else d
        | none => if justReleased n d = some (fld v 12 8) then revokeLock n d else d) d
    else d

/-- LOCK_ACQUIRE (R248): a read of a lock register; by an engine a guarded load (R249). -/
def execLockAcquire (m : Fin 20) (ctx : Fin 10) (n : Fin 64) (s : State) : Host.Outcome State Fault Refusal :=
  onPow (byMaster m (some ctx) false (A.memLock n) fun d => let p := lockRead m ctx n d; giveRead m p.1 p.2) s

/-- LOCK_RELEASE (R248): a write of a lock register. -/
def execLockRelease (m : Fin 20) (ctx : Fin 10) (n : Fin 64) (v : Word) (s : State) : Host.Outcome State Fault Refusal :=
  onPow (byMaster m (some ctx) true (A.memLock n) (lockWrite m ctx n v)) s

/-- LOCK_REVOKE (R250): MEM_LOCK_REVOKE with OP 0b01. -/
def execLockRevoke (m : Fin 20) (n : Fin 64) (s : State) : Host.Outcome State Fault Refusal :=
  onPow (writeLockRevoke m (word (0x0E0C4000 + n))) s

/-- LOCK_REVOKE_MASTER (R250): MEM_LOCK_REVOKE with OP 0b10. -/
def execLockRevokeMaster (m : Fin 20) (who : Fin 32) (s : State) : Host.Outcome State Fault Refusal :=
  onPow (writeLockRevoke m (word (0x0E0C8000 + atBit who 8))) s

end Sys2Proof.Machine
end

