-- ==== Sys2Proof/Machine/Line.lean ====
section
/-! DEFINITION. Machine/Line.lean: the symbols of a Meridian line (R282): the 8b/10b code of IEEE 802.3 Clause 36, K28.5 and K29.7
around a frame. Running disparity is a Bool, true where it is positive. -/

namespace Sys2Proof.Machine

/-- The 6-bit sub-blocks abcdei of D.0 to D.31 at negative running disparity, bit a first (IEEE 802.3 Clause 36). -/
def code6 : List Nat :=
  [0b100111, 0b011101, 0b101101, 0b110001, 0b110101, 0b101001, 0b011001, 0b111000,
   0b111001, 0b100101, 0b010101, 0b110100, 0b001101, 0b101100, 0b011100, 0b010111,
   0b011011, 0b100011, 0b010011, 0b110010, 0b001011, 0b101010, 0b011010, 0b111010,
   0b110011, 0b100110, 0b010110, 0b110110, 0b001110, 0b101110, 0b011110, 0b101011]

/-- The 4-bit sub-blocks fghj of D.x.0 to D.x.7 at negative running disparity, bit f first (IEEE 802.3 Clause 36). -/
def code4 : List Nat := [0b1011, 0b1001, 0b0101, 0b1100, 0b1101, 0b1010, 0b0110, 0b1110]

/-- Has an n-bit sub-block as many ones as zeros? -/
def balanced (n c : Nat) : Bool := 2 * countOf n (fun i => c.testBit i) = n

/-- The 6-bit sub-block of D.x at a running disparity. -/
def enc6 (rd : Bool) (x : Nat) : Nat :=
  let c := code6.getD x 0
  if rd && (!balanced 6 c || x = 7) then 63 - c else c

/-- The 4-bit sub-block of D.x.y at the running disparity behind its 6 bits. D.x.7 takes its alternate form where the other would
give five equal bits in a row. -/
def enc4 (rd : Bool) (x y : Nat) : Nat :=
  let alt : Bool := if rd then x = 11 || x = 13 || x = 14 else x = 17 || x = 18 || x = 20
  let c := if y = 7 ∧ alt = true then 0b0111 else code4.getD y 0
  if rd && (!balanced 4 c || y = 3) then 15 - c else c

/-- The n low bits of c, the highest first. -/
def bitsOf (n c : Nat) : List Bool := (List.range n).map fun i => c.testBit (n - 1 - i)

/-- The code group of a byte at a running disparity, bit a first, and the running disparity behind it. -/
def encByte (rd : Bool) (b : Byte) : List Bool × Bool :=
  let x := b.toNat % 32
  let c6 := enc6 rd x
  let r := rd != !balanced 6 c6
  let c4 := enc4 r x (b.toNat / 32)
  (bitsOf 6 c6 ++ bitsOf 4 c4, r != !balanced 4 c4)

/-- K28.5 at the start of a frame, where running disparity is negative (R282). -/
def symbolK285 : List Bool := bitsOf 10 0b0011111010

/-- K29.7 at a running disparity. -/
def symbolK297 (rd : Bool) : List Bool := bitsOf 10 (if rd then 0b0100010111 else 0b1011101000)

/-- The code groups of bytes and of the K29.7 that closes the frame. -/
def encSymbols (rd : Bool) : List Byte → List Bool
  | [] => symbolK297 rd
  | b :: bs => (encByte rd b).1 ++ encSymbols (encByte rd b).2 bs

/-- The bits of a frame on the line (R282, R284): K28.5, the bytes, K29.7. -/
def lineBits (bs : List Byte) : List Bool := symbolK285 ++ encSymbols true bs

/-- The byte whose code group stands at a running disparity; none for a special symbol, an invalid group or a disparity error. -/
def decByte (rd : Bool) (g : List Bool) : Option Byte :=
  match (List.range 32).find? fun x => bitsOf 6 (enc6 rd x) = g.take 6 with
  | none => none
  | some x =>
    ((List.range 8).map fun y => BitVec.ofNat 8 (32 * y + x)).find? fun b => (encByte rd b).1 = g

/-- The bytes of at most n symbols up to K29.7; none where a code error comes first (R282). -/
def decSymbols : Nat → Bool → List Bool → Option (List Byte)
  | 0, _, _ => none
  | n + 1, rd, l =>
    let g := l.take 10
    if g = symbolK297 rd then some []
    else match decByte rd g with
      | none => none
      | some b => (decSymbols n (encByte rd b).2 (l.drop 10)).map fun bs => b :: bs

/-- The bytes of a received frame whose bits begin with its K28.5 (R282); none where it has a code error or no K29.7 closes it. -/
def lineDecode (l : List Bool) : Option (List Byte) :=
  if l.take 10 = symbolK285 then decSymbols (l.length / 10) true (l.drop 10) else none

end Sys2Proof.Machine
end

