-- ==== Sys2Proof/Machine/MulDiv.lean ====
section
/-! DEFINITION. Machine/MulDiv.lean: the multiply, divide, accumulator, CRC and checksum groups (R198, R199, R174-R176,
R181-R187). -/

namespace Sys2Proof.Machine

/-- The parameters of CRC slot k of engine c (R174). The Supervisor has no PE_CRC registers: its slots hold the values
that R174 gives at reset (notes/assumptions/9.md). -/
def crcSlot (c k : Nat) (d : Dev) : CrcPar :=
  let w (o : Nat) : Word := if c = 16 then regReset (A.peCrc 0 k o) else rd (A.peCrc c k o) d
  let cfg := w 0
  let width := if fld cfg 1 0 = 0 then 8 else if fld cfg 1 0 = 1 then 16 else 32
  ⟨width, (w 4).toNat, (w 8).toNat, (w 12).toNat, bit cfg 2, bit cfg 3⟩

/-- Use of the words of CRC slot k (R174). -/
def useCrc (c k : Nat) (d : Dev) : Dev :=
  if c = 16 then d else [0, 4, 8, 12].foldl (fun d o => useCfg (0x20 + c) (A.peCrc c k o) 0 d) d

/-- A division's start (R164, R170, R183): its traps are taken at once, otherwise it blocks until it is done, or until
the divider is free. -/
def divide (op : Word → Word → Word → DivRes) (c rd rs rt : Nat) : Dev → Dev :=
  issue c fun key x d =>
    let r := op (x.dr rs) (x.dr rt) x.sr
    if rd % 2 = 1 then illegal key d
    else if r.dz && bit x.sr 9 then takeExc key { cause := 6 } d
    else if r.ov && ovTrap x.sr then takeExc key { cause := 7 } d
    else match (getCore c d).divBusy with
      | some _ => block key x (.divider rd r.q r.r r.sr) d
      | none => d |> modCore c (fun e => { e with divBusy := some key }) |> block key x (.division rd r.q r.r r.sr)

/-- The division in progress ends (R164): quotient, remainder and flags land. -/
def divisionDone (c : Nat) (d : Dev) : Dev :=
  match (getCore c d).divBusy with
  | none => d
  | some key =>
    match (getCtx key d).wait with
    | .division rd q r sr => d |> unblock key (({ getCtx key d with sr := sr }.setD rd q).setD (rd + 1) r) |> divNext c
    | _ => d

/-- DIVISION_DONE (R164): a division advances only while the engine runs. -/
def execDivisionDone (c : Fin 17) (s : State) : Host.Outcome State Fault Refusal :=
  onDev (fun d => when (coreRuns c d) (divisionDone c) d) s

/-- An instruction that changes an accumulator, with no flags. -/
def accStep (c n : Nat) (f : Ctx → Acc → Acc) : Dev → Dev :=
  issue c fun key x d => retire key (x.setAc n (f x (x.ac n))) d

/-- A CRC instruction on slot k (R174, R175): it folds n bytes of Dm. -/
def crcStep (c ac k n rs : Nat) : Dev → Dev :=
  issue c fun key x d =>
    d |> useCrc c k
      |> retire key (x.setAc ac (BitVec.ofNat 72 (crcFoldWord (crcSlot c k d) n (x.ac ac).toNat (x.dr rs))))

/-- MUL (R198). -/
def execMul (c : Fin 17) (rd rs rt : Fin 16) (s : State) : Host.Outcome State Fault Refusal :=
  onDev (alu3 mulLow c rd rs rt) s

/-- MULH (R198). -/
def execMulh (c : Fin 17) (rd rs rt : Fin 16) (s : State) : Host.Outcome State Fault Refusal :=
  onDev (alu3 mulHigh c rd rs rt) s

/-- MULHU (R198). -/
def execMulhu (c : Fin 17) (rd rs rt : Fin 16) (s : State) : Host.Outcome State Fault Refusal :=
  onDev (alu3 mulHighU c rd rs rt) s

/-- DIV (R198, R182, R183). -/
def execDiv (c : Fin 17) (rd rs rt : Fin 16) (s : State) : Host.Outcome State Fault Refusal :=
  onDev (divide divSigned c rd rs rt) s

/-- DIVU (R198, R182, R183). -/
def execDivu (c : Fin 17) (rd rs rt : Fin 16) (s : State) : Host.Outcome State Fault Refusal :=
  onDev (divide divUnsigned c rd rs rt) s

/-- DIVS (R198, R182, R183). -/
def execDivs (c : Fin 17) (rd rs rt : Fin 16) (s : State) : Host.Outcome State Fault Refusal :=
  onDev (divide divSat c rd rs rt) s

/-- MAC (R199, R186). -/
def execMac (c : Fin 17) (ac : Fin 2) (rs rt : Fin 16) (s : State) : Host.Outcome State Fault Refusal :=
  onDev (issue c fun key x d =>
    let p := macStep 1 (x.ac ac) (x.dr rs) (x.dr rt) x.sr
    retire key ({ x with sr := p.2 }.setAc ac p.1) d) s

/-- MSU (R199, R186). -/
def execMsu (c : Fin 17) (ac : Fin 2) (rs rt : Fin 16) (s : State) : Host.Outcome State Fault Refusal :=
  onDev (issue c fun key x d =>
    let p := macStep (-1) (x.ac ac) (x.dr rs) (x.dr rt) x.sr
    retire key ({ x with sr := p.2 }.setAc ac p.1) d) s

/-- ACSET (R155, R199). -/
def execAcset (c : Fin 17) (ac : Fin 2) (rs : Fin 16) (s : State) : Host.Outcome State Fault Refusal :=
  onDev (issue c fun key x d =>
    if rs.val % 2 = 1 then illegal key d
    else retire key (x.setAc ac (BitVec.ofInt 72 (x.pair rs).toInt)) d) s

/-- ACX (R187, R199). -/
def execAcx (c : Fin 17) (rd : Fin 16) (ac : Fin 2) (sh : BitVec 6) (s : State) : Host.Outcome State Fault Refusal :=
  onDev (issue c fun key x d =>
    if 40 < sh.toNat then illegal key d else putRes key rd x (acExtract (x.ac ac) sh.toNat x.sr) d) s

/-- ACZ (R199). -/
def execAcz (c : Fin 17) (ac : Fin 2) (s : State) : Host.Outcome State Fault Refusal :=
  onDev (accStep c ac fun _ _ => 0) s

/-- CRCI (R175, R199). -/
def execCrci (c : Fin 17) (ac : Fin 2) (k : Fin 4) (s : State) : Host.Outcome State Fault Refusal :=
  onDev (issue c fun key x d =>
    d |> useCrc c k |> retire key (x.setAc ac (BitVec.ofNat 72 (crcInit (crcSlot c k d))))) s

/-- CRCB (R175, R199). -/
def execCrcb (c : Fin 17) (ac : Fin 2) (rs : Fin 16) (k : Fin 4) (s : State) : Host.Outcome State Fault Refusal :=
  onDev (crcStep c ac k 1 rs) s

/-- CRCH (R175, R199). -/
def execCrch (c : Fin 17) (ac : Fin 2) (rs : Fin 16) (k : Fin 4) (s : State) : Host.Outcome State Fault Refusal :=
  onDev (crcStep c ac k 2 rs) s

/-- CRCW (R175, R199). -/
def execCrcw (c : Fin 17) (ac : Fin 2) (rs : Fin 16) (k : Fin 4) (s : State) : Host.Outcome State Fault Refusal :=
  onDev (crcStep c ac k 4 rs) s

/-- CRCX (R175, R199). -/
def execCrcx (c : Fin 17) (rd : Fin 16) (ac : Fin 2) (k : Fin 4) (s : State) : Host.Outcome State Fault Refusal :=
  onDev (issue c fun key x d =>
    d |> useCrc c k |> retire key (x.setD rd (crcFinish (crcSlot c k d) (x.ac ac).toNat))) s

/-- CSUMH (R176, R199). -/
def execCsumh (c : Fin 17) (ac : Fin 2) (rs : Fin 16) (s : State) : Host.Outcome State Fault Refusal :=
  onDev (accStep c ac fun x a => a + BitVec.ofNat 72 (fld (x.dr rs) 15 0)) s

/-- CSUMW (R176, R199). -/
def execCsumw (c : Fin 17) (ac : Fin 2) (rs : Fin 16) (s : State) : Host.Outcome State Fault Refusal :=
  onDev (accStep c ac fun x a =>
    a + BitVec.ofNat 72 (fld (x.dr rs) 31 16 + fld (x.dr rs) 15 0)) s

/-- CSX (R176, R199). -/
def execCsx (c : Fin 17) (rd : Fin 16) (ac : Fin 2) (s : State) : Host.Outcome State Fault Refusal :=
  onDev (issue c fun key x d => retire key (x.setD rd (csumFinish (x.ac ac))) d) s

end Sys2Proof.Machine
end

