-- ==== Sys2Proof/Machine/Pio.lean ====
section
/-! DEFINITION. Machine/Pio.lean: the PIO engines (R407-R430): ticks, pins, the instructions, FIFOs and their DMA, the
response table, enable and trigger start. Every instruction command issues the named instruction at the engine's tick in
this CORE cycle; pin levels are operands, as the engine sees them at the tick (R411). -/

namespace Sys2Proof.Machine

/-! ## Engines and registers -/

/-- An engine at reset (R408). -/
def pioDefault (_ : Nat) : Pio :=
  ⟨.disabled, .none, 0, 0, 0, false, 0, 0, [], [], [], 0, none, 0, 0, none, false, none, 0, false⟩
/-- Engine n. -/
def getPio (n : Nat) (d : Dev) : Pio := tabGet pioDefault d.pios n
/-- Replace engine n. -/
def putPio (n : Nat) (x : Pio) (d : Dev) : Dev := { d with pios := tabSet pioDefault d.pios n x }

/-- A field of PIO_n at offset o. -/
def pioFld (n o hi lo : Nat) (d : Dev) : Nat := rf (A.pio n o) hi lo d
/-- OCNT; reserved values act as 0 (R430). -/
def pioOcnt (n : Nat) (d : Dev) : Nat := let c := pioFld n 0x4C 21 16 d; if c ≤ 32 then c else 0
/-- SCNT; reserved values act as 0 (R430). -/
def pioScnt (n : Nat) (d : Dev) : Nat := let c := pioFld n 0x4C 31 29 d; if c ≤ 5 then c else 0
/-- A FIFO depth: 4, 8 or 16 words (R422, R430). -/
def pioDepth (code : Nat) : Nat := if code = 1 then 8 else if code = 2 then 16 else 4
/-- TXD. -/
def txDepth (n : Nat) (d : Dev) : Nat := pioDepth (pioFld n 0x40 24 23 d)
/-- RXD. -/
def rxDepth (n : Nat) (d : Dev) : Nat := pioDepth (pioFld n 0x40 22 21 d)
/-- RXDST: 0 items, 1 image, 2 ring; 3 acts as 0 (R430). -/
def rxDst (n : Nat) (d : Dev) : Nat := let c := pioFld n 0x40 20 19 d; if c = 3 then 0 else c
/-- A ring size in words (R421, R430): reserved values act as 0x8. -/
def ringWords (code : Nat) : Nat := 2 ^ ((if code ≤ 8 then code else 8) + 4)
/-- STEP of PIO_RATEs: 0 stands for 2^32 (R409). -/
def pioStep (n s : Nat) (d : Dev) : Nat := let v := (rd (A.pio n (0x44 + 4 * s)) d).toNat; if v = 0 then 2 ^ 32 else v
/-- Address of response table entry e (R430). -/
def tabAddr (n e : Nat) : Nat := A.pio n (0x400 + 4 * e)

/-- Do the engines run (R429)? In service, outside DOZE. -/
def pioRuns (d : Dev) : Bool := inService d && committed d && !inDoze d && !outputsHeld d

/-! ## Ticks (R409) -/

/-- How many ticks of engine n precede the present one, from its phase start on. -/
def tickIndex (n : Nat) (d : Dev) : Nat := let x := getPio n d; (d.now - x.t0) * x.step / 2 ^ 32

/-- Is this CORE cycle a tick of engine n: t0 + ⌈k x 2^32 / STEP⌉ for some k? -/
def isTick (n : Nat) (d : Dev) : Bool :=
  let x := getPio n d
  decide (x.t0 ≤ d.now) &&
    (decide (d.now = x.t0) || decide ((d.now - x.t0 - 1) * x.step / 2 ^ 32 < tickIndex n d))

/-- Engine n runs, and this cycle is a tick that it has not used. -/
def tickDue (n : Nat) (d : Dev) : Bool := pioRuns d && isTick n d && decide ((getPio n d).last ≠ some d.now)

/-! ## Pins -/

/-- k bits of v at place b of a pin vector. -/
def putBits (old : BitVec 128) (b k v : Nat) : BitVec 128 :=
  let m : BitVec 128 := BitVec.ofNat 128 ((2 ^ k - 1) <<< b)
  (old &&& ~~~m) ||| (BitVec.ofNat 128 (v <<< b) &&& m)

/-- Load the pin latches; a pin whose value or enable changed restarts its read-back (R412, R415). -/
def loadPins (val en : BitVec 128) (d : Dev) : Dev :=
  let diff := (val ^^^ d.pins.val) ||| (en ^^^ d.pins.en)
  { d with pins := { d.pins with
      val := val, en := en
      changed := (List.range 128).foldl (fun t p =>
        if diff.getLsbD p then tabSet (fun _ => 0) t p d.now else t) d.pins.changed } }

/-- A word of the pin table (R413). -/
def pinWord (p : Nat) (d : Dev) : Word := tabGet zeroDefault d.tabs (tabKey 43 p)

/-- A pin takes a level encoded as SAFE and IDLE are (R412, R413): Z, low, high; 0b11 acts as Z. -/
def pinLevel (vals : BitVec 128 × BitVec 128) (p code : Nat) : BitVec 128 × BitVec 128 :=
  (putBits vals.1 p 1 (if code = 2 then 1 else 0), putBits vals.2 p 1 (if code = 1 ∨ code = 2 then 1 else 0))

/-- Engine n's data and control pins. -/
def windowPins (n : Nat) (d : Dev) : List Nat :=
  (List.range (pioOcnt n d)).map (fun i => pioFld n 0x4C 14 8 d + i) ++
    (List.range (pioScnt n d)).map (fun i => pioFld n 0x4C 28 22 d + i)

/-- Engine n's pins take the IDLE levels (R412). -/
def idlePins (n : Nat) (d : Dev) : Dev :=
  let v := (windowPins n d).foldl (fun v p => pinLevel v p (fld (pinWord p d) 5 4)) (d.pins.val, d.pins.en)
  loadPins v.1 v.2 d

/-- Every pin takes its SAFE level (R75, R462). -/
def safePins (d : Dev) : Dev :=
  let v := (List.range 128).foldl (fun v p => pinLevel v p (fld (pinWord p d) 7 6)) ((0, 0) : BitVec 128 × BitVec 128)
  loadPins v.1 v.2 d

/-- The input levels as the device reads them: pins of a lost VDDIO_PXB bank read 0 (R540). -/
def seen (pins : BitVec 128) (d : Dev) : BitVec 128 :=
  (List.range 8).foldl (fun p k =>
    if 7 + k ∈ d.vddio then p &&& ~~~(BitVec.ofNat 128 (0xFFFF * 2 ^ (16 * k))) else p) pins

/-- The input window W (R410). -/
def inWin (n : Nat) (pins : BitVec 128) (d : Dev) : Word := ((seen pins d).rotateRight (pioFld n 0x4C 6 0 d)).setWidth 32

/-- The absolute number of window pin w. -/
def winPin (n w : Nat) (d : Dev) : Nat := (pioFld n 0x4C 6 0 d + w) % 128

/-- Does pin p pass the synchroniser (R411)? -/
def syncPin (p : Nat) (d : Dev) : Bool := !bit (pinWord p d) 3

/-! ## Instruction issue -/

/-- The engine's state with the next instruction in turn; the tick is used (R416). -/
def pioNext (d : Dev) (x : Pio) : Pio :=
  { x with pc := (x.pc + 1) % 32, state := .running, wait := .none, last := some d.now }

/-- Issue an instruction of engine n at its tick: RUNNING engines only; a program word with bad parity raises code 0x42
(R419). -/
def pioIssue (n : Nat) (f : Pio → Dev → Dev) (d : Dev) : Dev :=
  let x := getPio n d
  if tickDue n d && decide (x.state = .running) then f x (useCfg 0x1C (A.pio n (0x100 + 4 * x.pc)) 0 d) else d

/-- An instruction that changes the engine's own registers and completes. -/
def pioReg (n : Nat) (f : Pio → Dev → Pio) : Dev → Dev := pioIssue n fun x d => putPio n (pioNext d (f x d)) d

/-- An instruction that loads pin latches and completes. -/
def pioPins (n : Nat) (f : Pio → Dev → Pio × BitVec 128 × BitVec 128) : Dev → Dev := pioIssue n fun x d =>
  let r := f x d
  d |> putPio n (pioNext d r.1) |> loadPins r.2.1 r.2.2

/-- The engine waits or stalls on an instruction (R408). -/
def pioHold (n : Nat) (st : PioState) (w : PioWait) (x : Pio) (d : Dev) : Dev :=
  putPio n { x with state := st, wait := w, last := some d.now } d

/-- A fault halts the engine (R408): pins at IDLE, a status bit set. One that is DISABLED stays so (its table refills all the
same, R427). -/
def pioFault (n b : Nat) (d : Dev) : Dev :=
  d |> when (decide ((getPio n d).state ≠ .disabled)) (fun d =>
      d |> putPio n { getPio n d with state := .halted, wait := .none, last := some d.now } |> idlePins n)
    |> raise (A.pio n 0x78) b

/-- An illegal encoding (R418). -/
def pioIllegal (n : Nat) : Dev → Dev := pioIssue n fun _ d => pioFault n 5 d

/-! ## FIFOs -/

/-- Entries of the receive FIFO that take room (R422): words and items of EVT. -/
def rxLevel (l : List PioRx) : Nat := (l.filter fun e => match e with | .close _ => false | _ => true).length

/-- Does the engine hold a closed item that waits for the arrival queue (R423)? -/
def itemHeld (n : Nat) (d : Dev) : Bool := d.dsp.waiting.any fun it => it.src = 4 && it.arg = n

/-- Does a SEND close the open item: SENDE, or its 16th word (R423)? -/
def closes (n : Nat) (e : Bool) (x : Pio) (d : Dev) : Bool := rxDst n d = 0 && (e || x.openCount = 15)

/-- Is there room for a SEND or SENDE (R422, R423)? -/
def sendRoom (n : Nat) (e : Bool) (x : Pio) (d : Dev) : Bool :=
  decide (rxLevel x.rx < rxDepth n d) && !(closes n e x d && itemHeld n d)

/-- The item that closes at this tick (R423, R424): TB_0 of its STAMP, else of this tick. -/
def closingItem (n : Nat) (x : Pio) (d : Dev) : Item :=
  { newItem 4 (pioFld n 0x70 11 0 d) n [] 0 0 d with ts := x.openTs.getD (tbNs 0 d) }

/-- SR enters the receive FIFO (R417, R423). -/
def pushWord (n : Nat) (e : Bool) (x : Pio) (d : Dev) : Pio :=
  let w := PioRx.word x.sr (rd A.memImgCycle d)
  if closes n e x d then
    { x with sc := 0, rx := x.rx ++ [w, .close (closingItem n x d)], openCount := 0, openTs := none }
  else { x with sc := 0, rx := x.rx ++ [w], openCount := if rxDst n d = 0 then x.openCount + 1 else 0 }

/-- A dropped word at depth 16 (R422): OVERRUN; SENDE still closes the open item. -/
def dropWord (n : Nat) (e : Bool) (x : Pio) (d : Dev) : Pio :=
  if e && rxDst n d = 0 && decide (0 < x.openCount) then
    { x with sc := 0, rx := x.rx ++ [.close (closingItem n x d)], openCount := 0, openTs := none }
  else { x with sc := 0 }

/-- SEND and SENDE (R422). -/
def sendTo (n : Nat) (e : Bool) (x : Pio) (d : Dev) : Dev :=
  if sendRoom n e x d then putPio n (pioNext d (pushWord n e x d)) d
  else if rxDepth n d = 16 then d |> putPio n (pioNext d (dropWord n e x d)) |> raise (A.pio n 0x78) 2
  else pioHold n .stalled (.send e) x d

/-- EVT's item (R423): its head is the one word zext(k). -/
def evtItem (n k : Nat) (d : Dev) : Item := newItem 4 (pioFld n 0x70 11 0 d) n (leBytes 4 k) 4 0 d

/-- EVT (R422, R423). -/
def evtTo (n k : Nat) (x : Pio) (d : Dev) : Dev :=
  if rxLevel x.rx < rxDepth n d ∧ itemHeld n d = false then
    putPio n (pioNext d { x with rx := x.rx ++ [.evt (evtItem n k d)] }) d
  else if rxDepth n d = 16 then d |> putPio n (pioNext d x) |> raise (A.pio n 0x78) 2
  else pioHold n .stalled (.evt k) x d

/-- Words of the transmit ring (R421). -/
def txWords (n : Nat) (d : Dev) : Nat := ringWords (pioFld n 0x40 16 13 d)
/-- Words of the receive ring. -/
def rxWords (n : Nat) (d : Dev) : Nat := ringWords (pioFld n 0x40 12 9 d)

/-- The FIFO's head goes to SR, and RP passes it (R417, R421). -/
def takeWord (n : Nat) (w : Word) (rest : List Word) (x : Pio) (d : Dev) : Dev :=
  d |> putPio n (pioNext d { x with sr := w, sc := 32, tx := rest })
    |> wf (A.pio n 0x64) 11 0 ((pioFld n 0x64 11 0 d + 1) % txWords n d)

/-- LOAD (R422). -/
def loadFrom (n : Nat) (x : Pio) (d : Dev) : Dev :=
  match x.tx with
  | w :: rest => takeWord n w rest x d
  | [] =>
    if txDepth n d = 16 then
      d |> putPio n (pioNext d { x with sr := rd (A.pio n 0x58) d, sc := 32 }) |> raise (A.pio n 0x78) 1
    else pioHold n .stalled .load x d

/-! ## The instructions of R417 -/

/-- SR with k window bits shifted in at the low end (GRAB), and SC. -/
def grab (k : Nat) (w : Word) (x : Pio) : Pio :=
  { x with sr := (x.sr <<< k) ||| word (w.toNat % 2 ^ k), sc := min (x.sc + k) 32 }

/-- The event of STAMP (R424): the four time bases in this cycle, moved back 2 cycles (5 ns) where a deciding pin uses
the synchroniser. -/
def pioEvent (sync : Bool) (d : Dev) : Option (List TimeBase) :=
  some (d.ntm.tb.map fun t => t.add (if sync then -2 * tickUnit else 0))

/-- Do W's bits under CMASK match CMPV (UNTILP)? -/
def patternHolds (n : Nat) (w : Word) (d : Dev) : Bool :=
  (w ^^^ rd (A.pio n 0x50) d) &&& rd (A.pio n 0x54) d = 0

/-- Does a pin that UNTILP looks at use the synchroniser? -/
def patternSync (n : Nat) (d : Dev) : Bool :=
  (List.range 32).any fun i => bit (rd (A.pio n 0x54) d) i && syncPin (winPin n i d) d

/-- A waiting instruction whose condition holds at this tick: the engine's state once it completed (R408, R417). -/
def waitDone (n : Nat) (w : PioWait) (pins : BitVec 128) (x : Pio) (d : Dev) : Option Pio :=
  let win := inWin n pins d
  match w with
  | .level p pol => if (seen pins d).getLsbD p = pol then some { x with event := pioEvent (syncPin p d) d } else none
  | .window i pol k =>
    if bit win i = pol then some { grab k win x with event := pioEvent (syncPin (winPin n i d) d) d } else none
  | .pattern =>
    if patternHolds n win d then some { x with sr := win, sc := 32, event := pioEvent (patternSync n d) d } else none
  | .trigger => if x.latch then some { x with latch := false } else none
  | .pause t => if t ≤ tickIndex n d then some x else none
  | _ => none

/-- An instruction that may wait: it completes in this tick or holds the pins (R408). -/
def pioWait (n : Nat) (w : Dev → PioWait) (pins : BitVec 128) : Dev → Dev := pioIssue n fun x d =>
  match waitDone n (w d) pins x d with
  | some x' => putPio n (pioNext d x') d
  | none => pioHold n .waiting (w d) x d

/-- The table entry that LOOK reads, with the bit that an upset has turned (R419, R426); bits 16 and 17 are its parity. -/
def lookEntry (n e : Nat) (flip : Option Nat) (d : Dev) : Word × Dev :=
  let a := tabAddr n e
  let d := match flip with
    | some b => { wr a (if b < 16 then rd a d ^^^ word (2 ^ b) else rd a d) d with badPar := a :: d.badPar }
    | none => d
  (rd a d, if a ∈ d.badPar then report 0x41 0x1C 0 0 d else d)

/-- Does the condition of GOTO hold (R417)? -/
def gotoCond (n c : Nat) (x : Pio) (d : Dev) : Bool :=
  match c with
  | 0 => true
  | 1 => x.m
  | 2 => !x.m
  | 3 => x.sc = 0
  | 4 => x.sc ≠ 0
  | 5 => x.lc ≠ 0
  | 6 => !x.tx.isEmpty
  | 7 => rxLevel x.rx < rxDepth n d
  | _ => false

/-- The STAMP record and the TB_0 that goes with it (R424). -/
def pioStampOf (x : Pio) (d : Dev) : Stamp × DWord :=
  let tbs := x.event.getD d.ntm.tb
  let z : TimeBase := ⟨0, 0, 0, 0, 0, []⟩
  (stampOf (pioBase d) (x.stamps + 1) (tbs.getD (pioBase d) z), (tbs.getD 0 z).ns64)

/-- A time-stamp record into four register words from address a on. -/
def putStamp (a : Nat) (t : Stamp) (d : Dev) : Dev :=
  d |> wr a t.w0 |> wr (a + 4) t.w1 |> wr (a + 8) t.w2 |> wr (a + 12) t.w3

/-- NOP (R417). -/
def execPioNop (n : Fin 32) (s : State) : Host.Outcome State Fault Refusal := onDev (pioReg n fun x _ => x) s

/-- DRV (R417): values of the control window. -/
def execPioDrv (n : Fin 32) (v : BitVec 5) (s : State) : Host.Outcome State Fault Refusal :=
  onDev (pioPins n fun x d =>
    (x, putBits d.pins.val (pioFld n 0x4C 28 22 d) (pioScnt n d) v.toNat, d.pins.en)) s

/-- DRVE (R417): enables of the control window. -/
def execPioDrve (n : Fin 32) (v : BitVec 5) (s : State) : Host.Outcome State Fault Refusal :=
  onDev (pioPins n fun x d =>
    (x, d.pins.val, putBits d.pins.en (pioFld n 0x4C 28 22 d) (pioScnt n d) v.toNat)) s

/-- EMIT (R417, R429): the field holds n - 1; only OCNT pins are driven, SR shifts by the full count. -/
def execPioEmit (n : Fin 32) (k : Fin 32) (s : State) : Host.Outcome State Fault Refusal :=
  onDev (pioPins n fun x d =>
    ({ x with sr := x.sr >>> (k.val + 1), sc := x.sc - (k.val + 1) },
     putBits d.pins.val (pioFld n 0x4C 14 8 d) (min (k.val + 1) (pioOcnt n d)) x.sr.toNat, d.pins.en)) s

/-- EMITE (R417). -/
def execPioEmite (n : Fin 32) (k : Fin 32) (v : Bool) (s : State) : Host.Outcome State Fault Refusal :=
  onDev (pioPins n fun x d =>
    (x, d.pins.val,
     putBits d.pins.en (pioFld n 0x4C 14 8 d) (min (k.val + 1) (pioOcnt n d)) (if v then 2 ^ 32 - 1 else 0))) s

/-- EMITL (R417): with c = 1 only when M = 1. -/
def execPioEmitl (n : Fin 32) (k : Fin 16) (e c : Bool) (s : State) : Host.Outcome State Fault Refusal :=
  onDev (pioPins n fun x d =>
    let b := pioFld n 0x4C 14 8 d
    let w := min (k.val + 1) (pioOcnt n d)
    if !c || x.m then
      (x, putBits d.pins.val b w x.ol.toNat, if e then putBits d.pins.en b w (2 ^ 32 - 1) else d.pins.en)
    else (x, d.pins.val, d.pins.en)) s

/-- GRAB (R417). -/
def execPioGrab (n : Fin 32) (k : Fin 32) (pins : BitVec 128) (s : State) : Host.Outcome State Fault Refusal :=
  onDev (pioReg n fun x d => grab (k.val + 1) (inWin n pins d) x) s

/-- GRABR (R417). -/
def execPioGrabr (n : Fin 32) (k : Fin 32) (pins : BitVec 128) (s : State) : Host.Outcome State Fault Refusal :=
  onDev (pioReg n fun x d =>
    { x with sr := (x.sr >>> (k.val + 1)) ||| word ((inWin n pins d).toNat % 2 ^ (k.val + 1) * 2 ^ (31 - k.val))
             sc := min (x.sc + k.val + 1) 32 }) s

/-- DISC (R417). -/
def execPioDisc (n : Fin 32) (k : Fin 32) (s : State) : Host.Outcome State Fault Refusal :=
  onDev (pioReg n fun x _ => { x with sr := x.sr >>> (k.val + 1), sc := x.sc - (k.val + 1) }) s

/-- LOAD (R417, R422). -/
def execPioLoad (n : Fin 32) (s : State) : Host.Outcome State Fault Refusal := onDev (pioIssue n (loadFrom n)) s

/-- LOADT (R417). -/
def execPioLoadt (n : Fin 32) (s : State) : Host.Outcome State Fault Refusal :=
  onDev (pioIssue n fun x d =>
    match x.tx with
    | w :: rest => takeWord n w rest { x with m := true } d
    | [] => putPio n (pioNext d { x with m := false }) d) s

/-- SEND (R417, R422). -/
def execPioSend (n : Fin 32) (s : State) : Host.Outcome State Fault Refusal := onDev (pioIssue n (sendTo n false)) s

/-- SENDE (R417, R423). -/
def execPioSende (n : Fin 32) (s : State) : Host.Outcome State Fault Refusal := onDev (pioIssue n (sendTo n true)) s

/-- SENDT (R417). -/
def execPioSendt (n : Fin 32) (s : State) : Host.Outcome State Fault Refusal :=
  onDev (pioReg n fun x d =>
    if sendRoom n false x d then { pushWord n false x d with m := true } else { x with m := false }) s

/-- UNTIL (R417). -/
def execPioUntil (n : Fin 32) (p : Fin 128) (pol : Bool) (pins : BitVec 128) (s : State) :
    Host.Outcome State Fault Refusal := onDev (pioWait n (fun _ => .level p pol) pins) s

/-- UNTILC (R417). -/
def execPioUntilc (n : Fin 32) (w : Fin 32) (pol : Bool) (k : Fin 32) (pins : BitVec 128) (s : State) :
    Host.Outcome State Fault Refusal := onDev (pioWait n (fun _ => .window w pol (k.val + 1)) pins) s

/-- UNTILP (R417). -/
def execPioUntilp (n : Fin 32) (pins : BitVec 128) (s : State) : Host.Outcome State Fault Refusal :=
  onDev (pioWait n (fun _ => .pattern) pins) s

/-- UNTILT (R417, R425). -/
def execPioUntilt (n : Fin 32) (s : State) : Host.Outcome State Fault Refusal :=
  onDev (pioWait n (fun _ => .trigger) 0) s

/-- PAUSE (R417): k further ticks. -/
def execPioPause (n : Fin 32) (k : Fin 2048) (s : State) : Host.Outcome State Fault Refusal :=
  onDev (pioWait n (fun d => .pause (tickIndex n d + k.val)) 0) s

/-- MATCH (R417). -/
def execPioMatch (n : Fin 32) (s : State) : Host.Outcome State Fault Refusal :=
  onDev (pioReg n fun x d => { x with m := patternHolds n x.sr d }) s

/-- MATCHI (R417). -/
def execPioMatchi (n : Fin 32) (k : Byte) (s : State) : Host.Outcome State Fault Refusal :=
  onDev (pioReg n fun x d =>
    { x with m := decide ((fld x.sr 31 24 ^^^ k.toNat) &&& pioFld n 0x54 31 24 d = 0) }) s

/-- LOOK (R417, R426). -/
def execPioLook (n : Fin 32) (sh : Fin 32) (flip : Option (Fin 18)) (s : State) : Host.Outcome State Fault Refusal :=
  onDev (pioIssue n fun x d =>
    let r := lookEntry n (fld (x.sr >>> sh.val) 7 0) (flip.map (·.val)) d
    putPio n (pioNext d { x with ol := r.1.setWidth 16 }) r.2) s

/-- TPUT (R417, R426). -/
def execPioTput (n : Fin 32) (s : State) : Host.Outcome State Fault Refusal :=
  onDev (pioIssue n fun x d =>
    let a := tabAddr n (fld x.sr 23 16)
    let d := putPio n (pioNext d x) d
    { wr a (word (fld x.sr 15 0)) d with badPar := dropIf (· = a) d.badPar }) s

/-- MOVOL (R417). -/
def execPioMovol (n : Fin 32) (s : State) : Host.Outcome State Fault Refusal :=
  onDev (pioReg n fun x _ => { x with ol := x.sr.setWidth 16 }) s

/-- MOVSR (R417). -/
def execPioMovsr (n : Fin 32) (s : State) : Host.Outcome State Fault Refusal :=
  onDev (pioReg n fun x _ => { x with sr := x.ol.setWidth 32, sc := 16 }) s

/-- GOTO (R417, R418): conditions 8-15 are an illegal encoding. -/
def execPioGoto (n : Fin 32) (c : Fin 16) (t : Fin 32) (s : State) : Host.Outcome State Fault Refusal :=
  onDev (if 8 ≤ c.val then pioIllegal n
    else pioReg n fun x d =>
      if gotoCond n c x d then
        { x with pc := (t.val + 31) % 32, lc := if c = 5 then x.lc - 1 else x.lc }
      else x) s

/-- GOTOP (R417): its condition that holds is an event (R424). -/
def execPioGotop (n : Fin 32) (w : Fin 32) (pol : Bool) (t : Fin 32) (pins : BitVec 128) (s : State) :
    Host.Outcome State Fault Refusal :=
  onDev (pioReg n fun x d =>
    if bit (inWin n pins d) w = pol then
      { x with pc := (t.val + 31) % 32, event := pioEvent (syncPin (winPin n w d) d) d }
    else x) s

/-- LDLC (R417). -/
def execPioLdlc (n : Fin 32) (v : Byte) (s : State) : Host.Outcome State Fault Refusal :=
  onDev (pioReg n fun x _ => { x with lc := v.toNat }) s

/-- RATE (R409, R417): the step in force and a phase start, in this tick or in the next CORE cycle. -/
def execPioRate (n : Fin 32) (sel r : Bool) (s : State) : Host.Outcome State Fault Refusal :=
  onDev (pioReg n fun x d => { x with step := pioStep n sel.toNat d, t0 := d.now + r.toNat }) s

/-- STAMP (R424). -/
def execPioStamp (n : Fin 32) (s : State) : Host.Outcome State Fault Refusal :=
  onDev (pioIssue n fun x d =>
    let t := pioStampOf x d
    d |> putPio n (pioNext d { x with stamps := x.stamps + 1, openTs := if rxDst n d = 0 then some t.2 else x.openTs })
      |> putStamp (A.pio n 0x90) t.1 |> raise (A.pio n 0x78) 0) s

/-- EVT (R417, R423). -/
def execPioEvt (n : Fin 32) (k : Byte) (s : State) : Host.Outcome State Fault Refusal :=
  onDev (pioIssue n (evtTo n k.toNat)) s

/-- PIO_HALT (R408, R416): pins hold and PC passes the instruction. -/
def execPioHalt (n : Fin 32) (s : State) : Host.Outcome State Fault Refusal :=
  onDev (pioIssue n fun x d => d |> pioHold n .halted .none { x with pc := (x.pc + 1) % 32 } |> raise (A.pio n 0x78) 4) s

/-- PIO_ILLEGAL_ENCODING (R418). -/
def execPioIllegalEncoding (n : Fin 32) (s : State) : Host.Outcome State Fault Refusal := onDev (pioIllegal n) s

/-- PIO_WAIT_END (R408): the condition holds at a tick. -/
def execPioWaitEnd (n : Fin 32) (pins : BitVec 128) (s : State) : Host.Outcome State Fault Refusal :=
  onDev (fun d =>
    let x := getPio n d
    if tickDue n d && decide (x.state = .waiting) then
      match waitDone n x.wait pins x d with
      | some x' => putPio n (pioNext d x') d
      | none => d
    else d) s

/-- PIO_STALL_END (R408): data or room is there at a tick. -/
def execPioStallEnd (n : Fin 32) (s : State) : Host.Outcome State Fault Refusal :=
  onDev (fun d =>
    let x := getPio n d
    if tickDue n d && decide (x.state = .stalled) then
      match x.wait with
      | .load => loadFrom n x d
      | .send e => sendTo n e x d
      | .evt k => evtTo n k x d
      | _ => d
    else d) s

/-! ## DMA (R420-R423) -/

/-- A DMA access of master 22 at an address that fails (R130, R420): the engine halts. -/
def pioDmaFail (n kind : Nat) (w : Bool) (a : Nat) (d : Dev) : Dev := d |> accEvent 22 kind w a |> pioFault n 7

/-- PIO_TX_FETCH (R421): the next ring word into the transmit FIFO. -/
def execPioTxFetch (n : Fin 32) (s : State) : Host.Outcome State Fault Refusal :=
  onDev (fun d =>
    let x := getPio n d
    let i := (pioFld n 0x64 11 0 d + x.tx.length) % txWords n d
    if inService d && decide (x.state ≠ .disabled) && decide (x.tx.length < txDepth n d) &&
        decide (i ≠ pioFld n 0x64 27 16 d % txWords n d) then
      let a := (rd (A.pio n 0x60) d).toNat + 4 * i
      match accessFail 22 false false a d with
      | some k => pioDmaFail n k false a d
      | none => match badIn a 4 d with
        | some b => d |> parityMismatch false 22 b |> pioFault n 7
        | none => putPio n { x with tx := x.tx ++ [word (leNat (memBytes a 4 d))] } d
    else d) s

/-- A word that leaves the receive FIFO for the image (R423): halfword w[15:0] at byte 2 x (w[23:16] mod 4) of granule
IMG_GRAN + (w[23:16] div 4), with the cycle open at the SEND tick. -/
def drainImage (n : Nat) (w cycle : Word) (d : Dev) : Dev :=
  let e := fld w 23 16
  let g := (pioFld n 0x70 27 14 d + e / 4) % 16384
  let a := 0x06000000 + 8 * g
  if banksReady a d then
    imgWrite 22 (some (4, n)) g (BitVec.ofNat 8 (3 <<< (2 * (e % 4)))) (BitVec.ofNat 64 (fld w 15 0 <<< (16 * (e % 4))))
      cycle true d
  else pioDmaFail n 1 true a d

/-- A word that leaves the receive FIFO for the ring (R423). -/
def drainRing (n : Nat) (w : Word) (d : Dev) : Dev :=
  let wp := pioFld n 0x6C 11 0 d % rxWords n d
  let a := (rd (A.pio n 0x68) d).toNat + 4 * wp
  match accessFail 22 true false a d with
  | some k => pioDmaFail n k true a d
  | none => d |> memPut a (leBytes 4 w.toNat) |> wf (A.pio n 0x6C) 11 0 ((wp + 1) % rxWords n d)

/-- The receive ring is full (R421, R423). -/
def ringFull (n : Nat) (d : Dev) : Bool :=
  (pioFld n 0x6C 11 0 d + 1) % rxWords n d = pioFld n 0x6C 27 16 d % rxWords n d

/-- The open item closes and is posted (R423): its head is the collected words. -/
def postOpen (n : Nat) (it : Item) (rest : List PioRx) (words : List Word) (x : Pio) (d : Dev) : Dev :=
  let bytes := words.flatMap fun w => leBytes 4 w.toNat
  d |> putPio n { x with rx := rest, openWords := [] }
    |> offerItem { it with head := bytes, headLen := bytes.length, len := bytes.length }

/-- PIO_RX_DRAIN (R423): the head of the receive FIFO goes to its destination. -/
def rxDrain (n : Nat) (d : Dev) : Dev :=
  let x := getPio n d
  if !inService d || itemHeld n d then d
  else match x.rx with
    | [] => d
    | .evt it :: rest => d |> putPio n { x with rx := rest } |> offerItem it
    | .close it :: rest => postOpen n it rest x.openWords x d
    | .word w c :: rest =>
      if rxDst n d = 1 then d |> putPio n { x with rx := rest } |> drainImage n w c
      else if rxDst n d = 2 then
        if ringFull n d then d else d |> putPio n { x with rx := rest } |> drainRing n w
      else match rest with
        | .close it :: rest' => postOpen n it rest' (x.openWords ++ [w]) x d
        | _ => putPio n { x with rx := rest, openWords := x.openWords ++ [w] } d

/-- PIO_RX_DRAIN (R423). -/
def execPioRxDrain (n : Fin 32) (s : State) : Host.Outcome State Fault Refusal := onDev (rxDrain n) s

/-! ## The response table (R426, R427) -/

/-- RFCNT: 0 and 65-127 act as 64 (R430). -/
def rfCount (n : Nat) (d : Dev) : Nat := let c := pioFld n 0x74 20 14 d; if 1 ≤ c ∧ c ≤ 64 then c else 64

/-- The refill reads of granules i .. i + k - 1 of engine n: the entries read, or none where a read fails. -/
def refillReads (n : Nat) : Nat → Nat → Dev → Option (List Word) × Dev
  | 0, _, d => (some [], d)
  | k + 1, i, d =>
    let r := portBRead 22 ((pioFld n 0x74 13 0 d + i) % 16384) d
    if r.2.1 then
      let q := refillReads n k (i + 1) r.2.2
      (q.1.map fun l => (List.range 4).map (fun j => word (nfld r.1.toNat (16 * j + 15) (16 * j))) ++ l, q.2)
    else (none, r.2.2)

/-- PIO_REFILL_SWAP (R427): engines refill in ascending number; a failed read halts the engine (R420). -/
def refillSwap (n : Nat) (d : Dev) : Dev :=
  let x := getPio n d
  if inService d && x.refill && (List.range n).all (fun m => !(getPio m d).refill) then
    let r := refillReads n (rfCount n d) 0 d
    let d := putPio n { getPio n r.2 with refill := false } r.2
    match r.1 with
    | none => pioFault n 7 d
    | some l =>
      let d := l.zipIdx.foldl (fun d p => wr (tabAddr n p.2) p.1 d) d
      { d with badPar := dropIf (fun a => tabAddr n 0 ≤ a && a < tabAddr n l.length) d.badPar }
  else d

/-- PIO_REFILL_SWAP (R427). -/
def execPioRefillSwap (n : Fin 32) (s : State) : Host.Outcome State Fault Refusal := onDev (refillSwap n) s

/-- A boundary starts the refills (R427): one still running is abandoned with REFILL_MISS. -/
def startRefills (d : Dev) : Dev :=
  (List.range 32).foldl (fun d n =>
    let x := getPio n d
    let d := raiseIf x.refill (A.pio n 0x78) 6 d
    putPio n { x with refill := rb (A.pio n 0x40) 18 d } d) d

/-! ## Enable, trigger start, whole-block events -/

/-- EN becomes 1 after commit (R408): RUNNING or ARMED; the first tick falls 3 CORE cycles later. -/
def pioStart (n : Nat) (d : Dev) : Dev :=
  let x := { pioDefault n with
    state := if rb (A.pio n 0x40) 30 d then .armed else .running
    pc := pioFld n 0x40 29 25 d
    t0 := d.now + 3, step := pioStep n 0 d, refill := (getPio n d).refill
    latch := (getPio n d).latch, stamps := (getPio n d).stamps }
  d |> putPio n x |> idlePins n

/-- EN becomes 0 (R408): pins at IDLE, FIFOs and any open item discarded. -/
def pioStop (n : Nat) (d : Dev) : Dev :=
  d |> putPio n { getPio n d with state := .disabled, wait := .none, tx := [], rx := [], openWords := [],
                                  openCount := 0, openTs := none }
    |> idlePins n

/-- EN of engine n is written (R408): stored before commit; in Twilight a halted engine stays halted (R462). -/
def setPioEn (n : Nat) (v : Bool) (d : Dev) : Dev :=
  let old := rb (A.pio n 0x40) 31 d
  if d.sys.mode = .twilight ∧ v then d
  else
    let d := wb (A.pio n 0x40) 31 v d
    if !inService d || !committed d then d
    else if v && !old then pioStart n d
    else if !v && old then pioStop n d
    else d

/-- PIO_CTRL of engine n (R408, R430). -/
def writePioCtrl (m n : Nat) (v : Word) (d : Dev) : Dev :=
  let en := rb (A.pio n 0x40) 31 d
  d |> storeReg m (A.pio n 0x40) v |> wb (A.pio n 0x40) 31 en |> setPioEn n (bit v 31)

/-- PIO_EN_SET and PIO_EN_CLR (R430): all named engines change in one CORE cycle. -/
def writePioEn (m a : Nat) (v : Word) (on : Bool) (d : Dev) : Dev :=
  (List.range 32).foldl (fun d n => if bit v n then setPioEn n on d else d) (storeReg m a v d)

/-- A program word (R419): discarded while the engine is not DISABLED. -/
def writePioProg (m n a : Nat) (v : Word) (d : Dev) : Dev :=
  if (getPio n d).state = .disabled then storeReg m a v d else raise (A.pio n 0x78) 3 d

/-- A table entry (R426): the copy in force, with new parity. -/
def writePioTab (m a : Nat) (v : Word) (d : Dev) : Dev :=
  let d := storeReg m a v d
  { d with badPar := dropIf (· = a) d.badPar }

/-- PIO_EN_SET (R408). -/
def execPioEnSet (m : Fin 20) (v : Word) (s : State) : Host.Outcome State Fault Refusal :=
  onPow (writePioEn m A.pioEnSet v true) s

/-- PIO_EN_CLR (R408). -/
def execPioEnClr (m : Fin 20) (v : Word) (s : State) : Host.Outcome State Fault Refusal :=
  onPow (writePioEn m A.pioEnClr v false) s

/-- A trigger start (R425); the mark says that it is lost. -/
def pioTrigger (n : Nat) (d : Dev) : Bool × Dev :=
  let x := getPio n d
  if inDoze d || x.latch then (true, d)
  else match x.state with
    | .disabled => (true, d)
    | .halted => (true, d)
    | .armed => (false, putPio n { x with state := .running, t0 := d.now + 3 } d)
    | _ => (false, putPio n { x with latch := true } d)

/-- Commit, and the return from RETAIN (R408, R412, R429): pins take the IDLE levels and enabled engines start. -/
def pioCommit (d : Dev) : Dev :=
  (List.range 32).foldl (fun d n => if rb (A.pio n 0x40) 31 d then pioStart n d else idlePins n d)
    { d with pios := [], pins := { d.pins with val := 0, en := 0 } }

/-- How many ticks of engine n passed from its phase start to the cycle t. -/
def ticksBy (n t : Nat) (d : Dev) : Nat := let x := getPio n d; (t - x.t0) * x.step / 2 ^ 32

/-- DOZE ends (R91, R429): each engine resumes with a phase start in the next CORE cycle, which counts as a further tick of
a PAUSE; the ticks of the time in DOZE, from `entryTime` on, do not. -/
def pioUngate (d : Dev) : Dev :=
  (List.range 32).foldl (fun d n =>
    let x := getPio n d
    match x.state with
    | .disabled => d
    | .armed => d
    | .halted => d
    | _ =>
      let w := match x.wait with
        | .pause t => PioWait.pause (t - ticksBy n d.sys.entryTime d - 1)
        | w => w
      putPio n { x with t0 := d.now + 1, wait := w } d) d

/-- Twilight (R429, R462): every engine halts and every pin takes its SAFE level, after commit only. -/
def pioTwilight (d : Dev) : Dev :=
  let d := (List.range 32).foldl (fun d n =>
    let x := getPio n d
    if x.state = .disabled then d else putPio n { x with state := .halted, wait := .none } d) d
  if committed d then safePins d else d

/-- PIO_STATE (R430). -/
def pioStateWord (d : Dev) : Word := word (maskOf 32 fun n => (getPio n d).state ≠ .disabled)

/-- PIO_RUN (R430): STATE, PC, SC, LC and the FIFO levels. -/
def pioRunWord (n : Nat) (d : Dev) : Word :=
  let x := getPio n d
  let st := match x.state with
    | .disabled => 0 | .armed => 1 | .running => 2 | .waiting => 3 | .stalled => 4 | .halted => 5
  word (atBit st 29 + atBit x.pc 24 + atBit x.sc 18 + atBit x.lc 10 + atBit x.tx.length 5 + rxLevel x.rx)

end Sys2Proof.Machine
end

