-- ==== Sys2Proof/Machine/Meridian.lean ====
section
/-! DEFINITION. Machine/Meridian.lean: Meridian's frames, Constellations, reception, agreed switch and clock correction
(R281-R316). -/

namespace Sys2Proof.Machine

/-! ## Tables (R295-R297) -/

/-- Word w of Constellation k (R295). -/
def cstWord (k w : Nat) (d : Dev) : Word := tabGet zeroDefault d.tabs (tabKey 18 (0x800 * k + w))
/-- The slot-map word of slot s under Constellation k (R296). -/
def mapWord (k s : Nat) (d : Dev) : Word := tabGet zeroDefault d.tabs (tabKey 19 (0x400 * k + s))
/-- VALID of Constellation k. -/
def cstValid (k : Nat) (d : Dev) : Bool := bit (cstWord k 0 d) 31
/-- ENTRIES of Constellation k. -/
def cstEntries (k : Nat) (d : Dev) : Nat := min (fld (cstWord k 0 d) 30 22) 256
/-- CYCLE of Constellation k, in macroticks. -/
def cstCycle (k : Nat) (d : Dev) : Nat := fld (cstWord k 0 d) 18 0
/-- AP of Constellation k. -/
def cstAp (k : Nat) (d : Dev) : Nat := fld (cstWord k 1 d) 31 28
/-- DEPTH of Constellation k (R34). -/
def cstDepth (k : Nat) (d : Dev) : Nat := fld (cstWord k 1 d) 27 25
/-- NIT of Constellation k. -/
def cstNit (k : Nat) (d : Dev) : Nat := fld (cstWord k 1 d) 18 0
/-- Is node n a sync node of Constellation k? -/
def cstSync (k n : Nat) (d : Dev) : Bool := bit (cstWord k 2 d) n
/-- May node n cold-start under Constellation k? -/
def cstCold (k n : Nat) (d : Dev) : Bool := bit (cstWord k 3 d) n

/-- A slot, or an entry with its first slot (R291, R295). `count` is COUNT, slots minus 1. -/
structure Slot where
  slot : Nat
  start : Nat
  len : Nat
  owner : Nat
  chan : Nat
  sync : Bool
  typ : Nat
  plen : Nat
  count : Nat
  rep : Nat
  base : Nat
  deriving DecidableEq, Repr

/-- Entry e of Constellation k (R295); reserved CHAN, TYPE and REP act as stated. -/
def cstEntry (k e : Nat) (d : Dev) : Slot :=
  let w0 := cstWord k (16 + 4 * e) d
  let w1 := cstWord k (17 + 4 * e) d
  let w2 := cstWord k (18 + 4 * e) d
  { slot := fld w2 9 0, start := fld w0 31 13, len := fld w0 12 0, owner := fld w1 30 26
    chan := if fld w1 25 24 = 0 then 3 else fld w1 25 24
    sync := bit w1 23, typ := if fld w1 22 20 ≤ 1 then fld w1 22 20 else 0, plen := fld w1 19 12, count := fld w1 11 6
    rep := if fld w1 5 3 = 7 then 0 else fld w1 5 3, base := fld w2 31 26 }

/-- Slot s of Constellation k (R291). -/
def slotOf (k s : Nat) (d : Dev) : Option Slot :=
  (List.range (cstEntries k d)).findSome? fun e =>
    let x := cstEntry k e d
    if x.slot ≤ s ∧ s ≤ x.slot + x.count then
      some { x with slot := s, start := x.start + (s - x.slot) * x.len, count := 0 }
    else none

/-- The slots of Constellation k. -/
def slotsOf (k : Nat) (d : Dev) : List Slot :=
  (List.range (cstEntries k d)).flatMap fun e =>
    let x := cstEntry k e d
    (List.range (x.count + 1)).map fun i => { x with slot := x.slot + i, start := x.start + i * x.len, count := 0 }

/-- Is a slot active in the cycle with counter cc (R293)? -/
def Slot.active (x : Slot) (cc : Nat) : Bool := cc % 2 ^ x.rep = x.base

/-! ## The node -/

/-- Change Meridian's state. -/
def modMrd (f : Mrd → Mrd) (d : Dev) : Dev := { d with mrd := f d.mrd }

/-- This node's ID (R316). -/
def ownNode (d : Dev) : Nat := rf A.mrdCtrl 15 11 d
/-- The START Constellation (R316). -/
def startCst (d : Dev) : Nat := rf A.mrdCtrl 10 8 d
/-- The Constellation in force (R316). -/
def curCst (d : Dev) : Nat := rf A.mrdStat 15 13 d
/-- The cycle counter (R316). -/
def mrdCc (d : Dev) : Nat := rf A.mrdCycle 31 26 d
/-- NEXT carried in this node's frames (R316). -/
def mrdNext (d : Dev) : Nat := rf A.mrdStat 12 10 d
/-- PROP in ns (R316). -/
def mrdProp (d : Dev) : Nat := rf A.mrdSyncCfg 31 24 d
/-- OFS_LIM in 0.25 ns (R316): 0-3 act as 4 ns. -/
def ofsLim (d : Dev) : Int := (4 * max 4 (rf A.mrdSyncCfg 23 16 d) : Nat)
/-- Is channel ch enabled? -/
def chanOn (ch : Nat) (d : Dev) : Bool := rb A.mrdCtrl (1 + ch) d

/-- Meridian runs (R316, R317): EN after commit, in service or in Twilight, not in HALT. -/
def mrdRuns (d : Dev) : Bool :=
  rb A.mrdCtrl 0 d && committed d && (d.sys.mode = .service || d.sys.mode = .twilight) && d.mrd.node ≠ .halt

/-- The node holds a timeline (R13, R317). -/
def holdsTimeline (d : Dev) : Bool :=
  mrdRuns d && (d.mrd.node = .dawn || d.mrd.node = .integrating || d.mrd.node = .active || d.mrd.node = .passive)

/-- PEND shows a proposal or acknowledgement (R316). -/
def showPend (d : Dev) : Dev := wb A.mrdStat 9 (d.mrd.request.isSome || d.mrd.proposal.isSome) d

/-- NEXT of this node's frames changes. -/
def setNext (n : Nat) (d : Dev) : Dev := wf A.mrdStat 12 10 n d

/-! ## The timeline (R290, R312) -/

/-- The present instant in units of 2^-32 ns since reset release. -/
def instant (d : Dev) : Int := d.now * tickUnit

/-- The duration of one macrotick in units of 2^-32 ns (R312). -/
def mtUnit (d : Dev) : Int := 20 * (4294967296 + (rd A.mrdMtRate d).toInt)

/-- The instant of macrotick m of the open cycle (R290); a rate correction acts from its NIT on (R312). -/
def mtInstant (m : Nat) (d : Dev) : Int := d.mrd.mtAt + ((m : Int) - (d.mrd.mtBase : Int)) * mtUnit d

/-- The macrotick of the open cycle. -/
def macrotick (d : Dev) : Nat := ((d.mrd.mtBase : Int) + (instant d - d.mrd.mtAt) / mtUnit d).toNat

/-- Where the next boundary falls (R290, R311). -/
def nextBound (d : Dev) : Int := mtInstant (cstCycle (curCst d) d) d + d.mrd.ofs

/-- Macrotick 0 of the open cycle. -/
def Mrd.setBound (b : Int) (m : Mrd) : Mrd := { m with bound := b, mtBase := 0, mtAt := b }

/-- One bit of the line in units of 2^-32 ns (R282): 2 ns. -/
def mrdBit : Int := 8589934592

/-- The MRD bit nearest to an instant (R299). -/
def nearestBit (t : Int) : Int := (t + mrdBit / 2) / mrdBit * mrdBit

/-- TB_j at an instant (R254). -/
def tbInstant (j : Nat) (t : Int) (d : Dev) : TimeBase := tbAt j (t - instant d) tickUnit.toNat d

/-! ## The reference of the rack hash (R334) -/

/-- The reference of the cycle that ends (R334): node 0's frame of this or the previous cycle, else the lowest sync node
accepted in this one. On the manager its own hash. -/
def hashRef (d : Dev) : Option (Nat × Word) :=
  if role d = 2 then some (0, rd A.mrdHash d)
  else match d.mrd.mgrHash with
    | some (h, _) => some (0, h)
    | none => d.mrd.refs.foldl (fun best r => match best with
        | none => some r
        | some b => if r.1 < b.1 then some r else best) none

/-- REF, REFV and MRD_HASH_REF (R334, R340). -/
def showRef (r : Option (Nat × Word)) (d : Dev) : Dev :=
  match r with
  | some (n, h) => d |> wf A.mrdNodeStat 23 19 n |> wb A.mrdNodeStat 18 true |> wr A.mrdHashRef h
  | none => d |> wf A.mrdNodeStat 23 19 0 |> wb A.mrdNodeStat 18 false |> wr A.mrdHashRef 0

/-- The registers follow the reference that the node holds now. -/
def refNow (d : Dev) : Dev := showRef (hashRef d) d

/-! ## Losing the timeline -/

/-- Boundaries have stopped (R92, steps 1 and 2): the outputs go to their safe values. -/
def lastFlip (d : Dev) : Dev :=
  match d.sys.trans with
  | none => d
  | some t =>
    { d with sys := { d.sys with flipStop := false, trans := some { t with lastFlip := true } } }
      |> wb A.memImgStat 0 false |> safePins

/-- May the node still send (R92, step 3)? Not once the cycle that the last flip opened is over. -/
def mrdSends (d : Dev) : Bool := match d.sys.trans with | some t => !t.mrdEnd | none => true

/-- The cycle after the last flip is over (R92, step 3). -/
def mrdStop (d : Dev) : Dev :=
  { d with sys := { d.sys with trans := d.sys.trans.map fun t => { t with mrdEnd := true } } }

/-- The timeline is lost (R92): no further flip comes for an entry that waits for one. -/
def timelineLost (d : Dev) : Dev := when d.sys.flipStop (fun d => d |> lastFlip |> mrdStop) d

/-- Enter LISTEN (R318, R320): the timeline is dropped and the listen timeout starts. -/
def enterListen (d : Dev) : Dev :=
  d |> modMrd (fun m => { m with
        node := .listen, listenStart := d.now, slots := [], sent := [], even := [], devs := [], corrected := false,
        badPairs := 0, tbBest := none, evenOfs := none, syncSeen := false, noSync := 0, good := 0, adopted := false,
        refs := [], mgrHash := none, mgr := none, proposal := none, cack := false, confirm := false, silent := none, silentSeen := false,
        heard := false, dawnSent := false, ofs := 0, missed := [], rstSeen := 0, rstNow := false, opened := false, tx := [] })
    |> wr A.mrdRackAct 0 |> showPend |> refNow |> timelineLost

/-- Enter HALT (R318): both TXEN pins stay low (R330). -/
def enterHalt (d : Dev) : Dev :=
  d |> modMrd (fun m => { m with node := .halt, slots := [], sent := [], proposal := none, cack := false, refs := [], mgrHash := none,
                                 opened := false, tx := [] })
    |> wr A.mrdRackAct 0 |> showPend |> refNow |> timelineLost

/-- An ACTIVE node stops sending at once (R318): LISTEN, in Twilight HALT. -/
def dropActive (d : Dev) : Dev := if d.sys.mode = .twilight then enterHalt d else enterListen d

/-! ## Frames (R284-R289) -/

/-- The frame bytes without the opening and closing symbols (R284, R285, R287). -/
def frameBytes (node typ slot cc cst : Nat) (sync dawn null cack fail : Bool) (next rstn : Nat) (payload : List Byte) :
    List Byte :=
  let h : List Nat := [8 * node + typ, slot % 256, 4 * cc + slot / 256, payload.length,
    32 * cst + 16 * sync.toNat + 8 * dawn.toNat + 4 * null.toNat + 2 * cack.toNat + fail.toNat, 32 * next + rstn]
  let b := h.map (BitVec.ofNat 8) ++ payload
  b ++ leBytes 4 (crc32c b)

/-- The time field of a sync frame (R288): TB_0 at the instant its first bit leaves, and the rack hash. -/
def timeField (at_ : Int) (d : Dev) : List Byte :=
  let t := tbInstant 0 at_ d
  leBytes 4 t.ns ++ leBytes 6 t.sec ++ leBytes 2 t.epoch ++ leBytes 4 (rd A.mrdHash d).toNat

/-- Payload bytes from the committed copies of granules g, g + 1, … (R299), read through Twin port B. -/
def granPayload : Nat → Nat → Dev → List Byte × Dev
  | 0, _, d => ([], d)
  | n + 1, g, d =>
    let r := portBRead 25 g d
    let p := granPayload n (g + 1) r.2.2
    (leBytes 8 r.1.toNat ++ p.1, p.2)

/-- The end of a frame's last bit. -/
def Tx.fin (t : Tx) : Int := t.start + t.bits.length * mrdBit

/-- The bits that pass Eclipse's window (R329). -/
def Tx.passed (t : Tx) : List Bool :=
  (t.bits.zipIdx.filter fun b => t.opens ≤ t.start + b.2 * mrdBit && t.start + (b.2 + 1) * mrdBit ≤ t.closes).map (·.1)

/-- Must Eclipse act by the instant t (R329): TXEN, which rises 2 bits before the frame and falls 2 bits after it (R283), is asked
for before the window opens, or is still high at its end? -/
def Tx.trips (x : Tx) (t : Int) : Bool :=
  (decide (x.start - 2 * mrdBit < x.opens) && decide (x.start - 2 * mrdBit ≤ t)) ||
    (decide (x.closes < x.fin + 2 * mrdBit) && decide (x.closes ≤ t))

/-- A frame goes out on the channels of a mask that are enabled (R299), from the instant `at_` on, inside Eclipse's window (R328); with
no window TXEN stays low. -/
def emitFrame (mask : Nat) (at_ : Int) (window : Option (Int × Int)) (bytes : List Byte) (d : Dev) : Dev :=
  let bits := lineBits bytes
  let fin := at_ + bits.length * mrdBit
  let w := window.getD (fin, fin)
  let x : Tx := ⟨at_, bits, w.1, w.2⟩
  (List.range 2).foldl (fun d ch =>
    if mask.testBit ch && chanOn ch d then
      let d := modMrd (fun m => { m with tx := tabSet (fun _ => ⟨0, [], 0, 0⟩) m.tx ch x }) d
      if x.passed.isEmpty then d else { d with out := d.out ++ [.meridian ch x.passed] }
    else d) d

/-- MRD_x_TXEN of channel ch now (R281, R283, R328): low on a disabled channel and outside Eclipse's window. -/
def mrdTxen (ch : Nat) (d : Dev) : Bool :=
  match tabFind d.mrd.tx ch with
  | none => false
  | some t => chanOn ch d && decide (max (t.start - 2 * mrdBit) t.opens ≤ instant d ∧ instant d < min (t.fin + 2 * mrdBit) t.closes)

/-- MRD_x_TXD of channel ch now (R281): low while the node does not send. -/
def mrdTxd (ch : Nat) (d : Dev) : Bool :=
  match tabFind d.mrd.tx ch with
  | none => false
  | some t => mrdTxen ch d && decide (t.start ≤ instant d) && t.bits.getD ((instant d - t.start) / mrdBit).toNat false

/-- A value for the clock correction (R309): at most one per sync node and cycle. -/
def addDev (node : Nat) (dev : Int) (d : Dev) : Dev :=
  if d.mrd.devs.any fun x => x.node = node then d else modMrd (fun m => { m with devs := m.devs ++ [⟨node, dev⟩] }) d

/-- RB_ERR for the channels of a mask on which the own frame was not read back (R331). -/
def readBack (mask : Nat) (rbA rbB : Bool) (d : Dev) : Dev :=
  d |> raiseIf (mask.testBit 0 && chanOn 0 d && !rbA) A.mrdEclStat 3
    |> raiseIf (mask.testBit 1 && chanOn 1 d && !rbB) A.mrdEclStat 3

/-- The payload of an own slot whose frame starts at `at_`, and whether it is a null frame (R289, R299). A failure frame carries its
code and zeros, no time (R76, R289). -/
def ownPayload (x : Slot) (at_ : Int) (d : Dev) : List Byte × Bool × Dev :=
  let tf := if x.sync then timeField at_ d else []
  let n := x.plen - tf.length
  let w := mapWord (curCst d) x.slot d
  if d.sys.mode = .twilight then
    ((BitVec.ofNat 8 d.sys.twCode :: List.replicate x.plen (0 : Byte)).take x.plen, true, d)
  else if fld w 31 30 = 1 then
    let p := granPayload ((n + 7) / 8) (fld w 13 0) d
    (tf ++ p.1.take n, false, p.2)
  else (tf ++ List.replicate n 0, true, d)

/-- Eclipse's own macrotick, in units of 2^-32 ns (R328). -/
def eclTick : Int := 20 * 4294967296

/-- A parity bit for each byte of a word. -/
def byteParity (w : Word) : BitVec 4 :=
  BitVec.ofNat 4 (maskOf 4 fun i => countOf 8 (fun j => w.getLsbD (8 * i + j)) % 2 = 1)

/-- A parity mismatch in Eclipse's copy (R327). -/
def eclBad (d : Dev) : Bool := d.mrd.ecl.any fun x => x.parity ≠ byteParity x.word

/-- The tables as Eclipse's own copy holds them (R327): only the words it copied are set. -/
def eclipseView (d : Dev) : Dev := { d with tabs := d.mrd.ecl.map fun x => (tabKey 18 x.idx, x.word) }

/-- Eclipse's window of a slot (R328): from slot start + 1 macrotick to slot end - 1 macrotick on its count. -/
def eclipseWindow (x : Slot) (d : Dev) : Int × Int :=
  (d.mrd.eclBound + (x.start + 1 : Nat) * eclTick, d.mrd.eclBound + (x.start + x.len - 1 : Nat) * eclTick)

/-- The window of own slot s by Eclipse's copy; none where the copy has no such own active slot (R327, R328). -/
def ownWindow (s : Nat) (d : Dev) : Option (Int × Int) :=
  match slotOf (curCst d) s (eclipseView d) with
  | none => none
  | some x => if x.owner = ownNode d && x.active (mrdCc d) then some (eclipseWindow x d) else none

/-- The instant at which the frame of slot x starts (R299): the MRD bit nearest to its action point. -/
def frameStart (x : Slot) (d : Dev) : Int := nearestBit (mtInstant (x.start + cstAp (curCst d) d) d)

/-- The frame of an own active slot (R299). -/
def transmitSlot (x : Slot) (rbA rbB : Bool) (d : Dev) : Dev :=
  let at_ := frameStart x d
  let tw : Bool := d.sys.mode = .twilight
  let p := ownPayload x at_ d
  let cack := if role d = 2 then d.mrd.confirm && x.sync else d.mrd.cack
  let rstn := if role d = 2 ∧ x.sync then d.mrd.rstn else 0
  let bytes := frameBytes (ownNode d) x.typ x.slot (mrdCc d) (curCst d) x.sync false p.2.1 cack tw (mrdNext d) rstn p.1
  p.2.2 |> emitFrame x.chan at_ (ownWindow x.slot d) bytes |> modMrd (fun m => { m with sent := x.slot :: m.sent })
    |> when x.sync (addDev (ownNode d) 0) |> readBack x.chan rbA rbB

/-- An Eclipse self-check failure (R330): code 0x49 and HALT. -/
def eclipseFail (d : Dev) : Dev := d |> raise A.mrdEclStat 1 |> report 0x49 8 0 0 |> enterHalt

/-- FRAME_TRANSMIT (R299): at the action point of an own active slot, once a cycle; not in a silent cycle (R307). rbA
and rbB tell whether a valid copy was read back on each channel (R331). Eclipse checks the parity of its copy first (R327). -/
def execFrameTransmit (s : Fin 1024) (rbA rbB : Bool) (st : State) : Host.Outcome State Fault Refusal :=
  onDev (fun d =>
    match slotOf (curCst d) s d with
    | none => d
    | some x =>
      when (mrdRuns d && mrdSends d && d.mrd.node = .active && d.mrd.silent.isNone && decide (x.owner = ownNode d) &&
          x.active (mrdCc d) && !(d.mrd.sent.contains s.val) && decide (x.start + cstAp (curCst d) d ≤ macrotick d))
        (fun d => if eclBad d then eclipseFail d else transmitSlot x rbA rbB d) d) st

/-! ## Reception (R300-R302) -/

/-- The fields of a received header (R285). -/
structure RxHdr where
  node : Nat
  typ : Nat
  slot : Nat
  cc : Nat
  plen : Nat
  cst : Nat
  sync : Bool
  dawn : Bool
  null : Bool
  cack : Bool
  fail : Bool
  next : Nat
  rstn : Nat
  deriving DecidableEq, Repr

/-- Read a header (R285); a reserved TYPE acts as 0 (R286). -/
def rxHdr (bs : List Byte) : RxHdr :=
  let b (i : Nat) : Nat := (bs.getD i 0).toNat
  { node := b 0 / 8, typ := if b 0 % 8 ≤ 1 then b 0 % 8 else 0, slot := b 1 + 256 * (b 2 % 4), cc := b 2 / 4, plen := b 3, cst := b 4 / 32
    sync := (b 4).testBit 4, dawn := (b 4).testBit 3, null := (b 4).testBit 2, cack := (b 4).testBit 1
    fail := (b 4).testBit 0, next := b 5 / 32, rstn := b 5 % 32 }

/-- The payload of a received frame. -/
def rxPayload (bs : List Byte) : List Byte := slice bs 6 (rxHdr bs).plen

/-- Condition 3 of R300: the frame is as long as PLEN says and its CRC is correct (R287). -/
def rxCrcOk (bs : List Byte) : Bool :=
  bs.length = 10 + (rxHdr bs).plen && leNat (bs.drop (6 + (rxHdr bs).plen)) = crc32c (bs.take (6 + (rxHdr bs).plen))

/-- Condition 4 of R300; a silent node accepts either Constellation (R307). -/
def hdrOk (x : Slot) (h : RxHdr) (d : Dev) : Bool :=
  h.node = x.owner && h.slot = x.slot && h.cc = mrdCc d && h.plen = x.plen && h.typ = x.typ && h.sync == x.sync &&
    (h.cst = curCst d || some h.cst == d.mrd.silent) && h.plen % 2 = 0 && !h.dawn && (h.rstn = 0 || h.node = 0)

/-- The header values of a Dawn frame for Constellation k (R321). -/
def isDawnHdr (k : Nat) (h : RxHdr) : Bool :=
  h.typ = 0 && h.slot = 0 && h.plen = 16 && h.cst = k && h.next = k && h.sync && h.dawn && h.null && !h.cack && !h.fail &&
    h.rstn = 0

/-- A Dawn frame as a node with a rack timeline takes it (R322). -/
def dawnOk (x : Slot) (h : RxHdr) (d : Dev) : Bool :=
  x.slot = 0 && d.mrd.node ≠ .dawn && isDawnHdr (startCst d) h && cstCold (startCst d) h.node d

/-- What reception holds of slot s in this cycle. -/
def slotRx (s : Nat) (d : Dev) : SlotRx :=
  (d.mrd.slots.find? fun r => r.slot = s).getD ⟨s, false, false, none, none, false, false, false⟩

/-- Replace what reception holds of a slot. -/
def putSlotRx (r : SlotRx) (d : Dev) : Dev :=
  modMrd (fun m => { m with slots := r :: dropIf (fun x => x.slot = r.slot) m.slots }) d

/-- Bytes received into granules from g on, through Twin port B with the open cycle's number (R301). -/
def slotWrite (s g : Nat) (bs : List Byte) (d : Dev) : Dev :=
  (List.range ((bs.length + 7) / 8)).foldl (fun d i =>
    let a := 0x06000000 + 8 * (g + i)
    let b := (bs.drop (8 * i)).take 8
    if !banksReady a d then accEvent 25 1 true a d
    else imgWriteBytes 25 (some (2, s)) a b (rd A.memImgCycle d) true d) d

/-- The effects of an accepted payload (R301): granules and an item, in service only. The item's time is TB_0 at the arrival of the
first bit, to 2 ns (R261, R283). -/
def deliverSlot (x : Slot) (bs : List Byte) (arr : Int) (d : Dev) : Dev :=
  let w := mapWord (curCst d) x.slot d
  let data := if x.sync then (rxPayload bs).drop 16 else rxPayload bs
  let g := fld w 13 0
  if !inService d then d
  else
    d |> when (bit w 30) (slotWrite x.slot g data)
      |> when (bit w 31) (fun d =>
          let buf := if bit w 30 then word (0x06020000 + 8 * g) else 0
          let it := newItem 2 (fld w 25 14) x.slot (data.take 64) data.length buf d
          let t := tbInstant 0 (arr / mrdBit * mrdBit) d
          offerItem { it with ts := t.ns64, epoch := t.epoch } d)

/-- The time a sync frame carries, and its epoch (R288). -/
def carriedTime (bs : List Byte) : TimeBase :=
  let p := rxPayload bs
  { sec := leNat (slice p 4 6), ns := leNat (slice p 0 4) % 2 ^ 30, frac := 0, epoch := leNat (slice p 10 2), slew := 0,
    step := [] }

/-- The step of TB_0 to the carried time plus the time since its arrival (R314); PROP is what remains to slew. -/
def rackStep (d : Dev) : Dev :=
  match d.mrd.tbBest with
  | some ⟨n, _, some (c, arr)⟩ =>
    let v := c.add (instant d - arr)
    d |> stepBase 0 { tbGet 0 d with sec := v.sec, ns := v.ns, epoch := c.epoch, slew := 0 }
      |> modMrd (fun m => { m with tbBest := some ⟨n, mrdProp d, none⟩ })
  | _ => d

/-- Rack time on a worker (R255, R314): the offset that a sync frame of node n shows, which arrived at the instant `arr`, or a step
where its epoch differs. A manager's frame steps at once, another node's when no manager's frame can follow in the cycle. -/
def rackTime (n : Nat) (bs : List Byte) (arr : Int) (d : Dev) : Dev :=
  let better : Bool := match d.mrd.tbBest with | some b => n < b.node | none => true
  if role d ≠ 1 || !better then d
  else
    let c := carriedTime bs
    let o := (c.ns64 + BitVec.ofNat 64 (mrdProp d) - (tbInstant 0 arr d).ns64).toInt
    let step := if c.epoch ≠ (tbGet 0 d).epoch then some (c, arr) else none
    d |> modMrd (fun m => { m with tbBest := some ⟨n, o, step⟩ }) |> wr A.mrdTb0Ofs (BitVec.ofInt 32 o)
      |> when (decide (n = 0)) rackStep

/-- What an accepted sync or Dawn frame does (R304, R309, R314, R334, R337). A failure frame carries neither time nor hash (R289). -/
def acceptSync (h : RxHdr) (c : RxCopy) (d : Dev) : Dev :=
  let hash := word (leNat (slice (rxPayload c.bs) 12 4))
  d |> addDev h.node c.dev |> when (!h.fail) (rackTime h.node c.bs c.arr)
    |> modMrd (fun m => { m with
        syncSeen := true
        refs := if h.fail then m.refs else m.refs ++ [(h.node, hash)]
        mgrHash := if h.node = 0 ∧ h.fail = false then some (hash, 0) else m.mgrHash
        mgr := if h.node = 0 then some (h.next, h.cack) else m.mgr
        rstNow := m.rstNow || (h.node = 0 && h.rstn ≠ 0 && h.rstn = ownNode d)
        silentSeen := m.silentSeen || some h.cst == m.silent })
    |> refNow

/-- FAIL of an accepted copy (R333): the sender leaves the view. -/
def acceptFail (h : RxHdr) (d : Dev) : Dev :=
  if h.fail then
    d |> wb A.mrdRackFail h.node true |> wb A.mrdRackAct h.node false |> raise A.mrdNodeStat 4
  else wb A.mrdRackFail h.node false d

/-- The first valid copy of a slot is accepted (R301). -/
def acceptCopy (x : Slot) (c : RxCopy) (d : Dev) : Dev :=
  let h := rxHdr c.bs
  d |> when (!h.null && !h.fail && !h.dawn) (deliverSlot x c.bs c.arr)
    |> acceptFail h
    |> when h.sync (acceptSync h c)
    |> modMrd (fun m => { m with heard := m.heard || m.node = .dawn })

/-- Does copy a complete before copy b (R301, R315)? In the same MRD bit channel A's does. -/
def RxCopy.first (a b : RxCopy) : Bool :=
  decide (a.fin / mrdBit < b.fin / mrdBit) || (decide (a.fin / mrdBit = b.fin / mrdBit) && decide (a.ch < b.ch))

/-- DIS, where two valid copies of a slot differ (R302). -/
def disagree (s : Nat) (d : Dev) : Dev :=
  d |> putSlotRx { slotRx s d with dis := true } |> incrSat A.mrdDisagree 31 0 |> raise A.mrdStat 3

/-- The first copy to complete is accepted, and a second one compared with it (R301, R302). -/
def acceptFirst (x : Slot) (a : RxCopy) (b : Option RxCopy) (d : Dev) : Dev :=
  let d := d |> putSlotRx { slotRx x.slot d with held := none, accepted := some a.bs } |> acceptCopy x a
  when (match b with | some b => decide (a.bs ≠ b.bs) | none => false) (disagree x.slot) d

/-- A valid copy of slot x (R301, R302). The slot's first waits for the end of the CORE cycle, in which the other channel's can still
end in the same MRD bit. -/
def validCopy (x : Slot) (c : RxCopy) (d : Dev) : Dev :=
  let r := slotRx x.slot d
  let r := if c.ch = 0 then { r with aOk := true } else { r with bOk := true }
  let d := d |> incr (A.mrdChCnt c.ch 0) 31 0 |> putSlotRx r
  match r.accepted, r.held with
  | some a, _ => when (decide (a ≠ c.bs) && !r.dis) (disagree x.slot) d
  | none, some h => if c.first h then acceptFirst x c (some h) d else acceptFirst x h (some c) d
  | none, none => putSlotRx { r with held := some c } d

/-- The copies that wait for the end of the CORE cycle are accepted (R301). -/
def acceptHeld (d : Dev) : Dev :=
  d.mrd.slots.foldl (fun d r => match r.held, slotOf (curCst d) r.slot d with
    | some c, some x => acceptFirst x c none d
    | _, _ => d) d

/-- Eclipse's anchor on the bus (R328): the action point of a copy from another node, `dev` away from where this node's
timeline has it. -/
def eclAnchor (x : Slot) (dev : Int) (d : Dev) : Dev :=
  let n := x.start + cstAp (curCst d) d
  modMrd (fun m => { m with eclBound := mtInstant n d + dev * 1073741824 - n * eclTick }) d

/-- Condition 2 of R300: the macrotick in which the K29.7 of a frame of n symbols ends lies at least 2 before the slot's end. -/
def endsInSlot (x : Slot) (dev : Int) (n : Nat) (d : Dev) : Bool :=
  decide (((x.start + cstAp (curCst d) d : Nat) * mtUnit d + dev * 1073741824 + n * eclTick) / mtUnit d + 2 ≤ ((x.start + x.len : Nat) : Int))

/-- A copy on channel ch in slot s, against the conditions of R300: its bytes (none where it has a code error), and its arrival after
the action point in 0.25 ns. Conditions 2-4 alone anchor Eclipse (R328). A Dawn frame counts whoever owns slot 0 (R322). -/
def slotCopy (ch : Nat) (x : Slot) (bytes : Option (List Byte)) (arr : Int) (d : Dev) : Dev :=
  let bs := bytes.getD []
  let dawn := dawnOk x (rxHdr bs) d
  if ((x.owner = ownNode d || !x.active (mrdCc d)) && !(dawn && rxCrcOk bs)) || (slotRx x.slot d).ended then d
  else
    let dev := arr - 4 * (mrdProp d : Int)
    let clean := bytes.isSome && endsInSlot x dev (bs.length + 2) d
    let hdr := hdrOk x (rxHdr bs) d || dawn
    let d := when (clean && rxCrcOk bs && hdr && d.mrd.node ≠ .dawn) (eclAnchor x dev) d
    if dev < -80 ∨ 80 < dev then incrSat (A.mrdChCnt ch 8) 31 16 d
    else if !clean then incrSat (A.mrdChCnt ch 4) 15 0 d
    else if !rxCrcOk bs then incrSat (A.mrdChCnt ch 4) 31 16 d
    else if hdr then
      let at_ := mtInstant (x.start + cstAp (curCst d) d) d + arr * 1073741824
      validCopy x ⟨ch, dev, at_, at_ + (bs.length + 2 : Nat) * eclTick, bs⟩ d
    else d |> incrSat (A.mrdChCnt ch 8) 15 0 |> raise A.mrdStat 2 |> putSlotRx { slotRx x.slot d with hdr := true }

/-- A copy completes on channel ch in slot s (R300): `bits` are those of the line from its K28.5 on, `arr` is the arrival of its first
bit after the action point, in 0.25 ns. A node in LISTEN restarts its timeout (R320). -/
def copyReceived (ch s : Nat) (bits : List Bool) (arr : Int) (d : Dev) : Dev :=
  let bytes := lineDecode bits
  if !mrdRuns d || !chanOn ch d then d
  else if d.mrd.node = .listen then when bytes.isSome (modMrd fun m => { m with listenStart := d.now }) d
  else if !holdsTimeline d then d
  else match slotOf (curCst d) s d with
    | none => d
    | some x => slotCopy ch x bytes arr d

/-- FRAME_COPY_RECEIVED (R300). -/
def execFrameCopyReceived (ch : Fin 2) (s : Fin 1024) (bits : List Bool) (arr : Int) (st : State) :
    Host.Outcome State Fault Refusal :=
  onDev (copyReceived ch s bits arr) st

/-- The status word of a slot's occurrence (R297). -/
def slotWord (r : SlotRx) (cc : Nat) : Word :=
  let f (i : Nat) : Nat := match r.accepted with | some b => (((b.getD 4 0).toNat.testBit i)).toNat | none => 0
  word (atBit r.aOk.toNat 31 + atBit r.bOk.toNat 30 + atBit r.dis.toNat 29 + atBit r.hdr.toNat 28 + atBit (f 2) 27 +
    atBit (f 0) 26 + atBit cc 20)

/-- A receive slot ends (R297, R302): each channel of CHAN without a valid copy counts LOST. -/
def slotEnd (x : Slot) (d : Dev) : Dev :=
  let d := acceptHeld d
  let r := slotRx x.slot d
  if r.ended || x.owner = ownNode d || !x.active (mrdCc d) then d
  else
    d |> when (x.chan.testBit 0 && !r.aOk) (incrSat (A.mrdChCnt 0 12) 31 16)
      |> when (x.chan.testBit 1 && !r.bOk) (incrSat (A.mrdChCnt 1 12) 31 16)
      |> putSlotRx { r with ended := true }
      |> fun d => { d with tabs := tabSet zeroDefault d.tabs (tabKey 20 x.slot) (slotWord r (mrdCc d)) }

/-- RECEIVE_SLOT_END (R302): at the end of an active slot of another node. -/
def execReceiveSlotEnd (s : Fin 1024) (st : State) : Host.Outcome State Fault Refusal :=
  onDev (fun d =>
    match slotOf (curCst d) s d with
    | none => d
    | some x => when (holdsTimeline d && decide (x.start + x.len ≤ macrotick d + 1)) (slotEnd x) d) st

/-! ## The agreed switch (R303-R308) -/

/-- Has a sync frame of this cycle, which carries the confirmation, started to go out (R308)? -/
def confirmSent (d : Dev) : Bool :=
  d.mrd.sent.any fun s => match slotOf (curCst d) s d with | some x => x.sync | none => false

/-- MRD_CST_REQ (R303, R308, R315): a proposal, or the withdrawal of one. -/
def writeCstReq (m : Nat) (v : Word) (d : Dev) : Dev :=
  let d := storeReg m A.mrdCstReq v d
  let p := fld v 2 0
  if role d ≠ 2 then raise A.mrdStat 1 d
  else if p = curCst d then
    if d.mrd.confirm && confirmSent d then raise A.mrdStat 7 d
    else d |> modMrd (fun m => { m with request := none, proposal := none, confirm := false }) |> setNext (curCst d) |> showPend
  else if !cstValid p d then raise A.mrdStat 1 d
  else if d.mrd.proposal = some p then d |> modMrd (fun m => { m with request := none }) |> showPend
  else d |> modMrd (fun m => { m with request := some p }) |> showPend

/-- CONSTELLATION_PROPOSAL (R303): a write of MRD_CST_REQ. -/
def execConstellationProposal (m : Fin 20) (v : Word) (s : State) : Host.Outcome State Fault Refusal :=
  onPow (writeCstReq m v) s

/-- CONSTELLATION_WITHDRAWAL (R303): a write of the Constellation in force. -/
def execConstellationWithdrawal (m : Fin 20) (s : State) : Host.Outcome State Fault Refusal :=
  onPow (fun d => writeCstReq m (word (curCst d)) d) s

/-- The read of MRD_CST_REQ (R316): what is proposed, else the Constellation in force. -/
def cstReqRead (d : Dev) : Word :=
  word (match d.mrd.request, d.mrd.proposal with
    | some p, _ => p
    | none, some p => if role d = 2 then p else curCst d
    | none, none => curCst d)

/-- Was slot x received with a copy that acknowledges p (R305)? -/
def slotAcks (p : Nat) (x : Slot) (d : Dev) : Bool :=
  match (slotRx x.slot d).accepted with
  | some b => (rxHdr b).next = p && (rxHdr b).cack
  | none => false

/-- The nodes of the view that did not acknowledge p throughout the cycle (R305). -/
def nakMask (p : Nat) (d : Dev) : Nat :=
  let sl := (slotsOf (curCst d) d).filter fun x => x.active (mrdCc d)
  maskOf 32 fun k => rb A.mrdRackAct k d && k ≠ ownNode d && !(sl.all fun x => x.owner ≠ k || slotAcks p x d)

/-- The switch to Constellation p (R306). -/
def switchCst (p : Nat) (d : Dev) : Dev :=
  d |> wf A.mrdStat 15 13 p |> setNext p
    |> modMrd (fun m => { m with proposal := none, cack := false, confirm := false, silent := none })
    |> raise A.mrdStat 0

/-- The manager at the end of a cycle (R303, R305, R306); `nak` are the nodes of the view that did not acknowledge in it. -/
def managerSwitch (nak cc : Nat) (d : Dev) : Dev :=
  let m := d.mrd
  let d := match m.proposal with
    | none => d
    | some p =>
      let d := wr A.mrdCstNak (word nak) d
      if cc % 8 = 7 ∧ m.confirm then switchCst p d
      else if cc % 8 = 6 ∧ nak = 0 ∧ m.request.isNone then modMrd (fun m => { m with confirm := true }) d
      else d
  match d.mrd.request with
  | none => d
  | some p =>
    if p = curCst d then modMrd (fun m => { m with request := none }) d
    else d |> modMrd (fun m => { m with request := none, proposal := some p }) |> setNext p

/-- A worker's acknowledgement from the next boundary on (R304). -/
def workerAck (d : Dev) : Dev :=
  match d.mrd.mgr with
  | none => d
  | some (n, _) =>
    if n = curCst d then d |> modMrd (fun m => { m with proposal := none, cack := false }) |> setNext (curCst d)
    else if cstValid n d then d |> modMrd (fun m => { m with proposal := some n, cack := true }) |> setNext n
    else d |> modMrd (fun m => { m with proposal := none, cack := false }) |> setNext (curCst d) |> raise A.mrdStat 1

/-- A worker at the end of a cycle (R306, R307); `was` tells whether it was ACTIVE in it, so that it acknowledged. -/
def workerSwitch (was : Bool) (cc : Nat) (d : Dev) : Dev :=
  let m := d.mrd
  let d := match m.silent with
    | some p => if m.silentSeen then switchCst p d else modMrd (fun m => { m with silent := none }) d
    | none =>
      match m.proposal, m.mgr with
      | some p, some (n, c) => if cc % 8 = 7 && n = p && c && was && m.node = .active then switchCst p d else d
      | some p, none =>
        if cc % 8 = 7 ∧ was ∧ m.node = .active then
          d |> modMrd (fun m => { m with silent := some p, silentSeen := false }) |> raise A.mrdStat 6
        else d
      | none, _ => d
  workerAck d

/-! ## Clock correction (R309-R314) -/

/-- The smallest element first. -/
def insertInt (x : Int) : List Int → List Int
  | [] => [x]
  | y :: ys => if x ≤ y then x :: y :: ys else y :: insertInt x ys

/-- A list in rising order. -/
def sortInts (l : List Int) : List Int := l.foldl (fun s x => insertInt x s) []

/-- The fault-tolerant midpoint (R310). -/
def midpoint (l : List Int) : Int :=
  let s := sortInts l
  let n := s.length
  let k := if n ≤ 2 then 0 else 1
  (s.getD k 0 + s.getD (n - 1 - k) 0).tdiv 2

/-- The d values of the pair (R312). -/
def pairDiffs (m : Mrd) : List Int :=
  m.devs.filterMap fun x => (m.even.find? fun y => y.node = x.node).map fun y => x.dev - y.dev

/-- RATE_LIM in ppm (R316). -/
def rateLim (d : Dev) : Nat := let l := rf A.mrdSyncCfg 15 6 d; if 1 ≤ l ∧ l ≤ 1000 then l else 250

/-- A quotient whose rounding the spec leaves open: one of the two neighbours (Config.roundUp). The worked example of R312 rounds
53,687.09 down, so a positive quotient less than a half above a whole number is rounded down. -/
def openDiv (a b : Int) : Int :=
  a.fdiv b + if a.fmod b = 0 ∨ (0 ≤ a ∧ 2 * a.fmod b < b) then 0 else (Config.roundUp a b).toNat

/-- The new rate correction (R312). -/
def newRate (d : Dev) : Int :=
  let den : Int := ((20 * cstCycle (curCst d) d * 2 ^ rf A.mrdSyncCfg 1 0 d : Nat) : Int)
  (rd A.mrdMtRate d).toInt + openDiv (midpoint (pairDiffs d.mrd) * 1073741824) den

/-- Is a rate correction beyond its limit (R313)? -/
def rateOver (r : Int) (d : Dev) : Bool := decide ((rateLim d : Int) * 4294967296 < r.natAbs * 1000000)

/-- Slew and rate of a worker's TB_0 at NIT of an odd cycle (R314). -/
def correctTb0 (d : Dev) : Dev :=
  match d.mrd.tbBest with
  | none => d
  | some b =>
    let o := b.ofs
    if role d ≠ 1 then d
    else
      let d := startSlew 0 o d
      match d.mrd.evenOfs with
      | none => d
      | some e =>
        let change := openDiv ((o - e) * 4294967296) ((16 * cstCycle (curCst d) d : Nat) : Int)
        wr (A.ntmTb 0 0x10) (BitVec.ofInt 32 ((rd (A.ntmTb 0 0x10) d).toInt + change)) d

/-- Two consecutive pairs with SYNC_LOW or SYNC_LIM end an ACTIVE node's synchronisation (R326). -/
def pairVerdict (bad : Bool) (d : Dev) : Dev :=
  let d := modMrd (fun m => { m with badPairs := if bad then m.badPairs + 1 else 0 }) d
  if bad && decide (2 ≤ d.mrd.badPairs) && d.mrd.node = .active then d |> raise A.mrdNodeStat 5 |> dropActive else d

/-- A new rate applies from NIT of the open cycle on (R312). -/
def setRate (r : Int) (d : Dev) : Dev :=
  let nit := cstNit (curCst d) d
  d |> modMrd (fun m => { m with mtBase := nit, mtAt := mtInstant nit d }) |> wr A.mrdMtRate (BitVec.ofInt 32 r)

/-- The correction at NIT of an odd cycle (R311-R313). -/
def clockCorrect (d : Dev) : Dev :=
  let d := d |> acceptHeld |> rackStep
  let m := d.mrd
  let n := m.devs.length
  let ofs := midpoint (m.devs.map (·.dev))
  let oOver : Bool := decide (ofsLim d < ofs.natAbs)
  let r := newRate d
  let rOver := !(pairDiffs m).isEmpty && rateOver r d
  let bad : Bool := n = 0 || oOver || rOver
  let d := modMrd (fun m => { m with corrected := true }) d
  let d := wf A.mrdSyncStat 15 13 (min n 7) d
  let d := if n = 0 then raise A.mrdStat 4 d
    else
      d |> wf A.mrdSyncStat 31 16 (wrapInt 16 ofs)
        |> when (!oOver) (modMrd fun m => { m with ofs := ofs * 1073741824 })
        |> when (!(pairDiffs m).isEmpty && !rOver) (setRate r)
        |> raiseIf (oOver || rOver) A.mrdStat 5
  d |> correctTb0 |> pairVerdict bad

/-- CLOCK_CORRECTION (R311): at NIT of an odd cycle, once. -/
def execClockCorrection (st : State) : Host.Outcome State Fault Refusal :=
  onDev (fun d =>
    when (holdsTimeline d && d.mrd.node ≠ .dawn && decide (mrdCc d % 2 = 1) && !d.mrd.corrected &&
        decide (cstNit (curCst d) d ≤ macrotick d)) clockCorrect d) st

end Sys2Proof.Machine
end

