-- ==== Sys2Proof/Machine/RackRoles.lean ====
section
/-! DEFINITION. Machine/RackRoles.lean: Dawn, integration, Eclipse, the ACTIVE view, the rack hash, remote reset and what
Meridian does at a boundary (R317-R340). -/

namespace Sys2Proof.Machine

/-! ## Listening and Dawn -/

/-- LTO in cycles (R340): 0-1 act as 2. -/
def listenLto (d : Dev) : Nat := max 2 (rf A.mrdDawnCfg 31 24 d)
/-- DCYC (R340): 0-3 act as 4. -/
def dawnDcyc (d : Dev) : Nat := max 4 (rf A.mrdDawnCfg 23 18 d)
/-- DLEN in macroticks (R340). -/
def dawnDlen (d : Dev) : Nat := rf A.mrdDawnCfg 9 0 d

/-- The Constellation in force and CC change together where a timeline begins (R319, R321). -/
def setTimeline (cst cc : Nat) (bound : Int) (d : Dev) : Dev :=
  d |> wf A.mrdStat 15 13 cst |> setNext cst |> wf A.mrdCycle 31 26 cc |> modMrd (fun m => { m.setBound bound with ofs := 0, eclBound := bound })

/-- A tentative cycle with CC 0 opens (R318, R321): this is its macrotick 0, where the image's part of the boundary is due. -/
def openDawn (d : Dev) : Dev :=
  d |> setTimeline (startCst d) 0 (instant d)
    |> modMrd (fun m => { m with node := .dawn, dawnSent := false, dawnBack := false, heard := false, opened := true })

/-- LISTEN_TIMEOUT (R318, R320): LTO cycles of the START Constellation passed; a COLD node enters DAWN. -/
def execListenTimeout (s : State) : Host.Outcome State Fault Refusal :=
  onDev (fun d =>
    let k := startCst d
    when (mrdRuns d && mrdSends d && d.mrd.node = .listen && cstCold k (ownNode d) d &&
        decide (d.mrd.listenStart * tickUnit + listenLto d * cstCycle k d * mtUnit d ≤ instant d))
      (fun d => d |> modMrd (fun m => { m with dawnCycles := 0 }) |> openDawn) d) s

/-- Is a header one of a sync frame of the table (R319)? -/
def syncHdrOk (h : RxHdr) (d : Dev) : Bool :=
  !h.dawn && (match slotOf h.cst h.slot d with
    | some x => x.sync && x.owner = h.node && x.plen = h.plen
    | none => false)

/-- R319: code and CRC correct, SYNC, a valid Constellation, and one of the two header forms. -/
def listenOk (bs : List Byte) (d : Dev) : Bool :=
  let h := rxHdr bs
  rxCrcOk bs && h.sync && cstValid h.cst d &&
    ((isDawnHdr h.cst h && cstCold h.cst h.node d) || syncHdrOk h d)

/-- The timeline of an accepted frame (R319): its first bit arrived `ago` units of 0.25 ns ago. -/
def adopt (bs : List Byte) (ago : Nat) (d : Dev) : Dev :=
  let h := rxHdr bs
  let start := match slotOf h.cst h.slot d with | some x => x.start | none => 0
  let arrival : Int := instant d - ago * 1073741824
  let b := arrival - mrdProp d * 4294967296 - (start + cstAp h.cst d : Nat) * mtUnit d
  d |> setTimeline h.cst h.cc b
    |> modMrd (fun m => { m with
        node := .integrating, slots := [], sent := [], devs := [], even := [], corrected := false, good := 0,
        adopted := true, syncSeen := true, noSync := 0, heard := false, refs := [], mgrHash := none, mgr := none, tbBest := none,
        evenOfs := none, badPairs := 0, opened := false, tx := [] })
    |> refNow |> when (!h.fail) (rackTime h.node bs arrival)

/-- LISTEN_FRAME_ACCEPT (R318, R319, R320): in LISTEN, while backing off, or in DAWN a Dawn frame from a lower node ID.
Any frame free of code errors restarts the listen timeout. -/
def execListenFrameAccept (ch : Fin 2) (bits : List Bool) (ago : Nat) (s : State) : Host.Outcome State Fault Refusal :=
  onDev (fun d => match lineDecode bits with
  | none => d
  | some bs =>
    let n := d.mrd.node
    let h := rxHdr bs
    if !mrdRuns d || !chanOn ch d then d
    else if listenOk bs d && (n = .listen || n = .backoff || (n = .dawn && h.dawn && decide (h.node < ownNode d))) then
      adopt bs ago d
    else when (decide (n = .listen)) (modMrd fun m => { m with listenStart := d.now }) d) s

/-- DAWN_FRAME (R321, R323): once per tentative cycle, at the action point of slot 0, through Eclipse's window of that slot. -/
def execDawnFrame (rbA rbB : Bool) (s : State) : Host.Outcome State Fault Refusal :=
  onDev (fun d =>
    let k := startCst d
    when (mrdRuns d && mrdSends d && d.mrd.node = .dawn && !d.mrd.dawnSent && decide ((cstEntry k 0 d).start + cstAp k d ≤ macrotick d))
      (fun d =>
        let at_ := frameStart (cstEntry k 0 d) d
        let bytes := frameBytes (ownNode d) 0 0 (mrdCc d) k true true true false false k 0 (timeField at_ d)
        if eclBad d then eclipseFail d
        else d |> emitFrame 3 at_ (some (eclipseWindow (cstEntry k 0 (eclipseView d)) d)) bytes
          |> modMrd (fun m => { m with dawnSent := true, dawnBack := (chanOn 0 d && rbA) || (chanOn 1 d && rbB) })) d) s

/-- DAWN_COLLISION (R318, R323): at the end of slot 0 with no copy read back, the node backs off. -/
def execDawnCollision (s : State) : Host.Outcome State Fault Refusal :=
  onDev (fun d =>
    let x := cstEntry (startCst d) 0 d
    when (mrdRuns d && d.mrd.node = .dawn && d.mrd.dawnSent && !d.mrd.dawnBack &&
        decide (x.start + x.len ≤ macrotick d + 1))
      (fun d =>
        let wait := x.start + x.len + (ownNode d + 1) * dawnDlen d
        d |> raise A.mrdNodeStat 0
          |> modMrd (fun m => { m with node := .backoff, backoffEnd := m.bound + wait * mtUnit d, slots := [] })) d) s

/-- BACKOFF_EXPIRY (R318): a new tentative cycle opens. -/
def execBackoffExpiry (s : State) : Host.Outcome State Fault Refusal :=
  onDev (fun d => when (mrdRuns d && mrdSends d && d.mrd.node = .backoff && decide (d.mrd.backoffEnd ≤ instant d)) openDawn d) s

/-- This node becomes ACTIVE (R318, R332): it counts in its own view and sets JOIN. -/
def becomeActive (d : Dev) : Dev :=
  d |> modMrd (fun m => { m with node := .active, badPairs := 0, heard := false, missed := [] })
    |> wb A.mrdRackAct (ownNode d) true |> raise A.mrdNodeStat 3

/-- DAWN_GIVE_UP (R318): after DCYC Dawn cycles node 0 runs alone, another node listens again. -/
def execDawnGiveUp (s : State) : Host.Outcome State Fault Refusal :=
  onDev (fun d =>
    when (mrdRuns d && d.mrd.node = .dawn && decide (dawnDcyc d ≤ d.mrd.dawnCycles))
      (fun d => if ownNode d = 0 then becomeActive d else enterListen d) d) s

/-! ## Eclipse (R327-R331) -/

/-- The table words that Eclipse copies (R327): every header, and the entries of this node. DESIGN CHOICE: with them entry 0 of the
START Constellation, whose slot is the window of a Dawn frame (notes/assumptions/70.md). -/
def eclipseWords (d : Dev) : List (Nat × Word) :=
  (List.range 8).flatMap fun k =>
    ((List.range 16).map fun w => (0x800 * k + w, cstWord k w d)) ++
    ((List.range 256).filter fun e => (cstEntry k e d).owner = ownNode d || (e = 0 && k = startCst d)).flatMap fun e =>
      (List.range 4).map fun w => (0x800 * k + 16 + 4 * e + w, cstWord k (16 + 4 * e + w) d)

/-- The copy as Eclipse stores it: the bits that `flips` names, by table index, flip in its storage after their parity was formed. -/
def eclipseCopy (flips : List (Nat × Word)) (d : Dev) : List EclWord :=
  (eclipseWords d).map fun p =>
    ⟨p.1, flips.foldl (fun w f => if f.1 = p.1 then w ^^^ f.2 else w) p.2, byteParity p.2⟩

/-- ECLIPSE_SCHEDULE_COPY (R327): the copy is compared with the table word by word, and its parity is checked. -/
def execEclipseScheduleCopy (flips : List (Nat × Word)) (s : State) : Host.Outcome State Fault Refusal :=
  onDev (fun d =>
    when (mrdRuns d) (fun d =>
      let d := modMrd (fun m => { m with ecl := eclipseCopy flips d }) d
      when (eclBad d || decide (d.mrd.ecl.map (fun x => (x.idx, x.word)) ≠ eclipseWords d)) eclipseFail d) d) s

/-- ECLIPSE_RC_WINDOW (R330): the RC count of 500 macroticks; two windows outside 384-416 in a row fail. -/
def execEclipseRcWindow (count : Fin 1024) (s : State) : Host.Outcome State Fault Refusal :=
  onDev (fun d =>
    when (mrdRuns d) (fun d =>
      let bad : Bool := count.val < 384 || 416 < count.val
      let was := d.mrd.rcBad
      d |> wf A.mrdEclStat 23 16 (wrapInt 8 ((count.val : Int) - 400))
        |> modMrd (fun m => { m with rcBad := bad }) |> when (bad && was) eclipseFail) d) s

/-- GUARDIAN_TRUNCATION (R329): a frame on the line asks for TXEN outside its window; Eclipse ends it, sets TRUNC, and an ACTIVE
node stops sending. -/
def execGuardianTruncation (s : State) : Host.Outcome State Fault Refusal :=
  onDev (fun d =>
    when (mrdRuns d && d.mrd.tx.any fun p => p.2.trips (instant d))
      (fun d => d |> raise A.mrdEclStat 2 |> modMrd (fun m => { m with tx := dropIf (fun p => p.2.trips (instant d)) m.tx })
        |> when (decide (d.mrd.node = .active)) dropActive) d) s

/-- MRD_CMD (R318, R340): only the Supervisor, with its key. -/
def writeMrdCmd (m : Nat) (v : Word) (d : Dev) : Dev :=
  if m ≠ 0 ∨ fld v 31 16 ≠ 0x0A1E then d
  else d |> storeReg m A.mrdCmd v |> when (bit v 0) enterHalt

/-- HALT (R318): a write of MRD_CMD. -/
def execMrdHalt (m : Fin 20) (v : Word) (s : State) : Host.Outcome State Fault Refusal := onPow (writeMrdCmd m v) s

/-- Is the window of a slot open, on Eclipse's macrotick count (R328)? -/
def eclipseOpen (x : Slot) (d : Dev) : Bool :=
  let w := eclipseWindow x d
  decide (w.1 ≤ instant d ∧ instant d < w.2)

/-- GATE (R328, R340): a window of an own active slot is open by Eclipse's copy and count; in DAWN that of slot 0, where
its Dawn frame goes (R321). -/
def eclipseGate (d : Dev) : Bool :=
  mrdRuns d && ((d.mrd.node = .dawn && eclipseOpen (cstEntry (startCst d) 0 (eclipseView d)) d) ||
    (d.mrd.node = .active && (slotsOf (curCst d) (eclipseView d)).any fun x =>
      x.owner = ownNode d && x.active (mrdCc d) && eclipseOpen x d))

/-! ## Remote reset (R336, R337) -/

/-- MRD_RRST (R336): only on a manager, naming a node other than 0. -/
def writeRrst (m : Nat) (v : Word) (d : Dev) : Dev :=
  if fld v 31 16 ≠ 0x0B5A then d
  else
    let d := storeReg m A.mrdRrst v d
    if role d ≠ 2 ∨ fld v 4 0 = 0 then raise A.mrdNodeStat 7 d
    else modMrd (fun m => { m with rstReq := some (fld v 4 0) }) d

/-- REMOTE_RESET_REQUEST (R336): a write of MRD_RRST. -/
def execRemoteResetRequest (m : Fin 20) (v : Word) (s : State) : Host.Outcome State Fault Refusal :=
  onPow (writeRrst m v) s

/-- The RSTN sequence at a boundary (R336). -/
def resetSequence (d : Dev) : Dev :=
  match d.mrd.rstReq with
  | some n => modMrd (fun m => { m with rstReq := none, rstn := n, rstLeft := 4 }) d
  | none =>
    if d.mrd.rstLeft = 0 then d
    else if d.mrd.rstLeft = 1 then d |> modMrd (fun m => { m with rstn := 0, rstLeft := 0 }) |> raise A.mrdNodeStat 6
    else modMrd (fun m => { m with rstLeft := m.rstLeft - 1 }) d

/-- REMOTE_RST of the Almanac header (R56, R337). -/
def remoteRstAllowed (d : Dev) : Bool := ((d.boot.hdr.getD 0x15 0).toNat).testBit 1

/-- The device resets at this boundary (R337): two consecutive cycles named it. -/
def remoteResetDue (d : Dev) : Bool :=
  d.mrd.rstNow && decide (1 ≤ d.mrd.rstSeen) && remoteRstAllowed d &&
    (d.mrd.node = .active || d.mrd.node = .passive)

/-! ## Membership and hash at a boundary (R332-R335) -/

/-- The active slots of node k in the cycle that ends. -/
def nodeSlots (k : Nat) (d : Dev) : List Slot :=
  (slotsOf (curCst d) d).filter fun x => x.owner = k && x.active (mrdCc d)

/-- Was a valid copy of its owner accepted in slot x? -/
def slotGood (x : Slot) (d : Dev) : Bool :=
  match (slotRx x.slot d).accepted with
  | some b => (rxHdr b).node = x.owner
  | none => false

/-- Node k in the ACTIVE view (R332, R333). -/
def memberNode (k : Nat) (d : Dev) : Dev :=
  let sl := nodeSlots k d
  if k = ownNode d || sl.isEmpty then d
  else
    let inView := rb A.mrdRackAct k d
    if sl.all (fun x => slotGood x d) && !inView && !rb A.mrdRackFail k d then
      d |> wb A.mrdRackAct k true |> wb A.mrdRackAbs k false |> raise A.mrdNodeStat 3
        |> modMrd (fun m => { m with missed := tabErase m.missed k })
    else if sl.any (fun x => slotGood x d) then modMrd (fun m => { m with missed := tabErase m.missed k }) d
    else
      let n := tabGet (fun _ => 0) d.mrd.missed k + 1
      let d := modMrd (fun m => { m with missed := tabSet (fun _ => 0) m.missed k (min n 2) }) d
      if inView ∧ 2 ≤ n then
        d |> wb A.mrdRackAct k false |> wb A.mrdRackAbs k true |> raise A.mrdNodeStat 2
      else d

/-- Does a worker's hash differ from the reference (R334)? -/
def hashBad (r : Option (Nat × Word)) (d : Dev) : Bool :=
  role d = 1 && (match r with | some (_, h) => h ≠ rd A.mrdHash d | none => false)

/-- The node's state at the boundary (R318, R325, R334, R335). -/
def nodeStep (r : Option (Nat × Word)) (d : Dev) : Dev :=
  let m := d.mrd
  let bad := hashBad r d
  let toPassive (d : Dev) : Dev :=
    d |> modMrd (fun m => { m with node := .passive, noSync := 0, good := 0, proposal := none, cack := false })
      |> wr A.mrdRackAct 0 |> raise A.mrdNodeStat 1
  match m.node with
  | .dawn =>
    if m.heard then becomeActive d
    else modMrd (fun m => { m with dawnCycles := m.dawnCycles + m.dawnSent.toNat, dawnSent := false, dawnBack := false }) d
  | .integrating =>
    if bad then toPassive d
    else if !m.syncSeen then enterListen d
    else if m.adopted then modMrd (fun m => { m with adopted := false }) d
    else
      let ok : Bool := (midpoint (m.devs.map (·.dev))).natAbs ≤ ofsLim d
      if ok ∧ m.good = 1 then becomeActive d
      else modMrd (fun m => { m with good := if ok then m.good + 1 else 0 }) d
  | .active => if bad then toPassive d else d
  | .passive =>
    if !m.syncSeen then
      if m.noSync = 1 then enterListen d else modMrd (fun m => { m with noSync := m.noSync + 1, good := 0 }) d
    else if r.isSome && !bad then
      modMrd (fun m => { m with node := .integrating, good := 0, noSync := 0 }) d
    else modMrd (fun m => { m with noSync := 0 }) d
  | _ => d

/-- What is kept per cycle starts anew (R290, R309). -/
def cycleReset (cc : Nat) (d : Dev) : Dev :=
  modMrd (fun m => { m with
    slots := [], sent := [], even := if cc % 2 = 0 then m.devs else [], devs := [], corrected := false
    evenOfs := if cc % 2 = 0 then m.tbBest.map (·.2) else none
    tbBest := none, syncSeen := false, mgr := none, refs := [], ofs := 0
    mgrHash := match m.mgrHash with | some (h, 0) => some (h, 1) | _ => none
    rstSeen := if m.rstNow then m.rstSeen + 1 else 0, rstNow := false }) d

/-- Meridian at the boundary that ends the cycle with counter cc (R302-R307, R318, R325, R332-R336). -/
def mrdBoundary (d : Dev) : Dev :=
  let cc := mrdCc d
  let d := acceptHeld d
  let d := ((slotsOf (curCst d) d).filter fun x => d.mrd.node ≠ .dawn && x.active cc).foldl (fun d x => slotEnd x d) d
  let bound := nextBound d
  let r := hashRef d
  let was : Bool := d.mrd.node = .active
  let nak := match d.mrd.proposal with | some p => nakMask p d | none => 0
  let sw (d : Dev) : Dev := if role d = 2 then managerSwitch nak cc d else workerSwitch was cc d
  let d := d |> rackStep |> showRef r
  let cst := curCst d
  let started := d.mrd.node = .dawn
  let eb := if d.mrd.node = .dawn then bound else d.mrd.eclBound + cstCycle cst d * eclTick
  let d := nodeStep r d
  let d := if d.mrd.node = .active ∧ curCst d = cst then (List.range 32).foldl (fun d k => memberNode k d) d else d
  let d := if d.mrd.node = .active ∨ d.mrd.node = .integrating then (if started then d else sw d) else d
  d |> resetSequence |> cycleReset cc |> modMrd (fun m => { m.setBound bound with eclBound := eb })
    |> wf A.mrdCycle 31 26 (cc + 1) |> showPend

/-- Meridian starts (R317): LISTEN at commit where EN = 1, under the START Constellation. -/
def mrdStart (d : Dev) : Dev :=
  if rb A.mrdCtrl 0 d then
    d |> wf A.mrdStat 15 13 (startCst d) |> setNext (startCst d) |> enterListen
  else refNow d

/-- Meridian at the entry into Twilight (R318): only an ACTIVE node keeps sending. -/
def mrdTwilight (d : Dev) : Dev := if d.mrd.node = .active then d else enterHalt d

/-- RACK of the result committed now (R30, R36): the node is not ACTIVE, or on the manager the owner of a slot mapped
into the image is not. -/
def rackBroken (d : Dev) : Bool :=
  role d ≠ 0 && (d.mrd.node ≠ .active || (role d = 2 && (slotsOf (curCst d) d).any fun x =>
    x.owner ≠ ownNode d && bit (mapWord (curCst d) x.slot d) 30 && !rb A.mrdRackAct x.owner d))

/-- The masks of granule 1 (R31, R333). -/
def rackMasks (d : Dev) : Nat × Nat :=
  if role d = 0 then (0, 0)
  else ((rd A.mrdRackAct d).toNat, if d.mrd.node = .passive then 2 ^ ownNode d else 0)

/-- Code of the node state (R316). -/
def nodeCode (n : Node) : Nat :=
  match n with
  | .listen => 0 | .dawn => 1 | .backoff => 1 | .integrating => 2 | .active => 3 | .passive => 4 | .halt => 5

/-- The state word of MRD (R316). -/
def mrdState (d : Dev) : Word :=
  word (atBit (nodeCode d.mrd.node) 29 + atBit (curCst d) 26 + atBit (mrdCc d) 20 + atBit (rf A.mrdStat 9 9 d) 19)

/-- The read of MRD_CYCLE (R316): MT is the macrotick at the read. -/
def mrdCycleRead (d : Dev) : Word :=
  word (atBit (mrdCc d) 26 + if holdsTimeline d then macrotick d % 2 ^ 19 else 0)

end Sys2Proof.Machine
end

