-- ==== Sys2Proof/Machine/Measure.lean ====
section
/-! DEFINITION. Machine/Measure.lean: the Sampler (R431-R441), the capture/compare units (R442-R448) and the Loop Array
(R449-R458). Bit streams and pin edges come from outside and are operands of the commands. -/

namespace Sys2Proof.Machine

/-! ## Sampler channels -/

/-- A channel at reset. -/
def sdDefault (_ : Nat) : Sd := ⟨[], false, 0, none⟩
/-- Channel n. -/
def getSd (n : Nat) (d : Dev) : Sd := tabGet sdDefault d.sds n
/-- Replace channel n. -/
def putSd (n : Nat) (x : Sd) (d : Dev) : Dev := { d with sds := tabSet sdDefault d.sds n x }

/-- Modulator clock k runs (R431): from commit while EN = 1, in service. -/
def mclkRuns (k : Nat) (d : Dev) : Bool := inService d && committed d && rb (A.smpMclk k) 31 d

/-- DIV of a modulator clock: values outside 80-400 act as the nearer limit (R457). -/
def mclkDiv (k : Nat) (d : Dev) : Nat := max 80 (min 400 (rf (A.smpMclk k) 8 0 d))

/-- The modulator clock of channel n. -/
def sdClock (n : Nat) (d : Dev) : Nat := rf (A.smpSd n 0) 28 27 d

/-- Channel n works: enabled, with its modulator clock running. -/
def sdRuns (n : Nat) (d : Dev) : Bool := rb (A.smpSd n 0) 31 d && mclkRuns (sdClock n d) d

/-- The order k of channel n: 0b00 acts as 0b11 (R457). -/
def sdOrd (n : Nat) (d : Dev) : Nat := let o := rf (A.smpSd n 0) 30 29 d; if o = 0 then 3 else o

/-- R = DEC + 1 (R434): DEC below 7 acts as 7 (R457). -/
def sdLen (n : Nat) (d : Dev) : Nat := max 7 (rf (A.smpSd n 0) 23 16 d) + 1

/-- Number of bits in the response (R434). -/
def sdBits (n : Nat) (d : Dev) : Nat := sdOrd n d * (sdLen n d - 1) + 1

/-- i (i - 1) / 2 for i > 0, else 0. -/
def pairs (i : Int) : Int := if 0 < i then i * (i - 1) / 2 else 0

/-- Weight i of the sinc^k impulse response of length r (R434): the coefficients of (1 + x + ... + x^(r-1))^k. -/
def sincWeight (k r i : Nat) : Int :=
  let r : Int := r
  let i : Int := i
  if k = 1 then 1
  else if k = 2 then min (i + 1) (2 * r - 1 - i)
  else pairs (i + 2) - 3 * pairs (i + 2 - r) + 3 * pairs (i + 2 - 2 * r)

/-- A bit as +1 or -1 (R432). -/
def bitVal (b : Bool) : Int := if b then 1 else -1

/-- The sum S of R434 over the last bits, newest first. -/
def sincSum (k r : Nat) (bits : List Bool) : Int :=
  ((bits.take (k * (r - 1) + 1)).zipIdx).foldl (fun s p => s + sincWeight k r p.2 * bitVal p.1) 0

/-- The 24-bit result of R434: ⌊S x 2^23 / R^k⌋, saturated to 0x7F_FFFF. -/
def sincResult (k r : Nat) (bits : List Bool) : BitVec 24 :=
  BitVec.ofInt 24 (min 0x7FFFFF (sincSum k r bits * 8388608 / ((r ^ k : Nat) : Int)))

/-- The comparator count C over the last cr bits (R440). -/
def cmpCount (cr : Nat) (bits : List Bool) : Int := (bits.take cr).foldl (fun s b => s + bitVal b) 0

/-- CR: values outside 8-32 act as 8 (R457). -/
def sdCr (n : Nat) (d : Dev) : Nat := let c := rf (A.smpSd n 0xC) 29 24 d; if 8 ≤ c ∧ c ≤ 32 then c else 8

/-- Is the comparator's count outside its window at the last CNT + 1 edges (R440)? -/
def cmpTrips (n : Nat) (bits : List Bool) (d : Dev) : Bool :=
  let lo := signed 8 (rf (A.smpSd n 0x10) 31 24 d)
  let hi := signed 8 (rf (A.smpSd n 0x10) 23 16 d)
  (List.range (rf (A.smpSd n 0xC) 23 22 d + 1)).all fun j =>
    let c := cmpCount (sdCr n d) (bits.drop j)
    decide (c < lo ∨ hi < c)

/-- CVAL (R457). -/
def cvalWord (n : Nat) (d : Dev) : Word :=
  word (atBit (wrapInt 8 (if rb (A.smpSd n 0xC) 31 d then cmpCount (sdCr n d) (getSd n d).bits else 0)) 24)

/-- The channel registers bits up to an edge: the last ones, newest first. -/
def takeBits (n : Nat) (bits : List Bool) (d : Dev) : Dev :=
  putSd n { getSd n d with bits := (bits ++ (getSd n d).bits.drop bits.length).take 766 } d

/-- Does the comparator of channel n hold a trip (R441)? -/
def tripped (n : Nat) (d : Dev) : Bool := rb A.smpTrip n d

/-- A unit's latch in the open cycle, or (prev) one in the cycle before whose write lands late (R436): the cycle number
where the latch is due. A LOFS beyond the cycle gives none (R439). DESIGN CHOICE: a node that loses its timeline still makes the one latch that the open cycle owes,
LOFS after its boundary; the latches after it wait for the next boundary (R13, notes/assumptions/116.md). -/
def latchDue (lofs : Nat) (last : Option Word) (prev : Bool) (d : Dev) : Option Word :=
  let c := rd A.memImgCycle d
  let tag := if prev then c - 1 else c
  if d.img.begun && decide (last ≠ some tag) &&
      (if prev then decide (c ≠ 0) && decide (last ≠ some c) && decide (d.img.prevNow + lofs < d.img.openNow)
       else decide (d.img.openNow + lofs ≤ d.now))
  then some tag else none

/-- TB_0 at the scheduled instant of a latch, LOFS after its boundary (R261, R436). -/
def latchTime (lofs : Nat) (prev : Bool) (d : Dev) : TimeBase :=
  tbAt 0 (((if prev then d.img.prevNow else d.img.openNow) + lofs : Nat) - (d.now : Int)) 1 d

/-- A latch of channel n (R436-R438): the response over the last bits. -/
def sdLatch (n : Nat) (bits : List Bool) (prev : Bool) (d : Dev) : Dev :=
  if !(inService d && committed d && rb (A.smpSd n 0) 31 d && rb (A.smpSd n 0) 25 d) then d
  else match latchDue (rd (A.smpSd n 4) d).toNat (getSd n d).latched prev d with
    | none => d
    | some tag =>
      let run := mclkRuns (sdClock n d) d
      let d := if run then takeBits n bits d else d
      let x := getSd n d
      let res : BitVec 24 := if run then sincResult (sdOrd n d) (sdLen n d) x.bits else 0
      let valid := run && rb (A.smpSd n 0x14) 3 d && !x.stuck
      let v : DWord := BitVec.ofNat 64 (atBit valid.toNat 63 + atBit (tripped n d).toNat 62 +
        atBit ((x.count + 1) % 65536) 32 + atBit res.toNat 8)
      let d := d |> putSd n { x with count := x.count + 1, latched := some tag }
        |> wr (A.smpSd n 0x18) (word (atBit res.toNat 8))
        |> portBWrite 26 3 n (rf (A.smpSd n 8) 13 0 d) v tag
      let at_ := latchTime (rd (A.smpSd n 4) d).toNat prev d
      if rb (A.smpSd n 0) 24 d then
        offerItem { newItem 5 (rf (A.smpSd n 0) 11 0 d) n (leBytes 8 v.toNat) 8 0 d with
          icyc := tag, bts := if prev then d.img.prevTb else d.img.openTb, ts := at_.ns64, epoch := at_.epoch } d
      else d

/-- SAMPLER_LATCH (R436): `bits` are the registered bits up to the latch's edge, newest first; `prev` names a latch of the
cycle before whose write lands after the boundary. -/
def execSamplerLatch (n : Fin 24) (bits : List Bool) (prev : Bool) (s : State) : Host.Outcome State Fault Refusal :=
  onDev (sdLatch n bits prev) s

/-- STUCK_DETECTED (R433): the 64th identical bit in a row. -/
def execStuckDetected (n : Fin 24) (v : Bool) (s : State) : Host.Outcome State Fault Refusal :=
  onDev (fun d => when (sdRuns n d && !(getSd n d).stuck) (fun d =>
    let d := takeBits n (List.replicate 64 v) d
    d |> putSd n { getSd n d with stuck := true } |> raise (A.smpSd n 0x14) 1) d) s

/-- STUCK_END (R433): a bit of the other value is registered. -/
def execStuckEnd (n : Fin 24) (s : State) : Host.Outcome State Fault Refusal :=
  onDev (fun d => when (sdRuns n d && (getSd n d).stuck) (fun d =>
    let x := getSd n d
    putSd n { x with stuck := false, bits := ((!x.bits.headD false) :: x.bits).take 766 } d) d) s

/-- FILTER_SETTLED (R435): k (R - 1) + 1 bits have been registered, which takes at least k (R - 1) modulator periods. -/
def execFilterSettled (n : Fin 24) (s : State) : Host.Outcome State Fault Refusal :=
  onDev (fun d => when (sdRuns n d && !rb (A.smpSd n 0x14) 3 d &&
      decide ((sdBits n d - 1) * mclkDiv (sdClock n d) d ≤ 5 * (d.now - d.smpStart)))
    (wb (A.smpSd n 0x14) 3 true) d) s

/-! ## Capture/compare units -/

/-- A unit at reset. -/
def ccDefault (_ : Nat) : Cc := ⟨[], stampZero, 0, 0, 0, none, none, false, 0, 0, none, none, 0, none, [], false⟩
/-- Unit u. -/
def getCc (u : Nat) (d : Dev) : Cc := tabGet ccDefault d.ccs u
/-- Replace unit u; COUNT shows its FIFO (R457). -/
def putCc (u : Nat) (x : Cc) (d : Dev) : Dev :=
  { d with ccs := tabSet ccDefault d.ccs u x } |> wr (A.smpCc u 0x1C) (word x.fifo.length)

/-- MODE: 0 capture, 1 PWM, 2 timed; 3 acts as 0 (R457). -/
def ccMode (u : Nat) (d : Dev) : Nat := let m := rf (A.smpCc u 0) 30 29 d; if m = 3 then 0 else m

/-- Unit u is held by a trip (R441). -/
def ccTripped (u : Nat) (d : Dev) : Bool := rb (A.smpCc u 0x18) 4 d

/-- A level encoded as SAFE and IDLE are: none where the pin is high-impedance; 0b11 acts as 0b00. -/
def ccLevel (code : Nat) : Option Bool := if code = 1 then some false else if code = 2 then some true else none

/-- A trigger edge on a pin level: set, clear or toggle (R447). -/
def ccEdge (act : Nat) (l : Option Bool) : Option Bool :=
  if act = 5 then some true else if act = 6 then some false else some (!l.getD false)

/-- What unit u drives at its pin now (R442, R445, R447): none where the pin is high-impedance. -/
def ccOut (u : Nat) (d : Dev) : Option Bool :=
  let x := getCc u d
  let safe := ccLevel (rf (A.smpCc u 0) 21 20 d)
  let idle := ccLevel (rf (A.smpCc u 0) 19 18 d)
  if !committed d || ccMode u d = 0 || decide (6 ∈ d.vddio) then none
  else if !inService d || outputsHeld d then safe
  else if ccTripped u d then safe
  else if !rb (A.smpCc u 0) 31 d then idle
  else if x.waitStart then safe
  else if ccMode u d = 1 then
    if x.active then some (decide (8 * d.now - x.start < x.duty)) else idle
  else x.edges.foldl (fun l e => if e.1 ≤ 8 * d.now then ccEdge e.2 l else l) idle

/-- The status word of unit u (R457): LEVEL is the driven level, else the last level seen at the pad. -/
def ccStatus (u : Nat) (d : Dev) : Word :=
  let w := rd (A.smpCc u 0x18) d
  match ccOut u d with
  | some b => setBit w 3 b
  | none => w

/-- COMPARATOR_TRIP (R440, R441): the units of TRIPMASK are held at SAFE; a trigger edge that has not been placed is
discarded with IGN (R456). -/
def holdUnits (mask : Word) (d : Dev) : Dev :=
  (List.range 16).foldl (fun d u =>
    if !bit mask u then d
    else
      let x := getCc u d
      let late := x.edges.any fun e => 8 * d.now ≤ e.1
      d |> wb (A.smpCc u 0x18) 4 true |> putCc u { x with edges := x.edges.filter fun e => e.1 < 8 * d.now }
        |> raiseIf late (A.smpCc u 0x18) 2) d

/-- A trip of channel n (R441). -/
def sdTrip (n : Nat) (d : Dev) : Dev :=
  d |> wb A.smpTrip n true |> raise (A.smpSd n 0x14) 0 |> holdUnits (rd (A.smpSd n 0xC) d &&& 0xFFFF) |> irqOther

/-- COMPARATOR_TRIP (R440): `bits` are the registered bits up to the deciding edge, newest first. -/
def execComparatorTrip (n : Fin 24) (bits : List Bool) (s : State) : Host.Outcome State Fault Refusal :=
  onDev (fun d => when (sdRuns n d && rb (A.smpSd n 0xC) 31 d && !tripped n d) (fun d =>
    let d := takeBits n bits d
    when (cmpTrips n (getSd n d).bits d) (sdTrip n) d) d) s

/-- Units that no holding channel names any more are released (R441): PWM resumes at its next period start, a timed unit
at its IDLE level. -/
def releaseUnits (d : Dev) : Dev :=
  (List.range 16).foldl (fun d u =>
    let held := (List.range 24).any fun n => tripped n d && rb (A.smpSd n 0xC) u d
    if ccTripped u d && !held then
      d |> wb (A.smpCc u 0x18) 4 false |> putCc u { getCc u d with edges := [], waitStart := decide (ccMode u d = 1) }
    else d) d

/-- SMP_TRIP_CLR (R441). -/
def writeTripClr (m : Nat) (v : Word) (d : Dev) : Dev :=
  d |> storeReg m A.smpTripClr v |> fun d => wr A.smpTrip (rd A.smpTrip d &&& ~~~(v &&& 0xFFFFFF)) d |> releaseUnits

/-- TRIP_RELEASE (R441): a write of SMP_TRIP_CLR. -/
def execTripRelease (m : Fin 20) (v : Word) (s : State) : Host.Outcome State Fault Refusal :=
  onPow (writeTripClr m v) s

/-- Does unit u work in a mode? -/
def ccRuns (u mode : Nat) (d : Dev) : Bool :=
  inService d && committed d && rb (A.smpCc u 0) 31 d && decide (ccMode u d = mode)

/-- An edge on a capture pin (R443): in one CORE cycle the first rising and the first falling transition count. -/
def captureEdge (u : Nat) (rise : Bool) (phase : Nat) (d : Dev) : Dev :=
  if !ccRuns u 0 d then d
  else
    let d := wb (A.smpCc u 0x18) 3 rise d
    let x := getCc u d
    let seen := match x.seen with
      | some (t, r, f) => if t = d.now then (r, f) else (false, false)
      | none => (false, false)
    let code := rf (A.smpCc u 0) 28 27 d
    let sel := code = 0 ∨ code = 3 ∨ (code = 1 ∧ rise = true) ∨ (code = 2 ∧ rise = false)
    let dup := if rise then seen.1 else seen.2
    let x := { x with seen := some (d.now, seen.1 || rise, seen.2 || !rise) }
    if dup ∨ ¬ sel then putCc u x d
    else
      let j := rf (A.smpCc u 0) 26 25 d
      let x := { x with tag := x.tag + 1, count := satInc 0xFFFF x.count,
                        lastEdge := word ((tbNs j d).toNat * 8 + phase) }
      if x.fifo.length < 4 then
        d |> putCc u { x with fifo := x.fifo ++ [stampAt j x.tag (80 * phase) d] } |> raise (A.smpCc u 0x18) 0
      else d |> putCc u x |> raise (A.smpCc u 0x18) 1

/-- CAPTURE_EDGE (R443): `phase` is the eighth of the CORE cycle. -/
def execCaptureEdge (u : Fin 16) (rise : Bool) (phase : Fin 8) (s : State) : Host.Outcome State Fault Refusal :=
  onDev (captureEdge u rise phase) s

/-- A capture latch (R444). -/
def captureLatch (u : Nat) (prev : Bool) (d : Dev) : Dev :=
  if !(ccRuns u 0 d && rb (A.smpCc u 0) 22 d) then d
  else match latchDue (rd (A.smpCc u 0x14) d).toNat (getCc u d).latched prev d with
    | none => d
    | some tag =>
      let x := getCc u d
      let v := atBit x.count 48 + atBit (rb (A.smpCc u 0x18) 3 d).toNat 47 +
        (if x.count = 0 then 0 else x.lastEdge.toNat)
      d |> putCc u { x with count := 0, lastEdge := 0, latched := some tag }
        |> portBWrite 26 6 u (rf (A.smpCc u 0x10) 13 0 d) (BitVec.ofNat 64 v) tag

/-- CAPTURE_LATCH (R444); `prev` as for SAMPLER_LATCH. -/
def execCaptureLatch (u : Fin 16) (prev : Bool) (s : State) : Host.Outcome State Fault Refusal :=
  onDev (captureLatch u prev) s

/-- A read of CAP_Wi of unit u (R443, R277); a debug read changes nothing (R105). -/
def capRead (m u i : Nat) (d : Dev) : Word × Dev :=
  let x := getCc u d
  if i = 0 then
    let t := x.fifo.head?.getD stampZero
    (t.w0, if m = 19 then d else putCc u { x with latch := t } d)
  else
    (x.latch.wordAt i, if i = 3 ∧ m ≠ 19 ∧ bit x.latch.w3 23 then putCc u { x with fifo := x.fifo.tail } d else d)

/-- CAPTURE_READ_HEAD (R443): a read of CAP_W0. -/
def execCaptureReadHead (m : Fin 20) (u : Fin 16) (s : State) : Host.Outcome State Fault Refusal :=
  onPow (fun d => let r := capRead m u 0 d; giveRead m r.1 r.2) s

/-- CAPTURE_READ_LAST (R443): a read of CAP_W3. -/
def execCaptureReadLast (m : Fin 20) (u : Fin 16) (s : State) : Host.Outcome State Fault Refusal :=
  onPow (fun d => let r := capRead m u 3 d; giveRead m r.1 r.2) s

/-- PERIOD in eighths of a CORE cycle: 0 and 1 act as 2 (R457). -/
def ccPeriod (u : Nat) (d : Dev) : Nat := 8 * max 2 (rf (A.smpCc u 4) 23 0 d)

/-- DUTY of the period that starts (R445, R446). -/
def ccDuty (u : Nat) (v : Word) (d : Dev) : Nat :=
  if rb (A.smpCc u 0) 23 d then (if v.msb then 0 else v.toNat * ccPeriod u d / 2147483648)
  else rf (A.smpCc u 8) 28 0 d

/-- The earlier of two places in time. -/
def earlier (a b : Option Nat) : Option Nat :=
  match a, b with
  | some x, some y => some (min x y)
  | some x, none => some x
  | none, y => y

/-- A period starts (R445, R446): PERIOD, DUTY and a duty granule that has arrived are taken. -/
def pwmStart (u : Nat) (d : Dev) : Dev :=
  let x := getCc u d
  match earlier x.next x.sync with
  | none => d
  | some t =>
    if !ccRuns u 1 d || decide (d.now < t / 8) then d
    else
      let x := match x.dnew with
        | some (from', v) => if from' ≤ t then { x with dval := v, dnew := none } else x
        | none => x
      putCc u { x with
        active := true, waitStart := x.waitStart && ccTripped u d, start := t, duty := ccDuty u x.dval d
        next := some (t + ccPeriod u d), sync := if x.sync = some t then none else x.sync } d

/-- PWM_PERIOD_START (R445). -/
def execPwmPeriodStart (u : Fin 16) (s : State) : Host.Outcome State Fault Refusal := onDev (pwmStart u) s

/-- EN of a unit is 1 from now on (R442, R445). -/
def ccStart (u : Nat) (d : Dev) : Dev :=
  putCc u { getCc u d with
    active := false, edges := [], waitStart := false, sync := none
    next := if rb (A.smpCc u 0) 24 d then none else some (8 * (d.now + 1)) } d

/-- SMP_CC_n +0x00 (R442): EN may change; in Twilight it cannot be set (R462). -/
def writeCcCtrl (m u : Nat) (v : Word) (d : Dev) : Dev :=
  let a := A.smpCc u 0
  let old := rb a 31 d
  let d := storeReg m a v d
  if d.sys.mode = .twilight && bit v 31 && !old then wb a 31 false d
  else if inService d && committed d && bit v 31 && !old then ccStart u d
  else if old && !bit v 31 then putCc u { getCc u d with active := false, next := none, sync := none, edges := [] } d
  else d

/-- A trigger action on unit u at a place in time (R447): ignored with IGN in capture and PWM mode and while held. -/
def ccTrigger (u act pos : Nat) (d : Dev) : Dev :=
  if !ccRuns u 2 d || ccTripped u d then raise (A.smpCc u 0x18) 2 d
  else
    let x := getCc u d
    putCc u { x with edges := x.edges ++ [(max pos (8 * d.now), act)] } d

/-- Commit (R442): enabled units start. -/
def smpCommit (d : Dev) : Dev :=
  (List.range 16).foldl (fun d u => if rb (A.smpCc u 0) 31 d then ccStart u d else d) { d with smpStart := d.now }

/-- The return from RETAIN (R456): filters unsettled, held trips cleared, PWM restarts at the first boundary. -/
def smpWake (d : Dev) : Dev :=
  let d := (List.range 24).foldl (fun d n =>
    d |> wb (A.smpSd n 0x14) 3 false |> putSd n { getSd n d with bits := [], stuck := false }) { d with smpStart := d.now }
  let d := d |> wr A.smpTrip 0
  (List.range 16).foldl (fun d u =>
    let x := getCc u d
    d |> wb (A.smpCc u 0x18) 4 false
      |> putCc u { x with active := false, edges := [], waitStart := false, next := none, sync := none }) d

/-- The end of a cycle of a given length (R439): channels whose LOFS lies beyond it skip. -/
def latchSkips (len : Nat) (d : Dev) : Dev :=
  (List.range 24).foldl (fun d n =>
    raiseIf (rb (A.smpSd n 0) 31 d && rb (A.smpSd n 0) 25 d && decide (len ≤ (rd (A.smpSd n 4) d).toNat))
      (A.smpSd n 0x14) 2 d) d

/-- A boundary for the PWM units (R445, R446): the duty granules are read as committed there, and aligned periods are due
PHASE after it. A unit that RETAIN stopped restarts. -/
def pwmBoundary (d : Dev) : Dev :=
  (List.range 16).foldl (fun d u =>
    if !ccRuns u 1 d then d
    else
      let d := if rb (A.smpCc u 0) 23 d then
          let r := portBRead 26 (rf (A.smpCc u 0x10) 29 16 d) d
          putCc u { getCc u r.2.2 with dnew := some (8 * (d.now + 20), r.1.setWidth 32) } r.2.2
        else d
      let x := getCc u d
      if rb (A.smpCc u 0) 24 d then putCc u { x with sync := some (8 * d.now + rf (A.smpCc u 0xC) 28 0 d) } d
      else if x.next = none then putCc u { x with next := some (8 * d.now) } d else d) d

/-- READBACK_MISMATCH (R415, R448): pins 0-127 are PX pins, 128-143 CCIO pins; the mismatch has lasted 800 CORE cycles,
from 8 cycles after the last change on. -/
def readbackMismatch (p : Nat) (d : Dev) : Dev :=
  if !(inService d && committed d) then d
  else if p < 128 then
    if bit (pinWord p d) 2 && d.pins.en.getLsbD p && decide (tabGet (fun _ => 0) d.pins.changed p + 808 ≤ d.now) then
      let d := if d.pins.rbSeen then d else
        { wf A.pioRbStat 14 8 p d with pins := { d.pins with rbSeen := true } }
      d |> raise A.pioRbStat 0 |> report 0x4A 0x1C 0 0
    else d
  else if rb (A.smpCc (p - 128) 0) 17 d && (ccOut (p - 128) d).isSome then report 0x4A 0x1D 0 0 d
  else d

/-- READBACK_MISMATCH (R415). -/
def execReadbackMismatch (p : Fin 144) (s : State) : Host.Outcome State Fault Refusal := onDev (readbackMismatch p) s

/-- SMP_STATE (R457). -/
def smpStateWord (d : Dev) : Word :=
  word (atBit (maskOf 16 fun u => ccTripped u d) 16 + atBit (maskOf 4 fun k => mclkRuns k d) 12)

/-! ## The Loop Array -/

/-- Word w of loop n as written: for shadowed fields the shadow, for words 10-15 the state (R449, R450). -/
def loopWord (n w : Nat) (d : Dev) : Word := tabGet tabsDefault d.tabs (tabKey 44 (16 * n + w))
/-- Word w of loop n as in force (R450). -/
def loopForce (n w : Nat) (d : Dev) : Word := tabGet tabsDefault d.tabs (tabKey 46 (16 * n + w))
/-- Store word w of loop n. -/
def setLoopWord (n w : Nat) (v : Word) (d : Dev) : Dev :=
  { d with tabs := tabSet tabsDefault d.tabs (tabKey 44 (16 * n + w)) v }
/-- Store word w of loop n in force. -/
def setLoopForce (n w : Nat) (v : Word) (d : Dev) : Dev :=
  { d with tabs := tabSet tabsDefault d.tabs (tabKey 46 (16 * n + w)) v }

/-- EN of loop n. -/
def loopEn (n : Nat) (d : Dev) : Bool := bit (loopWord n 0 d) 31
/-- How many loops are enabled. -/
def loopCount (d : Dev) : Nat := countOf 64 fun n => loopEn n d

/-- An integer held to 64 signed bits (R451). -/
def sat64 (i : Int) : Int := max (-(2 ^ 63 : Nat)) (min ((2 ^ 63 : Nat) - 1) i)

/-- The product p(c, v) of R451. -/
def loopProd (ksh : Nat) (c v : Word) : Int := sat64 (c.toInt * v.toInt * (2 ^ ksh : Nat))

/-- out(X) of R451: rounds toward minus infinity. -/
def loopOut (x : Int) : Word := sat32 (x / 2147483648)

/-- The state of a loop (R449): S0 in 64 bits, S1-S4. -/
structure LoopState where
  s0 : Int
  s1 : Word
  s2 : Word
  s3 : Word
  s4 : Word
  deriving DecidableEq, Repr

/-- What a run of a loop uses: type, KSH, HOLD, coefficients C0-C4, limits (R449). -/
structure LoopPar where
  type : Nat
  ksh : Nat
  hold : Bool
  c0 : Word
  c1 : Word
  c2 : Word
  c3 : Word
  c4 : Word
  umin : Word
  umax : Word
  deriving DecidableEq, Repr

/-- A clamped output with SATH and SATL (R452, R453). -/
def loopClamp (p : LoopPar) (u : Word) : Word × Bool × Bool :=
  let h := decide (p.umax.toInt < u.toInt)
  let u := if h then p.umax else u
  let l := decide (u.toInt < p.umin.toInt)
  (if l then p.umin else u, h, l)

/-- Word 1 of an output granule (R454): SATH, SATL, RLIM, AWU, HOLD. -/
def loopFlags (sath satl rlim awu hold : Bool) : Word :=
  word (atBit sath.toNat 31 + atBit satl.toNat 30 + atBit rlim.toNat 29 + atBit awu.toNat 28 + atBit hold.toNat 27)

/-- A PID loop (R452): pv, sp. -/
def loopPid (p : LoopPar) (s : LoopState) (pv sp : Word) : Word × Word × LoopState :=
  let e := sat32 (sp.toInt - pv.toInt)
  let pr := loopProd p.ksh p.c0 e
  let d := sat64 (loopProd p.ksh p.c2 s.s2 + loopProd p.ksh p.c3 (sat32 (e.toInt - s.s1.toInt)))
  let ki := loopProd p.ksh p.c1 e
  let i := sat64 (s.s0 + ki)
  let r := loopClamp p (loopOut (sat64 (sat64 (pr + i) + d)))
  let awu := (r.2.1 && decide (0 < ki)) || (r.2.2 && decide (ki < 0))
  let s0 := if awu then s.s0 else min (max i (p.umin.toInt * 2147483648)) (p.umax.toInt * 2147483648)
  (r.1, loopFlags r.2.1 r.2.2 false awu false, { s with s0 := s0, s1 := e, s2 := loopOut d, s3 := r.1 })

/-- A biquad (R453). -/
def loopBiquad (p : LoopPar) (s : LoopState) (x : Word) : Word × Word × LoopState :=
  let f := loopProd p.ksh
  let y := loopOut (sat64 (sat64 (sat64 (sat64 (f p.c0 x + f p.c1 s.s1) + f p.c2 s.s2) - f p.c3 s.s3) - f p.c4 s.s4))
  let r := loopClamp p y
  (r.1, loopFlags r.2.1 r.2.2 false false false, { s with s1 := x, s2 := s.s1, s3 := r.1, s4 := s.s3 })

/-- A lead-lag (R453). -/
def loopLead (p : LoopPar) (s : LoopState) (x : Word) : Word × Word × LoopState :=
  let f := loopProd p.ksh
  let r := loopClamp p (loopOut (sat64 (sat64 (f p.c0 x + f p.c1 s.s1) - f p.c2 s.s3)))
  (r.1, loopFlags r.2.1 r.2.2 false false false, { s with s1 := x, s3 := r.1 })

/-- A limiter (R453): RATE below 0 acts as 0x7FFF_FFFF. -/
def loopLimit (p : LoopPar) (s : LoopState) (x : Word) : Word × Word × LoopState :=
  let r := loopClamp p x
  let rate : Int := if p.c0.msb then 0x7FFFFFFF else p.c0.toInt
  let dy := r.1.toInt - s.s3.toInt
  let lim := decide (rate < dy ∨ dy < -rate)
  let y := if rate < dy then BitVec.ofInt 32 (s.s3.toInt + rate)
    else if dy < -rate then BitVec.ofInt 32 (s.s3.toInt - rate) else r.1
  (y, loopFlags r.2.1 r.2.2 lim false false, { s with s3 := y })

/-- One run of a loop (R451-R454): output, flags and new state. -/
def loopStep (p : LoopPar) (s : LoopState) (a sp : Word) : Word × Word × LoopState :=
  if p.hold then (s.s3, loopFlags false false false false true, s)
  else if p.type = 0 then loopPid p s a sp
  else if p.type = 1 then loopBiquad p s a
  else if p.type = 2 then loopLead p s a
  else loopLimit p s a

/-- The parameters of loop n in force (R449, R450). -/
def loopPar (n : Nat) (d : Dev) : LoopPar :=
  let w0 := loopForce n 0 d
  { type := fld (loopWord n 0 d) 30 29, ksh := fld w0 27 24, hold := bit w0 28
    c0 := loopForce n 3 d, c1 := loopForce n 4 d, c2 := loopForce n 5 d, c3 := loopForce n 6 d, c4 := loopForce n 7 d
    umin := loopForce n 8 d, umax := loopForce n 9 d }

/-- The state of loop n (R449). -/
def getLoopState (n : Nat) (d : Dev) : LoopState :=
  { s0 := (BitVec.ofNat 64 ((loopWord n 11 d).toNat * 2 ^ 32 + (loopWord n 10 d).toNat)).toInt
    s1 := loopWord n 12 d, s2 := loopWord n 13 d, s3 := loopWord n 14 d, s4 := loopWord n 15 d }

/-- Store the state of loop n. -/
def putLoopState (n : Nat) (s : LoopState) (d : Dev) : Dev :=
  let v := wrapInt 64 s.s0
  d |> setLoopWord n 10 (word v) |> setLoopWord n 11 (word (v / 2 ^ 32)) |> setLoopWord n 12 s.s1
    |> setLoopWord n 13 s.s2 |> setLoopWord n 14 s.s3 |> setLoopWord n 15 s.s4

/-- An input: a word of a granule read as committed through port B (R19, R449). -/
def loopInput (g : Nat) (high : Bool) (d : Dev) : Word × Dev :=
  let r := portBRead 27 g d
  (word (r.1.toNat / (if high then 2 ^ 32 else 1)), r.2.2)

/-- A run of loop n (R449-R454): the parity of the words it uses is checked (R116). -/
def loopRunOne (n : Nat) (d : Dev) : Dev :=
  let d := (List.range 10).foldl (fun d w => useTab 0x1E A.loopIndData (16 * n + w) 44 (16 * n + w) d) d
  let w1 := loopWord n 1 d
  let a := loopInput (fld w1 13 0) (bit w1 15) d
  let b := if bit w1 31 && fld (loopWord n 0 d) 30 29 = 0 then loopInput (fld w1 29 16) (bit w1 30) a.2
    else (loopForce n 2 d, a.2)
  let r := loopStep (loopPar n d) (getLoopState n d) a.1 b.1
  b.2 |> putLoopState n r.2.2
    |> portBWrite 27 5 n (fld (loopWord n 0 d) 13 0) (BitVec.ofNat 64 (r.2.1.toNat * 2 ^ 32 + r.1.toNat))
        (rd A.memImgCycle d)

/-- Is an apply of loop n pending? -/
def loopPending (n : Nat) (d : Dev) : Bool := rb (A.loopPend (n / 32)) (n % 32) d

/-- The shadows of the named loops take force (R450); a shadow with UMIN > UMAX is not applied. -/
def loopApplyAll (d : Dev) : Dev :=
  let named := (List.range 64).filter fun n => loopPending n d
  let ok (n : Nat) : Bool := decide ((loopWord n 8 d).toInt ≤ (loopWord n 9 d).toInt)
  let d' := (named.filter ok).foldl (fun d n =>
    ([0, 2, 3, 4, 5, 6, 7, 8, 9] : List Nat).foldl (fun d w => setLoopForce n w (loopWord n w d) d) d) d
  d' |> raiseIf (named.any ok) A.loopStat 2 |> raiseIf (named.any fun n => !ok n) A.loopStat 3
    |> wr (A.loopPend 0) 0 |> wr (A.loopPend 1) 0

/-- The named loops' states are zeroed (R454). -/
def loopResetAll (d : Dev) : Dev :=
  let d' := ((List.range 64).filter fun n => d.loop.reset.getLsbD n).foldl
    (fun d n => putLoopState n ⟨0, 0, 0, 0, 0⟩ d) d
  { d' with loop := { d'.loop with reset := 0 } }

/-- The end of the run that a boundary finds unfinished (R455). -/
def loopOverrun (d : Dev) : Dev :=
  { raiseIf d.loop.cut A.loopStat 1 d with loop := { d.loop with cut := false } }

/-- The run of a boundary (R455): with `g` grants to other port-B masters and `len` CORE cycles to the next boundary, the
loops that land in time run in ascending index. -/
def loopRun (g len : Nat) (d : Dev) : Dev :=
  let d := d |> loopOverrun |> loopApplyAll |> loopResetAll
  if !rb A.loopCtrl 0 d then d
  else
    let all := (List.range 64).filter fun n => loopEn n d
    let fits := (all.zipIdx.filter fun p => 1 + 10 * (p.2 + 1) + 2 * g ≤ len).map (·.1)
    let last := 10 * fits.length + 2 * g
    let d := fits.foldl (fun d n => loopRunOne n d) d
    let d := if all = [] then d else
      d |> wf A.loopTime 15 0 last |> when (decide (rf A.loopTime 31 16 d < last)) (wf A.loopTime 31 16 last)
    { d with loop := { d.loop with
        cut := decide (fits.length < all.length)
        endAt := d.now + 1 + 10 * all.length + 2 * g } }

/-- LOOP_STAT with RUN (R458). -/
def loopStatus (d : Dev) : Word :=
  setBit (rd A.loopStat d) 0 (inService d && decide (d.now < d.loop.endAt))

/-- LOOP_STATE (R458). -/
def loopStateWord (d : Dev) : Word :=
  word (atBit (bit (loopStatus d) 0).toNat 31 + atBit (loopCount d) 24)

/-- LOOP_APPLY_j (R450). -/
def writeLoopApply (m j : Nat) (v : Word) (d : Dev) : Dev :=
  d |> storeReg m (A.loopApply j) v |> fun d => wr (A.loopPend j) (rd (A.loopPend j) d ||| v) d

/-- LOOP_RESET_j (R454). -/
def writeLoopReset (m j : Nat) (v : Word) (d : Dev) : Dev :=
  let d := storeReg m (A.loopReset j) v d
  { d with loop := { d.loop with reset := d.loop.reset ||| BitVec.ofNat 64 (v.toNat * 2 ^ (32 * j)) } }

/-- LOOP_APPLY (R450). -/
def execLoopApply (m : Fin 20) (j : Fin 2) (v : Word) (s : State) : Host.Outcome State Fault Refusal :=
  onPow (writeLoopApply m j v) s

/-- LOOP_RESET (R454). -/
def execLoopReset (m : Fin 20) (j : Fin 2) (v : Word) (s : State) : Host.Outcome State Fault Refusal :=
  onPow (writeLoopReset m j v) s

end Sys2Proof.Machine
end

