-- ==== Sys2Proof/Machine/Triggers.lean ====
section
/-! DEFINITION. Machine/Triggers.lean: the firing of a compare trigger and its actions (R267-R271). -/

namespace Sys2Proof.Machine

/-- ACT of trigger k: a DEST outside its range acts as 0b000 (R268). -/
def trigAct (k : Nat) (d : Dev) : Nat :=
  let cfg := rd (A.ntmTrig k 12) d
  if destOk (fld cfg 27 25) (fld cfg 11 0) then fld cfg 27 25 else 0

/-- Where on the CORE cycle's eighths an edge at TARGET lies (R268): to the nearest 312.5 ps step. -/
def edgePlace (k : Nat) (d : Dev) : Nat :=
  let t := tbGet (rf (A.ntmTrig k 12) 29 28 d) d
  let u : Int := ((getTrig k d).target - t.ns64).toInt * 4294967296 - t.frac
  (8 * (d.now : Int) + (u + 671088640) / 1342177280).toNat

/-- The action of a firing of trigger k (R268, R271). -/
def trigAction (k : Nat) (d : Dev) : Dev :=
  let dest := rf (A.ntmTrig k 12) 11 0 d
  let st := A.ntmTrig k 0x10
  let act := trigAct k d
  if act = 0 then d
  else if act = 1 then
    if d.dsp.waiting.any fun it => it.src = 6 && it.arg = k then raise st 2 d
    else offerItem (newItem 6 dest k [] 0 0 d) d
  else if act = 2 then pendEvent (ctxKey (dest / 16) (dest % 16)) 4 d
  else if act = 3 then
    let r := triggerLaunch (dest / 16) (dest % 8) (getTrig k d).target d
    raiseIf (!r.1) st 3 r.2
  else if act = 4 then
    let r := pioTrigger dest d
    raiseIf r.1 st 2 r.2
  else ccTrigger dest act (edgePlace k d) d

/-- ARM and TARGET after a firing (R269). -/
def trigNext (k : Nat) (d : Dev) : Dev :=
  let p := rd (A.ntmTrig k 8) d
  if p = 0 then wb (A.ntmTrig k 12) 31 false d
  else
    let t := getTrig k d
    let d := moveTarget k { t with target := t.target + p.setWidth 64, skipping := false } d
    putTrig k { getTrig k d with skipping := decide (0 ≤ trigDiff k d) } d

/-- Does trigger k fire in this cycle (R267)? -/
def trigFires (k : Nat) (d : Dev) : Bool :=
  powered d && d.sys.mode ≠ .twilight && d.ntm.counting && rb (A.ntmTrig k 12) 31 d && !(getTrig k d).skipping && !stepDue k d &&
    decide (0 ≤ trigDiff k d)

/-- A firing (R268): FIRED, the action, then ARM and TARGET; with IE = 1 the Supervisor is interrupted. -/
def trigFire (k : Nat) (d : Dev) : Dev :=
  if trigFires k d then
    putTrig k { getTrig k d with fired := d.now + 1 } d |> raise (A.ntmTrig k 0x10) 0 |> trigAction k |> trigNext k
      |> fun d => if rb (A.ntmTrig k 12) 30 d then irqTrigger d else d
  else d

/-- TRIGGER_FIRE (R267). -/
def execTriggerFire (k : Fin 64) (s : State) : Host.Outcome State Fault Refusal := onDev (trigFire k) s

end Sys2Proof.Machine
end

