-- ==== Sys2Proof/Machine/Saf.lean ====
section
/-! DEFINITION. Machine/Saf.lean: device resets (R86-R89), the entry into Twilight (R75, R462), the safety decision, its
confirmation and escalation (R461-R463, R545, R470), the monitors (R123, R465-R467) and SAF_REQ (R469). -/

namespace Sys2Proof.Machine

/-! ## Device resets (R86, R88) -/

/-- A reset of everything (R86). What is no state of the reset domains stays: the bytes of memory until the self-test
fills them (R47), the flash, the pins PCIE_PERST_N and the I/O supplies, the TAP, and the model's own records. -/
def resetAll (d : Dev) : Dev :=
  { Dev.reset with
    free := d.free, out := d.out, flashA := d.flashA, flashB := d.flashB, mem := d.mem, badPar := d.badPar, vddio := d.vddio
    img := { Img.reset with pages := d.img.pages }
    hst := { Dev.reset.hst with perst := d.hst.perst }
    sec := { Dev.reset.sec with ir := d.sec.ir, dr := d.sec.dr, bsr := d.sec.bsr, nonces := d.sec.nonces } }

/-- The place of a reset's CAUSE in the order of R88; power-up stands at 0. -/
def resetOrder (cause : Nat) : Nat := [0, 1, 3, 4, 5, 2, 6].getD cause 6

/-- The place in that order of the reset that took effect in this CORE cycle, if one did. -/
def sameReset (d : Dev) : Option Nat := if d.now = 0 ∧ d.boot.step = .pll then d.sys.resetRank else none

/-- A device reset other than power-up (R86): the fault log, SYS_RST_CAUSE and the tamper log (R500) are kept; COUNT
rises and CAUSE and ESC_CODE are recorded. PORST_N clears TPEND (R490). A second source in the CORE cycle of a reset is that
same reset (R88): it is not counted, and CAUSE names the first of the sources in their order. -/
def deviceReset (cause esc : Nat) (d : Dev) : Dev :=
  let before := sameReset d
  if before.any (· ≤ resetOrder cause) then d
  else
    let n := rf A.sysRstCause 31 16 d
    let n := if before.isSome then n else satInc 0xFFFF n
    let log := rd A.secTampLog d
    let r := resetAll d
    { r with sys := { Sys.reset with log := d.sys.log, logNext := d.sys.logNext, escalated := decide (cause = 5)
                                     resetRank := some (resetOrder cause) } }
      |> wr A.sysRstCause (word (atBit n 16 + atBit esc 8 + cause))
      |> wr A.secTampLog (if cause = 1 then setBit log 31 false else log)
      |> wb A.safStat 4 (decide (cause = 5))

/-- POWER_UP (R86, R497): everything is reset, the fault log and the TAP of the always-on domain included. -/
def powerUp (d : Dev) : Dev :=
  { resetAll d with mem := [], badPar := [], img := Img.reset, sys := { Sys.reset with resetRank := some 0 }
                    sec := { Dev.reset.sec with nonces := d.sec.nonces } }

/-- POWER_UP (R86). -/
def execPowerUp (s : State) : Host.Outcome State Fault Refusal := onDev powerUp s

/-- PORST_N_RESET (R86): the pin was low for at least 1 µs and is released. -/
def execPorstNReset (s : State) : Host.Outcome State Fault Refusal := onDev (deviceReset 1 0) s

/-- SYS_RST_CMD (R88, R89): only the Supervisor and the hosts; with the key, a software reset 800 CORE cycles later.
The spec says nothing of a second one while it is pending: the first stands (DESIGN CHOICE, notes/assumptions/117.md). -/
def writeRstCmd (m : Nat) (v : Word) (d : Dev) : Dev :=
  if (m ≠ 0 ∧ m ≠ 17 ∧ m ≠ 18) ∨ fld v 31 16 ≠ 0x0D3A then d
  else
    let d := storeReg m A.sysRstCmd v d
    if bit v 0 ∧ d.sys.resetDue = none then
      { d with sys := { d.sys with resetDue := some (d.now + 800) } }
    else d

/-- SWRST (R88). -/
def execSwrst (m : Fin 20) (v : Word) (s : State) : Host.Outcome State Fault Refusal := onPow (writeRstCmd m v) s

/-- SOFTWARE_RESET (R86): the delay has passed. -/
def execSoftwareReset (s : State) : Host.Outcome State Fault Refusal :=
  onDev (fun d => match d.sys.resetDue with
    | some t => when (decide (t ≤ d.now)) (deviceReset 3 0) d
    | none => d) s

/-! ## Debug sessions (R494) -/

/-- DBG outside a session (R492, R500): open in BLANK, DEVELOP and RETURN, else closed; killed stays. -/
def dbgBase (d : Dev) : Nat :=
  let st := rf A.secLc 31 29 d
  if rb A.secLc 25 d then 4 else if st = 0 ∨ st = 1 ∨ st = 4 then 1 else 0

/-- Contexts held HALTED for the debugger resume (R150, R494). -/
def resumeHeld (d : Dev) : Dev :=
  (List.range 16).foldl (fun d c =>
    (List.range 10).foldl (fun d k =>
      let key := ctxKey c k
      if (getCtx key d).hold && decide ((getCtx key d).state = .halted) then
        d |> modCtx key (fun x => { x with state := .ready, hold := false }) |> schedule c
      else d) d) d

/-- Where DBG_ACC was granted and is no longer, contexts held for the debugger resume (R171). -/
def grantEnds (was : Bool) (d : Dev) : Dev := when (was && !dbgAccGranted d) resumeHeld d

/-- A debug session ends (R494). -/
def endSession (d : Dev) : Dev :=
  let g := rf A.secLc 11 9 d
  if g = 2 ∨ g = 3 then d |> wf A.secLc 11 9 (dbgBase d) |> resumeHeld else d

/-! ## Twilight -/

/-- The Ethernet lanes power down (R75, R356, R462): a frame in transmission is cut, queued frames stay (R376). -/
def lanesDown (d : Dev) : Dev :=
  (List.range 10).foldl (fun d p =>
    if rb (A.ethCtrl p) 15 d then
      let up : Bool := (getEth p d).link = .up
      d |> abortTransmit p |> raiseIf up (A.ethStat p) 0 |> modEth p (fun e => { e with link := .down, lane := false })
        |> setVstat p 0
    else d) d

/-- What every entry into Twilight does (R75, R76, R405, R429, R456, R462): outputs at SAFE after commit, units halted,
Meridian left to an ACTIVE node, a power transition abandoned (R91), the debug session ended (R494). -/
def twilightUnits (d : Dev) : Dev :=
  let d := { d with sys := { d.sys with mode := .twilight, trans := none, retWake := none, flipStop := false } }
  d |> wf A.sysPwrStat 4 4 0 |> wf A.sysPwrStat 2 0 0 |> pioTwilight |> wb A.memImgStat 0 false
    |> mrdTwilight |> (fun d => (List.range 4).foldl (fun d n => canTwilight n d) d) |> lanesDown |> endSession

/-- The Twilight code that DIAG ST and the host status block show (R461). -/
def setTwCode (code : Nat) (d : Dev) : Dev := { d with sys := { d.sys with twCode := code, twTime := d.now } }

/-- Start-up fails with a code and enters Twilight (R53, R54, R75): the ROM responder runs at once. -/
def startupFail (code : Nat) (d : Dev) : Dev :=
  let d := d |> twilightUnits |> setTwCode code |> faultLog code
  { d with sys := { d.sys with romLoop := true }, saf := { d.saf with swdogOn := true, swdogStart := d.now } }

/-- FAULT_N is asserted (R464): whenever the device is not in service, and after a decision. -/
def faultN (d : Dev) : Bool := d.sys.mode ≠ .service || rb A.safStat 0 d

/-! ## The safety decision -/

/-- The lowest code among reports, with its first report (R461). -/
def firstReport : List Report → Option Report
  | [] => none
  | r :: rs => match firstReport rs with
    | none => some r
    | some q => if q.code < r.code then some q else some r

/-- The other reports of the deciding RC cycle (R461): SAF_PEND and LATER. -/
def pendReport (r : Report) (d : Dev) : Dev :=
  d |> wr A.safPend (rd A.safPend d ||| word (2 ^ (r.code - 0x40))) |> raise A.safStat 2

/-- The registers and interrupts of a decision (R476, R505, R506). -/
def takeDecision (r : Report) (rest : List Report) (d : Dev) : Dev :=
  let t := (tbNs 0 d).toNat
  let d := { d with saf := { d.saf with reports := [], decided := d.now } }
  let d := d |> wb A.safStat 0 true |> wr A.safFault (word (atBit r.code 24 + atBit r.unit 16))
    |> wr A.safFaultAddr (word r.addr) |> wr A.safFaultIdx (word r.idx)
    |> wr A.safFaultTl (word t) |> wr A.safFaultTh (word (t / 2 ^ 32))
  rest.foldl (fun d q => pendReport q d) d |> raise A.hstIntPend 17 |> msixRaise 17

/-- The safety-escalation reset (R463, R470): ESC_CODE is the Twilight code held. -/
def escalate (d : Dev) : Dev := deviceReset 5 d.sys.twCode d

/-- A safety decision (R461, R462, R545): the first of its RC cycle's lowest code; from start-up's Twilight it changes
neither state nor code, and CONFIRMED is set at once. A lockstep mismatch in Twilight escalates (R470). -/
def safetyDecision (d : Dev) : Dev :=
  if rb A.safStat 0 d then d
  else match firstReport d.saf.reports with
    | none => d
    | some r =>
      let tw : Bool := d.sys.mode = .twilight
      let d := takeDecision r (d.saf.reports.erase r) d
      if tw then
        let d := d |> wb A.safStat 1 true |> faultLog r.code
        if r.code = 0x40 then escalate d else d
      else
        let d := d |> twilightUnits |> setTwCode r.code |> faultLog r.code |> irqOther
        { d with saf := { d.saf with swdogOn := true,
                                     swdogStart := if d.saf.swdogOn then d.saf.swdogStart else d.now } }

/-- SAFETY_DECISION (R461): the end of the RC cycle in which a report arrived. -/
def execSafetyDecision (s : State) : Host.Outcome State Fault Refusal := onDev safetyDecision s

/-- TWILIGHT_CONFIRMED (R462): the Supervisor has entered the ROM responder, at most 100 µs after the decision. -/
def execTwilightConfirmed (s : State) : Host.Outcome State Fault Refusal :=
  onDev (fun d => when (d.sys.mode = .twilight && rb A.safStat 0 d && !rb A.safStat 1 d &&
      decide (d.now ≤ d.saf.decided + 40000))
    (fun d => { wb A.safStat 1 true d with sys := { d.sys with romLoop := true } }) d) s

/-- SAFETY_ESCALATION_RESET (R463): Twilight is not confirmed 100 µs after the decision. -/
def execSafetyEscalationReset (s : State) : Host.Outcome State Fault Refusal :=
  onDev (fun d => when (d.sys.mode = .twilight && rb A.safStat 0 d && !rb A.safStat 1 d &&
      decide (d.saf.decided + 40000 ≤ d.now)) escalate d) s

/-! ## Monitors (R465, R466, R123) -/

/-- LOCKSTEP_MISMATCH (R465, R470): code 0x40; after a decision the escalation follows at once. -/
def lockstep (d : Dev) : Dev :=
  if !monitored d then d
  else
    let after := d.sys.mode = .twilight && rb A.safStat 0 d
    let d := report 0x40 0xFF 0 0 d
    if after then escalate d else d

/-- LOCKSTEP_MISMATCH (R465). -/
def execLockstepMismatch (s : State) : Host.Outcome State Fault Refusal := onDev lockstep s

/-- The window of supply k in mV (R466). -/
def supplyWindow (k : Nat) : Nat × Nat := if k < 3 then (740, 860) else if k = 3 then (830, 970) else (1660, 1940)

/-- VOLTAGE_FAULT (R466): supply k reads mv; outside its window for 2 µs it is a fault. -/
def execVoltageFault (k : Fin 5) (mv : BitVec 16) (s : State) : Host.Outcome State Fault Refusal :=
  onDev (fun d => when (monitored d) (fun d =>
    let w := supplyWindow k
    d |> wr (A.safVmon k) (word mv.toNat)
      |> when (decide (mv.toNat < w.1 ∨ w.2 < mv.toNat)) (report 0x45 0xFF 0 0)) d) s

/-- TEMPERATURE_SAMPLE (R466): the coolest and the hottest of the four sensors, in 0.25 °C; two samples out of limits in a
row are a fault. -/
def execTemperatureSample (tmin tmax : BitVec 16) (s : State) : Host.Outcome State Fault Refusal :=
  onDev (fun d => when (monitored d) (fun d =>
    let bad := decide (tmin.toInt < -188 ∨ 528 < tmax.toInt)
    let was := d.saf.tempBad
    let d := wr A.safTmon (word (atBit tmin.toNat 16 + tmax.toNat)) d
    { d with saf := { d.saf with tempBad := bad } } |> when (bad && was) (report 0x46 0xFF 0 0)) d) s

/-- VIEW_COMPARISON (R123): a mismatch found again is a fault with code 0x48; one that is gone was a one-off and is
recorded. -/
def viewComparison (differs : List Nat) (d : Dev) : Dev :=
  if !inService d then d
  else
    let old := d.viewBad
    let d := { d with viewBad := differs }
    let d := (old.filter fun u => u ∉ differs).foldl (fun d u =>
      d |> wf A.safView 31 24 u |> incrSat A.safView 15 0 |> raise A.safStat 3) d
    (differs.filter fun u => u ∈ old).foldl (fun d u => report 0x48 u 0 0 d) d

/-- VIEW_COMPARISON (R123): the units whose mirror differs from the data path. -/
def execViewComparison (differs : List (Fin 48)) (s : State) : Host.Outcome State Fault Refusal :=
  onDev (viewComparison (differs.map (·.val))) s

/-- CLOCK_MONITOR_WINDOW (R85, R107): bit i of the operands names the clock of bit i of SYS_CLK_STAT; a clock out of range in
two windows in a row, or stopped, is a fault of its own. -/
def clockWindow (out stopped : Nat) (d : Dev) : Dev :=
  if !monitored d then d
  else
    let bad := stopped ||| (out &&& d.sys.clkBad)
    let d := { d with sys := { d.sys with clkBad := out } }
    (List.range 7).foldl (fun d i => when (bad.testBit i) (fun d => d |> raise A.sysClkStat i |> report 0x44 0 0 0) d) d

/-- CLOCK_MONITOR_WINDOW (R85). -/
def execClockMonitorWindow (outOfRange stopped : BitVec 7) (s : State) : Host.Outcome State Fault Refusal :=
  onDev (clockWindow outOfRange.toNat stopped.toNat) s

/-! ## SAF_REQ and the Supervisor watchdog (R467, R469) -/

/-- SAF_REQ (R469): the Supervisor's key takes a decision with code 0x4C; other masters set DENY. -/
def writeSafReq (m : Nat) (v : Word) (d : Dev) : Dev :=
  if m ≠ 0 then raise A.safStat 5 d
  else if fld v 31 16 ≠ 0x0C5F then d
  else d |> storeReg m A.safReq v |> report 0x4C 0xFF 0 0

/-- SAF_REQ (R469). -/
def execSafReq (m : Fin 20) (v : Word) (s : State) : Host.Outcome State Fault Refusal := onPow (writeSafReq m v) s

/-- The watchdog period in CORE cycles (R476): values outside 50-1,000 µs act as 1,000. -/
def swdogPeriod (d : Dev) : Nat := let p := rf A.safSwdog 9 0 d; usCycles (if 50 ≤ p ∧ p ≤ 1000 then p else 1000)

/-- The watchdog's period starts anew (R467). -/
def serveSwdog (d : Dev) : Dev := { d with saf := { d.saf with swdogStart := d.now } }

/-- SAF_SWDOG_SVC (R467, R476): the Supervisor's key serves the watchdog; other masters set DENY. -/
def writeSwdogSvc (m : Nat) (v : Word) (d : Dev) : Dev :=
  if m ≠ 0 then raise A.safStat 5 d
  else if fld v 31 16 ≠ 0x0A5D then d
  else d |> storeReg m A.safSwdogSvc v |> serveSwdog

/-- SUPERVISOR_WATCHDOG_SERVICE (R467). -/
def execSupervisorWatchdogService (m : Fin 20) (v : Word) (s : State) : Host.Outcome State Fault Refusal :=
  onPow (writeSwdogSvc m v) s

/-- SUPERVISOR_WATCHDOG_EXPIRY (R467, R77): a device reset. -/
def execSupervisorWatchdogExpiry (s : State) : Host.Outcome State Fault Refusal :=
  onDev (fun d => when (powered d && d.saf.swdogOn && decide (d.saf.swdogStart + swdogPeriod d ≤ d.now))
    (deviceReset 2 0) d) s

/-- SAF_STATE (R476). -/
def safStateWord (d : Dev) : Word :=
  word (atBit (rb A.safStat 0 d).toNat 31 + atBit (rb A.safStat 1 d).toNat 30 + atBit d.sys.twCode 22)

/-- LANE_PLL_LOCK (R83): the lane PLL of an enabled port locks; with RGMII selected the lane stays powered down (R341). -/
def execLanePllLock (p : Fin 10) (s : State) : Host.Outcome State Fault Refusal :=
  onDev (fun d => when (inService d && rb (A.ethCtrl p) 15 d && !ethRgmii p d)
    (modEth p (fun e => { e with lane := true })) d) s

/-- SYS_CLK_STAT as read (R85): bits 13 and 14 show the lane PLLs of ETH_8 and ETH_9. -/
def clkStat (d : Dev) : Word :=
  rd A.sysClkStat d ||| word (atBit (getEth 8 d).lane.toNat 13 + atBit (getEth 9 d).lane.toNat 14)

end Sys2Proof.Machine
end

