-- ==== Sys2Proof/Machine/Power.lean ====
section
/-! DEFINITION. Machine/Power.lean: Vault wipes (R144-R146), power requests, RETAIN and OFF entry, wakes and the return
to service (R90-R95), bank power (R96-R98). -/

namespace Sys2Proof.Machine

/-! ## The Vault -/

/-- The Supervisor is in secure mode (R483): it runs the ROM's loop or responder, or stands at a gate. -/
def secureMode (d : Dev) : Bool := powered d && (d.sys.romLoop || (romGate (getCtx supKey d).pc.toNat).isSome)

/-- A wipe trigger (R145, R146): a wipe in progress keeps its cause. -/
def startWipe (cause : Nat) (d : Dev) : Dev :=
  if rb A.memVaultStat 0 d then d else d |> wf A.memVaultStat 7 5 cause |> wb A.memVaultStat 0 true

/-- A wipe completes (R145): both banks zero, WIPED; the scrubber resumes at row 0 there. -/
def wipeDone (d : Dev) : Dev :=
  if !rb A.memVaultStat 0 d then d
  else
    let d := [40, 41].foldl (fun d b => memZero (bankRange b).1 (bankRange b).2 d) d
    { d with scrub := tabSet zeroNat (tabSet zeroNat d.scrub 640 0) 656 0 }
      |> wb A.memVaultStat 0 false |> raise A.memVaultStat 1

/-- VAULT_WIPE_DONE (R145). -/
def execVaultWipeDone (s : State) : Host.Outcome State Fault Refusal := onDev wipeDone s

/-- MEM_VAULT_CMD (R148): its key starts a wipe for the secure Supervisor; a wipe of any other master is VAULT_DENY. -/
def writeVaultCmd (m : Nat) (v : Word) (d : Dev) : Dev :=
  if fld v 31 16 ≠ 0x0B7E then d
  else
    let d := storeReg m A.memVaultCmd v d
    if !bit v 0 then d
    else if m = 0 && secureMode d then startWipe 4 d
    else accEvent m 2 true A.memVaultCmd d

/-- WIPE (R145). -/
def execWipe (m : Fin 20) (v : Word) (s : State) : Host.Outcome State Fault Refusal := onPow (writeVaultCmd m v) s

/-! ## Power requests (R91) -/

/-- Boundaries run under a timeline (R13, R92). -/
def rackBoundaries (d : Dev) : Bool := rb A.memImgCtrl 0 d && decide (role d ≠ 0) && holdsTimeline d

/-- DOZE (R91, R429, R494): engines and PIO engines stop and the debug session ends. -/
def enterDoze (d : Dev) : Dev :=
  { endSession (wf A.sysPwrStat 2 0 1 d) with sys := { (endSession (wf A.sysPwrStat 2 0 1 d)).sys with entryTime := d.now } }

/-- DOZE ends (R91, R164, R429): PIO engines resume; engine watchdogs, quanta and flow timeouts go on from where they
froze. A watchdog that started or was served in DOZE starts at the wake. -/
def leaveDoze (d : Dev) : Dev :=
  let d := d |> wf A.sysPwrStat 2 0 0 |> pioUngate
  let thaw (start : Nat) : Nat := start + (d.now - max d.sys.entryTime start)
  let d := (List.range 16).foldl (fun d c =>
    modCore c (fun e => { e with wdogStart := thaw e.wdogStart, quantumStart := thaw e.quantumStart }) d) d
  let t := d.now - d.sys.entryTime
  modDsp (fun q => { q with insvc := q.insvc.map fun i => { i with frozen := i.frozen + t } }) d

/-- RETAIN or OFF entry starts (R92): on a node with boundaries running they stop after the next flip. A node in DAWN or
INTEGRATING stops at once (R339), and one without a timeline starts no Dawn. -/
def startEntry (off : Bool) (d : Dev) : Dev :=
  let early : Bool := d.mrd.node = .dawn || d.mrd.node = .integrating
  let rack := rackBoundaries d && !early
  let d := endSession { d with sys := { d.sys with trans := some ⟨off, false, !rack, none⟩, flipStop := rack } }
    |> wb A.sysPwrStat 4 true |> when early enterListen
  if rack then d else lastFlip d

/-- SYS_PWR_CTRL (R91, R95): a power request of the Supervisor or a host; of any other master, in Twilight or during a
transition it is PWR_DENY. -/
def writePwrCtrl (m : Nat) (v : Word) (d : Dev) : Dev :=
  if m ≠ 0 ∧ m ≠ 17 ∧ m ≠ 18 then raise A.sysPwrStat 6 d
  else if fld v 31 16 ≠ 0x0C1E then d
  else
    let r := fld v 2 0
    let d := d |> storeReg m A.sysPwrCtrl v |> errIf (decide (5 ≤ r)) (A.block 0) m errRsvd A.sysPwrCtrl
    if r = 0 ∨ 5 ≤ r then d
    else if d.sys.mode = .twilight || rb A.sysPwrStat 4 d then raise A.sysPwrStat 6 d
    else if !inService d then d
    else if r = 1 then (if inDoze d then leaveDoze d else d)
    else if r = 2 then (if inDoze d then d else enterDoze d)
    else startEntry (decide (r = 4)) d

/-- REQUEST_RUN (R91). -/
def execRequestRun (m : Fin 20) (s : State) : Host.Outcome State Fault Refusal := onPow (writePwrCtrl m 0x0C1E0001) s
/-- REQUEST_DOZE (R91). -/
def execRequestDoze (m : Fin 20) (s : State) : Host.Outcome State Fault Refusal := onPow (writePwrCtrl m 0x0C1E0002) s
/-- REQUEST_RETAIN (R92). -/
def execRequestRetain (m : Fin 20) (s : State) : Host.Outcome State Fault Refusal :=
  onPow (writePwrCtrl m 0x0C1E0003) s
/-- REQUEST_OFF (R91). -/
def execRequestOff (m : Fin 20) (s : State) : Host.Outcome State Fault Refusal := onPow (writePwrCtrl m 0x0C1E0004) s

/-! ## Banks (R96, R98) -/

/-- A bank's contents are zero-filled (R96); turning a Twin bank off clears the select and written vectors (R126). -/
def bankZero (b : Nat) (d : Dev) : Dev :=
  if 32 ≤ b ∧ b < 40 then
    let lo := 16384 * ((b - 32) / 4) + 4096 * ((b - 32) % 4)
    let r := bankRange b
    { twinVectorsClear d with img := { (twinVectorsClear d).img with pages := tabClear d.img.pages lo (lo + 4095) },
                              badPar := dropIf (fun x => r.1 ≤ x && x ≤ r.2) d.badPar }
  else if b = 58 then d
  else let r := bankRange b; memZero r.1 r.2 d

/-- A bank stops being accessible. -/
def bankUnready (b : Nat) (d : Dev) : Dev := wb (A.sysBankRdy (b / 32)) (b % 32) false d

/-- BANK_READY (R96, R141): the bank is accessible and its scrub starts at row 0. -/
def execBankReady (b : Fin 59) (s : State) : Host.Outcome State Fault Refusal :=
  onDev (fun d => when (powered d && decide (b.val ∈ d.sys.bankPend)) (fun d =>
    { d with sys := { d.sys with bankPend := dropIf (· = b.val) d.sys.bankPend }
             scrub := tabClear d.scrub (16 * b) (16 * b + 15) }
      |> wb (A.sysBankRdy (b / 32)) (b % 32) true) d) s

/-- The two-bit setting of bank b (R98). -/
def bankSet (b : Nat) (d : Dev) : Nat := rf (A.sysBankPwr (b / 16)) (2 * (b % 16) + 1) (2 * (b % 16)) d

/-- Banks whose setting other than on is refused, in RUN and DOZE (R98). -/
def bankRefused (b : Nat) (d : Dev) : Bool :=
  if b < 32 ∨ d.sys.mode ≠ .service then false
  else if b < 40 then rb A.memImgCtrl 0 d
  else if b < 42 then false
  else if b < 58 then rb (A.peCtrl (b - 42)) 0 d
  else (List.range 14).any fun p => portState p d ≠ 0

/-- A bank takes a setting (R96): off and retention make it inaccessible, off loses its contents; on brings it back
after its wake or zero fill. -/
def applyBank (b code : Nat) (d : Dev) : Dev :=
  let up := bankReady b d || decide (b ∈ d.sys.bankPend)
  if code = 1 ∨ code = 2 then
    let d := { d with sys := { d.sys with bankPend := dropIf (· = b) d.sys.bankPend } } |> bankUnready b
    if code = 2 then bankZero b d else d
  else if up then d
  else { d with sys := { d.sys with bankPend := d.sys.bankPend ++ [b] } }

/-- One field of SYS_BANK_PWR_k (R98): a refused setting stores 0b00 and sets BANK_DENY. -/
def setBankField (m k j : Nat) (v : Word) (d : Dev) : Dev :=
  let b := 16 * k + j
  let code := fld v (2 * j + 1) (2 * j)
  if 59 ≤ b then d
  else if (code = 1 ∨ code = 2) ∧ bankRefused b d then
    d |> wf (A.sysBankPwr k) (2 * j + 1) (2 * j) 0 |> raise A.sysPwrStat 7 |> applyBank b 0
  else d |> errIf (decide (code = 3)) (A.block 0) m errRsvd (A.sysBankPwr k) |> applyBank b code

/-- SYS_BANK_PWR_k (R96, R98). -/
def writeBankPwr (m k : Nat) (v : Word) (d : Dev) : Dev :=
  (List.range 16).foldl (fun d j => setBankField m k j v d) (storeReg m (A.sysBankPwr k) v d)

/-- BANK_POWER_SETTING (R98). -/
def execBankPowerSetting (m : Fin 20) (k : Fin 4) (v : Word) (s : State) : Host.Outcome State Fault Refusal :=
  onPow (writeBankPwr m k v) s

/-! ## RETAIN and OFF entry (R92) -/

/-- Everything that Dispatch holds is discarded (R234). -/
def dispatchEmpty (d : Dev) : Dev :=
  modDsp (fun q => { q with arrival := [], waiting := [], ready := [], insvc := [], orphans := [], orphaned := [],
                            used := [] }) d |> poolLevel

/-- The units stop (R92 steps 3 and 4, R234, R380, R405): lanes down, CAN off with its contents discarded, the switch's
frames and submits discarded, unstarted ones with their DISC record (R276), time bases at a stand. -/
def unitsStop (d : Dev) : Dev :=
  let d := lanesDown d
  let d := (d.swc.queues.filter fun c => !c.started).foldl (fun d c => discRecord c d) d
  let d := (List.range 4).foldl (fun d n => d |> canTwilight n |> putFifo n [] |> modCan n (fun c =>
    { c with events := [], ca := [] }) |> showCa n) d
  { d with canObjs := [], canCa := [], ntm := { d.ntm with counting := false },
           swc := { d.swc with inbound := [], cutIn := [], queues := [], submits := [], held := [] } } |> showSwc |> dispatchEmpty

/-- Each bank takes its state (R92 step 5): on acts as retention, the engine-local bank of an enabled engine is
retained, and the image restarts its count where a Twin bank is lost (R40). -/
def banksRetain (d : Dev) : Dev :=
  (List.range 59).foldl (fun d b =>
    let keep := 42 ≤ b && b < 58 && rb (A.peCtrl (b - 42)) 0 d
    if bankSet b d = 2 && !keep then bankZero b d |> bankUnready b
      |> when (decide (32 ≤ b ∧ b < 40)) (wr A.memImgCycle 0xFFFFFFFF) else bankUnready b d) d

/-- The transition ends: power state, BUSY, a wake that arrived meanwhile, the time of entry (R94, R95). -/
def entryEnd (m : Mode) (d : Dev) : Dev :=
  { d with sys := { d.sys with mode := m, trans := none, bankPend := [], entryTime := d.now,
                               retWake := d.sys.trans.bind (·.wake) } } |> wf A.sysPwrStat 4 4 0

/-- Is a transition past its last flip (R92)? -/
def entryReady (off : Bool) (d : Dev) : Bool :=
  match d.sys.trans with
  | some t => t.off == off && t.lastFlip
  | none => false

/-- RETAIN_ENTRY_COMPLETE (R92, R145): without tamper monitoring the Vault is wiped. -/
def retainEntry (d : Dev) : Dev :=
  if !entryReady false d then d
  else
    d |> unitsStop |> banksRetain |> when (!rb A.sysPwrCfg 0 d) (startWipe 3) |> entryEnd .retain
      |> wf A.sysPwrStat 2 0 0

/-- RETAIN_ENTRY_COMPLETE (R92). -/
def execRetainEntryComplete (s : State) : Host.Outcome State Fault Refusal := onDev retainEntry s

/-- OFF_ENTRY_COMPLETE (R91): every bank is off and the core domain is unpowered. -/
def offEntry (d : Dev) : Dev :=
  if !entryReady true d then d
  else
    let d := d |> unitsStop |> entryEnd .off |> wf A.sysPwrStat 2 0 0
    (List.range 59).foldl (fun d b => bankUnready b d)
      { twinVectorsClear d with mem := [], badPar := [], img := { (twinVectorsClear d).img with pages := [] } }

/-- OFF_ENTRY_COMPLETE (R91). -/
def execOffEntryComplete (s : State) : Host.Outcome State Fault Refusal := onDev offEntry s

/-! ## Wakes (R94, R95) -/

/-- A wake event, by its LAST_WAKE code (R94): in DOZE it wakes at once, in RETAIN and OFF the wake starts, during an entry
it waits for the end. Meridian activity does not wake from DOZE or OFF, a debug request not from DOZE. -/
def wakeBy (src : Nat) (d : Dev) : Dev :=
  match d.sys.trans with
  | some t =>
    if t.wake.isSome || (t.off && src = 3) then d
    else { d with sys := { d.sys with trans := some { t with wake := some src } } }
  | none =>
    if d.sys.mode = .service then
      (if inDoze d && src ≠ 3 && src ≠ 5 then d |> leaveDoze |> wf A.sysPwrStat 14 12 src else d)
    else if d.sys.retWake.isSome then d
    else if d.sys.mode = .retain || (d.sys.mode = .off && src ≠ 3) then
      { d with sys := { d.sys with retWake := some src } }
    else d

/-- WAKE_PIN (R94): WAKE_N was low for at least 1 us. -/
def execWakePin (s : State) : Host.Outcome State Fault Refusal :=
  onDev (fun d => when (rb A.sysWakeEn 0 d) (wakeBy 1) d) s

/-- CORE cycles of the wake timer (R94, R95): in OFF the RC oscillator may run 2 percent fast. -/
def wakeTimer (d : Dev) : Nat :=
  let t := (rd A.sysWakeTmr d).toNat * 400000
  if d.sys.mode = .off then t - t / 50 else t

/-- WAKE_TIMER (R94): MS after the entry completed; 0 disables the timer. -/
def execWakeTimer (s : State) : Host.Outcome State Fault Refusal :=
  onDev (fun d => when (rb A.sysWakeEn 1 d && decide (rd A.sysWakeTmr d ≠ 0) && d.sys.trans.isNone &&
    decide (d.sys.entryTime + wakeTimer d ≤ d.now)) (wakeBy 2) d) s

/-- MERIDIAN_ACTIVITY_WAKE (R94): the first edge on MRD_A_RXD. -/
def execMeridianActivityWake (s : State) : Host.Outcome State Fault Refusal :=
  onDev (fun d => when (rb A.sysWakeEn 2 d) (wakeBy 3) d) s

/-- A pending tamper trip leads to Twilight with code 0x4B after phases 1 and 2 (R490, R87). -/
def tamperPending (d : Dev) : Dev :=
  { d with sys := { d.sys with escalated := true, twCode := 0x4B } }

/-- The mailbox words and FULL flags of d, which the always-on domain holds through a wake from RETAIN (R245). -/
def keepMailboxes (d r : Dev) : Dev :=
  let r := (List.range 64).foldl (fun r n => wr (A.mbxData n) (rd (A.mbxData n) d) r) { r with mbxLast := d.mbxLast }
  r |> wr (A.mbxFull 0) (rd (A.mbxFull 0) d) |> wr (A.mbxFull 1) (rd (A.mbxFull 1) d)

/-- RETAIN_WAKE (R93 steps 1 to 3, R490): power and PLL return and every bank is accessible; the recovery sweep starts.
With TPEND set, phases 1 and 2 run instead. -/
def retainWake (d : Dev) : Dev :=
  if d.sys.mode ≠ .retain || d.sys.retWake.isNone || decide (rf A.almCrcStat 5 4 d = 3) then d
  else if rb A.secTampLog 31 d then
    let r := resetAll (wipeDone d)
    { r with sys := { Sys.reset with log := d.sys.log, logNext := d.sys.logNext }
             sec := { r.sec with defunctDue := d.sec.defunctDue } }
      |> wr A.sysRstCause (rd A.sysRstCause d) |> wr A.secTampLog (rd A.secTampLog d) |> keepMailboxes d |> tamperPending
  else
    d |> wipeDone |> wr (A.sysBankRdy 0) 0xFFFFFFFF |> wr (A.sysBankRdy 1) 0x07FFFFFF |> wf A.almCrcStat 5 4 3
      |> fun d => { d with scrub := [] }

/-- RETAIN_WAKE (R93). -/
def execRetainWake (s : State) : Host.Outcome State Fault Refusal := onDev retainWake s

/-- WAKE_FROM_OFF (R91, R94, R490): a device reset with its own cause; after a debug wake start-up ends in DOZE. -/
def wakeFromOff (d : Dev) : Dev :=
  match d.sys.retWake with
  | none => d
  | some src =>
    if d.sys.mode ≠ .off then d
    else
      let r := deviceReset 6 0 d
      let r := { r with sec := { r.sec with defunctDue := d.sec.defunctDue } }
      let r := if rb A.secTampLog 31 d then tamperPending r else r
      { r with sys := { r.sys with retWake := if src = 5 then some 5 else none } }

/-- WAKE_FROM_OFF (R91). -/
def execWakeFromOff (s : State) : Host.Outcome State Fault Refusal := onDev wakeFromOff s

/-! ## The return to service (R93 steps 4 to 6) -/

/-- Every lock is released (R93, R250). -/
def locksFree (d : Dev) : Dev := { d with locks := [] } |> wr (A.memLockHeld 0) 0 |> wr (A.memLockHeld 1) 0

/-- Enabled engines start at their entry points and the Supervisor at its own (R93, R150, R70). -/
def contextsRestart (d : Dev) : Dev :=
  let d := { d with ctxs := [], cores := [] }
  let d := (List.range 16).foldl (fun d n => if rb (A.peCtrl n) 0 d then startEngine n d else d) d
  putCtx supKey { ctxZero with state := .running, pc := 0x01000200, sr := 0x80 } d

/-- The time bases resume from their values with the next epoch (R93, R279). -/
def basesResume (d : Dev) : Dev :=
  let d := { d with ntm := { d.ntm with counting := true } }
  (List.range 4).foldl (fun d j => stepBase j { tbGet j d with epoch := ((tbGet j d).epoch + 1) % 65536, slew := 0 } d) d

/-- Every receive buffer is free again (R352, R377) and learned addresses clear (R380); a queue that failed stays so. -/
def switchWake (d : Dev) : Dev :=
  let d := { d with rings := (d.rings.filter (·.2.failed)).map fun x => (x.1, ⟨0, [], true⟩) }
  let d := (List.range 164).foldl (fun d r => showRing r d) d
  (listedAddrs d).foldl (fun d e =>
    if bit (addrWord e 1 d) 10 then d else (List.range 4).foldl (fun d w => setAddr e w 0 d) d) d

/-- The recovery sweep matched (R93, R119): the device is in RUN, and in DOZE after a debug wake. -/
def retainDone (d : Dev) : Dev :=
  let src := d.sys.retWake.getD 0
  let d := { d with sys := { d.sys with mode := .service, retWake := none } }
    |> wf A.almCrcStat 5 4 1 |> locksFree |> contextsRestart |> basesResume |> switchWake
  let d := (List.range 4).foldl (fun d n => if rb (A.canCtrl n) 31 d then canStart n d else d) d
  let d := d |> mrdStart |> pioCommit |> smpWake
  { d with img := { d.img with begun := false, due := d.now + 40000, openNow := d.now }
           dsp := { d.dsp with winStart := d.now }, saf := { d.saf with swdogStart := d.now } }
    |> wf A.sysPwrStat 14 12 src |> raise A.sysPwrStat 5 |> when (decide (src = 5)) enterDoze

end Sys2Proof.Machine
end

