-- ==== Sys2Proof/Machine/Security.lean ====
section
/-! DEFINITION. Machine/Security.lean: the fuse array (R477-R482, R486, R488), SEC_CMD and its commands (R484, R485), the
ROM gates (R483), tamper trips (R489, R490) and the TAP's boundary-scan and authentication instructions (R491-R497). -/

namespace Sys2Proof.Machine

/-! ## The fuse array: the model's numbers of its bits (R477) -/

/-- LCi. -/
def fuseLc (i : Nat) : Nat := i
/-- DEBUG_KILL. -/
def fuseKill : Nat := 5
/-- KEYS_DEAD. -/
def fuseDead : Nat := 6
/-- PROG_k. -/
def fuseProg (k : Nat) : Nat := 8 + k
/-- REV_k. -/
def fuseRev (k : Nat) : Nat := 12 + k
/-- IMGKEY_SET. -/
def fuseKeySet : Nat := 16
/-- The guard of the UID (R478). -/
def fuseUidGuard : Nat := 17
/-- Rollback fuse i. -/
def fuseRollback (i : Nat) : Nat := 64 + i
/-- Bit i of the key hash of slot k. -/
def fuseHash (k i : Nat) : Nat := 1000 + 384 * k + i
/-- Bit i of the image key. -/
def fuseKey (i : Nat) : Nat := 3000 + i
/-- Bit i of the UID. -/
def fuseUid (i : Nat) : Nat := 4000 + i

/-- Is a fuse burned? -/
def Fuses.has (f : Fuses) (i : Nat) : Bool := f.burned.contains i

/-- Burn fuses: a burned fuse stays burned. -/
def Fuses.burn (f : Fuses) (l : List Nat) : Fuses := { burned := f.burned ++ l.filter fun i => !f.has i }

/-- n fuse bits as a number. -/
def Fuses.num (f : Fuses) (n : Nat) (at_ : Nat → Nat) : Nat := maskOf n fun i => f.has (at_ i)

/-- The life-cycle state that the fuses encode (R479), as SEC_LC.STATE; 7 is invalid. -/
def Fuses.life (f : Fuses) : Nat :=
  let low := f.num 3 fuseLc
  if f.has (fuseLc 4) then 5
  else if f.has (fuseLc 3) then (if low = 1 ∨ low = 3 ∨ low = 7 then 4 else 7)
  else if low = 0 then 0 else if low = 1 then 1 else if low = 3 then 2 else if low = 7 then 3 else 7

/-- A usable slot (R479). -/
def Fuses.usable (f : Fuses) (k : Nat) : Bool := f.has (fuseProg k) && !f.has (fuseRev k)

/-- Burned rollback fuses (R488). -/
def Fuses.rollback (f : Fuses) : Nat := countOf 64 fun i => f.has (fuseRollback i)

/-- The key hash of slot k: byte 0 in the low bits (R486). -/
def Fuses.hash (f : Fuses) (k : Nat) : BitVec 384 := BitVec.ofNat 384 (f.num 384 (fuseHash k))

/-- The image key, where one exists (R487). -/
def Fuses.imageKey (f : Fuses) : Option (BitVec 256) :=
  if f.has fuseKeySet && !f.has fuseDead then some (BitVec.ofNat 256 (f.num 256 fuseKey)) else none

/-- The UID, read only where its guard is set (R478). -/
def Fuses.uid (f : Fuses) : Nat := if f.has fuseUidGuard then f.num 64 fuseUid else 0

/-- The words of the fuse table (R500): slot hashes and UID, words whose guard is clear 0. -/
def fuseTable (f : Fuses) (d : Dev) : Dev :=
  let word32 (v i : Nat) : Word := word (v >>> (32 * i))
  let d := (List.range 4).foldl (fun d k =>
    let h := if f.has (fuseProg k) then (f.hash k).toNat else 0
    (List.range 12).foldl (fun d w =>
      { d with tabs := tabSet tabsDefault d.tabs (tabKey 45 (12 * k + w)) (word32 h w) }) d) d
  (List.range 2).foldl (fun d w =>
    { d with tabs := tabSet tabsDefault d.tabs (tabKey 45 (48 + w)) (word32 f.uid w) }) d

/-- SEC_LC and the fuse table follow the fuses (R500); STATE changes only at phase 5 (R481). -/
def showFuses (f : Fuses) (d : Dev) : Dev :=
  d |> wf A.secLc 28 26 f.life |> wb A.secLc 25 (f.has fuseKill) |> wb A.secLc 24 (f.has fuseDead)
    |> wb A.secLc 23 (f.has fuseKeySet) |> wf A.secLc 22 19 (maskOf 4 f.usable) |> wf A.secLc 18 12 f.rollback
    |> fuseTable f

/-- SEC_LC and the fuse table follow fuses burned after phase 5 has read the array; before it they read 0 (R500). -/
def refreshFuses (f : Fuses) (d : Dev) : Dev := when (phase5Done d || decide (lifeState d ≠ 0)) (showFuses f) d

/-! ## SEC_CMD (R484-R486) -/

/-- Does debug have a command (R492)? -/
def debugCommand (op : Nat) (d : Dev) : Bool :=
  let st := lifeState d
  let vendor := decide (rf A.secLc 11 9 d = 3)
  lifeKnown d && !rb A.secLc 25 d &&
    (st = 0 || st = 1 || st = 4 || (st = 2 && (op = 8 || op = 7 || (op = 2 && vendor))) ||
      (st = 3 && vendor && (op = 2 || op = 8)))

/-- The fuses that a command burns, in order (R480, R485, R486); `same`: the words read back match. -/
def burnList (op arg : Nat) (same : Bool) (f : Fuses) (d : Dev) : List Nat :=
  let staged (n : Nat) (at_ : Nat → Nat) : List Nat :=
    ((List.range n).filter fun i => bit (tabGet zeroDefault d.sec.stage (i / 32)) (i % 32)).map at_
  if op = 1 then (if arg = 1 then [fuseLc 0] else if arg = 2 then [fuseLc 1] else [fuseLc 2])
  else if op = 2 then ((List.range 4).filter fun k => f.has (fuseProg k)).map fuseRev ++ [fuseDead, fuseLc 3]
  else if op = 3 then [fuseLc 4]
  else if op = 4 then staged 384 (fuseHash arg) ++ (if same then [fuseProg arg] else [])
  else if op = 5 then [fuseRev arg]
  else if op = 6 then staged 256 fuseKey ++ (if same then [fuseKeySet] else [])
  else if op = 7 then [fuseKill]
  else []

/-- Is a command permitted (R480, R485)? -/
def commandOk (m op arg : Nat) (f : Fuses) (d : Dev) : Bool :=
  let st := lifeState d
  let some1 := (List.range 4).any f.usable
  if op = 1 then (st = 0 && arg = 1 && some1) || (st = 1 && arg = 2 && some1) || (st = 2 && arg = 3)
  else if op = 2 then (st = 1 || st = 2 || st = 3) && rf A.secLc 11 9 d = 3
  else if op = 3 then decide (st ≠ 5)
  else if op = 4 then
    arg < 4 && !f.has (fuseProg arg) && !f.has (fuseRev arg) && ((List.range 384).all fun i => !f.has (fuseHash arg i)) &&
      (st = 0 || st = 1 || st = 4 || ((st = 2 || st = 3) && m = 0))
  else if op = 5 then
    arg < 4 && decide (st ≠ 5) && (st = 0 || (List.range 4).any fun j => decide (j ≠ arg) && f.usable j)
  else if op = 6 then (st = 0 || st = 1) && !f.has fuseKeySet
  else op = 7 || op = 8

/-- A life-cycle command (R480): the Vault is wiped before its first fuse. -/
def lifeCommand (op : Nat) : Bool := op = 1 || op = 2 || op = 3

/-- The staging words clear (R486). -/
def stageClear (d : Dev) : Dev := { d with sec := { d.sec with stage := [] } }

/-- Firmware returns from the SEC_COMMAND gate with a status (R483). -/
def gateReturn (status : Nat) (d : Dev) : Dev :=
  let x := getCtx supKey d
  { putCtx supKey { x.setD 4 (word status) with pc := x.lr } d with sec := { d.sec with gate := false } }

/-- The end of a command: the status bit, BUSY, the staging, and firmware that waits in the gate. -/
def commandEnd (ok : Bool) (d : Dev) : Dev :=
  let d := { d with sec := { d.sec with cmd := none } } |> stageClear |> wb A.secStat 0 false
    |> raise A.secStat (if ok then 1 else 2)
  if d.sec.gate then gateReturn (if ok then 0 else 1) d else d

/-- A command starts (R485): SESSION_END ends at once; a life-cycle command first wipes the Vault. -/
def commandStart (op arg : Nat) (d : Dev) : Dev :=
  if op = 8 then d |> endSession |> commandEnd true
  else { d with sec := { d.sec with cmd := some (op, arg) } } |> wb A.secStat 0 true |> when (lifeCommand op) (startWipe 2)

/-- SEC_CMD as taken (R485): BUSY, unlisted operations and refusals. -/
def takeCommand (m : Nat) (v : Word) (f : Fuses) (d : Dev) : Dev :=
  let op := fld v 15 12
  let arg := fld v 2 0
  let d := storeReg m A.secCmd v d
  if op = 0 ∨ 9 ≤ op then errAt (A.block 3) m errRsvd A.secCmd d
  else if rb A.secStat 0 d then raise A.secStat 2 d
  else if commandOk m op arg f d then commandStart op arg d
  else raise A.secStat 2 (stageClear d)

/-- SEC_CMD (R484, R500): from the secure Supervisor, and from debug where its rights grant the command. -/
def writeSecCmd (m : Nat) (v : Word) (f : Fuses) (d : Dev) : Dev :=
  if !((m = 0 && secureMode d) || (m = 19 && debugCommand (fld v 15 12) d)) then raise A.secStat 3 d
  else if fld v 31 16 ≠ 0x0E5C then d
  else takeCommand m v f d

/-- SEC_STAGE_w (R484): stored while staging is accepted; reads return 0. -/
def writeSecStage (m w : Nat) (v : Word) (d : Dev) : Dev :=
  let granted := (List.range 9).any fun op => debugCommand op d
  if !((m = 0 && secureMode d) || (m = 19 && granted)) then raise A.secStat 3 d
  else { d with sec := { d.sec with stage := tabSet zeroDefault d.sec.stage w v } }

/-- A SEC_CMD word with its key. -/
def secWord (op arg : Nat) : Word := word (0x0E5C0000 + atBit op 12 + arg)

/-- A write of SEC_CMD as a command of the block. -/
def secCommandBy (m : Nat) (v : Word) (s : State) : Host.Outcome State Fault Refusal := onPow (writeSecCmd m v s.fuses) s

/-- ADVANCE (R480). -/
def execSecAdvance (m : Fin 20) (target : BitVec 3) (s : State) : Host.Outcome State Fault Refusal :=
  secCommandBy m (secWord 1 target.toNat) s
/-- RETURN (R480). -/
def execSecReturn (m : Fin 20) (s : State) : Host.Outcome State Fault Refusal := secCommandBy m (secWord 2 0) s
/-- DEFUNCT (R480). -/
def execSecDefunct (m : Fin 20) (s : State) : Host.Outcome State Fault Refusal := secCommandBy m (secWord 3 0) s
/-- PROG_HASH (R486). -/
def execProgHash (m : Fin 20) (slot : BitVec 3) (s : State) : Host.Outcome State Fault Refusal :=
  secCommandBy m (secWord 4 slot.toNat) s
/-- REVOKE (R485). -/
def execSecRevoke (m : Fin 20) (slot : BitVec 3) (s : State) : Host.Outcome State Fault Refusal :=
  secCommandBy m (secWord 5 slot.toNat) s
/-- PROG_IMGKEY (R486). -/
def execProgImgkey (m : Fin 20) (s : State) : Host.Outcome State Fault Refusal := secCommandBy m (secWord 6 0) s
/-- DEBUG_KILL (R495). -/
def execDebugKill (m : Fin 20) (s : State) : Host.Outcome State Fault Refusal := secCommandBy m (secWord 7 0) s
/-- SESSION_END (R494). -/
def execSessionEnd (m : Fin 20) (s : State) : Host.Outcome State Fault Refusal := secCommandBy m (secWord 8 0) s

/-- What a finished command changes beside its fuses (R485, R494, R495): DEBUG_KILL closes debug, a life-cycle command
ends the session; words that do not read back leave the command abandoned. With the grant of DBG_ACC its hold ends (R171). -/
def commandDone (op : Nat) (same : Bool) (f : Fuses) (d : Dev) : Dev :=
  let was := dbgAccGranted d
  let d := refreshFuses f d
  let d := if op = 7 then d |> endSession |> wf A.secLc 11 9 4 else if lifeCommand op then endSession d else d
  d |> grantEnds was |> commandEnd (same || (op ≠ 4 && op ≠ 6))

/-- SEC_COMMAND_DONE (R485, R486, R481): the fuses of the running command are burned; a life-cycle command waits for the
Vault wipe. -/
def execSecCommandDone (same : Bool) (s : State) : Host.Outcome State Fault Refusal :=
  match s.dev.sec.cmd with
  | none => .next s
  | some (op, arg) =>
    if !powered s.dev || (lifeCommand op && rb A.memVaultStat 0 s.dev) then .next s
    else
      let f := s.fuses.burn (burnList op arg same s.fuses s.dev)
      .next { s with fuses := f, dev := commandDone op same f s.dev }

/-! ## ROM gates (R483) -/

/-- Firmware stands at gate g. -/
def atGate (g : Nat) (d : Dev) : Bool :=
  coreRuns 16 d && (getCtx supKey d).state = .running && !d.sec.gate && romGate (getCtx supKey d).pc.toNat = some g

/-- May the word at a Vault offset be accessed (R144, R145, R126)? -/
def vaultFail (wr : Bool) (o : Nat) (d : Dev) : Option Nat :=
  if 0x80000 ≤ o ∨ o % 4 ≠ 0 then some 0 else accessFail 0 wr true (0x07000000 + o) d

/-- A refused gate access: it is recorded where it reached the map, and D4 is 1. -/
def vaultRefused (kind : Nat) (wr : Bool) (o : Nat) (d : Dev) : Dev :=
  d |> when (decide (o < 0x80000 ∧ o % 4 = 0)) (accEvent 0 kind wr (0x07000000 + o)) |> gateReturn 1

/-- VAULT_READ (R483): D3 receives the word at Vault offset D2. -/
def vaultRead (d : Dev) : Dev :=
  let x := getCtx supKey d
  let o := (x.dr 2).toNat
  match vaultFail false o d with
  | some k => vaultRefused k false o d
  | none =>
    match badIn (0x07000000 + o) 4 d with
    | some b => d |> gateReturn 1 |> parityMismatch false 0 b
    | none => putCtx supKey (x.setD 3 (word (leNat (memBytes (0x07000000 + o) 4 d)))) d |> gateReturn 0

/-- VAULT_READ (R483). -/
def execVaultRead (s : State) : Host.Outcome State Fault Refusal := onDev (fun d => when (atGate 0 d) vaultRead d) s

/-- VAULT_WRITE (R483): the word at Vault offset D2 becomes D3. -/
def vaultWrite (d : Dev) : Dev :=
  let x := getCtx supKey d
  let o := (x.dr 2).toNat
  match vaultFail true o d with
  | some k => vaultRefused k true o d
  | none => memPut (0x07000000 + o) (leBytes 4 (x.dr 3).toNat) d |> gateReturn 0

/-- VAULT_WRITE (R483). -/
def execVaultWrite (s : State) : Host.Outcome State Fault Refusal := onDev (fun d => when (atGate 1 d) vaultWrite d) s

/-- VAULT_WIPE (R483): the gate writes MEM_VAULT_CMD. -/
def execVaultWipe (s : State) : Host.Outcome State Fault Refusal :=
  onDev (fun d => when (atGate 2 d) (fun d => writeVaultCmd 0 0x0B7E0001 d |> gateReturn 0) d) s

/-- The 12 staging words at an address of shared SRAM; none where they do not lie there, accessible and sound. -/
def stagingAt (a : Nat) (d : Dev) : Option (List Word) :=
  let inside := region a = .sram && region (a + 47) = .sram && a % 4 = 0 && banksReady a d && banksReady (a + 47) d &&
    (accessFail 0 false true a d).isNone && (badIn a 48 d).isNone
  if inside then some ((List.range 12).map fun i => word (leNat (memBytes (a + 4 * i) 4 d))) else none

/-- SEC_COMMAND (R483): D2 is the SEC_CMD word, D3 the address of its staging; the gate waits for the end. -/
def secGate (f : Fuses) (d : Dev) : Dev :=
  let x := getCtx supKey d
  let v := x.dr 2
  let op := fld v 15 12
  let needs : Bool := op = 4 || op = 6
  if rb A.secStat 0 d then d |> raise A.secStat 2 |> gateReturn 2
  else if fld v 31 16 ≠ 0x0E5C || op = 0 || 9 ≤ op || !commandOk 0 op (fld v 2 0) f d then
    d |> raise A.secStat 2 |> gateReturn 1
  else match needs, stagingAt (x.dr 3).toNat d with
    | true, none => d |> raise A.secStat 2 |> gateReturn 1
    | true, some l =>
      let d := (l.zipIdx).foldl (fun d p => writeSecStage 0 p.2 p.1 d) d
      writeSecCmd 0 v f { d with sec := { d.sec with gate := true } }
    | false, _ => writeSecCmd 0 v f { d with sec := { d.sec with gate := true } }

/-- SEC_COMMAND (R483). -/
def execSecCommand (s : State) : Host.Outcome State Fault Refusal :=
  onDev (fun d => when (atGate 3 d) (secGate s.fuses) d) s

/-! ## Tamper (R489, R490) -/

/-- Is source k watched now (R489)? -/
def tamperWatched (k : Nat) (d : Dev) : Bool :=
  rb (A.secTampCfg k) 31 d &&
    (monitored d || ((k < 4 || k = 6) && (d.sys.mode = .off || (d.sys.mode = .retain && rb A.sysPwrCfg 0 d))))

/-- ACT of source k; 0b11 acts as 0b01 (R490). -/
def tamperAct (k : Nat) (d : Dev) : Nat := let a := rf (A.secTampCfg k) 29 28 d; if a = 3 then 1 else a

/-- The DEFUNCT transition that a trip starts (R490): its wipe comes before its fuses (R145). -/
def tamperDefunct (d : Dev) : Dev :=
  { d with sec := { d.sec with cmd := some (3, 0), defunctDue := false } } |> wb A.secStat 0 true |> startWipe 2

/-- What a trip does by power state and ACT (R490, R80, R499); in the wake sequence from RETAIN it is a fault (R470). With ACT 0b00 it wakes from DOZE, and during an entry the
wake waits for the end (R94, R95). -/
def tamperActs (k : Nat) (d : Dev) : Dev :=
  let act := tamperAct k d
  if d.sys.mode = .startup then startupFail 0x4B d |> when (decide (act = 2)) tamperDefunct
  else if monitored d then
    if act = 0 then when (rb A.sysWakeEn 3 d) (wakeBy 4) d else d |> report 0x4B 0xFF 0 0 |> when (decide (act = 2)) tamperDefunct
  else
    let d := if act = 0 then d else
      { d with sec := { d.sec with defunctDue := d.sec.defunctDue || decide (act = 2) } } |> wb A.secTampLog 31 true
    d |> when (rb A.sysWakeEn 3 d) (wakeBy 4)

/-- A tamper trip (R490, R494, R499): wipe, session end, log; a running command is abandoned with the fuses begun. -/
def tamperTrip (k : Nat) (f : Fuses) (d : Dev) : Dev :=
  let d := d |> refreshFuses f |> grantEnds (dbgAccGranted d) |> startWipe 1 |> endSession |> wf A.secTampLog 30 28 k |> incrSat A.secTampLog 15 0
    |> raise A.secStat 4
  let d := if d.sec.cmd.isSome then commandEnd false d else d
  tamperActs k d

/-- TAMPER_TRIP (R490): `burned` fuses of a running command are burned already. -/
def execTamperTrip (k : Fin 7) (burned : BitVec 10) (s : State) : Host.Outcome State Fault Refusal :=
  if !tamperWatched k s.dev then .next s
  else
    let l := match s.dev.sec.cmd with
      | some (op, arg) => if lifeCommand op && rb A.memVaultStat 0 s.dev then []
                          else (burnList op arg true s.fuses s.dev).take burned.toNat
      | none => []
    let f := s.fuses.burn l
    .next { s with fuses := f, dev := tamperTrip k f s.dev }

/-! ## The TAP (R491, R496, R497) -/

/-- A TAP instruction: its code, what the data register captures, and what drives the pins from the boundary cells. -/
def tapSelect (code drive : Nat) (dr : List Byte) (d : Dev) : Dev :=
  { d with sec := { d.sec with ir := code, drive := drive, dr := dr } }

/-- BYPASS: one bit, captured 0. -/
def tapBypass (code : Nat) (d : Dev) : Dev := tapSelect code 0 [0] d

/-- Boundary scan is reached in RUN, DOZE and Twilight (R497); it drives pins in Twilight only (R496). -/
def boundary (code drive : Nat) (cells : Option (List Byte)) (levels : List Byte) (d : Dev) : Dev :=
  if !powered d then tapBypass code d
  else
    let d := tapSelect code (if d.sys.mode = .twilight then drive else 0) levels d
    match cells with
    | some c => { d with sec := { d.sec with bsr := c } }
    | none => d

/-- EXTEST (R496): the boundary cells drive the pins where permitted. -/
def execTapExtest (cells levels : List Byte) (s : State) : Host.Outcome State Fault Refusal :=
  onDev (boundary 0x00 1 (some cells) levels) s
/-- SAMPLE/PRELOAD (R491): the pin levels are captured and the cells loaded. -/
def execTapSamplePreload (cells levels : List Byte) (s : State) : Host.Outcome State Fault Refusal :=
  onDev (boundary 0x02 0 (some cells) levels) s
/-- HIGHZ (R496). -/
def execTapHighz (levels : List Byte) (s : State) : Host.Outcome State Fault Refusal :=
  onDev (fun d => boundary 0x03 2 none (if d.sys.mode = .twilight then [0] else levels) d) s
/-- CLAMP (R496). -/
def execTapClamp (levels : List Byte) (s : State) : Host.Outcome State Fault Refusal :=
  onDev (fun d => boundary 0x04 3 none (if d.sys.mode = .twilight then [0] else levels) d) s
/-- IDCODE (R491). -/
def execTapIdcode (s : State) : Host.Outcome State Fault Refusal := onDev (tapSelect 0x01 0 (leBytes 4 0x141609C3)) s
/-- BYPASS (R491). -/
def execTapBypass (s : State) : Host.Outcome State Fault Refusal := onDev (tapBypass 0x3F) s

/-- Debug instructions are reached at all (R492, R497). -/
def debugReached (d : Dev) : Bool := powered d && lifeKnown d && !rb A.secLc 25 d

/-- DBG_TEST (R106, R492): in BLANK a write changes the LIVE bits of a register. -/
def dbgTest (a : Nat) (v : Word) (d : Dev) : Dev :=
  if !debugReached d || decide (lifeState d ≠ 0) then tapBypass 0x12 d
  else
    let d := tapSelect 0x12 0 [] d
    match regAt a with
    | some (_, r, _) => wr a ((rd a d &&& ~~~(word r.live)) ||| (v &&& word r.live)) d
    | none => unmappedReg 19 a d

/-- DBG_TEST (R106). -/
def execDbgTest (a v : Word) (s : State) : Host.Outcome State Fault Refusal := onDev (dbgTest a.toNat v) s

/-- DBG_WAKE (R94, R492, R499): in DEVELOP, from RETAIN or OFF. -/
def dbgWake (d : Dev) : Dev :=
  if rb A.secLc 25 d || decide (lifeState d ≠ 1) then tapBypass 0x13 d
  else tapSelect 0x13 0 [] d |> when (rb A.sysWakeEn 4 d) (wakeBy 5)

/-- DBG_WAKE (R94). -/
def execDbgWake (s : State) : Host.Outcome State Fault Refusal := onDev dbgWake s

/-! ## Authentication (R493) -/

/-- The challenge bytes (R493). -/
def challengeBytes (f : Fuses) (d : Dev) : List Byte :=
  leBytes 2 0x4160 ++ [0xA1, BitVec.ofNat 8 d.sec.purpose] ++ leBytes 8 f.uid ++
    [BitVec.ofNat 8 (lifeState d), BitVec.ofNat 8 (maskOf 4 f.usable), 0, 0] ++
    leBytes 32 (Config.nonce d.sec.nonces).toNat

/-- A response fails (R493): AUTH_FAIL; the third in a row locks authentication. -/
def authFail (d : Dev) : Dev :=
  let n := d.sec.fails + 1
  { d with sec := { d.sec with fails := n, challenge := none, response := none } } |> raise A.secStat 6
    |> when (decide (3 ≤ n)) (wb A.secStat 7 true)

/-- DBG_AUTH_CAPTURE (R493, R499): a new challenge; a response under verification fails. -/
def authCapture (f : Fuses) (d : Dev) : Dev :=
  if !debugReached d then tapBypass 0x11 d
  else
    let d := if d.sec.response.isSome then authFail d else d
    let c := challengeBytes f d
    let d := tapSelect 0x11 0 (slice c 0 196) d
    { d with sec := { d.sec with challenge := some (c, d.now), nonces := d.sec.nonces + 1 } }

/-- DBG_AUTH_CAPTURE (R493). -/
def execDbgAuthCapture (s : State) : Host.Outcome State Fault Refusal := onDev (authCapture s.fuses) s

/-- DBG_AUTH_RESPONSE (R493): a full response answers the open challenge, within 10 s of its capture; with none pending,
any other Update-DR selects PURPOSE by its bit 0. -/
def authResponse (bs : List Byte) (d : Dev) : Dev :=
  if !debugReached d then tapBypass 0x11 d
  else if d.sec.response.isSome then d
  else match d.sec.challenge, decide (bs.length = 196) with
    | some (_, t), true =>
      if t + 4000000000 < d.now then authFail d else { d with sec := { d.sec with response := some bs } }
    | _, _ => { d with sec := { d.sec with purpose := if ((bs.getD 0 0).toNat) % 2 = 1 then 1 else 2 } }

/-- DBG_AUTH_RESPONSE (R493). -/
def execDbgAuthResponse (bs : List Byte) (s : State) : Host.Outcome State Fault Refusal := onDev (authResponse bs) s

/-- Does a response pass (R493)? The session key must hash to the usable slot named, the vendor key to the hash in ROM. -/
def authPasses (f : Fuses) (c bs : List Byte) (d : Dev) : Bool :=
  let slot := (bs.getD 0 0).toNat
  let key := slice bs 4 96
  let h := Config.sha384 key
  let purpose := (c.getD 3 0).toNat
  let keyOk := if purpose = 1 then decide (slot < 4) && f.usable slot && h = f.hash slot && decide (lifeState d ≠ 3)
    else slot = 0xFF && h = Config.vendorKeyHash && (lifeState d = 1 || lifeState d = 2 || lifeState d = 3)
  keyOk && !rb A.secStat 7 d && Config.ecdsaVerify (Config.sha384 c) key (slice bs 100 96)

/-- AUTH_VERIFY_DONE (R493): a pass opens the session. -/
def authVerify (f : Fuses) (d : Dev) : Dev :=
  match d.sec.challenge, d.sec.response with
  | some (c, _), some bs =>
    if !powered d then d
    else if authPasses f c bs d then
      { d with sec := { d.sec with fails := 0, challenge := none, response := none } }
        |> wf A.secLc 11 9 (if (c.getD 3 0).toNat = 1 then 2 else 3) |> raise A.secStat 5
    else authFail d
  | _, _ => d

/-- AUTH_VERIFY_DONE (R493). -/
def execAuthVerifyDone (s : State) : Host.Outcome State Fault Refusal := onDev (authVerify s.fuses) s

/-- SEC_STATE (R500). -/
def secStateWord (d : Dev) : Word :=
  word (atBit (rf A.secLc 31 29 d) 29 + atBit (rf A.secLc 11 9 d) 26 + atBit (rf A.secTampLog 31 31 d) 25)

end Sys2Proof.Machine
end

