-- ==== Sys2Proof/Machine/Tables.lean ====
section
/-! DEFINITION. Machine/Tables.lean: the tables behind the IND pairs and the pairs themselves (R111-R115, R541): what each
word's fields are, what a write does, and the fetch that BUSY covers. -/

namespace Sys2Proof.Machine

/-! ## Which table an index reaches -/

/-- The table select of an IND_ADDR word (R111): MRD bits 17:16, SWC bits 18:16, CAN bit 16. -/
def indSel (a : Nat) (w : Word) : Nat :=
  if a = A.mrdIndAddr then fld w 17 16 else if a = A.swcIndAddr then fld w 18 16
  else if inWindow a && decide (0x18 ≤ (a - 0x10000000) / 65536 ∧ (a - 0x10000000) / 65536 ≤ 0x1B) then fld w 16 16 else 0

/-- Is an address that of an IND_ADDR register? -/
def isIndAddr (a : Nat) : Bool :=
  a = A.memImgIndAddr || a = A.schFlowIndAddr || a = A.mrdIndAddr || a = A.swcIndAddr || a = A.pioPinIndAddr ||
  a = A.loopIndAddr || a = A.secFuseIndAddr || ((List.range 16).any fun n => a = A.peXdecIndAddr n) ||
  ((List.range 10).any fun p => a = A.ethRuleIndAddr p) || ((List.range 4).any fun n => a = A.canIndAddr n)

/-- Is an address that of an IND_DATA register: IND_ADDR + 4 (R60)? -/
def isIndData (a : Nat) : Bool := 4 ≤ a && isIndAddr (a - 4)

/-- Table and word that an index reaches through the pair at a with select sel; none beyond the table (R112). -/
def tableAt (a sel i : Nat) : Option (Nat × Nat) :=
  let upTo (t n : Nat) : Option (Nat × Nat) := if i < n then some (t, i) else none
  if a = A.memImgIndAddr then upTo 0 16384
  else if a = A.schFlowIndAddr then upTo 17 16384
  else if a = A.mrdIndAddr then
    (if sel = 1 then upTo 19 8192 else if sel = 2 then upTo 20 1023
     else if i % 0x800 < 0x410 then upTo 18 16384 else none)
  else if a = A.swcIndAddr then
    (if sel = 1 then some (31, 16384 + i) else if sel = 2 then upTo 32 4096 else if sel = 3 then upTo 33 4096
     else if sel = 4 then upTo 34 2560 else some (31, i))
  else if a = A.pioPinIndAddr then upTo 43 128
  else if a = A.loopIndAddr then upTo 44 1024
  else if a = A.secFuseIndAddr then upTo 45 50
  else if inPeRegs a then upTo (1 + (a - 0x08000000) / 0x40000) 16
  else
    let b := (a - 0x10000000) / 65536
    if 0xC ≤ b ∧ b ≤ 0x15 then upTo (21 + (b - 0xC)) 256
    else if 0x18 ≤ b ∧ b ≤ 0x1B then (if sel = 1 then upTo (39 + (b - 0x18)) 16 else upTo (35 + (b - 0x18)) 512)
    else none

/-! ## Fields of a table word -/

/-- RWL bits of word i of table t. -/
def tabRwl (t i : Nat) : Nat :=
  if t = 17 then (if i % 4 = 3 then 0 else 0xFFFFFFFF)
  else if t = 44 then (if i % 16 = 0 then 0xE0FFFFFF else if i % 16 = 1 then 0xFFFFFFFF else 0)
  else if t = 20 ∨ (31 ≤ t ∧ t ≤ 34) ∨ 45 ≤ t then 0
  else 0xFFFFFFFF

/-- RW bits of word i of table t. -/
def tabRw (t i : Nat) : Nat :=
  if t = 31 then (if i % 4 = 3 then 0 else 0xFFFFFFFF)
  else if t = 32 then (if i % 8 < 6 then 0xFFFFFFFF else 0)
  else if t = 33 ∨ t = 34 then 0xFFFFFFFF
  else if t = 44 then (if i % 16 = 0 then 0x1F000000 else if 2 ≤ i % 16 ∧ i % 16 ≤ 9 then 0xFFFFFFFF else 0)
  else 0

/-- Bits of word i of table t that must be written 0. -/
def tabMbz (t i : Nat) : Nat :=
  if t = 0 then 0x7FFF
  else if t ≤ 16 then 0x7FFFF000
  else if t = 17 then (if i % 4 = 0 then 0x000F0000 else if i % 4 = 1 then 0xF000 else if i % 4 = 2 then 0xFFFFFFC0 else 0)
  else if t = 18 then
    let w := i % 0x800
    if w < 16 then (if w = 0 then 0x00380000 else if w = 1 then 0x01F80000 else if w < 4 then 0 else 0xFFFFFFFF)
    else if w % 4 = 1 then 7 else if w % 4 = 2 then 0x03FFFC00 else if w % 4 = 3 then 0xFFFFFFFF else 0
  else if t = 19 then 0x3C000000
  else if 21 ≤ t ∧ t ≤ 30 then
    (if i % 4 = 0 then 0x1000FFFF else if i % 4 = 1 then 0xF000F000 else if i % 4 = 3 then 0xFFFFFFFF else 0)
  else if t = 31 then (if i % 4 = 1 then 0x3FF else if i % 4 = 2 then 0xFFFFC000 else 0)
  else if t = 32 then
    (if i % 8 = 1 then 1 else if i % 8 = 2 then 0x007FC000 else if i % 8 = 3 then 0xFFFFC000
     else if i % 8 = 4 then 0xFF000000 else if i % 8 = 5 then 0xFFF00000 else 0)
  else if 35 ≤ t ∧ t ≤ 38 then (if i % 2 = 0 then 0x20000000 else 0x3FFFF000)
  else if 39 ≤ t ∧ t ≤ 42 then (if i % 2 = 0 then 0 else 0x70000000)
  else if t = 43 then 0xFFFFFF03
  else if t = 44 then (if i % 16 = 0 then 0x00FFC000 else if i % 16 = 1 then 0x4000 else 0)
  else 0

/-- Fields of word i of table t with reserved encodings, with their legal ranges (R115). -/
def tabEnc (t i : Nat) : List (Nat × Nat × List (Nat × Nat)) :=
  if t = 0 then [(31, 28, [(0, 7)])]
  else if t = 17 then
    (if i % 4 = 0 then [(30, 29, [(0, 2)]), (23, 20, [(0, 4)])] else if i % 4 = 2 then [(5, 0, [(1, 63)])] else [])
  else if t = 18 then (if 16 ≤ i % 0x800 ∧ i % 4 = 1 then [(25, 24, [(1, 3)]), (22, 20, [(0, 1)]), (5, 3, [(0, 6)])] else [])
  else if 21 ≤ t ∧ t ≤ 30 then (if i % 4 = 0 then [(23, 22, [(0, 2)])] else [])
  else if t = 32 then (if i % 8 = 2 then [(30, 29, [(0, 2)])] else [])
  else if t = 34 then [(23, 0, [(1, 0xFFFFFF)])]
  else if t = 43 then [(7, 6, [(0, 2)]), (5, 4, [(0, 2)])]
  else []

/-- Encodings whose meaning depends on other words: MODE of an own slot (R296), RATE of a limiter (R453). -/
def tabEncMore (t i : Nat) (v : Word) (d : Dev) : Bool :=
  if t = 19 then
    match slotOf (i / 0x400) (i % 0x400) d with
    | some x => x.owner = ownNode d && 2 ≤ fld v 31 30
    | none => false
  else if t = 44 then i % 16 = 3 && fld (loopWord (i / 16) 0 d) 30 29 = 3 && v.msb
  else false

/-! ## Reads -/

/-- The word at an index as it stands (R541): WAITING, INSVC and DROPS of a flow are computed. -/
def tabRead (t i : Nat) (d : Dev) : Word :=
  if t = 17 ∧ i % 4 = 3 then flowStatus (i / 4) d else tabGet tabsDefault d.tabs (tabKey t i)

/-- Configuration parity of a table word, checked at the read (R116): the fault names IND_DATA and the IND_ADDR word with
AINC 0 (R476). -/
def tabParity (a sel i t j : Nat) (d : Dev) : Dev :=
  match unitOf a with
  | some u => useTab u.code (a + 4) (sel * 65536 + i) t j d
  | none => d

/-! ## Writes -/

/-- Store word i of table t. -/
def tabPut (t i : Nat) (v : Word) (d : Dev) : Dev := { d with tabs := tabSet tabsDefault d.tabs (tabKey t i) v }

/-- The word held for an uncommitted switch entry, else the committed one (R364). -/
def heldWord (t i : Nat) (d : Dev) : Word := (tabFind d.swc.held (tabKey t i)).getD (tabRead t i d)

/-- Words lo .. lo + n - 1 of a switch entry commit together (R364). -/
def swcCommit (t lo n : Nat) (d : Dev) : Dev :=
  let d' := (List.range n).foldl (fun e i => tabPut t (lo + i) (heldWord t (lo + i) d) e) d
  modSwc (fun s => { s with held := tabClear s.held (tabKey t lo) (tabKey t (lo + n - 1)) }) d'
    |> incr A.swcGen 31 0

/-- A write of a switch table word (R362-R365): held until the entry's last word. -/
def swcWrite (t i : Nat) (v : Word) (d : Dev) : Dev :=
  let hold := modSwc (fun s => { s with held := tabInsert s.held (tabKey t i) v }) d
  if t = 31 then (if i % 4 = 2 then swcCommit 31 (i - 2) 3 hold else if i % 4 = 3 then d else hold)
  else if t = 33 then swcCommit 33 i 1 hold
  else if i % 8 = 5 then
    let e := i / 8
    let d := swcCommit 32 (i - 5) 6 hold
    putBucket e (fld (streamWord e 5 d) 19 0 * secCycles) d
  else if i % 8 < 5 then hold
  else if i % 8 = 7 ∧ v = 0 then setStream (i / 8) 7 0 d
  else d

/-- A write of a gate-list word (R371, R373): the operating bank, and the admin bank while a change waits, discard it
with GCL_BUSY. -/
def gateListWrite (i : Nat) (v : Word) (d : Dev) : Dev :=
  let p := i / 256
  let st := A.swcGate p 0x14
  if decide (i / 128 % 2 = rf st 14 14 d) || rb st 15 d then raise A.swcStat 6 d else tabPut 34 i v d

/-- A write of a loop word (R449, R450): before commit it reaches the values in force too. -/
def loopTabWrite (i : Nat) (v : Word) (d : Dev) : Dev :=
  let d := tabPut 44 i v d
  if committed d then d else tabPut 46 i v d

/-- A write to word i of table t by master m (R114, R115): the word stored, and LOCK_WR or RSVD_ENC in the unit's
header at `base` for the access to address a. -/
def tabWrite (base m a t i : Nat) (v : Word) (d : Dev) : Dev :=
  let cur := heldWord t i d
  let lock := committed d
  let rwl := tabRwl t i
  let openBits := tabRw t i ||| (if lock then 0 else rwl)
  let new := writtenWord (tabRw t i) rwl (tabMbz t i) lock cur v
  let lk := lock && decide (((v ^^^ cur) &&& word rwl) ≠ 0)
  let rs := decide ((v &&& word (tabMbz t i &&& openBits)) ≠ 0) ||
    ((tabEnc t i).any fun e => encBad v e && decide (encMask e &&& openBits ≠ 0)) ||
    (decide (openBits ≠ 0) && tabEncMore t i v d)
  let discarded := t = 20 || t = 45 || (t = 44 && 10 ≤ i % 16)
  if discarded then errAt base m errLock a d
  else if t = 17 && i % 4 = 3 then d
  else
    let d := { d with badCfg := dropIf (· = 2 ^ 32 + tabKey t i) d.badCfg }
    let d := if t = 31 || t = 33 then swcWrite t i new d
      else if t = 32 then swcWrite t i (if i % 8 < 6 then new else v) d
      else if t = 34 then gateListWrite i new d
      else if t = 44 then loopTabWrite i new d
      else tabPut t i new d
    d |> errIf lk base m errLock a |> errIf rs base m errRsvd a

/-! ## The pairs (R112) -/

/-- What an unlisted pair reads as. -/
def indDefault (_ : Nat) : Ind := ⟨0, false⟩
/-- The pair whose IND_ADDR is at a. -/
def getInd (a : Nat) (d : Dev) : Ind := tabGet indDefault d.inds a
/-- Replace a pair. -/
def putInd (a : Nat) (x : Ind) (d : Dev) : Dev := { d with inds := tabSet indDefault d.inds a x }

/-- The index reached by the pair at a. -/
def indIndex (a : Nat) (d : Dev) : Nat := rf a 13 0 d

/-- A transfer completes (R112, R541): the word at INDEX is fetched whole and BUSY clears. -/
def indComplete (a : Nat) (d : Dev) : Dev :=
  if !(getInd a d).busy then d
  else
    let sel := indSel a (rd a d)
    match tableAt a sel (indIndex a d) with
    | some (t, i) => d |> putInd a ⟨tabRead t i d, false⟩ |> tabParity a sel (indIndex a d) t i
    | none => putInd a ⟨0, false⟩ d

/-- A transfer begins: BUSY. -/
def indStart (a : Nat) (d : Dev) : Dev := putInd a { getInd a d with busy := true } d

/-- AINC is added to INDEX (R111, R112): it wraps past 0x3FFF. -/
def indStep (a : Nat) (d : Dev) : Dev :=
  let c := rf a 15 14 d
  wf a 13 0 (indIndex a d + (if c = 1 then 1 else if c = 2 then 4 else 0)) d

/-- The header address of the unit that holds a register. -/
def unitBase (a : Nat) : Nat := match unitOf a with | some u => u.base | none => A.block 0

/-- A write of IND_ADDR (R112): a transfer in progress completes first; AINC 0b11 and unlisted table selects are
reserved. -/
def writeIndAddr (m a : Nat) (v : Word) (d : Dev) : Dev :=
  let rs := fld v 15 14 = 3 || (a = A.mrdIndAddr && indSel a v = 3) || (a = A.swcIndAddr && 5 ≤ indSel a v)
  d |> indComplete a |> storeReg m a v |> errIf rs (unitBase a) m errRsvd a |> indStart a

/-- A read of IND_DATA (R112, R105): a word under way is awaited; the debug master's read leaves everything. -/
def readIndData (m a : Nat) (d : Dev) : Word × Dev :=
  let d := indComplete a d
  let w := (getInd a d).word
  if m = 19 then (w, d)
  else
    let out := (tableAt a (indSel a (rd a d)) (indIndex a d)).isNone
    (if out then 0 else w, d |> errIf out (unitBase a) m errRange (a + 4) |> indStep a |> indStart a)

/-- A write of IND_DATA (R112). -/
def writeIndData (m a : Nat) (v : Word) (d : Dev) : Dev :=
  if (getInd a d).busy then errAt (unitBase a) m errBusy (a + 4) d
  else
    let d := match tableAt a (indSel a (rd a d)) (indIndex a d) with
      | some (t, i) => tabWrite (unitBase a) m (a + 4) t i v d
      | none => errAt (unitBase a) m errRange (a + 4) d
    d |> indStep a |> indStart a

/-- IND_ADDR_WRITE (R112). -/
def execIndAddrWrite (m : Fin 20) (a v : Word) (s : State) : Host.Outcome State Fault Refusal :=
  onDev (fun d => when (powered d && isIndAddr a.toNat) (writeIndAddr m a.toNat v) d) s

/-- IND_DATA_READ (R112). -/
def execIndDataRead (m : Fin 20) (a : Word) (s : State) : Host.Outcome State Fault Refusal :=
  onDev (fun d => when (powered d && isIndData a.toNat) (fun d =>
    let p := readIndData m (a.toNat - 4) d; giveRead m p.1 p.2) d) s

/-- IND_DATA_WRITE (R112). -/
def execIndDataWrite (m : Fin 20) (a v : Word) (s : State) : Host.Outcome State Fault Refusal :=
  onDev (fun d => when (powered d && isIndData a.toNat) (writeIndData m (a.toNat - 4) v) d) s

/-- IND_FETCH_DONE (R112): the transfer of the pair at a completes. -/
def execIndFetchDone (a : Word) (s : State) : Host.Outcome State Fault Refusal :=
  onDev (fun d => when (powered d) (indComplete a.toNat) d) s

end Sys2Proof.Machine
end

