-- ==== Sys2Proof/Machine/Loader.lean ====
section
/-! DEFINITION. Machine/Loader.lean: the slot headers and the fallback (R51-R57, R65, R67), the configuration CRC and the
commit (R69, R117-R120). -/

namespace Sys2Proof.Machine

/-! ## Phases (R41, R43) -/

/-- A line on DIAG_TXD, ended by CR and LF (R43, R78). -/
def diagOut (line : String) (d : Dev) : Dev := { d with out := d.out ++ [.diag (line ++ "\r\n")] }

/-- A phase starts (R43): PHASE and the message. -/
def enterPhase (n : Nat) (msg : String) (step : BootStep) (d : Dev) : Dev :=
  { d with boot := { d.boot with step := step } } |> wf A.almBootStat 27 24 n |> diagOut msg

/-! ## Headers (R56) -/

/-- The field of n bytes at an offset of a header. -/
def hdrNat (h : List Byte) (o n : Nat) : Nat := leNat (slice h o n)

/-- MAGIC is right. -/
def magicOk (h : List Byte) : Bool := slice h 0 4 = [0x45, 0x4C, 0x56, 0x41]

/-- HDR_CRC is right. -/
def hdrCrcOk (h : List Byte) : Bool := crc32c (slice h 0 0x3C) = hdrNat h 0x3C 4

/-- IMG_LEN. -/
def imgLen (h : List Byte) : Nat := hdrNat h 8 4

/-- A well-formed header (R52). -/
def wellFormedHdr (h : List Byte) : Bool := magicOk h && hdrNat h 4 2 = 1 && hdrCrcOk h

/-- NODE_ID fits ROLE (R56). -/
def nodeFits (h : List Byte) : Bool :=
  if hdrNat h 0x0E 1 = 1 then 1 ≤ hdrNat h 0x0F 1 && hdrNat h 0x0F 1 ≤ 31 else hdrNat h 0x0F 1 = 0

/-- Header checks 0x11 to 0x16, in order (R67); 0 where all pass. -/
def hdrFormat (h : List Byte) (d : Dev) : Nat :=
  if !magicOk h then 0x11
  else if !hdrCrcOk h then 0x12
  else if hdrNat h 4 2 ≠ 1 ∨ hdrNat h 6 2 ≠ 0x40 then 0x13
  else if imgLen h < 512 ∨ 8388608 < imgLen h ∨ imgLen h % 4 ≠ 0 then 0x14
  else if hdrNat h 0x0E 1 ≠ role d then 0x15
  else if !nodeFits h then 0x16
  else 0

/-- KEY_IDX names a usable slot, by SEC_LC (R64, R479, R500). -/
def keySlotOk (h : List Byte) (d : Dev) : Bool :=
  lifeState d = 0 || (hdrNat h 0x14 1 < 4 && rb A.secLc (19 + hdrNat h 0x14 1) d)

/-- ROLLBACK fails (R65): above 64, or below the burned fuses where they count. -/
def rollbackBad (always : Bool) (h : List Byte) (d : Dev) : Bool :=
  decide (64 < hdrNat h 0x0C 2) ||
    ((always || lifeState d = 2 || lifeState d = 3) && decide (hdrNat h 0x0C 2 < rf A.secLc 18 12 d))

/-- The key hash of slot k as the fuse table holds it (R500): byte 0 in the low bits. -/
def slotHash (k : Nat) (d : Dev) : BitVec 384 :=
  BitVec.ofNat 384 ((List.range 12).foldl (fun n w =>
    n + (tabGet tabsDefault d.tabs (tabKey 45 (12 * k + w))).toNat * 2 ^ (32 * w)) 0)

/-- The public key X, Y is accepted (R64): any in BLANK, else one whose hash is that of the usable slot KEY_IDX. -/
def imageKeyOk (h key : List Byte) (d : Dev) : Bool :=
  lifeState d = 0 || (keySlotOk h d && Config.sha384 key = slotHash (hdrNat h 0x14 1) d)

/-- The checks of stage 6a on a slot's header and on the public key at its end (R67); 0 where all pass. -/
def headerCode (h key : List Byte) (d : Dev) : Nat :=
  let c := hdrFormat h d
  if c ≠ 0 then c
  else if !imageKeyOk h key d then 0x18
  else if rollbackBad false h d then 0x17
  else 0

/-! ## The fallback (R53, R54) -/

/-- Registers that the unit reset of R53 leaves: SYS, ALM, SEC, MEM_VAULT_STAT, and the mailbox words and flags (R245). -/
def unitResetKeeps (a : Nat) : Bool :=
  (0x10000000 ≤ a && a < 0x10020000) || (0x10030000 ≤ a && a < 0x10040000) || a = A.memVaultStat ||
    (A.mbxFull 0 ≤ a && a ≤ A.mbxData 63)

/-- The unit reset of R53: every unit but the Supervisor and the always-on domain; the banks of the failed slot are
zero-filled, and their scrub starts at row 0 (R141). -/
def unitReset (d : Dev) : Dev :=
  let z := Dev.reset
  let u := { d with
    regs := d.regs.filter fun e => unitResetKeeps e.1
    wraps := d.wraps.filter fun e => unitResetKeeps e.1
    tabs := d.tabs.filter fun e => e.1 / 65536 = 45
    inds := [], badCfg := []
    img := { z.img with pages := d.img.pages }
    ctxs := [], cores := [], dsp := z.dsp, locks := [], ntm := { z.ntm with counting := d.ntm.counting }
    mrd := z.mrd, eths := [], rings := [], swc := z.swc, cans := [], canObjs := [], canCa := [], pios := []
    pins := z.pins, sds := [], ccs := [], smpStart := 0, loop := z.loop, hst := { z.hst with perst := d.hst.perst } }
  d.boot.banks.foldl (fun d b => { bankZero b d with scrub := tabClear d.scrub (16 * b) (16 * b + 15) }) { u with boot := { u.boot with banks := [] } }

/-- The image of the slot in use is read next (6b). -/
def startImage (d : Dev) : Dev :=
  enterPhase 6 "P6B" .image { d with boot := { d.boot with cursor := 0x40, index := 0, encEnd := 0, rack := 0xFFFFFFFF,
                                                           rackAny := false, claims := [] } }

/-- The second slot fails too (R53): Twilight with the first slot's code. -/
def secondFail (code : Nat) (d : Dev) : Dev :=
  d |> wf A.almBootStat 15 8 code |> startupFail (rf A.almBootStat 23 16 d)

/-- The other slot is tried (R53). -/
def trySecond (d : Dev) : Dev :=
  let b := d.boot
  let d := { d with boot := { b with slot := !b.slot, second := true, hdr := b.hdrOther, hdrOther := b.hdr, key := b.keyOther, keyOther := b.key } }
    |> wb A.almBootStat 30 true |> wb A.almBootStat 29 (!b.slot) |> enterPhase 6 "P6A" .flash
  let c := if b.otherFails ≠ 0 then b.otherFails else headerCode d.boot.hdr d.boot.key d
  if c ≠ 0 then secondFail c d else startImage d

/-- A slot fails (R53, R54). -/
def slotFail (code : Nat) (d : Dev) : Dev :=
  if d.boot.second then secondFail code d
  else
    let d := wf A.almBootStat 23 16 code d
    if code < 0x10 ∨ 0x30 < code then startupFail code d
    else if d.boot.step = .apply then trySecond (unitReset d)
    else trySecond d

/-! ## The configuration CRC (R117, R118) -/

/-- The RWL bits of the registers of a block, in ascending offset. -/
def blockWords (base span : Nat) (rows : List Row) (d : Dev) : List Word :=
  (List.range (span / 4)).filterMap fun j =>
    (rowFind rows (4 * j)).map fun p => rd (base + 4 * j) d &&& word p.1.rwl

/-- The RWL bits of n words of a table from word lo on. -/
def tableSpan (t lo n : Nat) (d : Dev) : List Word :=
  (List.range n).map fun i => tabGet tabsDefault d.tabs (tabKey t (lo + i)) &&& word (tabRwl t (lo + i))

/-- The RWL bits of the words 0 to n - 1 of a table. -/
def tableWords (t n : Nat) (d : Dev) : List Word := tableSpan t 0 n d

/-- The words of the Constellation table (R295): of every 0x800 indices the first 0x410 hold one. -/
def cstWords (d : Dev) : List Word :=
  (List.range 8).flatMap fun k => tableSpan 18 (0x800 * k) 0x410 d

/-- The RWL tables of block b, in the order of IND_ADDR offset and select. -/
def blockTables (b : Nat) (d : Dev) : List Word :=
  if b = 4 then tableWords 0 16384 d
  else if b = 6 then tableWords 17 16384 d
  else if b = 8 then cstWords d ++ tableWords 19 8192 d
  else if 0xC ≤ b ∧ b ≤ 0x15 then tableWords (21 + (b - 0xC)) 256 d
  else if 0x18 ≤ b ∧ b ≤ 0x1B then tableWords (35 + (b - 0x18)) 512 d ++ tableWords (39 + (b - 0x18)) 16 d
  else if b = 0x1C then tableWords 43 128 d
  else if b = 0x1E then tableWords 44 1024 d
  else []

/-- The words of a sweep, in order (R118). -/
def sweepWords (d : Dev) : List Word :=
  ((List.range 32).flatMap fun b =>
    match blockRows b with
    | some r => blockWords (A.block b) (if b = 9 then 0x20000 else 0x10000) (headerRows ++ r) d ++ blockTables b d
    | none => []) ++
  (List.range 16).flatMap fun n =>
    blockWords (A.peBlock n) 0x10000 (headerRows ++ peRows) d ++ tableWords (1 + n) 16 d

/-- The configuration CRC (R117, R118). -/
def configCrc (d : Dev) : Word :=
  word (((sweepWords d).foldl (fun c w => crcFold c (leBytes 4 w.toNat)) 0xFFFFFFFF) ^^^ 0xFFFFFFFF)

/-! ## Commit (R69, R70, R120) -/

/-- The Supervisor enters its firmware (R70); with no firmware loaded it stays in the ROM loop. -/
def startFirmware (d : Dev) : Dev :=
  if 59 ∈ d.boot.banks then
    { d with sys := { d.sys with romLoop := false } }
      |> putCtx supKey { ctxZero with state := .running, pc := 0x01000200, sr := 0x80 }
  else d

/-- The staging banks are turned off and on (R68). -/
def stagingOff (d : Dev) : Dev :=
  (List.range 16).foldl (fun d j =>
    let d := d |> bankZero (16 + j) |> bankUnready (16 + j)
    { d with sys := { d.sys with bankPend := d.sys.bankPend ++ [16 + j] } }) d

/-- What commit does beyond the lock (R14, R15, R68, R69, R70, R150, R190, R317, R408, R467). -/
def commitEffects (d : Dev) : Dev :=
  let d := { d with
    sys := { d.sys with mode := .service, armDue := none, sweepForCommit := false, retWake := none }
    boot := { d.boot with step := .done }
    img := { d.img with openTb := tbNs 0 d, openNow := d.now, due := d.now + 40000 }
    dsp := { d.dsp with winStart := d.now }
    swc := { d.swc with lastAge := d.now }
    saf := { d.saf with swdogOn := true, swdogStart := d.now } }
  let d := d |> wb A.almCrcStat 0 true |> wf A.almCrcStat 5 4 1 |> wb A.almBootStat 31 true
    |> wr A.almBootTime (word ((d.boot.release + d.now) / 400)) |> wr A.memImgCycle 0xFFFFFFFF |> stagingOff
  let d := (List.range 16).foldl (fun d n => if rb (A.peCtrl n) 0 d then startEngine n d else d) d
  d |> startFirmware |> pioCommit |> smpCommit |> mrdStart |> diagOut "RUN"

/-- The commit, with DOZE after a debug wake from OFF (R94, R120). -/
def commitNow (d : Dev) : Dev :=
  let doze := decide (d.sys.retWake = some 5)
  d |> commitEffects |> when doze enterDoze

/-- A commit sequence is refused (R120): everything stays unlocked; a slot at its commit fails with 0x31. -/
def commitRefuse (d : Dev) : Dev :=
  let d := raise A.almCrcStat 2 { d with sys := { d.sys with armDue := none, sweepForCommit := false } }
  d |> when (d.sys.mode = .startup && d.boot.step = .apply) (slotFail 0x31)

/-- ALM_COMMIT (R120): the arm key, then within 64 CORE cycles the reference. After commit a write of any master sets LOCK_WR; R120
also says that another master's write is ignored with no flag (DESIGN CHOICE, notes/assumptions/118.md). -/
def writeAlmCommit (m : Nat) (v : Word) (d : Dev) : Dev :=
  if committed d then errAt (A.block 1) m errLock A.almCommit d
  else match d.sys.armDue with
    | none =>
      if m ≠ 0 then d
      else if v = 0x0E1A0001 then { d with sys := { d.sys with armDue := some (d.now + 64) } }
      else commitRefuse d
    | some t =>
      if m ≠ 0 ∨ t < d.now then commitRefuse d
      else { d with sys := { d.sys with armDue := none, sweepForCommit := true } } |> wr A.almCrcRef v

/-- ALM_COMMIT_ARM (R120). -/
def execAlmCommitArm (m : Fin 20) (v : Word) (s : State) : Host.Outcome State Fault Refusal :=
  onDev (fun d => when (powered d && d.sys.armDue.isNone) (writeAlmCommit m v) d) s

/-- ALM_COMMIT_REFERENCE (R120). -/
def execAlmCommitReference (m : Fin 20) (v : Word) (s : State) : Host.Outcome State Fault Refusal :=
  onDev (fun d => when (powered d && d.sys.armDue.isSome) (writeAlmCommit m v) d) s

/-- COMMIT_ARM_TIMEOUT (R120): more than 64 CORE cycles have passed. -/
def execCommitArmTimeout (s : State) : Host.Outcome State Fault Refusal :=
  onDev (fun d => match d.sys.armDue with
    | some t => when (decide (t < d.now)) commitRefuse d
    | none => d) s

/-! ## Sweeps (R119) -/

/-- The configuration phase (R119). -/
def crcPhase (d : Dev) : Nat := rf A.almCrcStat 5 4 d

/-- A sweep's result (R119): CUR and SWEEP. -/
def sweepResult (d : Dev) : Dev := d |> wr A.almCrcCur (configCrc d) |> raise A.almCrcStat 1

/-- A sweep completes (R119, R120). A match in RECOVERY ends the wake (R93), unless a fault has led to Twilight (R470). -/
def sweepDone (d : Dev) : Dev :=
  let p := crcPhase d
  if p = 1 then d
  else
    let ok := decide (configCrc d = rd A.almCrcRef d)
    let d := sweepResult d
    if p = 0 then
      (if !d.sys.sweepForCommit || d.sys.mode ≠ .startup then d else if ok then commitNow d else commitRefuse d)
    else if p = 3 then
      (if !ok then report 0x43 1 0 0 d else if d.sys.mode = .retain then retainDone d else wf A.almCrcStat 5 4 1 d)
    else
      let d := if ok then d else report 0x43 1 0 0 d
      if rb A.almCrcCtrl 0 d then d else wf A.almCrcStat 5 4 1 d

/-- CONFIG_CRC_SWEEP_DONE (R119). -/
def execConfigCrcSweepDone (s : State) : Host.Outcome State Fault Refusal :=
  onDev (fun d => when (powered d || crcPhase d = 3) sweepDone d) s

/-- ALM_CRC_CTRL (R119): TEST = 1 enters TEST from SERVICE and is ignored elsewhere; TEST = 0 ends it after the sweep in
progress. -/
def writeCrcCtrl (m : Nat) (v : Word) (d : Dev) : Dev :=
  let p := crcPhase d
  if bit v 0 && p ≠ 1 then storeReg m A.almCrcCtrl (setBit v 0 (rb A.almCrcCtrl 0 d)) d
  else d |> storeReg m A.almCrcCtrl v |> when (bit v 0 && p = 1) (wf A.almCrcStat 5 4 2)

/-- CRC_TEST_CONTROL (R119). -/
def execCrcTestControl (m : Fin 20) (v : Word) (s : State) : Host.Outcome State Fault Refusal :=
  onDev (fun d => when (powered d) (writeCrcCtrl m v) d) s

end Sys2Proof.Machine
end

