-- ==== Sys2Proof/Machine/Update.lean ====
section
/-! DEFINITION. Machine/Update.lean: the signature of an image (R63, R487) and the field-update service
(R71-R74). -/

namespace Sys2Proof.Machine

/-! ## The signature and the flash slots -/

/-- The signature over the bytes before the signature record verifies (R63). -/
def signatureOk (signed key rs : List Byte) : Bool := Config.ecdsaVerify (Config.sha384 signed) key rs

/-- What flash slot A or, for true, B holds. -/
def flashSlot (b : Bool) (d : Dev) : FlashSlot := if b then d.flashB else d.flashA

/-- Flash slot A or B holds x. -/
def setFlashSlot (b : Bool) (x : FlashSlot) (d : Dev) : Dev :=
  if b then { d with flashB := x } else { d with flashA := x }

/-! ## The service -/

/-- An update ends with a code (R72, R74): ERR and FAIL. -/
def updateFail (code : Nat) (d : Dev) : Dev :=
  { d with boot := { d.boot with upd := .idle, updAbort := false } }
    |> wb A.almUpdStat 0 false |> wf A.almUpdStat 23 16 code |> raise A.almUpdStat 2

/-- The staged image lies in accessible shared SRAM (R71, R81). The spec names no code for an ALM_UPD_SRC that is not
4-byte aligned: the model gives 0x14 (DESIGN CHOICE, notes/assumptions/32.md). -/
def stagedOk (src len : Nat) (d : Dev) : Bool :=
  src % 4 = 0 && 512 ≤ len && len ≤ 8388608 && region src = .sram && region (src + len - 1) = .sram &&
    ((List.range 32).all fun b =>
      bankReady b d || decide (0x04000000 + 0x80000 * (b + 1) ≤ src ∨ src + len ≤ 0x04000000 + 0x80000 * b))

/-- The checks before anything is erased (R71); 0 where all pass. -/
def updateCode (src len : Nat) (d : Dev) : Nat :=
  if !stagedOk src len d then 0x14
  else
    let h := memBytes src 64 d
    let c := hdrFormat h d
    if c ≠ 0 then c
    else if imgLen h ≠ len then 0x14
    else if rollbackBad true h d then 0x17
    else if !imageKeyOk h (memBytes (src + len - 192) 96 d) d then 0x18
    else if !signatureOk (memBytes src (len - 200) d) (memBytes (src + len - 192) 96 d)
      (memBytes (src + len - 96) 96 d) then 0x19
    else if hdrNat h 0x18 4 ≤ hdrNat d.boot.hdr 0x18 4 then 0x23
    else 0

/-- A start (R71-R74): ignored while an update runs. From the erase on the inactive slot has no header; the update holds the
staged header and the signed hash. -/
def updateStart (d : Dev) : Dev :=
  if !inService d || rb A.almUpdStat 0 d then d
  else
    let c := updateCode (rd A.almUpdSrc d).toNat (rd A.almUpdLen d).toNat d
    if c ≠ 0 then updateFail c d
    else
      let src := (rd A.almUpdSrc d).toNat
      let d := { d with boot := { d.boot with
        upd := .erase, updAbort := false, updHdr := memBytes src 64 d, updBack := []
        updHash := Config.sha384 (memBytes src ((rd A.almUpdLen d).toNat - 200) d) } }
      d |> setFlashSlot (!d.boot.slot) .headerless |> wb A.almUpdStat 0 true

/-- An abort (R74, R121): it stops the update before header programming and is late after. -/
def updateAbort (d : Dev) : Dev :=
  match d.boot.upd with
  | .idle => d
  | .header => { d with boot := { d.boot with updAbort := true } }
  | _ => updateFail 0x24 d

/-- ALM_UPD_CMD (R73): ignored without its key. -/
def writeUpdCmd (m : Nat) (v : Word) (d : Dev) : Dev :=
  if fld v 31 16 ≠ 0x0A1C then d
  else
    let d := storeReg m A.almUpdCmd v d
    if fld v 1 0 = 1 then updateStart d else if fld v 1 0 = 2 then updateAbort d else d

/-- UPDATE_START (R71). -/
def execUpdateStart (m : Fin 20) (s : State) : Host.Outcome State Fault Refusal :=
  onDev (fun d => when (powered d) (writeUpdCmd m 0x0A1C0001) d) s

/-- UPDATE_ABORT (R74). -/
def execUpdateAbort (m : Fin 20) (s : State) : Host.Outcome State Fault Refusal :=
  onDev (fun d => when (powered d) (writeUpdCmd m 0x0A1C0002) d) s

/-- The next step of an update in step `at_`: it goes on where c is 0 and fails with c otherwise. -/
def updateStep (at_ next : UpdStep) (c : Nat) (d : Dev) : Dev :=
  if !inService d || decide (d.boot.upd ≠ at_) then d
  else if c ≠ 0 then updateFail c d
  else { d with boot := { d.boot with upd := next } }

/-- UPDATE_ERASE_DONE (R72). -/
def execUpdateEraseDone (ok : Bool) (s : State) : Host.Outcome State Fault Refusal :=
  onDev (updateStep .erase .program (if ok then 0 else 0x22)) s

/-- Have the bytes read back from 0x40 on, under the staged header, the signed hash (R72)? -/
def readBackOk (back : List Byte) (d : Dev) : Bool :=
  Config.sha384 (slice (d.boot.updHdr ++ back) 0 (imgLen d.boot.updHdr - 200)) = d.boot.updHash

/-- The slot is programmed from 0x40 on and read back (R72). -/
def updateProgrammed (ok : Bool) (back : List Byte) (d : Dev) : Dev :=
  updateStep .program .header (if !ok then 0x22 else if readBackOk back d then 0 else 0x21)
    (if d.boot.upd = .program then { d with boot := { d.boot with updBack := back } } else d)

/-- UPDATE_PROGRAM_DONE (R72): the bytes read back from 0x40 on. -/
def execUpdateProgramDone (ok : Bool) (back : List Byte) (s : State) : Host.Outcome State Fault Refusal :=
  onDev (updateProgrammed ok back) s

/-- The header is programmed (R72, R74): the slot holds the image; DONE, and ABORT_LATE where an abort came meanwhile. -/
def updateDone (ok : Bool) (d : Dev) : Dev :=
  if !inService d || decide (d.boot.upd ≠ .header) then d
  else if !ok then updateFail 0x22 d
  else
    let late := d.boot.updAbort
    { d with boot := { d.boot with upd := .idle, updAbort := false } }
      |> setFlashSlot (!d.boot.slot) (.image (d.boot.updHdr ++ d.boot.updBack))
      |> wb A.almUpdStat 0 false |> raise A.almUpdStat 1 |> raiseIf late A.almUpdStat 3

/-- UPDATE_HEADER_DONE (R72). -/
def execUpdateHeaderDone (ok : Bool) (s : State) : Host.Outcome State Fault Refusal := onDev (updateDone ok) s

end Sys2Proof.Machine
end

