-- ==== Sys2Proof/Machine/HostBlock.lean ====
section
/-! DEFINITION. Machine/HostBlock.lean: the HST block's own registers: the host status block (R513), the heartbeat (R514),
software interrupts and MSI-X unmasking (R505, R516), and the I/O supplies (R540). -/

namespace Sys2Proof.Machine

/-! ## The host status block (R513) -/

/-- DSTATE (R513). -/
def dstate (d : Dev) : Nat :=
  match d.sys.mode with
  | .service => if inDoze d then 2 else 1
  | .twilight => 3
  | _ => 0

/-- Word 1 of the block. -/
def hostWord1 (d : Dev) : Word :=
  word (atBit (dstate d) 28 + atBit (rf A.almBootStat 27 24 d) 24 + atBit (lifeState d) 21 + atBit (role d) 19 +
    atBit (ownNode d) 14 + atBit (rf A.almBootStat 31 29 d) 11 + atBit (faultN d).toNat 10 +
    atBit (rf A.safStat 1 1 d) 9)

/-- The image in use is accepted (R68): it is applied after its signature verified, or committed. -/
def imageAccepted (d : Dev) : Bool := committed d || (decide (d.sys.mode = .startup) && decide (d.boot.step = .apply))

/-- Words 0 to 14 of the block, as they stand. -/
def hostWords (d : Dev) : List Word :=
  [word (0x4160A100 + Config.romVersion.toNat % 256), hostWord1 d,
   word (atBit d.sys.twCode 24 + atBit (rf A.almBootStat 23 16 d) 16 + atBit (rf A.almBootStat 15 8 d) 8 +
     rf A.sysRstCause 15 8 d),
   if imageAccepted d then word (hdrNat d.boot.hdr 0x18 4) else 0,
   rd A.memImgCycle d, rd A.sysRstCause d, rd A.safFaultTl d, rd A.safFaultTh d,
   if rb A.mrdCtrl 0 d then mrdState d else 0, rd A.mrdRackAct d, rd A.almBootTime d, d.hst.hbeat,
   rd (A.hstFw 0) d, rd (A.hstFw 1) d, rd (A.hstFw 2) d]

/-- The whole block with its CRC (R513, R117). -/
def hostBlock (d : Dev) : List Word :=
  let l := hostWords d
  l ++ [word (crc32c (l.flatMap fun w => leBytes 4 w.toNat))]

/-- All 16 words are captured for master m (R513). -/
def captureBlock (m : Nat) (d : Dev) : Dev :=
  { d with hst := { d.hst with
      snap := ((hostBlock d).zipIdx (16 * m)).foldl (fun t p => tabSet zeroDefault t p.2 p.1) d.hst.snap } }

/-- A read of word i of the block by master m (R513); a debug read captures nothing (R105). -/
def hostBlockRead (m i : Nat) (d : Dev) : Word × Dev :=
  if i = 0 then ((hostWords d).getD 0 0, if m = 19 then d else captureBlock m d)
  else (tabGet zeroDefault d.hst.snap (16 * m + i), d)

/-- HOST_STATUS_CAPTURE (R513): a read of word 0. -/
def execHostStatusCapture (m : Fin 20) (s : State) : Host.Outcome State Fault Refusal :=
  onDev (fun d => when (powered d) (fun d => let r := hostBlockRead m 0 d; giveRead m r.1 r.2) d) s

/-! ## The heartbeat (R514) -/

/-- HBEAT rises by 1 and wraps. -/
def heartbeat (d : Dev) : Dev := { d with hst := { d.hst with hbeat := d.hst.hbeat + 1 } }

/-- HST_HB_SVC (R514, R516): the Supervisor's key. -/
def writeHbSvc (m : Nat) (v : Word) (d : Dev) : Dev :=
  if m ≠ 0 ∨ fld v 31 16 ≠ 0x0B4D then d else d |> storeReg m A.hstHbSvc v |> heartbeat

/-- HB_SVC (R514). -/
def execHbSvc (m : Fin 20) (v : Word) (s : State) : Host.Outcome State Fault Refusal :=
  onDev (fun d => when (powered d) (writeHbSvc m v) d) s

/-- RESPONDER_HEARTBEAT (R514): every 1 ms while the ROM responder runs in Twilight. -/
def execResponderHeartbeat (s : State) : Host.Outcome State Fault Refusal :=
  onDev (fun d => when (d.sys.mode = .twilight && d.sys.romLoop && decide (d.sys.twTime + 400000 ≤ d.now))
    (fun d => heartbeat { d with sys := { d.sys with twTime := d.now } }) d) s

/-! ## Software interrupts (R505, R515, R516) -/

/-- May master m in context ctx write HST_SWINT (R516)? -/
def swintMay (m ctx : Nat) (d : Dev) : Bool :=
  m = 0 || (1 ≤ m && m ≤ 16 && (getCtx (ctxKey (m - 1) ctx) d).sys)

/-- HST_SWINT (R505, R515, R516). -/
def writeSwint (m ctx : Nat) (v : Word) (d : Dev) : Dev :=
  if !swintMay m ctx d then d
  else
    let d := storeReg m A.hstSwint v d
    let n := fld v 4 0
    if !bit v 31 && decide (18 ≤ n) then msixRaise n d
    else if bit v 31 && decide (18 ≤ n ∧ n ≤ 23) then raise A.hstIntPend n d
    else errAt (A.block 0x1F) m errRsvd A.hstSwint d

/-- SWINT_VECTOR (R505): HST_SWINT with TGT = 0. -/
def execSwintVector (m : Fin 20) (ctx : Fin 10) (vec : BitVec 5) (s : State) : Host.Outcome State Fault Refusal :=
  onDev (fun d => when (powered d) (writeSwint m ctx (word vec.toNat)) d) s

/-- SWINT_PEND (R516): HST_SWINT with TGT = 1. -/
def execSwintPend (m : Fin 20) (ctx : Fin 10) (vec : BitVec 5) (s : State) : Host.Outcome State Fault Refusal :=
  onDev (fun d => when (powered d) (writeSwint m ctx (word (2 ^ 31 + vec.toNat))) d) s

/-! ## MSI-X (R505) -/

/-- A pending vector that is masked no longer goes out, where the link is up (R505, R515). -/
def msixFlush (n : Nat) (d : Dev) : Dev :=
  if rb (A.msixPba 0) n d && !rb (A.msixTable n 12) 0 d && !d.hst.fnMask && rb A.hstPcieStat 0 d then
    { wb (A.msixPba 0) n false d with out := d.out ++ [.msix n] }
  else d

/-- A word of the MSI-X table is written (R505). -/
def writeMsix (m a : Nat) (v : Word) (d : Dev) : Dev := d |> storeReg m a v |> msixFlush ((a - A.msixTable 0 0) / 16)

/-- MSIX_UNMASK (R505): the mask bit of a vector is written 0. -/
def execMsixUnmask (m : Fin 20) (vec : Fin 32) (s : State) : Host.Outcome State Fault Refusal :=
  onDev (fun d => when (powered d) (writeMsix m (A.msixTable vec 12) 0) d) s

/-! ## The link (R501, R502, R515, R528) -/

/-- PCIE_LINK_UP (R501, R502): training ends at rate 2.5, 5.0 or 8.0 GT/s on one or two lanes. -/
def execPcieLinkUp (rate : Fin 3) (x2 : Bool) (s : State) : Host.Outcome State Fault Refusal :=
  onDev (fun d => when (powered d && !d.hst.perst && decide (d.boot.step ≠ .pll) && !rb A.hstPcieStat 0 d)
    (fun d => d |> wf A.hstPcieStat 4 0 (8 * (1 + x2.toNat) + 2 * (rate + 1) + 1) |> raise A.hstPcieStat 5) d) s

/-- The link goes down (R515, R516). -/
def pcieDown (d : Dev) : Dev := if rb A.hstPcieStat 0 d then d |> wf A.hstPcieStat 4 0 0 |> raise A.hstPcieStat 5 else d

/-- PCIE_LINK_DOWN (R515): writes received have taken effect; no read is outstanding in this model. -/
def execPcieLinkDown (s : State) : Host.Outcome State Fault Refusal := onDev pcieDown s

/-- PCIE_PERST (R528): while low, the link is down and configuration space is at its reset values. -/
def execPciePerst (low : Bool) (s : State) : Host.Outcome State Fault Refusal :=
  onDev (fun d =>
    let d := { d with hst := { d.hst with perst := low } }
    if low then pcieDown { d with hst := { d.hst with cfg := [], fnMask := false } } else d) s

/-- HST_STATE (R516). -/
def hstStateWord (d : Dev) : Word :=
  word (atBit (rf A.hstPcieStat 0 0 d) 31 + atBit (rf A.hstPcieStat 2 1 d) 29 + atBit (rf A.hstPcieStat 4 3 d) 27)

/-! ## I/O supplies (R540) -/

/-- VDDIO_BANK_LOSS (R540): bank b of R522 (0 AON, 1 SYS, 2 NVM, 3 LHP, 4 RGMII, 5 MRD, 6 SMP, 7 + k PXB_k): the bank's outputs float and its inputs read 0. -/
def execVddioBankLoss (b : Fin 15) (s : State) : Host.Outcome State Fault Refusal :=
  onDev (fun d => if b.val ∈ d.vddio then d else { d with vddio := d.vddio ++ [b.val] }) s

/-- VDDIO_BANK_RETURN (R540). -/
def execVddioBankReturn (b : Fin 15) (s : State) : Host.Outcome State Fault Refusal :=
  onDev (fun d => { d with vddio := dropIf (fun x => x = b.val) d.vddio }) s

end Sys2Proof.Machine
end

