-- ==== Sys2Proof/Machine/Bus.lean ====
section
/-! DEFINITION. Machine/Bus.lean: a register access by address (R99-R116, R543): what a read answers and does, and which
unit's rule a write follows. -/

namespace Sys2Proof.Machine

/-! ## State words (R101, R122) -/

/-- The contexts of engine n in a state, as a mask. -/
def ctxMask (n : Nat) (st : CtxState) (d : Dev) : Nat := maskOf 10 fun k => (getCtx (ctxKey n k) d).state = st

/-- The state word of an engine (R189). -/
def peStateWord (n : Nat) (d : Dev) : Word :=
  let r := (List.range 10).find? fun k => (getCtx (ctxKey n k) d).state = .running
  word (atBit (rf (A.peCtrl n) 0 0 d) 31 + atBit (r.getD 15) 27 + atBit (ctxMask n .blocked d) 17 +
    atBit (ctxMask n .halted d) 7)

/-- PE_CTX_STATE (R189). -/
def peCtxStateWord (n : Nat) (d : Dev) : Word :=
  word ((List.range 10).foldl (fun v k =>
    let c := match (getCtx (ctxKey n k) d).state with
      | .disabled => 0 | .ready => 1 | .running => 2 | .blocked => 3 | .halted => 4
    v + atBit c (3 * k)) 0)

/-- The state word of Dispatch (R239). -/
def schStateWord (d : Dev) : Word :=
  word (atBit (dspOn d).toNat 31 + atBit d.dsp.used.length 18 + atBit d.dsp.orphans.length 11)

/-- The state word of MBX (R251). -/
def mbxStateWord (d : Dev) : Word := word (atBit (countOf 64 fun n => mbxFullBit n d) 25)

/-- <P>_STATE by unit code (R101): the layout of SYS, ALM and MEM is not given, so their words are free. -/
def stateWord (code : Nat) (d : Dev) : Word × Dev :=
  if code = 2 then (safStateWord d, d) else if code = 3 then (secStateWord d, d)
  else if code = 5 then (mbxStateWord d, d) else if code = 6 then (schStateWord d, d)
  else if code = 7 then (ntmState d, d) else if code = 8 then (mrdState d, d)
  else if code = 9 then (swcState d, d)
  else if 0xC ≤ code ∧ code ≤ 0x15 then (ethState (code - 0xC) d, d)
  else if 0x18 ≤ code ∧ code ≤ 0x1B then (canStateWord (code - 0x18) d, d)
  else if code = 0x1C then (pioStateWord d, d) else if code = 0x1D then (smpStateWord d, d)
  else if code = 0x1E then (loopStateWord d, d) else if code = 0x1F then (hstStateWord d, d)
  else if 0x20 ≤ code then (peStateWord (code - 0x20) d, d)
  else (Config.unitState code d.free, { d with free := d.free + 1 })

/-! ## Reads -/

/-- Element and offset within it, for offset o in an array of n elements. -/
def elem (o base stride n : Nat) : Option (Nat × Nat) :=
  if base ≤ o ∧ o < base + stride * n then some ((o - base) / stride, (o - base) % stride) else none

/-- MEM_IMG_STAT.RUN (R13, R32, R40, R92). -/
def imgRuns (d : Dev) : Bool :=
  inService d && committed d && rb A.memImgCtrl 0 d && !outputsHeld d && (role d = 0 || holdsTimeline d)

/-- The duration in us of the longest bank sweep completed in the last 1 ms (R148). The sweep table holds, by 16 x bank +
sub-bank, the next row, and at 1,024, 2,048 and 3,072 above it the start of the sweep, the length of the last one and
the time of its end. -/
def longestSweep (d : Dev) : Nat :=
  (List.range 1024).foldl (fun m k =>
    let len := tabGet zeroNat d.scrub (2048 + k)
    let at_ := tabGet zeroNat d.scrub (3072 + k)
    if 0 < len ∧ d.now ≤ at_ + 400000 then max m (len / 400) else m) 0

/-- Reads of registers whose word is computed or whose read acts, in the blocks of the system units: none for a
register that answers its stored word. -/
def readSystem (code o m ctx : Nat) (d : Dev) : Option (Word × Dev) :=
  if code = 0 ∧ o = 0x40 then some (clkStat d, d)
  else if code = 4 ∧ o = 0x804 then some (setBit (rd A.memImgStat d) 0 (imgRuns d), d)
  else if code = 4 ∧ o = 0x30 then some (setFld (rd A.memScrubStat d) 15 0 (longestSweep d), d)
  else if code = 4 ∧ 0x400 ≤ o ∧ o < 0x500 then some (lockRead m ctx ((o - 0x400) / 4) d)
  else if code = 5 ∧ 0x100 ≤ o ∧ o < 0x200 then some (mbxRead m ((o - 0x100) / 4) d)
  else if code = 6 ∧ o = 0x1C then some (readOrph m d)
  else if code = 6 ∧ 0x200 ≤ o ∧ o < 0x300 ∧ o % 16 = 0 then
    some (setFld (rd (A.schEngStat ((o - 0x200) / 16) 0) d) 15 0 (depthOf ((o - 0x200) / 16) d), d)
  else if code = 7 ∧ (o = 0x20 ∨ o = 0x24) then some (trigSum ((o - 0x20) / 4) d, d)
  else if code = 7 then
    match elem o 0x400 0x40 10 with
    | some (p, r) => if 0x20 ≤ r ∧ r ≤ 0x2C then some (tsqRead m p ((r - 0x20) / 4) d) else none
    | none => none
  else if code = 8 ∧ o = 0x18 then some (mrdCycleRead d, d)
  else if code = 8 ∧ o = 0x20 then some (cstReqRead d, d)
  else if code = 8 ∧ o = 0x64 then some (setBit (rd A.mrdEclStat d) 0 (eclipseGate d), d)
  else none

/-- The same, in the blocks of the networks. -/
def readNetwork (code o m : Nat) (d : Dev) : Option (Word × Dev) :=
  if code = 9 then
    match elem o 0x800 0x10 4 with
    | some (n, 0xC) => some (rd (A.swcEp n 0xC) (when (committed d) (showRing (160 + n)) d), d)
    | _ => none
  else if 0xC ≤ code ∧ code ≤ 0x15 then
    let p := code - 0xC
    if o = 0x28 then some (mmStatWord p d, d)
    else if 0x200 ≤ o ∧ o < 0x254 then some (ethCntRead m p (o - 0x200) d)
    else match elem o 0x100 0x10 16 with
      | some (q, 8) => some (rd (A.ethRxq p q 8) (when (committed d) (showRing (16 * p + q)) d), d)
      | _ => none
  else if 0x18 ≤ code ∧ code ≤ 0x1B then
    let n := code - 0x18
    if 0x30 ≤ o ∧ o < 0x40 then some (txevRead m n ((o - 0x30) / 4) d)
    else if 0x60 ≤ o ∧ o < 0x80 then some (canLostWord n ((o - 0x60) / 4) d, d)
    else if 0x100 ≤ o ∧ o < 0x148 then some (stageWord n m ((o - 0x100) / 4) d, d)
    else none
  else none

/-- The same, in the blocks of the pins, the loops and the engines. -/
def readControl (code o m : Nat) (d : Dev) : Option (Word × Dev) :=
  if code = 0x1C then
    let n := o / 0x800
    let r := o % 0x800
    if r = 0x7C then some (pioRunWord n d, d)
    else if r = 0x80 then some ((getPio n d).sr, d)
    else if r = 0x84 then some ((getPio n d).ol.setWidth 32, d)
    else none
  else if code = 0x1D then
    match elem o 0x100 0x20 24, elem o 0x800 0x40 16 with
    | some (n, 0x1C), _ => some (cvalWord n d, d)
    | _, some (u, r) =>
      if r = 0x18 then some (ccStatus u d, d)
      else if 0x20 ≤ r ∧ r ≤ 0x2C then some (capRead m u ((r - 0x20) / 4) d) else none
    | _, _ => none
  else if code = 0x1E ∧ o = 0x14 then some (loopStatus d, d)
  else if 0x20 ≤ code ∧ o = 0x14 then
    let n := code - 0x20
    some (setBit (rd (A.peStat n) d) 0 (rb (A.peCtrl n) 0 d && decide (ctxMask n .disabled d ≠ 0x3FF)), d)
  else if 0x20 ≤ code ∧ o = 0x18 then some (peCtxStateWord (code - 0x20) d, d)
  else none

/-- The words outside the register map: the host status block (R513) and the CAN objects and catch-all entries (R401,
R403). -/
def readBlock (m a : Nat) (d : Dev) : Option (Word × Dev) :=
  let b := (a - 0x10000000) / 0x10000
  let o := a % 0x10000
  if !inWindow a then none
  else if b = 0x1F ∧ 0x100 ≤ o ∧ o < 0x140 then some (hostBlockRead m ((o - 0x100) / 4) d)
  else if 0x18 ≤ b ∧ b ≤ 0x1B then
    match elem o 0x1000 0x60 256, elem o 0x8000 0x60 64 with
    | some (i, r), _ => some (objRead m (b - 0x18) i r d)
    | _, some (e, r) => some (objBytesWord (tabGet canObjDefault d.canCa (64 * (b - 0x18) + e)) r, d)
    | _, _ => none
  else none

/-- A read of the register at a by master m (R101-R103, R105, R109, R112, R116, R122). -/
def readReg (m ctx a : Nat) (d : Dev) : Word × Dev :=
  if a % 4 ≠ 0 then (0, errAt (unitBase a) m errAccess a d)
  else match readBlock m a d with
  | some r => r
  | none =>
    match regAt a with
    | none => (0, unmappedReg m a d)
    | some (u, r, _) =>
      if isIndData a then readIndData m (a - 4) d
      else
        let d := useCfg u.code a 0 d
        let o := a - u.base
        if o = 0xC then stateWord u.code d
        else
          let p := ((readSystem u.code o m ctx d).orElse fun _ =>
            (readNetwork u.code o m d).orElse fun _ => readControl u.code o m d).getD (rd a d, d)
          let w := if isIndAddr a then setBit p.1 31 (getInd a d).busy else p.1
          (w, if r.sq ≠ 0 then clearWrap m a p.2 else p.2)

/-! ## Writes -/

/-- Writes that a unit's own rule governs, in the blocks of the system units. -/
def writeSystem (code o m ctx : Nat) (v : Word) (f : Fuses) (d : Dev) : Option Dev :=
  if code = 0 then
    (if o = 0x84 then some (writeRstCmd m v d) else if o = 0xC0 then some (writePwrCtrl m v d)
     else if 0x100 ≤ o ∧ o < 0x110 then some (writeBankPwr m ((o - 0x100) / 4) v d) else none)
  else if code = 1 then
    (if o = 0x128 then some (writeUpdCmd m v d) else if o = 0x208 then some (writeAlmCommit m v d)
     else if o = 0x20C then some (writeCrcCtrl m v d) else none)
  else if code = 2 then
    (if o = 0x2C then some (writeSafReq m v d) else if o = 0x34 then some (writeSwdogSvc m v d) else none)
  else if code = 3 then
    (if o = 0x14 then some (writeSecCmd m v f d)
     else if 0x40 ≤ o ∧ o < 0x70 then some (writeSecStage m ((o - 0x40) / 4) v d) else none)
  else if code = 4 then
    (if o = 0x44 then some (writeVaultCmd m v d) else if o = 0x504 then some (writeLockRevoke m v d)
     else if 0x400 ≤ o ∧ o < 0x500 then some (lockWrite m ctx ((o - 0x400) / 4) v d) else none)
  else if code = 5 then
    (if 0x100 ≤ o ∧ o < 0x200 then some (mbxWrite m ((o - 0x100) / 4) v d) else none)
  else if code = 6 then
    (if o = 0x18 then some (writeSchPost m v 0 d) else if o = 0x20 then some (writeOrphCmd m v d)
     else if o = 0x34 then some (writeTraceCtrl m v d) else none)
  else if code = 7 then
    (if o = 0x10 then some (writeSnap m v d)
     else match elem o 0x100 0x40 4, elem o 0x1000 0x20 64 with
      | some (j, r), _ =>
        if r = 0x10 then some (writeRate m j v d) else if r = 0x14 then some (writeSlew m j v d)
        else if r = 0x34 then some (writeTbCmd m j v d) else none
      | _, some (k, r) =>
        if r = 0 then some (writeTgtL m k v d) else if r = 4 then some (writeTgtH m k v d)
        else if r = 0xC then some (writeTrigCfg m k v d) else none
      | _, _ => none)
  else if code = 8 then
    (if o = 0x20 then some (writeCstReq m v d) else if o = 0x5C then some (writeRrst m v d)
     else if o = 0x60 then some (writeMrdCmd m v d) else none)
  else none

/-- ETH_MM_CTRL (R353): every field of ETH_8 and ETH_9 is reserved. -/
def writeMmCtrl (m p : Nat) (v : Word) (d : Dev) : Dev :=
  d |> storeReg m (A.ethMmCtrl p) v |> errIf (decide (8 ≤ p)) (A.block (0xC + p)) m errRsvd (A.ethMmCtrl p)

/-- SWC_PORT_p +0x10 (R379): the sample count starts with the first frame after N is written. -/
def writeSample (m p : Nat) (v : Word) (d : Dev) : Dev :=
  d |> storeReg m (A.swcPort p 0x10) v |> modSwc fun s => { s with sample := tabSet (fun _ => 0) s.sample p 0 }

/-- The same, in the blocks of the networks. -/
def writeNetwork (code o m : Nat) (v : Word) (d : Dev) : Option Dev :=
  if code = 9 then
    match elem o 0x100 0x40 10, elem o 0x600 0x20 10, elem o 0x800 0x10 4 with
    | some (p, 0x10), _, _ => some (writeSample m p v d)
    | _, some (p, 0), _ => some (writeGate m p v d)
    | _, some (p, 0x10), _ => some (writeGateCmd m p v d)
    | _, _, some (n, 8) => some (writeTxaddr m n v d)
    | _, _, _ => none
  else if 0xC ≤ code ∧ code ≤ 0x15 then
    (if o = 0x10 then some (writeEthCtrl m (code - 0xC) v d)
     else if o = 0x24 then some (writeMmCtrl m (code - 0xC) v d) else none)
  else if 0x18 ≤ code ∧ code ≤ 0x1B then
    let n := code - 0x18
    if o = 0x10 then some (writeCanCtrl m n v d) else if o = 0x20 then some (writeTxpush m n v d)
    else if o = 0x24 then
      let p := freeWord d
      some (writeTxabort m n v (p.1.toNat % 3) p.2)
    else if o = 0x4C then some (writeCaPop m n v d)
    else if 0x100 ≤ o ∧ o < 0x148 then some (setStage n m ((o - 0x100) / 4) v d)
    else none
  else none

/-- The same, in the blocks of the pins, the loops, the hosts and the engines. -/
def writeControl (code o m ctx a : Nat) (v : Word) (d : Dev) : Option Dev :=
  if code = 0x1C then
    let n := o / 0x800
    let r := o % 0x800
    if o = 0x10 then some (writePioEn m a v true d) else if o = 0x14 then some (writePioEn m a v false d)
    else if r = 0x40 then some (writePioCtrl m n v d)
    else if 0x100 ≤ r ∧ r < 0x180 then some (writePioProg m n a v d)
    else if 0x400 ≤ r then some (writePioTab m a v d)
    else none
  else if code = 0x1D then
    (if o = 0x10 then some (writeTripClr m v d)
     else match elem o 0x800 0x40 16 with
      | some (u, 0) => some (writeCcCtrl m u v d)
      | _ => none)
  else if code = 0x1E then
    (if o = 0x18 ∨ o = 0x1C then some (writeLoopApply m ((o - 0x18) / 4) v d)
     else if o = 0x28 ∨ o = 0x2C then some (writeLoopReset m ((o - 0x28) / 4) v d) else none)
  else if code = 0x1F then
    (if o = 0x38 then some (writeSwint m ctx v d) else if o = 0x3C then some (writeHbSvc m v d)
     else if 0x40 ≤ o ∧ o < 0x4C then some (if m = 0 then storeReg m a v d else d)
     else if 0x1000 ≤ o ∧ o < 0x1800 then some (writeMsix m a v d) else none)
  else if 0x20 ≤ code then
    (if o = 0x10 then some (writePeCtrl m (code - 0x20) v d) else if o = 0x24 then some (writeWdogSvc m (code - 0x20) v d)
     else if o = 0x28 then some (writeCtxRst m (code - 0x20) v d) else none)
  else none

/-- A write of v to the register at a by master m, context ctx of it for an engine (R101-R103, R106, R108, R112, R114,
R115). The parity of the word is computed anew (R116). -/
def writeReg (m ctx a : Nat) (v : Word) (f : Fuses) (d : Dev) : Dev :=
  if a % 4 ≠ 0 then errAt (unitBase a) m errAccess a d
  else if (readBlock 19 a d).isSome then d
  else match regAt a with
  | none => unmappedReg m a d
  | some (u, _, _) =>
    let d := { d with badCfg := dropIf (· = a) d.badCfg }
    let o := a - u.base
    if isIndAddr a then writeIndAddr m a v d
    else if isIndData a then writeIndData m (a - 4) v d
    else match writeSystem u.code o m ctx v f d with
    | some d' => d'
    | none => match writeNetwork u.code o m v d with
      | some d' => d'
      | none => match writeControl u.code o m ctx a v d with
        | some d' => d'
        | none => storeReg m a v d

/-! ## Commands -/

/-- Is a the address of a status register (R107)? -/
def isStatus (a : Nat) : Bool := match regAt a with | some (_, r, _) => r.sq ≠ 0 && a % 4 = 0 | none => false

/-- STATUS_CLEAR (R108-R110): a clear request by master m. -/
def execStatusClear (m : Fin 20) (a v : Word) (s : State) : Host.Outcome State Fault Refusal :=
  onDev (fun d => when (powered d && isStatus a.toNat) (byMaster m none true a.toNat (writeReg m 0 a.toNat v s.fuses)) d) s

/-! ## Configuration parity and the scrubber -/

/-- The key of a configuration word in `Dev.badCfg`, and the use that checks it (R116): a register, or the table word
behind IND_DATA that an IND_ADDR word names. -/
def walkWord (a : Nat) (idx : Option Nat) (flip : Bool) (d : Dev) : Dev :=
  let mark (k : Nat) (d : Dev) : Dev := if flip then { d with badCfg := d.badCfg ++ (if k ∈ d.badCfg then [] else [k]) } else d
  match unitOf a, idx with
  | none, _ => d
  | some u, none =>
    match regAt a with
    | some (_, r, _) => if r.rw = 0 ∧ r.rwl = 0 then d else d |> mark a |> useCfg u.code a 0
    | none => d
  | some u, some x =>
    match tableAt (a - 4) (x / 65536) (x % 16384) with
    | some (t, i) =>
      if tabRwl t i = 0 ∧ ¬(t = 44 ∧ tabRw t i ≠ 0) then d else d |> mark (2 ^ 32 + tabKey t i) |> useTab u.code a x t i
    | none => d

/-- CONFIG_PARITY_WALK (R116, R450): the walker checks the register at a, or the table word that the IND_DATA register
at a reaches for the IND_ADDR word idx. `flip` is an upset of the word that came before the check. -/
def execConfigParityWalk (a : Word) (idx : Option (Fin 524288)) (flip : Bool) (s : State) :
    Host.Outcome State Fault Refusal :=
  onDev (fun d => when (monitored d && (idx.isNone || isIndData a.toNat))
    (walkWord a.toNat (idx.map fun i => i.val) flip) d) s

/-- Rows of a bank or sub-bank (R139): engine-local banks have 0 IRAM, 1 data RAM, 2 microcode; the switch buffer has 16
sub-banks. -/
def scrubRows (b sub : Nat) : Nat :=
  if b < 32 ∨ b = 59 then (if sub = 0 then 16384 else 0)
  else if b < 40 then (if sub = 0 then 1024 else 0)
  else if b < 42 then (if sub = 0 then 8192 else 0)
  else if b < 58 then (if sub < 2 then 2048 else if sub = 2 then 64 else 0)
  else if b = 58 then 8192 else 0

/-- A scrub read of the bank's next row (R133, R134, R139-R141). A Vault bank is skipped during a wipe (R146). `flip`
is an upset of that byte of the row that came before the read. -/
def scrubRead (b sub : Nat) (flip : Option Nat) (d : Dev) : Dev :=
  let k := 16 * b + sub
  let n := scrubRows b sub
  if n = 0 || !bankReady b d || ((b = 40 || b = 41) && rb A.memVaultStat 0 d) then d
  else
    let row := tabGet zeroNat d.scrub k % n
    let put (i : Nat) (v : Nat) (d : Dev) : Dev := { d with scrub := tabSet zeroNat d.scrub i v }
    let base := (bankRange b).1 + 0x10000 * sub + 32 * row
    let d := d |> when (decide (row = 0)) (put (1024 + k) d.now) |> put k ((row + 1) % n)
    let d := if row + 1 = n then
        let len := d.now - tabGet zeroNat d.scrub (1024 + k)
        d |> put (2048 + k) len |> put (3072 + k) d.now |> when (b = 0) (incr A.memScrubStat 31 16)
      else d
    if b = 58 then
      match flip with
      | some i => swbParity (some 24) (some (sub, row, i)) d
      | none => d
    else
      let d := match flip with
        | some i => { d with badPar := d.badPar ++ (if base + i ∈ d.badPar then [] else [base + i]) }
        | none => d
      match badIn base 32 d with
      | some x => parityMismatch true 24 x d
      | none => d

/-- SCRUB_READ (R139): an idle cycle of the bank's window. -/
def execScrubRead (b : Fin 64) (sub : Fin 16) (flip : Option (Fin 32)) (s : State) : Host.Outcome State Fault Refusal :=
  onDev (fun d => when (powered d) (scrubRead b sub (flip.map fun i => i.val)) d) s

/-- FORCED_SCRUB_READ (R139, R140): the last cycle of the window; the cycle an engine loses is timing. -/
def execForcedScrubRead (b : Fin 64) (sub : Fin 16) (flip : Option (Fin 32)) (s : State) :
    Host.Outcome State Fault Refusal :=
  onDev (fun d => when (powered d) (scrubRead b sub (flip.map fun i => i.val)) d) s

/-! ## The debug port (R491, R492) -/

/-- A debug access to memory (R127, R129, R130, R142): the word that holds address a; of Twin its granule is read through
port B. -/
def dbgMemory (wr : Bool) (a : Nat) (v : Word) (served : Bool) (d : Dev) : Word × Dev :=
  let a := a - a % 4
  let fail (d : Dev) : Dev := if wr then d else { d with sec := { d.sec with err := true } }
  match accessFail 19 wr false a d with
  | some k => (0, d |> accEvent 19 k wr a |> fail)
  | none =>
    if (region a = .image ∨ region a = .shadow) ∧ !served then (0, { d with sec := { d.sec with late := true } })
    else if wr then (0, putBytes a (leBytes 4 v.toNat) d)
    else
      let twin : Bool := region a = .image ∨ region a = .shadow
      match if twin then badRead (a - a % 8) 8 d else badRead a 4 d with
      | some b => (0, d |> fail |> parityMismatch false 19 b)
      | none => (word (leNat (readBytes a 4 d)), d)

/-- DBG_ACC (R105, R127, R491, R492): a word read or written as master 19 where the life cycle grants it; else the
instruction acts as BYPASS. `served` says that a Twin read got its turn within 10 us (R142). -/
def execDbgAcc (wr : Bool) (a v : Word) (served : Bool) (s : State) : Host.Outcome State Fault Refusal :=
  onDev (fun d =>
    if !powered d || !dbgAccGranted d then tapBypass 0x10 d
    else
      let r : Word × Dev :=
        if region a.toNat = .reg then
          (if wr then (0, writeReg 19 0 a.toNat v s.fuses d) else readReg 19 0 a.toNat d)
        else dbgMemory wr a.toNat v served d
      if wr then tapSelect 0x10 0 [] r.2
      else r.2 |> giveRead 19 r.1 |> tapSelect 0x10 0 (leBytes 4 r.1.toNat)) s

end Sys2Proof.Machine
end

