-- ==== Sys2Proof/Machine/LoadStore.lean ====
section
/-! DEFINITION. Machine/LoadStore.lean: loads, stores and block moves of the engines and of the Supervisor (R129-R137,
R160, R179, R202, R203, R542), the return of a load and the completion of a store. -/

namespace Sys2Proof.Machine

/-! ## Loads (R202) -/

/-- The registers after a load of n bytes (R202): base updates, then the loaded value. -/
def loaded (rd n : Nat) (sx : Bool) (up : List (Nat × Word)) (bs : List Byte) (x : Ctx) : Ctx :=
  let v := leNat bs
  let x := x.setAs up
  if n = 8 then (x.setD rd (word v)).setD (rd + 1) (word (v / 2 ^ 32))
  else x.setD rd (if sx then sext (8 * n) v else word v)

/-- A load of n bytes (R153, R160, R202): at once from the engine's own memory, else the context blocks. -/
def loadInstr (n : Nat) (sx : Bool) (c rd ab : Nat) (post : Bool) (off : BitVec 11) : Dev → Dev :=
  issue c fun key x d =>
    if n = 8 ∧ rd % 2 = 1 then illegal key d
    else
      let p := x.operand ab post off
      let a := p.1.toNat
      match accessFault c n a false x d with
      | some e => accessExc key c a false e d
      | none =>
        if ownMemory c a then
          match badIn a n d with
          | some b => parityExc key c a b d
          | none => retire key (loaded rd n sx p.2 (memBytes a n d) x) d
        else d |> block key x (.load rd n sx a p.2 (getCore c d).storeSeq) |> takeSeq c

/-- LDB (R202). -/
def execLdb (c : Fin 17) (rd : Fin 16) (ab : Fin 8) (post : Bool) (off : BitVec 11) (s : State) :
    Host.Outcome State Fault Refusal := onDev (loadInstr 1 false c rd ab post off) s
/-- LDBS (R202). -/
def execLdbs (c : Fin 17) (rd : Fin 16) (ab : Fin 8) (post : Bool) (off : BitVec 11) (s : State) :
    Host.Outcome State Fault Refusal := onDev (loadInstr 1 true c rd ab post off) s
/-- LDH (R202). -/
def execLdh (c : Fin 17) (rd : Fin 16) (ab : Fin 8) (post : Bool) (off : BitVec 11) (s : State) :
    Host.Outcome State Fault Refusal := onDev (loadInstr 2 false c rd ab post off) s
/-- LDHS (R202). -/
def execLdhs (c : Fin 17) (rd : Fin 16) (ab : Fin 8) (post : Bool) (off : BitVec 11) (s : State) :
    Host.Outcome State Fault Refusal := onDev (loadInstr 2 true c rd ab post off) s
/-- LDW (R202). -/
def execLdw (c : Fin 17) (rd : Fin 16) (ab : Fin 8) (post : Bool) (off : BitVec 11) (s : State) :
    Host.Outcome State Fault Refusal := onDev (loadInstr 4 false c rd ab post off) s
/-- LDD (R202): an odd destination is a reserved sub-encoding (R192). -/
def execLdd (c : Fin 17) (rd : Fin 16) (ab : Fin 8) (post : Bool) (off : BitVec 11) (s : State) :
    Host.Outcome State Fault Refusal := onDev (loadInstr 8 false c rd ab post off) s

/-! ## Stores (R160, R202) -/

/-- The item a context serves: taken by GET and not finished (R222, R227). -/
def servedItem (c k : Nat) (d : Dev) : Option Item :=
  match heldItem c k d with
  | some i => if i.taken then some i.item else none
  | none => none

/-- An outstanding store of bytes at a, with what its arrival needs (R28, R32, R166). -/
def newStore (c key a : Nat) (bs : List Byte) (x : Ctx) (d : Dev) : Store :=
  let it := if c = 16 then none else servedItem c (key % 16) d
  { addr := a, data := bs, seq := (getCore c d).storeSeq, cycle := x.icyc, det := x.det, flow := it.map fun i => i.flow
    par := match it with | some i => flowType i.flow d = 2 | none => false }

/-- A store leaves the context (R153, R160): up to five are outstanding, a sixth blocks. -/
def issueStore (c key a : Nat) (bs : List Byte) (up : List (Nat × Word)) (x : Ctx) (d : Dev) : Dev :=
  let st := newStore c key a bs x d
  let d := takeSeq c d
  if x.stores.length < 5 then retire key ({ x with stores := x.stores ++ [st] }.setAs up) d
  else block key x (.storeRoom st up) d

/-- A Supervisor write that is discarded with WR_DENY (R128, R189, R208): to the IRAM of an enabled engine, and from
commit on to any microcode store. A refused write of any other master, debug included, does not set WR_DENY, which R189
gives for the Supervisor only (DESIGN CHOICE, notes/assumptions/124.md). -/
def codeDenied (c a : Nat) (d : Dev) : Option Nat :=
  match region a with
  | .iram n => if c = 16 ∧ committed d ∧ rb (A.peCtrl n) 0 d then some n else none
  | .ucode n => if c = 16 ∧ committed d then some n else none
  | _ => none

/-- A store of the n low bytes of D (R202). -/
def storeInstr (n : Nat) (c rd ab : Nat) (post : Bool) (off : BitVec 11) : Dev → Dev :=
  issue c fun key x d =>
    if n = 8 ∧ rd % 2 = 1 then illegal key d
    else
      let p := x.operand ab post off
      let a := p.1.toNat
      let bs := if n = 8 then leBytes 8 (x.pair rd).toNat else leBytes n (x.dr rd).toNat
      match codeDenied c a d with
      | some e =>
        if a % n ≠ 0 then accessExc key c a true (3, none) d
        else
          let d := raise (A.peStat e) 3 d
          match accessFault c n a true x d with
          | some e => accessExc key c a true e d
          | none => retire key (x.setAs p.2) d
      | none =>
        match accessFault c n a true x d with
        | some e => accessExc key c a true e d
        | none =>
          if ownMemory c a then d |> memPut a bs |> retire key (x.setAs p.2)
          else issueStore c key a bs p.2 x d

/-- STB (R202). -/
def execStb (c : Fin 17) (rd : Fin 16) (ab : Fin 8) (post : Bool) (off : BitVec 11) (s : State) :
    Host.Outcome State Fault Refusal := onDev (storeInstr 1 c rd ab post off) s
/-- STH (R202). -/
def execSth (c : Fin 17) (rd : Fin 16) (ab : Fin 8) (post : Bool) (off : BitVec 11) (s : State) :
    Host.Outcome State Fault Refusal := onDev (storeInstr 2 c rd ab post off) s
/-- STW (R202). -/
def execStw (c : Fin 17) (rd : Fin 16) (ab : Fin 8) (post : Bool) (off : BitVec 11) (s : State) :
    Host.Outcome State Fault Refusal := onDev (storeInstr 4 c rd ab post off) s
/-- STD (R202): an odd source is a reserved sub-encoding (R192). -/
def execStd (c : Fin 17) (rd : Fin 16) (ab : Fin 8) (post : Bool) (off : BitVec 11) (s : State) :
    Host.Outcome State Fault Refusal := onDev (storeInstr 8 c rd ab post off) s

/-! ## Block moves (R179, R203) -/

/-- The base registers a block move updates (R203). -/
def moveUpdates (ash aloc : Nat) (incSh incLoc : Bool) (x : Ctx) : List (Nat × Word) :=
  (if incSh then [(ash, x.ringAdd ash 32)] else []) ++ (if incLoc then [(aloc, x.ringAdd aloc 32)] else [])

/-- The exception of a block move at issue (R167, R179, R203), with its address. The local side must lie in the engine's
own data RAM, the shared side in shared SRAM or Twin port A. -/
def moveFault (c sh loc : Nat) (toShared : Bool) (x : Ctx) (d : Dev) : Option (Nat × Nat × Option Nat) :=
  let own (a : Nat) : Bool := match region a with | .dram n => n = c | _ => false
  let shared (a : Nat) : Bool := match region a with | .sram => true | .image => true | .shadow => true | _ => false
  let bad (a : Nat) (wr : Bool) : Option (Nat × Option Nat) := (accessFail (coreMaster c) wr false a d).map fun k => (4, some k)
  if !x.sys && isReg sh then some (sh, 5, none)
  else if !x.sys && isReg loc then some (loc, 5, none)
  else if sh % 32 ≠ 0 then some (sh, 3, none)
  else if loc % 32 ≠ 0 then some (loc, 3, none)
  else if !own loc then some (loc, (bad loc (!toShared)).getD (4, none))
  else if !shared sh then some (sh, (bad sh toShared).getD (4, none))
  else match bad loc (!toShared), bad sh toShared with
    | some e, _ => some (loc, e)
    | none, some e => some (sh, e)
    | none, none => none

/-- BMOVS (R179): 32 bytes of the engine's own data RAM to the shared side, as one outstanding store. -/
def moveOut (c ash aloc : Nat) (incSh incLoc : Bool) : Dev → Dev :=
  issue c fun key x d =>
    let sh := (x.ringAdd ash 0).toNat
    let loc := (x.ringAdd aloc 0).toNat
    match moveFault c sh loc true x d with
    | some (a, e) => accessExc key c a (decide (a = sh)) e d
    | none =>
      match badIn loc 32 d with
      | some b => parityExc key c loc b d
      | none => issueStore c key sh (memBytes loc 32 d) (moveUpdates ash aloc incSh incLoc x) x d

/-- BMOVL (R179): the context blocks like a load. -/
def moveIn (c ash aloc : Nat) (incSh incLoc : Bool) : Dev → Dev :=
  issue c fun key x d =>
    let sh := (x.ringAdd ash 0).toNat
    let loc := (x.ringAdd aloc 0).toNat
    match moveFault c sh loc false x d with
    | some (a, e) => accessExc key c a (decide (a = loc)) e d
    | none => d |> block key x (.block loc sh (moveUpdates ash aloc incSh incLoc x) (getCore c d).storeSeq) |> takeSeq c

/-- BMOVS (R203). -/
def execBmovs (c : Fin 17) (ash aloc : Fin 8) (incSh incLoc : Bool) (s : State) : Host.Outcome State Fault Refusal :=
  onDev (moveOut c ash aloc incSh incLoc) s
/-- BMOVL (R203). -/
def execBmovl (c : Fin 17) (ash aloc : Fin 8) (incSh incLoc : Bool) (s : State) : Host.Outcome State Fault Refusal :=
  onDev (moveIn c ash aloc incSh incLoc) s

/-! ## Return and completion (R104, R136, R137, R160) -/

/-- The byte of an access in the numbering of `Dev.badPar`. -/
def parityPlace (a : Nat) (d : Dev) : Nat :=
  match region a with
  | .image => let o := a - 0x06000000; twinAddr (selPage (o / 8) d) (o / 8) + o % 8
  | .shadow => let o := a - 0x06020000; twinAddr (1 - selPage (o / 8) d) (o / 8) + o % 8
  | _ => a

/-- A parity upset of the byte at a. -/
def upset (a : Nat) (d : Dev) : Dev :=
  let p := parityPlace a d
  { d with badPar := d.badPar ++ (if p ∈ d.badPar then [] else [p]) }

/-- The memory read of a blocked context (R132, R133, R542): what fails now takes its exception late. -/
def fetchMemory (key c a n : Nat) (flip : Bool) (d : Dev) : Except Dev (List Byte) :=
  if !banksReady a d then .error (d |> accEvent (coreMaster c) 1 false a |> takeExc key { cause := 4, ebad := some a })
  else
    let e := if flip then upset a d else d
    match badRead a n e with
    | some b => .error (parityExc key c a b e)
    | none => .ok (readBytes a n e)

/-- Data of the outstanding load or block move of a context returns (R136, R160, R543). -/
def loadReturn (c k : Nat) (flip : Bool) (d : Dev) : Dev :=
  let key := keyOf c k
  let x := getCtx key d
  if x.state ≠ .blocked then d
  else match x.wait with
  | .load rd n sx a up seq =>
    if earlierAccess c a seq d then d
    else if isReg a then
      let r := readReg (coreMaster c) k a d
      unblock key (loaded rd n sx up (leBytes 4 r.1.toNat) (getCtx key r.2)) r.2
    else match fetchMemory key c a n flip d with
      | .error d' => d'
      | .ok bs => unblock key (loaded rd n sx up bs x) d
  | .block loc sh up seq =>
    if earlierAccess c sh seq d then d
    else match fetchMemory key c sh 32 flip d with
      | .error d' => d'
      | .ok bs => d |> memPut loc bs |> unblock key (x.setAs up)
  | _ => d

/-- ENGINE_LOAD_RETURN (R136): `flip` is a parity upset of the first byte that came before the read. -/
def execEngineLoadReturn (c : Fin 17) (k : Fin 10) (flip : Bool) (s : State) : Host.Outcome State Fault Refusal :=
  onDev (fun d => when (coreRuns c d) (loadReturn c k flip) d) s

/-- Bytes of a store of master m, an engine, reach memory (R18, R27, R28, R32, R166). -/
def landBytes (m : Nat) (st : Store) (d : Dev) : Dev :=
  let d := match region st.addr with
    | .sram =>
      let b := (st.addr - 0x04000000) / 0x80000
      if st.par && rb A.memImgGuard b d then { d with img := { d.img with unord := true } } else d
    | _ => d
  match region st.addr with
  | .image => imgWriteBytes m (st.flow.map fun f => (1, f)) st.addr st.data st.cycle st.det d
  | _ => putBytes st.addr st.data d

/-- An outstanding store arrives (R137, R160, R542): in issue order of the engine at one place. A store to SCH_POST
completes when its item is taken (R218). -/
def storeArrives (f : Fuses) (c k i : Nat) (d : Dev) : Dev :=
  let key := keyOf c k
  match (getCtx key d).stores[i]? with
  | none => d
  | some st =>
    if earlierAccess c st.addr st.seq d then d
    else if st.addr = A.schPost then
      let link := key * 2 ^ 32 + st.seq + 1
      if d.dsp.waiting.any fun it => it.link = link then d
      else writeSchPost (coreMaster c) (word (leNat st.data)) link d
    else if isReg st.addr then
      d |> writeReg (coreMaster c) k st.addr (word (leNat st.data)) f |> storeLanded key st.seq
    else if !banksReady st.addr d then d |> accEvent (coreMaster c) 1 true st.addr |> storeLanded key st.seq
    else d |> landBytes (coreMaster c) st |> storeLanded key st.seq

/-- STORE_COMPLETION (R160): outstanding store i of a context, in the order of issue. -/
def execStoreCompletion (c : Fin 17) (k : Fin 10) (i : Fin 5) (s : State) : Host.Outcome State Fault Refusal :=
  onDev (fun d => when (powered d) (storeArrives s.fuses c k i) d) s

/-! ## Register writes of a master -/

/-- A write of SCH_POST by context k of engine c (R218): a store that is outstanding until its item enters the arrival queue;
the context has place for five (R160). -/
def postStore (f : Fuses) (c k : Nat) (v : Word) (d : Dev) : Dev :=
  let key := keyOf c k
  let x := getCtx key d
  if 5 ≤ x.stores.length then d
  else
    let st := newStore c key A.schPost (leBytes 4 v.toNat) x d
    d |> takeSeq c |> putCtx key { x with stores := x.stores ++ [st] } |> storeArrives f c k x.stores.length

/-- A write of v at the register a by master m, context ctx of it for an engine, checked like its store (R103, R167). -/
def writeBy (m ctx a : Nat) (v : Word) (f : Fuses) : Dev → Dev :=
  byMaster m (some ctx) true a
    (if m ≤ 16 ∧ a = A.schPost then postStore f (masterCore m) ctx v else writeReg m ctx a v f)

/-- REGISTER_WRITE (R103, R106, R114, R115): a write by master m, context ctx of it for an engine. -/
def execRegisterWrite (m : Fin 20) (ctx : Fin 10) (a v : Word) (s : State) : Host.Outcome State Fault Refusal :=
  onDev (fun d => when (powered d && region a.toNat = .reg) (writeBy m ctx a.toNat v s.fuses) d) s

/-- SOFTWARE_POST (R218, R239): a write of SCH_POST. -/
def execSoftwarePost (m : Fin 20) (ctx : Fin 10) (v : Word) (s : State) : Host.Outcome State Fault Refusal :=
  onPow (writeBy m ctx A.schPost v s.fuses) s

end Sys2Proof.Machine
end

