-- ==== Sys2Proof/Machine/HostPorts.lean ====
section
/-! DEFINITION. Machine/HostPorts.lean: the requests of the PCI Express host (R501-R504) and the accesses of the legacy
parallel host (R507-R511), with what each state of the device lets them reach (R512). -/

namespace Sys2Proof.Machine

/-! ## What a host reaches (R512) -/

/-- A word of the HST block. -/
def inHst (a : Nat) : Bool := inWindow a && decide ((a - 0x10000000) / 0x10000 = 0x1F)

/-- Mailboxes that hosts reach in Twilight (R512). -/
def twilightMbx (a : Nat) : Bool :=
  (decide (A.mbxData 32 ≤ a) && decide (a < A.mbxData 48)) || (decide (A.mbxData 56 ≤ a) && decide (a < A.mbxData 64))

/-- May host master m access the internal address a in this state of the device (R512)? -/
def hostMay (m : Nat) (wr : Bool) (a : Nat) (d : Dev) : Bool :=
  match d.sys.mode with
  | .service => true
  | .startup => m = 18 && inHst a
  | .twilight =>
    inHst a || twilightMbx a || (wr && a = A.sysRstCmd) ||
      (!wr && ((inWindow a && decide ((a - 0x10000000) / 0x10000 = 0)) || region a = .image || region a = .shadow))
  | _ => false

/-- Why a host's access fails (R128, R130, R512): the KIND of the record. -/
def hostFail (m : Nat) (wr : Bool) (a : Nat) (d : Dev) : Option Nat :=
  if hostMay m wr a d then accessFail m wr false a d else some 0

/-! ## PCI Express -/

/-- The link is up and the device answers on it. -/
def pcieAnswers (d : Dev) : Bool := powered d && rb A.hstPcieStat 0 d

/-- A completion goes to the host. -/
def complete (status : Nat) (ws : List Word) (d : Dev) : Dev := { d with out := d.out ++ [.completion status ws] }

/-- A dword of configuration space (R501-R503): the BARs keep their address bits above their size. -/
def cfgWord (i : Nat) (d : Dev) : Word :=
  let w := tabGet zeroDefault d.hst.cfg i
  let vid := rf A.hstPcieId 31 16 d
  if i = 0 then word (0x41600000 + vid)
  else if i = 2 then 0x028000A1
  else if i = 4 then w &&& 0xFFC00000
  else if i = 6 then (w &&& 0xFF000000) ||| 0xC
  else if i = 7 then w
  else if i = 11 then word (atBit (rf A.hstPcieId 15 0 d) 16 + vid)
  else Config.pcieCfg i w

/-- Messages that a Function Mask held back go out (R505). -/
def msixFlushAll (d : Dev) : Dev := (List.range 32).foldl (fun d n => msixFlush n d) d

/-- A configuration write: `fm` is the MSI-X Function Mask it gives, where it reaches that bit. -/
def cfgWrite (i : Nat) (v : Word) (fm : Option Bool) (d : Dev) : Dev :=
  { d with hst := { d.hst with cfg := tabSet zeroDefault d.hst.cfg i v, fnMask := fm.getD d.hst.fnMask } }
    |> msixFlushAll |> complete 0 []

/-- PCIE_CONFIG_REQUEST (R502): Retry Status until commit or Twilight. -/
def execPcieConfigRequest (wr : Bool) (i : Fin 1024) (v : Word) (fm : Option Bool) (s : State) :
    Host.Outcome State Fault Refusal :=
  onDev (fun d => when (pcieAnswers d) (fun d =>
    if d.sys.mode = .startup then complete 1 [] d
    else if wr then cfgWrite i v fm d
    else complete 0 [cfgWord i d] d) d) s

/-- The internal address of dword dw of a BAR (R503): BAR2 maps shared SRAM, or its last 256 KiB the Twin windows. -/
def barAddr (bar2 : Bool) (dw : Nat) (d : Dev) : Nat :=
  if !bar2 then 0x10000000 + 4 * dw
  else if rb A.hstPcieCfg 0 d && decide (0xFC0000 ≤ 4 * dw) then 0x06000000 + (4 * dw - 0xFC0000)
  else 0x04000000 + 4 * dw

/-- A request of n dwords is one the link can carry: inside the BAR and inside one 4 KiB page. -/
def tlpOk (bar2 : Bool) (dw n : Nat) : Bool :=
  1 ≤ n && decide (dw / 1024 = (dw + n - 1) / 1024) && (bar2 || decide (dw < 0x100000))

/-- A read of one register word through BAR0 (R103, R130): none where it is refused. -/
def bar0Read (a : Nat) (be : BitVec 4) (d : Dev) : Option Word × Dev :=
  match hostFail 17 false a d with
  | some k => (none, accEvent 17 k false a d)
  | none =>
    if be ≠ 0xF then (some 0, errAt (unitBase a) 17 errAccess a d)
    else let r := readReg 17 0 a d; (some r.1, r.2)

/-- A read request through BAR0: every word in order; one refused word aborts the completion. -/
def bar0ReadAll (dw : Nat) (be : List (BitVec 4)) (d : Dev) : Dev :=
  let r := (be.zipIdx dw).foldl (fun (r : Option (List Word) × Dev) p =>
    let x := bar0Read (0x10000000 + 4 * p.2) p.1 r.2
    (match r.1, x.1 with
      | some ws, some w => some (ws ++ [w])
      | _, _ => none, x.2)) (some [], d)
  match r.1 with
  | some ws => complete 0 ws r.2
  | none => complete 2 [] r.2

/-- A read request through BAR2 (R130, R133): a failed access or a parity mismatch ends in Completer Abort. -/
def bar2ReadAll (dw n : Nat) (d : Dev) : Dev :=
  let a := barAddr true dw d
  match hostFail 17 false a d with
  | some k => d |> accEvent 17 k false a |> complete 2 []
  | none =>
    match badRead a (4 * n) d with
    | some b => d |> complete 2 [] |> parityMismatch false 17 b
    | none => complete 0 ((List.range n).map fun i => word (leNat (readBytes (a + 4 * i) 4 d))) d

/-- PCIE_MEMORY_READ (R503, R512): `be` gives the byte enables of each dword. -/
def execPcieMemoryRead (bar2 : Bool) (dw : BitVec 22) (be : List (BitVec 4)) (s : State) :
    Host.Outcome State Fault Refusal :=
  onDev (fun d => when (pcieAnswers d && tlpOk bar2 dw.toNat be.length) (fun d =>
    if bar2 then bar2ReadAll dw.toNat be.length d else bar0ReadAll dw.toNat be d) d) s

/-- The bytes of a write by dword. -/
def quads : List (Option Byte) → List (List (Option Byte))
  | a :: b :: c :: e :: t => [a, b, c, e] :: quads t
  | [] => []
  | t => [t]

/-- A write of one register word through BAR0 (R103, R128): posted, so a refused one is discarded. -/
def bar0Write (a : Nat) (bs : List (Option Byte)) (f : Fuses) (d : Dev) : Dev :=
  match hostFail 17 true a d with
  | some k => accEvent 17 k true a d
  | none =>
    match bs with
    | [some b0, some b1, some b2, some b3] => writeReg 17 0 a (word (leNat [b0, b1, b2, b3])) f d
    | _ => errAt (unitBase a) 17 errAccess a d

/-- A write through BAR2 (R27, R129): each enabled byte; a host is never a producer, so each Twin granule it names is a
non-producer write. -/
def bar2Write (dw : Nat) (bs : List (Option Byte)) (d : Dev) : Dev :=
  let a := barAddr true dw d
  match hostFail 17 true a d with
  | some k => accEvent 17 k true a d
  | none =>
    let on := (bs.zipIdx a).filterMap fun p => p.1.map fun b => (p.2, b)
    if region a = .sram then on.foldl (fun d p => memPut p.1 [p.2] d) d
    else ((on.map fun p => p.1 / 8).eraseDups).foldl (fun d _ => nonProducer d) d

/-- PCIE_MEMORY_WRITE (R503, R512): `data` gives each byte, none where its enable is clear. -/
def execPcieMemoryWrite (bar2 : Bool) (dw : BitVec 22) (data : List (Option Byte)) (s : State) :
    Host.Outcome State Fault Refusal :=
  onDev (fun d => when (pcieAnswers d && tlpOk bar2 dw.toNat ((data.length + 3) / 4)) (fun d =>
    if bar2 then bar2Write dw.toNat data d
    else ((quads data).zipIdx dw.toNat).foldl (fun d p => bar0Write (0x10000000 + 4 * p.2) p.1 s.fuses d) d) d) s

/-! ## The legacy parallel host port -/

/-- Bytes of one access: 2 with W16, else 1 (R507). -/
def lhpWidth (d : Dev) : Nat := if rb A.hstLhpCfg 0 d then 2 else 1

/-- The internal address of an LHP address, aligned to the access (R507, R508): none where it is unmapped. -/
def lhpTarget (a : Nat) (d : Dev) : Option Nat :=
  let a := a - a % lhpWidth d
  if a < 0x40000 then some (0x06000000 + a)
  else if 0x100000 ≤ a ∧ a < 0x500000 then
    let b := (a - 0x100000) / 0x10000
    if b = 31 ∨ (b < 32 ∧ rb A.hstLhpBlk b d = true) then some (0x10000000 + (a - 0x100000)) else none
  else none

/-- A strobe is answered: data for a read. -/
def lhpAnswer (v : Option Nat) (d : Dev) : Dev := { d with hst := { d.hst with lhpStrobe := true, lhpDrive := v } }

/-- Part of a word: part i of n bytes. -/
def partOf (w : Word) (i n : Nat) : Nat := w.toNat / 256 ^ i % 256 ^ n

/-- A register part is read (R509): part 0, or a word that the latch does not hold, reads the register. -/
def lhpReadReg (a n : Nat) (d : Dev) : Dev :=
  let w := a - a % 4
  let i := a % 4
  if i ≠ 0 ∧ d.hst.rAddr = some w then lhpAnswer (some (partOf d.hst.rWord i n)) d
  else
    let r := readReg 18 0 w d
    let d := if i = 0 then { r.2 with hst := { r.2.hst with rAddr := some w, rWord := r.1 } } else r.2
    lhpAnswer (some (partOf r.1 i n)) d

/-- A read strobe (R508-R510, R512). -/
def lhpRead (a : Nat) (d : Dev) : Dev :=
  let n := lhpWidth d
  match lhpTarget a d with
  | none => d |> accEvent 18 0 false a |> lhpAnswer (some 0)
  | some x =>
    match hostFail 18 false (x - x % (if isReg x then 4 else 1)) d with
    | some k => d |> accEvent 18 k false x |> lhpAnswer (some 0)
    | none =>
      if isReg x then lhpReadReg x n d
      else match badRead x n d with
        | some b => d |> lhpAnswer (some 0) |> parityMismatch false 18 b
        | none => lhpAnswer (some (leNat (readBytes x n d))) d

/-- A register part is written (R509): a part of another word clears the latch first; the highest part writes the
register. -/
def lhpWriteReg (a n v : Nat) (f : Fuses) (d : Dev) : Dev :=
  let w := a - a % 4
  let i := a % 4
  let old : Word := if d.hst.wAddr = some w then d.hst.wWord else 0
  let new := setFld old (8 * (i + n) - 1) (8 * i) v
  let d := { d with hst := { d.hst with wAddr := some w, wWord := new } }
  if i + n = 4 then writeReg 18 0 w new f d else d

/-- A write strobe (R508-R510, R512). -/
def lhpWrite (a v : Nat) (f : Fuses) (d : Dev) : Dev :=
  let n := lhpWidth d
  let d := lhpAnswer none d
  match lhpTarget a d with
  | none => accEvent 18 0 true a d
  | some x =>
    match hostFail 18 true (x - x % (if isReg x then 4 else 1)) d with
    | some k => accEvent 18 k true x d
    | none => if isReg x then lhpWriteReg x n (v % 256 ^ n) f d else putBytes x (leBytes n v) d

/-- The port takes a strobe: powered, its supply present, no strobe in progress. -/
def lhpIdle (d : Dev) : Bool := powered d && !d.hst.lhpStrobe && decide (3 ∉ d.vddio)

/-- LHP_READ (R510): the strobe's fall with RD_N. -/
def execLhpRead (a : BitVec 24) (s : State) : Host.Outcome State Fault Refusal :=
  onDev (fun d => when (lhpIdle d) (lhpRead a.toNat) d) s

/-- LHP_WRITE (R510): the strobe's fall with WR_N. -/
def execLhpWrite (a : BitVec 24) (data : BitVec 16) (s : State) : Host.Outcome State Fault Refusal :=
  onDev (fun d => when (lhpIdle d) (lhpWrite a.toNat data.toNat s.fuses) d) s

/-- LHP_STROBE_RISE (R511): `early` says that the strobe rose before LHP_RDY_N went low; the read data is then
discarded. -/
def execLhpStrobeRise (early : Bool) (s : State) : Host.Outcome State Fault Refusal :=
  onDev (fun d => when (powered d && d.hst.lhpStrobe) (fun d =>
    let v := d.hst.lhpDrive
    let d := { d with hst := { d.hst with lhpStrobe := false, lhpDrive := none } }
    if early then raise A.hstLhpStat 0 d
    else match v with
      | some x => { d with out := d.out ++ [.lhp x] }
      | none => d) d) s

end Sys2Proof.Machine
end

