-- ==== Sys2Proof/Machine/ImageChecks.lean ====
section
/-! DEFINITION. Machine/ImageChecks.lean: the whole-image checks of phase 7 (R67): resource claims, code 0x1D (R6, R7,
R414), producer rules, code 0x1E (R26, R298, R324, R423, R437, R444, R449, R450), the rack hash, code 0x1F (R66). -/

namespace Sys2Proof.Machine

/-! ## Claims (R6, R7, R414) -/

/-- Do some two members of a list conflict? -/
def anyPair {α : Type} (p : α → α → Bool) : List α → Bool
  | [] => false
  | x :: xs => xs.any (p x) || anyPair p xs

/-- Two claims name one resource (R7). -/
def claimsMeet (x y : Claim) : Bool :=
  decide (x.engines &&& y.engines ≠ 0) || decide (x.pioEng &&& y.pioEng ≠ 0) || decide (x.pins &&& y.pins ≠ 0) ||
    decide (x.rxq &&& y.rxq ≠ 0) || decide (x.cans &&& y.cans ≠ 0) || decide (x.eports &&& y.eports ≠ 0) ||
    decide (0 < x.flowCount ∧ 0 < y.flowCount ∧ x.flowFirst < y.flowFirst + y.flowCount ∧
      y.flowFirst < x.flowFirst + x.flowCount)

/-- A claim exceeds what the device has, or claims more contexts than its engines hold (R7). -/
def claimBeyond (x : Claim) : Bool :=
  decide (10 * countOf 16 (fun n => x.engines.testBit n) < x.contexts) || 
    decide (0 < x.flowCount ∧ 4096 < x.flowFirst + x.flowCount) ||
    decide (16 ≤ x.cans) || decide (16 ≤ x.eports)

/-- Engine n's windows break R414. -/
def windowBad (n : Nat) (d : Dev) : Bool :=
  let pins := windowPins n d
  if pins = [] then false
  else
    decide (128 < pioFld n 0x4C 14 8 d + pioOcnt n d) || decide (128 < pioFld n 0x4C 28 22 d + pioScnt n d) ||
      match d.boot.claims.find? fun x => x.pioEng.testBit n with
      | none => true
      | some x => pins.any fun p => !x.pins.testBit p

/-- Code 0x1D (R79). -/
def claimBad (d : Dev) : Bool :=
  let named := (d.boot.claims.map (·.owner)).filter fun o => o ≠ 0
  decide (8 < named.length) || anyPair (fun x y => decide (x = y)) named || anyPair claimsMeet d.boot.claims ||
    d.boot.claims.any claimBeyond || ((List.range 32).any fun n => windowBad n d) ||
    anyPair (fun x y => x.any fun p => y.contains p) ((List.range 32).map fun n => windowPins n d)

/-! ## Producer entries (R26) -/

/-- INDEX values of a kind (R25): below this number. -/
def indexRange (kind : Nat) : Nat :=
  if kind = 1 then 4096 else if kind = 2 then 1023 else if kind = 3 then 24 else if kind = 4 then 32
  else if kind = 5 then 64 else if kind = 6 then 16 else 1

/-- Entry g breaks a rule on the entry alone (R26). -/
def entryBad (g : Nat) (d : Dev) : Bool :=
  let e := producer g d
  let k := fld e 31 28
  decide (indexRange k ≤ fld e 27 16) || decide ((g < 2) ≠ (k = 7)) || (k = 1 && flowType (fld e 27 16) d ≠ 0)

/-- Granules g .. g + n - 1 exist and name producer (kind, index). -/
def carries (kind index g n : Nat) (d : Dev) : Bool :=
  (List.range n).all fun i =>
    decide (g + i < 16384) && prodKind (producer (g + i) d) = kind && fld (producer (g + i) d) 27 16 = index

/-- A Sampler channel, PIO engine, loop or capture unit is mapped onto a granule of another producer (R423, R437, R444,
R449). -/
def unitMapBad (d : Dev) : Bool :=
  ((List.range 24).any fun n => rb (A.smpSd n 0) 31 d && rb (A.smpSd n 0) 25 d && !carries 3 n (rf (A.smpSd n 8) 13 0 d) 1 d) ||
  ((List.range 32).any fun n => rxDst n d = 1 && !carries 4 n (rf (A.pio n 0x70) 27 14 d) 64 d) ||
  ((List.range 64).any fun n => loopEn n d && !carries 5 n (fld (loopWord n 0 d) 13 0) 1 d) ||
  ((List.range 16).any fun n => ccMode n d = 0 && rb (A.smpCc n 0) 22 d && !carries 6 n (rf (A.smpCc n 0x10) 13 0 d) 1 d)

/-- A loop is left with UMIN > UMAX (R450). -/
def loopLimitBad (d : Dev) : Bool :=
  (List.range 64).any fun n => decide ((loopWord n 9 d).toInt < (loopWord n 8 d).toInt)

/-! ## Constellations (R298, R324) -/

/-- Every must-be-0 bit of Constellation k is 0 (R295, R298). -/
def cstReserved (k : Nat) (d : Dev) : Bool :=
  (List.range (16 + 4 * cstEntries k d)).all fun w => (cstWord k w d &&& word (tabMbz 18 (0x800 * k + w))) = 0

/-- The header's ranges (R295, R298). -/
def cstHeaderOk (k : Nat) (d : Dev) : Bool :=
  let n := fld (cstWord k 0 d) 30 22
  decide (100 ≤ cstCycle k d ∧ cstCycle k d ≤ 500000) && decide (1 ≤ n ∧ n ≤ 256) && decide (2 ≤ cstAp k d) &&
    decide (cstNit k d + 10 ≤ cstCycle k d) && cstSync k 0 d && decide (countOf 32 (fun i => cstSync k i d) ≤ 4) &&
    cstCold k 0 d && ((List.range 32).all fun i => !cstCold k i d || cstSync k i d)

/-- VALID is 1 in the entries in use and in no other (R298). -/
def cstValidOk (k : Nat) (d : Dev) : Bool :=
  (List.range 256).all fun e => bit (cstWord k (17 + 4 * e) d) 31 == decide (e < cstEntries k d)

/-- An entry by itself (R291, R298). -/
def cstEntryOk (k : Nat) (x : Slot) (d : Dev) : Bool :=
  decide (cstAp k d + x.plen + 14 ≤ x.len) && decide (x.plen % 2 = 0) && decide (x.plen ≤ 128) && decide (x.base < 2 ^ x.rep) &&
    (!x.sync || (decide (x.count = 0) && decide (x.rep = 0) && decide (16 ≤ x.plen) && cstSync k x.owner d))

/-- The entries in order (R298): START rises, no slots overlap, SLOT counts on, the last slot ends before NIT and its
number is at most 1,022. -/
def cstOrderOk (nit : Nat) : Nat → Nat → List Slot → Bool
  | _, slot, [] => decide (slot ≤ 1023)
  | pos, slot, x :: xs =>
    let stop := x.start + (x.count + 1) * x.len
    decide (pos ≤ x.start) && decide (x.slot = slot) && decide (stop ≤ nit) &&
      cstOrderOk nit stop (slot + x.count + 1) xs

/-- The slot map of one slot (R296, R298). -/
def slotMapOk (k : Nat) (x : Slot) (d : Dev) : Bool :=
  let w := mapWord k x.slot d
  let own : Bool := x.owner = ownNode d
  let n := ((if x.sync then x.plen - 16 else x.plen) + 7) / 8
  if fld w 31 30 = 1 ∨ (fld w 31 30 = 3 ∧ own = false) then
    decide (fld w 13 0 + n ≤ 16384) && (own || carries 2 x.slot (fld w 13 0) n d)
  else true

/-- Constellation k meets R298. -/
def cstOk (k : Nat) (d : Dev) : Bool :=
  let es := (List.range (cstEntries k d)).map fun e => cstEntry k e d
  cstHeaderOk k d && cstValidOk k d && cstReserved k d && (es.all fun x => cstEntryOk k x d) &&
    cstOrderOk (cstNit k d) 0 0 es &&
    ((List.range 32).all fun i => !cstSync k i d || decide ((es.filter fun x => x.sync && x.owner = i).length = 1)) &&
    ((slotsOf k d).all fun x => slotMapOk k x d)

/-- The Constellations of the image (R298, R324). START must name a valid one where any is valid or Meridian is
enabled. -/
def cstAllOk (d : Dev) : Bool :=
  let valid := (List.range 8).filter fun k => cstValid k d
  (valid.all fun k => cstOk k d) &&
    ((decide (valid = []) && !rb A.mrdCtrl 0 d) ||
      (cstValid (startCst d) d && decide (cstAp (startCst d) d + 30 ≤ (cstEntry (startCst d) 0 d).len) &&
        decide (2 * cstAp (startCst d) d + 58 ≤ dawnDlen d)))

/-- Code 0x1E (R79). -/
def producerBad (d : Dev) : Bool :=
  ((List.range 16384).any fun g => entryBad g d) || unitMapBad d || loopLimitBad d || !cstAllOk d

/-! ## The rack hash (R66, R294) -/

/-- The CRC-32C over the Constellation loads applied so far. -/
def rackHash (d : Dev) : Nat := d.boot.rack ^^^ 0xFFFFFFFF

/-- Code 0x1F (R66). -/
def rackBad (d : Dev) : Bool :=
  let h := hdrNat d.boot.hdr 0x10 4
  if role d = 0 then decide (h ≠ 0) || d.boot.rackAny else decide (rackHash d ≠ h)

/-- The whole-image checks (R67); 0 where all pass. -/
def wholeImageCode (d : Dev) : Nat :=
  if claimBad d then 0x1D else if producerBad d then 0x1E else if rackBad d then 0x1F else 0

end Sys2Proof.Machine
end

