-- ==== Sys2Proof/Machine/Boot.lean ====
section
/-! DEFINITION. Machine/Boot.lean: the phases of start-up up to the signature (R41-R54, R63, R64, R67, R87). -/

namespace Sys2Proof.Machine

/-- A phase runs only where it is due. -/
def atStep (b : BootStep) (f : Dev → Dev) (d : Dev) : Dev := when (d.sys.mode = .startup && d.boot.step = b) f d

/-! ## Phases 1 to 5 -/

/-- ROLE as decoded from the straps (R45, R46). -/
def strapRole (mode2 mode1 : Bool) : Nat :=
  if mode2 then (if mode1 then 3 else 2) else (if mode1 then 1 else 0)

/-- SYS_STRAP (R46). -/
def strapWord (mode2 mode1 mode0 bootSel : Bool) : Word :=
  word (atBit (strapRole mode2 mode1) 4 + atBit bootSel.toNat 3 + atBit mode2.toNat 2 + atBit mode1.toNat 1 + mode0.toNat)

/-- After a safety-escalation reset or a tamper trip in RETAIN or OFF (R87, R490): Twilight with the code held. -/
def escalatedStart (d : Dev) : Dev :=
  let code := if rf A.sysRstCause 7 0 d = 5 then rf A.sysRstCause 15 8 d else 0x4B
  { d with boot := { d.boot with step := .escalated } } |> startupFail code |> when d.sec.defunctDue tamperDefunct

/-- Phases 1 and 2 (R41, R45, R82, R252): the time bases count, the straps are sampled. -/
def rootPllLock (mode2 mode1 mode0 bootSel : Bool) (d : Dev) : Dev :=
  let d := { d with now := 0, boot := { d.boot with release := d.now }, ntm := { d.ntm with counting := true } }
    |> wb A.sysClkStat 15 true |> wr A.sysStrap (strapWord mode2 mode1 mode0 bootSel) |> wf A.almBootStat 27 24 2
  if d.sys.escalated then escalatedStart d
  else if mode2 && mode1 then startupFail 0x01 d
  else enterPhase 3 "P3" .mbist d

/-- ROOT_PLL_LOCK (R41). -/
def execRootPllLock (mode2 mode1 mode0 bootSel : Bool) (s : State) : Host.Outcome State Fault Refusal :=
  onDev (atStep .pll (rootPllLock mode2 mode1 mode0 bootSel)) s

/-- The failing bank in the entry of the fault log written last (R47). -/
def logBank (b : Nat) (d : Dev) : Dev :=
  let i := (d.sys.logNext + 15) % 16
  { d with sys := { d.sys with log := d.sys.log.zipIdx.map fun p => if p.2 = i then { p.1 with bank := b } else p.1 } }

/-- Phase 3 (R47): every byte is 0 with correct parity; a failing bank stops start-up. -/
def memoryBist (bad : Option Nat) (d : Dev) : Dev :=
  let d := { d with mem := [], badPar := [], img := { d.img with pages := [] } }
  match bad with
  | some b => d |> startupFail 0x02 |> logBank b
  | none => enterPhase 4 "P4" .lbist d

/-- MEMORY_BIST (R47). -/
def execMemoryBist (bad : Option (Fin 60)) (s : State) : Host.Outcome State Fault Refusal :=
  onDev (atStep .mbist (memoryBist (bad.map fun b => b.val))) s

/-- LOGIC_BIST (R48): the signatures match, or start-up stops. -/
def execLogicBist (ok : Bool) (s : State) : Host.Outcome State Fault Refusal :=
  onDev (atStep .lbist (if ok then enterPhase 5 "P5" .fuses else startupFail 0x03)) s

/-- Phase 5 (R49, R481, R492): the state encoded takes effect, and debug follows it. -/
def fuseRead (uncorrectable : Bool) (f : Fuses) (d : Dev) : Dev :=
  if uncorrectable then startupFail 0x04 d
  else
    let d := d |> showFuses f |> wf A.secLc 31 29 f.life
    if 5 ≤ f.life then startupFail 0x05 d
    else wf A.secLc 11 9 (dbgBase d) d |> enterPhase 6 "P6A" .flash

/-- FUSE_READ (R49). -/
def execFuseRead (uncorrectable : Bool) (s : State) : Host.Outcome State Fault Refusal :=
  onDev (atStep .fuses (fuseRead uncorrectable s.fuses)) s

/-! ## Phase 6a -/

/-- Is slot B tried first (R52)? -/
def slotBFirst (a b : List Byte) (d : Dev) : Bool :=
  match wellFormedHdr a, wellFormedHdr b with
  | true, false => false
  | false, true => true
  | true, true =>
    if hdrNat a 0x18 4 = hdrNat b 0x18 4 then rb A.sysStrap 3 d else decide (hdrNat a 0x18 4 < hdrNat b 0x18 4)
  | false, false => rb A.sysStrap 3 d

/-- The header of a slot, where the board's flash shows `seen` (R72, R73): a slot erased and not programmed has none. -/
def slotHeader (x : FlashSlot) (seen : List Byte) : List Byte :=
  match x with
  | .outside => slice seen 0 64
  | .headerless => List.replicate 64 0xFF
  | .image bytes => slice bytes 0 64

/-- The public key at the end of a slot's image (R63), where the board's flash shows `seen`. -/
def slotKey (x : FlashSlot) (seen : List Byte) : List Byte :=
  match x with
  | .outside => slice seen 0 96
  | .headerless => []
  | .image bytes => slice bytes (imgLen bytes - 192) 96

/-- The bytes of a slot from 0x40 on, where the board's flash shows `seen`. -/
def slotBody (x : FlashSlot) (seen : List Byte) : List Byte :=
  match x with
  | .image bytes => bytes.drop 64
  | _ => seen

/-- Phase 6a (R50-R52, R67): `octal` and `quad` tell in which modes the flash answers; a header and a key a slot. -/
def flashDiscovery (octal quad : Bool) (a keyA b keyB : List Byte) (d : Dev) : Dev :=
  let mode0 := rb A.sysStrap 0 d
  let oct := octal && !mode0
  let some1 := oct || quad
  let first := if some1 then slotBFirst a b d else rb A.sysStrap 3 d
  let d := { d with boot := { d.boot with
      octal := oct, slot := first, second := false
      hdr := if first then b else a, hdrOther := if first then a else b
      key := if first then keyB else keyA, keyOther := if first then keyA else keyB
      otherFails := if some1 then 0 else 0x10 } }
    |> wb A.almBootStat 28 (!oct && quad) |> wb A.almBootStat 29 first
  let c := if some1 then headerCode d.boot.hdr d.boot.key d else 0x10
  if c ≠ 0 then slotFail c d else startImage d

/-- FLASH_DISCOVERY (R50, R73): the modes in which the flash answers, and the 64 header bytes and the 96 bytes of the public
key of each slot; a slot that this device has written shows what it wrote. -/
def execFlashDiscovery (octal quad : Bool) (hdrA keyA hdrB keyB : List Byte) (s : State) :
    Host.Outcome State Fault Refusal :=
  onDev (atStep .flash (fun d => flashDiscovery octal quad (slotHeader d.flashA hdrA) (slotKey d.flashA keyA)
    (slotHeader d.flashB hdrB) (slotKey d.flashB keyB) d)) s

/-! ## Phases 6b and 6c -/

/-- Address of byte o of the staging copy (R60, R68). -/
def staging (o : Nat) : Nat := 0x04800000 + o

/-- n bytes of the staging copy. -/
def staged (o n : Nat) (d : Dev) : List Byte := memBytes (staging o) n d

/-- A number in the staging copy. -/
def stagedNat (o n : Nat) (d : Dev) : Nat := leNat (staged o n d)

/-- The end of the image is a commit record and a signature record (R58, R67). -/
def tailOk (d : Dev) : Bool :=
  let s := imgLen d.boot.hdr - 200
  stagedNat s 1 d = 0x0F && stagedNat (s + 4) 4 d = 192 && stagedNat (s - 12) 1 d = 0x0E && stagedNat (s - 8) 4 d = 4

/-- Phase 6b (R41, R67): the image stands in staging. -/
def imageRead (bytes : List Byte) (err : Bool) (d : Dev) : Dev :=
  if err then slotFail 0x20 d
  else
    let d := memPut (staging 0) (slice (d.boot.hdr ++ slotBody (flashSlot d.boot.slot d) bytes) 0 (imgLen d.boot.hdr)) d
    if tailOk d then enterPhase 6 "P6C" .signature d else slotFail 0x14 d

/-- IMAGE_READ (R41): the bytes of the slot from 0x40 on, or a flash read error. -/
def execImageRead (bytes : List Byte) (err : Bool) (s : State) : Host.Outcome State Fault Refusal :=
  onDev (atStep .image (imageRead bytes err)) s

/-- Phase 6c (R63, R67): the signature, by the key that stage 6a accepted. NODE follows the header (R316). -/
def verifySignature (d : Dev) : Dev :=
  let s := imgLen d.boot.hdr - 200
  if !signatureOk (staged 0 s d) d.boot.key (staged (s + 104) 96 d) then slotFail 0x19 d
  else d |> wf A.mrdCtrl 15 11 (hdrNat d.boot.hdr 0x0F 1) |> enterPhase 6 "P6D" .apply

/-- SIGNATURE_VERIFICATION (R487). -/
def execSignatureVerification (s : State) : Host.Outcome State Fault Refusal := onDev (atStep .signature verifySignature) s

end Sys2Proof.Machine
end

