-- ==== Sys2Proof/Machine/Records.lean ====
section
/-! DEFINITION. Machine/Records.lean: the records of an image in staging, applied in order (R55-R63, R66-R68), the commit
record, and the rollback fuses (R65). -/

namespace Sys2Proof.Machine

/-! ## The next record (R57, R58) -/

/-- Kinds of records, by type and space; `bad` where the type, the space or the place is not permitted. -/
inductive RecKind where
  | regs | direct | indirect | enc | claim | commit | bad
  deriving DecidableEq, Repr

/-- TYPE of the next record. -/
def recType (d : Dev) : Nat := stagedNat d.boot.cursor 1 d
/-- BODY_LEN of the next record. -/
def recLen (d : Dev) : Nat := stagedNat (d.boot.cursor + 4) 4 d
/-- Number of n bytes at offset o of the next record's body. -/
def recNat (o n : Nat) (d : Dev) : Nat := stagedNat (d.boot.cursor + 8 + o) n d
/-- n bytes at offset o of the next record's body. -/
def recBytes (o n : Nat) (d : Dev) : List Byte := staged (d.boot.cursor + 8 + o) n d
/-- The commit record's place (R58). -/
def commitPlace (d : Dev) : Nat := imgLen d.boot.hdr - 212
/-- The records of an encrypted section stand next. -/
def inSection (d : Dev) : Bool := d.boot.encEnd ≠ 0

/-- The kind of the next record (R58, R60, R61). -/
def recKind (d : Dev) : RecKind :=
  let t := recType d
  if inSection d && decide (d.boot.encEnd < d.boot.cursor + 8) then .bad
  else if !inSection d && decide (commitPlace d < d.boot.cursor) then .bad
  else if t = 1 then .regs
  else if t = 2 then (if recNat 0 1 d = 1 then .direct else if recNat 0 1 d = 2 then .indirect else .bad)
  else if t = 3 ∧ !inSection d then .enc
  else if t = 4 then .claim
  else if t = 0x0E ∧ !inSection d ∧ d.boot.cursor = commitPlace d then .commit
  else .bad

/-- Where the next record must have ended. -/
def recLimit (d : Dev) : Nat :=
  if inSection d then d.boot.encEnd else if recType d = 0x0E then imgLen d.boot.hdr - 200 else commitPlace d

/-- The record header is in order (R55, R57): reserved byte, INDEX, length. -/
def recHeadOk (d : Dev) : Bool :=
  stagedNat (d.boot.cursor + 1) 1 d = 0 && stagedNat (d.boot.cursor + 2) 2 d = d.boot.index && recLen d % 4 = 0 &&
    decide (d.boot.cursor + 8 + recLen d ≤ recLimit d)

/-- The place behind the last record of a section is behind its tag (R61). -/
def leaveSection (d : Dev) : Dev :=
  if d.boot.encEnd ≠ 0 ∧ d.boot.cursor = d.boot.encEnd then
    { d with boot := { d.boot with cursor := d.boot.cursor + 16, encEnd := 0 } }
  else d

/-- The record is applied: the next one follows `skip` bytes on. -/
def nextRecord (skip : Nat) (d : Dev) : Dev :=
  { d with boot := { d.boot with cursor := d.boot.cursor + skip, index := d.boot.index + 1 } }

/-- Apply a record (R67): the first failing check ends the slot. -/
def applyRecord (code : Nat) (act : Dev → Dev) (d : Dev) : Dev :=
  if code ≠ 0 then slotFail code d
  else
    let n := 8 + recLen d
    let d := act d
    if d.sys.mode = .startup ∧ d.boot.step = .apply then d |> nextRecord n |> leaveSection else d

/-- Where the next record is of kind k, f applies it; a record that is no permitted one ends the slot (R67). -/
def onRecord (k : RecKind) (f : Dev → Dev) : Dev → Dev :=
  atStep .apply fun d =>
    if recKind d = .bad then slotFail 0x1A d
    else if recKind d ≠ k then d
    else if !recHeadOk d then slotFail 0x1A d
    else f d

/-! ## Register writes (R59) -/

/-- A register address as R59 permits it. -/
def writeTargetOk (a : Nat) : Bool := decide (a % 4 = 0) && (inWindow a || inPeRegs a)

/-- LIVE bits of the register at a. -/
def liveBits (a : Nat) : Word := match regAt a with | some (_, r, _) => word r.live | none => 0

/-- One entry: the register is read, and its masked bits are written; LIVE bits of the mask are ignored. -/
def applyEntry (f : Fuses) (a : Nat) (mask value : Word) (d : Dev) : Dev :=
  let m := mask &&& ~~~(liveBits a)
  let r := readReg 0 0 a d
  writeReg 0 0 a ((r.1 &&& ~~~m) ||| (value &&& m)) f r.2

/-- The entries of a register-write record. -/
def recEntries (d : Dev) : List (Nat × Word × Word) :=
  (List.range (recLen d / 12)).map fun i =>
    (recNat (12 * i) 4 d, word (recNat (12 * i + 4) 4 d), word (recNat (12 * i + 8) 4 d))

/-- A register-write record (R59). -/
def applyWrites (f : Fuses) (d : Dev) : Dev :=
  let es := recEntries d
  let code := if recLen d % 12 ≠ 0 then 0x1A else if es.all fun e => writeTargetOk e.1 then 0 else 0x1C
  applyRecord code (fun d => es.foldl (fun d e => applyEntry f e.1 e.2.1 e.2.2 d) d) d

/-- REGISTER_WRITE_RECORD (R59). -/
def execRegisterWriteRecord (s : State) : Host.Outcome State Fault Refusal :=
  onDev (onRecord .regs (applyWrites s.fuses)) s

/-! ## Memory loads (R60) -/

/-- Is a byte a permitted target of a direct load? -/
def loadTarget (a : Nat) : Bool :=
  match region a with
  | .iram _ => true
  | .dram _ => true
  | .ucode _ => true
  | .image => true
  | .sram => a < 0x04800000
  | .priv => a < 0x01070000
  | _ => false

/-- A byte loaded into both pages of a granule. -/
def loadImageByte (a : Nat) (v : Byte) (d : Dev) : Dev :=
  let o := a - 0x06000000
  let g := o / 8
  let m : BitVec 8 := BitVec.ofNat 8 (2 ^ (o % 8))
  let x : DWord := BitVec.ofNat 64 (v.toNat * 256 ^ (o % 8))
  d |> setPageGran 0 g m (mergeBytes m (pageGran 0 g d) x) |> setPageGran 1 g m (mergeBytes m (pageGran 1 g d) x)

/-- Data loaded from an address upward; what falls into a bank that is not accessible is discarded and recorded (R130,
R131). -/
def loadBytes (a : Nat) (bs : List Byte) (d : Dev) : Dev :=
  let off := (List.range bs.length).find? fun i => !banksReady (a + i) d
  let d' := (bs.zipIdx a).foldl (fun d p =>
    if !banksReady p.2 d then d
    else if region p.2 = .image then loadImageByte p.2 p.1 d else memPut p.2 [p.1] d) d
  match off with
  | some i => accEvent 0 1 true (a + i) d'
  | none => d'

/-- The banks that a load writes (R53, R68). -/
def loadBanks (a n : Nat) (d : Dev) : Dev :=
  let l := (List.range n).foldl (fun l i => l ++ (banksOf (a + i)).filter fun b => !l.contains b) d.boot.banks
  { d with boot := { d.boot with banks := l } }

/-- SPACE's reserved bytes and the length (R60). -/
def loadFormOk (d : Dev) : Bool := decide (12 ≤ recLen d) && recNat 1 3 d = 0

/-- A direct load (R60). -/
def applyDirect (d : Dev) : Dev :=
  let a := recNat 4 4 d
  let n := recLen d - 12
  let code := if !loadFormOk d ∨ recNat 8 4 d ≠ 0 then 0x1A
    else if (List.range (max n 1)).all fun i => loadTarget (a + i) then 0 else 0x1C
  applyRecord code (fun d => d |> loadBytes a (recBytes 12 n d) |> loadBanks a n) d

/-- MEMORY_LOAD_DIRECT (R60). -/
def execMemoryLoadDirect (s : State) : Host.Outcome State Fault Refusal := onDev (onRecord .direct applyDirect) s

/-- The rack hash covers a load of the Constellation table (R66, R294). -/
def rackLoad (a off : Nat) (bs : List Byte) (d : Dev) : Dev :=
  if a = A.mrdIndAddr ∧ off / 65536 % 4 = 0 then
    { d with boot := { d.boot with rack := crcFold d.boot.rack bs, rackAny := true } }
  else d

/-- The words of an indirect load, each once BUSY has cleared (R60). -/
def loadWords (f : Fuses) (a : Nat) (ws : List Word) (d : Dev) : Dev :=
  ws.foldl (fun d w => writeReg 0 0 (a + 4) w f (indComplete a d)) d

/-- An indirect load (R60). -/
def applyIndirect (f : Fuses) (d : Dev) : Dev :=
  let a := recNat 4 4 d
  let off := recNat 8 4 d
  let n := recLen d - 12
  let code := if !loadFormOk d then 0x1A else if isIndAddr a then 0 else 0x1C
  applyRecord code (fun d =>
    let ws := (List.range (n / 4)).map fun i => word (recNat (12 + 4 * i) 4 d)
    rackLoad a off (recBytes 12 n d) d |> writeReg 0 0 a (word off) f |> loadWords f a ws) d

/-- MEMORY_LOAD_INDIRECT (R60). -/
def execMemoryLoadIndirect (s : State) : Host.Outcome State Fault Refusal :=
  onDev (onRecord .indirect (applyIndirect s.fuses)) s

/-! ## Encrypted sections (R61) -/

/-- The plaintext of n bytes under a key. -/
def plaintext (key : BitVec 256) (iv ct : List Byte) : List Byte :=
  (List.range ct.length).map fun i => Config.gcmPlainByte key iv ct i

/-- An encrypted section (R61, R64, R487): decrypted in place once its tag is right; its records come next. -/
def applySection (f : Fuses) (d : Dev) : Dev :=
  let n := recLen d - 32
  let iv := recBytes 0 12 d
  let ct := recBytes 16 n d
  let place := d.boot.cursor + 24
  if recLen d < 32 ∨ recNat 12 4 d ≠ n then slotFail 0x1A d
  else match f.imageKey with
    | none => slotFail 0x1B d
    | some key =>
      if lifeState d = 0 || !Config.gcmTagOk key iv (staged d.boot.cursor 8 d) ct (recBytes (16 + n) 16 d) then slotFail 0x1B d
      else
        let d := memPut (staging place) (plaintext key iv ct) d
        { d with boot := { d.boot with cursor := place, index := d.boot.index + 1, encEnd := place + n } } |> leaveSection

/-- ENCRYPTED_SECTION (R61). -/
def execEncryptedSection (s : State) : Host.Outcome State Fault Refusal := onDev (onRecord .enc (applySection s.fuses)) s

/-! ## Resource claims (R62) -/

/-- The claim of the next record's body. -/
def recClaim (d : Dev) : Claim :=
  { owner := recNat 0 1 d, contexts := recNat 1 1 d, engines := recNat 2 2 d, flowFirst := recNat 4 2 d
    flowCount := recNat 6 2 d, pioEng := recNat 8 4 d, pins := recNat 0x0C 16 d, rxq := recNat 0x1C 20 d
    cans := recNat 0x30 1 d, eports := recNat 0x31 1 d }

/-- A resource-claim record (R55, R62): checked with all others at the commit record. -/
def applyClaim (d : Dev) : Dev :=
  let c := recClaim d
  let code := if recLen d ≠ 64 ∨ 12 < c.owner ∨ recNat 0x32 14 d ≠ 0 then 0x1A else 0
  applyRecord code (fun d => { d with boot := { d.boot with claims := d.boot.claims ++ [c] } }) d

/-- RESOURCE_CLAIM_RECORD (R62). -/
def execResourceClaimRecord (s : State) : Host.Outcome State Fault Refusal := onDev (onRecord .claim applyClaim) s

/-! ## The commit record (R57, R67, R68) -/

/-- The indices of the last two records, and the signature record's header (R55, R57). -/
def commitIndexOk (d : Dev) : Bool :=
  let n := hdrNat d.boot.hdr 0x16 2
  let s := d.boot.cursor + 12
  d.boot.index + 2 = n && stagedNat (s + 1) 1 d = 0 && stagedNat (s + 2) 2 d + 1 = n

/-- Phase 7 (R67, R68): the whole-image checks, the configuration CRC against the reference, the commit. -/
def finishImage (ref : Word) (d : Dev) : Dev :=
  let d := enterPhase 7 "P7" .apply d
  let c := wholeImageCode d
  if c ≠ 0 then slotFail c d
  else
    let d := d |> wr A.mrdHash (word (rackHash d)) |> sweepResult
    if configCrc d ≠ ref then slotFail 0x30 d
    else
      let d := d |> writeAlmCommit 0 0x0E1A0001 |> atStep .apply (writeAlmCommit 0 ref)
      when d.sys.sweepForCommit sweepDone d

/-- The commit record (R63, R67). -/
def applyCommit (d : Dev) : Dev :=
  if recLen d ≠ 4 ∨ commitIndexOk d = false then slotFail 0x1A d else finishImage (word (recNat 0 4 d)) d

/-- COMMIT_RECORD (R68). -/
def execCommitRecord (s : State) : Host.Outcome State Fault Refusal := onDev (onRecord .commit applyCommit) s

/-! ## Rollback fuses (R65, R488) -/

/-- The fuses burned until their count equals ROLLBACK. -/
def rollbackList (f : Fuses) (d : Dev) : List Nat :=
  (((List.range 64).map fuseRollback).filter fun i => !f.has i).take (hdrNat d.boot.hdr 0x0C 2 - f.rollback)

/-- ROLLBACK_FUSE_BURN (R65): in SEALED and FIELD, in service. -/
def execRollbackFuseBurn (s : State) : Host.Outcome State Fault Refusal :=
  if inService s.dev ∧ (lifeState s.dev = 2 ∨ lifeState s.dev = 3) then
    let f := s.fuses.burn (rollbackList s.fuses s.dev)
    .next { s with fuses := f, dev := showFuses f s.dev }
  else .next s

end Sys2Proof.Machine
end

