-- ==== Sys2Proof/Machine/Diag.lean ====
section
/-! DEFINITION. Machine/Diag.lean: the ROM service loop (R70), the DIAG UART and the commands of the ROM diagnostic responder
(R43, R44, R76, R78). -/

namespace Sys2Proof.Machine

/-! ## The ROM's loops (R70, R76) -/

/-- The orphans the loop takes from SCH_ORPH, each freed (R70, R233). -/
def freeOrphans : Nat → Dev → Dev
  | 0, d => d
  | n + 1, d =>
    match d.dsp.orphans with
    | [] => d
    | o :: _ =>
      let d := (readOrph 0 d).2
      freeOrphans n (writeOrphCmd 0 (word (0x0F1D4000 + atBit o.token.toNat 13 + o.item)) d)

/-- A pass of the ROM service loop in service, of the responder in Twilight: both serve the watchdog. -/
def romTick (d : Dev) : Dev :=
  if !d.sys.romLoop then d
  else if inService d && !inDoze d then
    d |> writeSwdogSvc 0 0x0A5D0000 |> writeHbSvc 0 0x0B4D0000 |> freeOrphans d.dsp.orphans.length
  else if inService d then d |> writeSwdogSvc 0 0x0A5D0000 |> writeHbSvc 0 0x0B4D0000
  else if d.sys.mode = .twilight then writeSwdogSvc 0 0x0A5D0000 d
  else d

/-- ROM_SERVICE_TICK (R70). -/
def execRomServiceTick (s : State) : Host.Outcome State Fault Refusal := onDev romTick s

/-! ## The responder's commands (R78) -/

/-- A space. -/
def spaceChar : Char := Char.ofNat 32

/-- The word before the first space. -/
def diagWord (l : List Char) : List Char := l.takeWhile fun c => c ≠ spaceChar
/-- What follows the first space; none where there is none. -/
def diagArg (l : List Char) : Option (List Char) :=
  match l.dropWhile fun c => c ≠ spaceChar with
  | [] => none
  | _ :: r => some r

/-- The responder runs (R75, R76, R462). -/
def responder (d : Dev) : Bool := d.sys.mode = .twilight && d.sys.romLoop

/-- The command answered by a line; none for an unknown one. Commands without an argument take none. -/
def diagCommand (l : List Char) : Option String :=
  let w := String.ofList (diagWord l)
  let bare := (diagArg l).isNone
  if (w = "ID" ∨ w = "ST" ∨ w = "HS") ∧ bare then some w
  else if w = "LOG" ∨ w = "IMG" ∨ w = "RD" ∨ w = "RST" then some w
  else none

/-- The hexadecimal argument, below a bound. -/
def diagNum (l : List Char) (bound : Nat) : Option Nat :=
  match (diagArg l).bind hexParse with
  | some n => if n < bound then some n else none
  | none => none

/-- A reply: OK and its fields, each a value with its digits. -/
def diagOk (fields : List (Nat × Nat)) : String := fields.foldl (fun s p => s ++ " " ++ hexStr p.1 p.2) "OK"

/-- ID (R2, R78). -/
def diagIdReply : String := diagOk [(4, 0x4160), (2, 0xA1), (2, Config.romVersion.toNat)]

/-- ST (R78): Twilight code, CODE_FIRST, CODE_SECOND, phase, life-cycle state, slot. -/
def diagStReply (d : Dev) : String :=
  diagOk [(2, d.sys.twCode), (2, rf A.almBootStat 23 16 d), (2, rf A.almBootStat 15 8 d), (2, rf A.almBootStat 27 24 d),
    (2, lifeState d), (2, rf A.almBootStat 29 29 d)]

/-- LOG n (R78): code, time stamp, reset count; an entry never written is 0. -/
def diagLogReply (l : List Char) (d : Dev) : String :=
  match diagNum l 16 with
  | none => "E ARG"
  | some n =>
    let e : LogEntry := d.sys.log.getD n ⟨0, 0, 0, 0⟩
    diagOk [(2, e.code), (16, e.time.toNat), (4, e.resets)]

/-- HS (R78, R513): the host status block. -/
def diagHsReply (d : Dev) : String := diagOk ((hostBlock d).map fun w => (8, w.toNat))

/-- IMG g (R78). -/
def diagImgReply (l : List Char) (d : Dev) : String :=
  match diagNum l 16384 with
  | none => "E ARG"
  | some g => diagOk [(16, (committedGran g d).toNat)]

/-- The word that RD reads (R78, R105): as the debug master, without side effects. -/
def diagRdWord (a : Nat) (d : Dev) : Word :=
  if region a = .reg then (readReg 19 0 a d).1 else word (leNat (readBytes a 4 d))

/-- May debug read the word at a (R127, R144)? A bank that is not accessible reads 0. -/
def diagRdMay (a : Nat) (d : Dev) : Bool := decide (a % 4 = 0) && permitted 19 false false (region a) d

/-- RD a (R78, R492): in BLANK and DEVELOP. -/
def diagRdReply (l : List Char) (d : Dev) : String :=
  if !(lifeKnown d && decide (lifeState d ≤ 1)) then "E DENIED"
  else match diagNum l (2 ^ 32) with
    | none => "E ARG"
    | some a => if !diagRdMay a d then "E ARG" else diagOk [(8, if banksReady a d then (diagRdWord a d).toNat else 0)]

/-- The command that waits is answered. -/
def diagAnswer (d : Dev) : Dev :=
  match d.sys.diagCmd with
  | none => d
  | some l =>
    let d := { d with sys := { d.sys with diagCmd := none } }
    match diagCommand l with
    | none => diagOut "E UNKNOWN" d
    | some c =>
      if c = "ID" then diagOut diagIdReply d
      else if c = "ST" then diagOut (diagStReply d) d
      else if c = "LOG" then diagOut (diagLogReply l d) d
      else if c = "HS" then diagOut (diagHsReply d) d
      else if c = "IMG" then diagOut (diagImgReply l d) d
      else if c = "RD" then diagOut (diagRdReply l d) d
      else if diagArg l = some ['Y'] then
        diagOut "OK" { d with sys := { d.sys with diagDue := some (d.sys.diagDue.getD (d.now + 400000)) } }
      else diagOut "E ARG" d

/-- The line ends (R78): too long or unknown is answered at once, a command waits for its row. An earlier command is
answered first. -/
def diagLineEnd (d : Dev) : Dev :=
  let d := diagAnswer d
  let l := d.sys.diagLine
  let long := d.sys.diagLong
  let d := { d with sys := { d.sys with diagLine := [], diagLong := false } }
  if long then diagOut "E LONG" d
  else
    let d := { d with sys := { d.sys with diagCmd := some l } }
    if (diagCommand l).isNone then diagAnswer d else d

/-- A character on DIAG_RXD (R43, R44, R78): discarded with a stop bit of 0, and outside Twilight. -/
def diagCharacter (c : Byte) (stop : Bool) (d : Dev) : Dev :=
  if !stop || !responder d then d
  else if c = 13 then diagLineEnd d
  else if 64 ≤ d.sys.diagLine.length then { d with sys := { d.sys with diagLong := true } }
  else { d with sys := { d.sys with diagLine := d.sys.diagLine ++ [Char.ofNat c.toNat] } }

/-- DIAG_CHARACTER (R44): a character and its stop bit. -/
def execDiagCharacter (c : Byte) (stop : Bool) (s : State) : Host.Outcome State Fault Refusal :=
  onDev (diagCharacter c stop) s

/-- A command's row: it is answered where it is the one that waits. -/
def diagRow (name : String) (d : Dev) : Dev :=
  when (responder d && d.sys.diagCmd.bind diagCommand == some name) diagAnswer d

/-- ID (R78). -/
def execDiagId (s : State) : Host.Outcome State Fault Refusal := onDev (diagRow "ID") s
/-- ST (R78). -/
def execDiagSt (s : State) : Host.Outcome State Fault Refusal := onDev (diagRow "ST") s
/-- LOG (R78). -/
def execDiagLog (s : State) : Host.Outcome State Fault Refusal := onDev (diagRow "LOG") s
/-- HS (R78). -/
def execDiagHs (s : State) : Host.Outcome State Fault Refusal := onDev (diagRow "HS") s
/-- IMG (R78). -/
def execDiagImg (s : State) : Host.Outcome State Fault Refusal := onDev (diagRow "IMG") s
/-- RD (R78). -/
def execDiagRd (s : State) : Host.Outcome State Fault Refusal := onDev (diagRow "RD") s
/-- RST (R78). -/
def execDiagRst (s : State) : Host.Outcome State Fault Refusal := onDev (diagRow "RST") s

/-- DIAG_RESET_DELAY (R78, R86): 1 ms after the reply, a software reset. -/
def execDiagResetDelay (s : State) : Host.Outcome State Fault Refusal :=
  onDev (fun d => match d.sys.diagDue with
    | some t => when (decide (t ≤ d.now)) (deviceReset 3 0) d
    | none => d) s

end Sys2Proof.Machine
end

