-- ==== Sys2Proof/Machine/Boundary.lean ====
section
/-! DEFINITION. Machine/Boundary.lean: the cycle boundary (R13-R17, R21, R29-R31, R40, R92) and writes to the image windows
(R18, R27, R28). -/

namespace Sys2Proof.Machine

/-! ## The flip -/

/-- Boundaries of the image run (R32, R92): as MEM_IMG_STAT.RUN shows, on this device's own pace. -/
def imageOn (d : Dev) : Bool := inService d && committed d && rb A.memImgCtrl 0 d && !outputsHeld d

/-- The granules that count a deadline miss (R29): EXPECT set, a producer named, written bit clear. -/
def missCount (d : Dev) : Nat :=
  countOf 16384 fun g =>
    let e := producer g d
    bit e 15 && prodKind e ≠ 0 && prodKind e ≠ 7 && !d.img.written.getLsbD g

/-- The Meridian cycle counter of the cycle that ends (R30). -/
def headerMcc (d : Dev) : Nat := if role d = 0 then (rd A.memImgCycle d).toNat % 64 else mrdCc d

/-- BROKEN of the result (R30). -/
def resultBroken (misses : Nat) (d : Dev) : Bool :=
  d.img.cfg || d.img.nondet || d.img.unord || decide (misses ≠ 0) || rackBroken d

/-- Granule 0 of the result (R30). -/
def headerGran (misses : Nat) (d : Dev) : DWord :=
  let rack := role d ≠ 0
  BitVec.ofNat 64 (atBit (rd A.memImgCycle d).toNat 32 + atBit (headerMcc d) 26 +
    (if rack then atBit (curCst d) 23 + atBit (cstDepth (curCst d) d) 20 else 0) +
    atBit (resultBroken misses d).toNat 15 + atBit d.img.cfg.toNat 14 + atBit d.img.nondet.toNat 13 +
    atBit d.img.unord.toNat 12 + atBit (decide (misses ≠ 0)).toNat 11 + atBit (rackBroken d).toNat 10 +
    atBit d.img.late.toNat 9 + atBit d.img.npw.toNat 8 + min 255 (misses + d.img.lateCnt))

/-- Granule 1 of the result (R31). -/
def rackGran (d : Dev) : DWord := BitVec.ofNat 64 (atBit (rackMasks d).1 32 + (rackMasks d).2)

/-- The select vector after a flip (R17, R21): every written granule's open copy becomes the committed one. -/
def flipSel (d : Dev) : Dev :=
  { d with img := { d.img with sel := d.img.sel ^^^ d.img.written, written := 0 } }

/-- The flip (R17, R21, R29-R31): the header granules are written with it, and MISS and BROKEN are reported. -/
def flip (d : Dev) : Dev :=
  let m := missCount d
  let broken := resultBroken m d
  let d := d |> openWrite 0 0 0xFF (headerGran m d) |> openWrite 0 1 0xFF (rackGran d) |> flipSel
  let d := { d with img := { d.img with cfg := false, nondet := false, unord := false, late := false, npw := false,
                                        lateCnt := 0, begun := true } }
  d |> raiseIf (decide (m ≠ 0)) A.memImgStat 2 |> irqIf (decide (m ≠ 0) && rb A.memImgCtrl 2 d)
    |> raiseIf broken A.memImgStat 3 |> irqIf (broken && rb A.memImgCtrl 3 d)

/-- The next cycle opens (R15): its number, and the time of its boundary; TB_0 at the one before is kept for the latches whose
write lands late (R157, R436). -/
def openCycle (d : Dev) : Dev :=
  { d with img := { d.img with openNow := d.now, prevNow := d.img.openNow, openTb := tbNs 0 d, prevTb := d.img.openTb } } |> wr A.memImgCycle (rd A.memImgCycle d + 1)

/-! ## What the boundary starts (R17) -/

/-- The boundary item of flow f (R231): it replaces one that still waits unassigned. It is ready in the cycle t_b + 1 of its
post (R218). -/
def postBoundary (f : Nat) (d : Dev) : Dev :=
  let old := d.dsp.ready.find? fun it => it.token && it.flow = f
  let d := match old with
    | some it => dropItem it (modDsp (fun q => { q with ready := dropIf (fun x => x.token && x.flow = f) q.ready }) d)
    | none => d
  d |> dspTick |> fun d => makeReady (d.now + 1) { newItem 7 f 0 [] 0 0 d with token := true } d

/-- Boundary items of every cyclic flow (R231, R544). -/
def postBoundaries (d : Dev) : Dev :=
  if !dspOn d then d
  else trackDepth (((List.range 4096).filter fun f => flowEn f d && flowCyclic f d).foldl (fun d f => postBoundary f d) d)

/-- CORE cycles from this boundary to the next (R14, R290). -/
def cycleLen (d : Dev) : Nat :=
  if role d = 0 then min 4000000 (max 800 (rd A.memImgPeriod d).toNat)
  else ((nextBound d - instant d) / tickUnit).toNat

/-- The actions after the flip (R17, R427, R446, R455). -/
def afterFlip (grants : Nat) (d : Dev) : Dev :=
  d |> postBoundaries |> loopRun grants (cycleLen d) |> startRefills |> pwmBoundary

/-- The image's part of a boundary: none without boundaries (R40); after the last one before RETAIN or OFF they stop (R92). -/
def imageBoundary (grants : Nat) (node : Dev → Dev) (d : Dev) : Dev :=
  if !imageOn d then node d
  else
    let d := d |> latchSkips (d.now - d.img.openNow) |> flip |> openCycle |> node
    d |> afterFlip grants |> when d.sys.flipStop lastFlip

/-- The boundary of a standalone device (R14): its period counter runs on. -/
def standaloneBoundary (grants : Nat) (d : Dev) : Dev :=
  if imageOn d && decide (d.img.due ≤ d.now) then
    imageBoundary grants (fun d => { d with img := { d.img with due := d.img.due + cycleLen d } }) d
  else d

/-- The boundary of a node that holds a timeline (R13, R290, R337): macrotick 0 of the Meridian cycle. Where a tentative cycle has just
opened, only the image's part is left to do (R318). -/
def rackBoundary (grants : Nat) (d : Dev) : Dev :=
  if holdsTimeline d && d.mrd.opened then d |> modMrd (fun m => { m with opened := false }) |> imageBoundary grants id
  else if !(holdsTimeline d && decide (nextBound d ≤ instant d)) then d
  else if remoteResetDue d then deviceReset 4 0 d
  else d |> acceptHeld |> imageBoundary grants mrdBoundary |> when (outputsHeld d) mrdStop

/-- CYCLE_BOUNDARY (R17): `grants` counts the port-B grants of other masters during the loops' run (R455). -/
def execCycleBoundary (grants : Nat) (s : State) : Host.Outcome State Fault Refusal :=
  onDev (fun d => if role d = 0 then standaloneBoundary grants d else rackBoundary grants d) s

/-! ## Writes to the windows (R18, R27, R28) -/

/-- The address of a window is accessible to master m for a write, else the write is discarded and recorded, or an engine's
takes its exception (R127-R131). -/
def windowWrite (m a : Nat) (f : Dev → Dev) : Dev → Dev :=
  byMaster m none true a fun d => if banksReady a d then f d else accEvent m 1 true a d

/-- IMAGE_WINDOW_WRITE (R18): a write of master m as producer (kind, index), kind 0 for a party that is never one, tagged with
a cycle number; `det` is SR.DET of an engine's context. -/
def execImageWindowWrite (m : Fin 28) (kind : Fin 16) (index : Fin 4096) (g : Fin 16384) (mask : BitVec 8) (data : DWord) (tag : Word)
    (det : Bool) (s : State) : Host.Outcome State Fault Refusal :=
  onDev (fun d =>
    let a := 0x06000000 + 8 * g.val
    let party := if kind.val = 0 then none else some (kind.val, index.val)
    when (powered d) (windowWrite m a (imgWrite m party g mask data tag (det || decide (kind.val ≠ 1)))) d) s

/-- SHADOW_WINDOW_WRITE (R18): a write of master m, discarded and handled as a non-producer write. -/
def execShadowWindowWrite (m : Fin 28) (g : Fin 16384) (s : State) : Host.Outcome State Fault Refusal :=
  onDev (fun d => when (powered d) (windowWrite m (0x06020000 + 8 * g.val) nonProducer) d) s

end Sys2Proof.Machine
end

