-- ==== Sys2Proof/Machine/Custom.lean ====
section
/-! DEFINITION. Machine/Custom.lean: custom instructions X0-X15 and their micro-operations (R207-R215). -/

namespace Sys2Proof.Machine

/-- The fields of a micro-word (R209). -/
structure Micro where
  uop : Nat
  dst : Nat
  sa : Nat
  sb : Nat
  fl : Bool
  aux : Nat
  k : Word
  deriving DecidableEq, Repr

/-- A micro-word's fields (R209). -/
def microOf (w : Nat) : Micro :=
  ⟨nfld w 63 58, nfld w 57 53, nfld w 52 48, nfld w 47 43, w.testBit 42, nfld w 41 32, word (w % 2 ^ 32)⟩

/-- The operand fields of a custom instruction (R191). -/
structure XOps where
  du : Nat
  dv : Nat
  dw : Nat
  au : Nat
  imm7 : Nat
  deriving DecidableEq, Repr

/-- A custom instruction under way (R212): the context with the effects held so far, the temporaries, the STL writes,
the LDL that is not visible yet and the CRC slots used. -/
structure XRun where
  x : Ctx
  t : List Word
  stl : List (Nat × List Byte)
  ld : Option (Nat × Word)
  slots : List Nat
  deriving DecidableEq, Repr

/-- A micro-operation's fault (R214): SUB, the address where it has one, and the byte with bad parity. -/
abbrev XFault := Nat × Option Nat × Option Nat

/-- The value of an operand select (R210); none for a reserved one, and for the AU register where it is not permitted. -/
def xRead (o : XOps) (r : XRun) (m : Micro) (auOk : Bool) (sel : Nat) : Option Word :=
  match sel with
  | 0 => some (r.x.dr o.du) | 1 => some (r.x.dr o.dv) | 2 => some (r.x.dr o.dw)
  | 3 => if auOk then some (r.x.ar o.au) else none
  | 4 => some (r.t.getD 0 0) | 5 => some (r.t.getD 1 0) | 6 => some (r.t.getD 2 0) | 7 => some (r.t.getD 3 0)
  | 8 => some (word o.imm7) | 9 => some m.k | 10 => some 0
  | 11 => if o.du % 2 = 0 then some (r.x.dr (o.du + 1)) else none
  | _ => none

/-- May a select be a destination (R210)? -/
def xDstOk (o : XOps) (auOk : Bool) (sel : Nat) : Bool :=
  sel = 0 || sel = 1 || sel = 2 || (sel = 3 && auOk) || (4 ≤ sel && sel ≤ 7) || (sel = 11 && o.du % 2 = 0)

/-- Write a destination (R210). -/
def xWrite (o : XOps) (sel : Nat) (v : Word) (r : XRun) : XRun :=
  match sel with
  | 0 => { r with x := r.x.setD o.du v } | 1 => { r with x := r.x.setD o.dv v }
  | 2 => { r with x := r.x.setD o.dw v } | 3 => { r with x := r.x.setA o.au v }
  | 11 => { r with x := r.x.setD (o.du + 1) v }
  | n => { r with t := r.t.set (n - 4) v }

/-- The earlier LDL becomes visible (R212). -/
def xLand (o : XOps) (r : XRun) : XRun :=
  match r.ld with
  | none => r
  | some (sel, v) => xWrite o sel v { r with ld := none }

/-- What one micro-operation does: a result for DST with the new SR, an accumulator, or a fault. -/
inductive XOut where
  | res (v : Word) (sr : Word) (trap : Bool)
  | flags (sr : Word)
  | acc (n : Nat) (v : Acc) (sr : Word)
  | bad
  deriving DecidableEq, Repr

/-- The two-operand operations 0x01-0x08 (R211). -/
def xBinary (uop : Nat) (a b sr : Word) : Res :=
  match uop with
  | 1 => aluAdd a b sr | 2 => aluAdds a b sr | 3 => aluSub a b sr | 4 => aluSubs a b sr
  | 5 => aluAnd a b sr | 6 => aluOr a b sr | 7 => aluXor a b sr | _ => aluAndn a b sr

/-- The shifts 0x0B-0x0F (R211). -/
def xShift (uop : Nat) (a b sr : Word) : Res :=
  let n := fld b 7 0
  match uop with
  | 0xB => shLsl a n sr | 0xC => shLsr a n sr | 0xD => shAsr a n sr | 0xE => shRor a n sr | _ => shRol a n sr

/-- A result of an arithmetic operation. -/
def ofRes (r : Res) : XOut := .res r.val r.sr r.trap

/-- The operations without memory (R211), from their operands: SA, SB, the old DST. -/
def xCompute (d : Dev) (c : Nat) (m : Micro) (x : Ctx) (a b old : Word) : XOut :=
  let sr := x.sr
  let n := m.aux / 512
  let ac := x.ac n
  let slot := crcSlot c (m.aux % 4) d
  let pos := m.aux % 32
  let width := m.aux / 32 % 32 + 1
  match m.uop with
  | 0 => .flags sr
  | 9 => ofRes (aluMov a sr)
  | 0xA => .flags (if m.fl then (aluSub a b sr).sr else sr)
  | 0x10 => ofRes (bfInsert old a pos width sr)
  | 0x11 => ofRes (bfExtU a pos width sr)
  | 0x12 => ofRes (bfExtS a pos width sr)
  | 0x13 => ofRes (resLogic (byteSwap a) sr)
  | 0x14 => ofRes (resLogic (halfSwap a) sr)
  | 0x15 => ofRes (mulLow a b sr)
  | 0x16 => ofRes (mulHigh a b sr)
  | 0x17 => ofRes (mulHighU a b sr)
  | 0x18 => match condHolds (m.aux % 16) sr with
            | none => .bad
            | some t => .res (if t then a else b) sr false
  | 0x20 => .acc n (BitVec.ofNat 72 (crcInit slot)) sr
  | 0x21 => .acc n (BitVec.ofNat 72 (crcFoldWord slot 1 ac.toNat a)) sr
  | 0x22 => .acc n (BitVec.ofNat 72 (crcFoldWord slot 2 ac.toNat a)) sr
  | 0x23 => .acc n (BitVec.ofNat 72 (crcFoldWord slot 4 ac.toNat a)) sr
  | 0x24 => .res (crcFinish slot ac.toNat) sr false
  | 0x25 => .acc n (ac + BitVec.ofNat 72 (fld a 15 0)) sr
  | 0x26 => .acc n (ac + BitVec.ofNat 72 (fld a 31 16 + fld a 15 0)) sr
  | 0x27 => .res (csumFinish ac) sr false
  | 0x28 => let p := macStep 1 ac a b sr; .acc n p.1 p.2
  | 0x29 => let p := macStep (-1) ac a b sr; .acc n p.1 p.2
  | 0x2A => if 40 < m.aux % 64 then .bad else ofRes (acExtract ac (m.aux % 64) sr)
  | 0x2B => .acc n 0 sr
  | u => if 1 ≤ u ∧ u ≤ 8 then ofRes (xBinary u a b sr)
         else if 0xB ≤ u ∧ u ≤ 0xF then ofRes (xShift u a b sr) else .bad

/-- Which of SA, SB and DST a micro-operation uses (R211): unused fields are ignored (R209). -/
def xUses (uop : Nat) : Bool × Bool × Bool :=
  if (1 ≤ uop ∧ uop ≤ 8) ∨ (0xB ≤ uop ∧ uop ≤ 0xF) ∨ (0x15 ≤ uop ∧ uop ≤ 0x18) then (true, true, true)
  else if uop = 9 ∨ (0x10 ≤ uop ∧ uop ≤ 0x14) ∨ uop = 0x30 then (true, false, true)
  else if uop = 0xA ∨ uop = 0x28 ∨ uop = 0x29 ∨ uop = 0x31 then (true, true, false)
  else if (0x21 ≤ uop ∧ uop ≤ 0x23) ∨ uop = 0x25 ∨ uop = 0x26 ∨ uop = 0x38 then (true, false, false)
  else if uop = 0x24 ∨ uop = 0x27 ∨ uop = 0x2A then (false, false, true)
  else (false, false, false)

/-- Bytes at a data-RAM address as the instruction sees them: its own earlier STL writes first (R212). -/
def xMem (d : Dev) (stl : List (Nat × List Byte)) (a n : Nat) : List Byte :=
  (List.range n).map fun i =>
    stl.foldl (fun b w => if w.1 ≤ a + i ∧ a + i < w.1 + w.2.length then w.2.getD (a + i - w.1) b else b)
      (memByte (a + i) d)

/-- LDL and STL (R211, R212, R214): the address check and the effect. -/
def xMemOp (d : Dev) (c : Nat) (o : XOps) (m : Micro) (last : Bool) (a b : Word) (r : XRun) : Except XFault XRun :=
  let sz := m.aux % 4
  let n := 2 ^ sz
  let addr := (a + m.k).toNat
  let base := 0x08010000 + 0x40000 * c
  if sz = 3 ∨ (m.uop = 0x30 ∧ last) ∨ (m.uop = 0x31 ∧ r.stl.length = 4) then .error (1, none, none)
  else if addr % n ≠ 0 then .error (3, some addr, none)
  else if addr < base ∨ base + 0x10000 ≤ addr then .error (4, some addr, none)
  else if m.uop = 0x31 then .ok { xLand o r with stl := r.stl ++ [(addr, leBytes n b.toNat)] }
  else
    let covered (i : Nat) : Bool := r.stl.any fun w => w.1 ≤ i && i < w.1 + w.2.length
    match (d.badPar.filter fun i => addr ≤ i && i < addr + n && !covered i).min? with
    | some i => .error (4, some addr, some i)
    | none => .ok { xLand o r with ld := some (m.dst, word (leNat (xMem d r.stl addr n))) }

/-- One micro-operation (R211-R214); `last` marks the last of the instruction. -/
def xStep (d : Dev) (c : Nat) (o : XOps) (m : Micro) (last : Bool) (r : XRun) : Except XFault XRun :=
  let (ua, ub, ud) := xUses m.uop
  let au := m.uop = 9 || m.uop = 1 || m.uop = 3 || m.uop = 0x30 || m.uop = 0x31
  let known := m.uop ≤ 0x18 || (0x20 ≤ m.uop && m.uop ≤ 0x2B) || m.uop = 0x30 || m.uop = 0x31 || m.uop = 0x38
  let a := if ua then xRead o r m au m.sa else some 0
  let b := if ub then xRead o r m false m.sb else some 0
  let old := if m.uop = 0x10 then xRead o r m false m.dst else some 0
  if !known || (ud && !xDstOk o (m.uop = 9) m.dst) then .error (1, none, none) else
  match a, b, old with
  | some a, some b, some old =>
    if m.uop = 0x30 ∨ m.uop = 0x31 then xMemOp d c o m last a b r
    else if m.uop = 0x38 then
      if m.dst ≠ 3 then .error (1, none, none)
      else let y := xLand o r; .ok { y with x := y.x.setA o.au (r.x.ringAdd o.au a) }
    else
      let slots := if 0x20 ≤ m.uop ∧ m.uop ≤ 0x24 then r.slots ++ [m.aux % 4] else r.slots
      let y := { xLand o r with slots := slots }
      match xCompute d c m r.x a b old with
      | .bad => .error (1, none, none)
      | .flags sr => .ok { y with x := { y.x with sr := sr } }
      | .acc n v sr => .ok { y with x := { y.x.setAc n v with sr := if m.fl then sr else y.x.sr } }
      | .res v sr trap =>
        if trap && m.fl && (m.uop = 1 || m.uop = 3 || m.uop = 0x15) then .error (7, none, none)
        else
          let w := xWrite o m.dst v y
          .ok { w with x := { w.x with sr := if m.fl then sr else w.x.sr } }
  | _, _, _ => .error (1, none, none)

/-- Micro-word i of an instruction that starts at a store index (R207, R208: the index wraps at 255). -/
def xWord (c start i : Nat) (d : Dev) : Micro :=
  microOf (leNat (memBytes (0x08020000 + 0x40000 * c + 8 * ((start + i) % 256)) 8 d))

/-- The micro-operations i .. len of an instruction (R207: the store index wraps at 255), from fuel. A fault comes with the CRC
slots used before it. -/
def xLoop (d : Dev) (c : Nat) (o : XOps) (start len : Nat) : Nat → Nat → XRun → Except (Nat × List Nat × XFault) XRun
  | 0, _, r => .ok r
  | fuel + 1, i, r =>
    let addr := 0x08020000 + 0x40000 * c + 8 * ((start + i) % 256)
    match badIn addr 8 d with
    | some b => .error (i, r.slots, (4, some addr, some b))
    | none =>
      match xStep d c o (xWord c start i d) (i = len) r with
      | .error f => .error (i, r.slots, f)
      | .ok r' => xLoop d c o start len fuel (i + 1) r'

/-- The configuration parity of the CRC slots that a custom instruction used (R174). -/
def useSlots (c : Nat) (slots : List Nat) (d : Dev) : Dev := slots.foldl (fun d k => useCrc c k d) d

/-- The effects of a completed custom instruction land together (R212): the STL writes in order. -/
def xFinish (c key : Nat) (r : XRun) (d : Dev) : Dev :=
  let d := useSlots c r.slots d
  r.stl.foldl (fun d w => memPut w.1 w.2 d) d |> retire key r.x

/-- CUSTOM_INSTRUCTION (R207, R212, R214): an unloaded selector is illegal; a micro-operation's fault discards every
effect but the parity checks of the CRC slots it used (R174) and takes CAUSE 0x0A, with WR for an STL's address (R168); a parity mismatch also starts its reaction (R133). -/
def execCustomInstruction (c : Fin 17) (sel du dv dw : Fin 16) (au : Fin 8) (imm7 : BitVec 7) (s : State) :
    Host.Outcome State Fault Refusal :=
  onDev (issue c fun key x d =>
    let e := tabGet zeroDefault d.tabs (tabKey (1 + c.val) sel)
    if c.val = 16 ∨ !bit e 31 then illegal key d
    else
      let len := fld e 11 8
      let o : XOps := ⟨du, dv, dw, au, imm7.toNat⟩
      let d := useTab (0x20 + c) (A.peXdecIndData c) sel (1 + c) sel d
      match xLoop d c o (fld e 7 0) len (len + 1) 0 ⟨x, [0, 0, 0, 0], [], none, []⟩ with
      | .ok r => xFinish c key r d
      | .error (i, slots, sub, a, bad) =>
        let wr := a.isSome && bad.isNone && decide ((xWord c (fld e 7 0) i d).uop = 0x31)
        let d := useSlots c slots d
        let d := takeExc key { cause := 0xA, wr := wr, sub := sub, uop := i, ebad := a } d
        match bad with
        | some b => parityMismatch false (coreMaster c) b d
        | none => d) s

end Sys2Proof.Machine
end

