-- ==== Sys2Proof/Machine/Dispatch.lean ====
section
/-! DEFINITION. Machine/Dispatch.lean: one arm per command of spec/opcode_table.json. -/

namespace Sys2Proof.Machine

/-- The effect of a command on everything but the queue. -/
def exec (i : Instr) (s : State) : Host.Outcome State Fault Refusal :=
  match i with
  | .cycleBoundary grants => Sys2Proof.Machine.execCycleBoundary grants s
  | .imageWindowWrite m kind index g mask data tag det => Sys2Proof.Machine.execImageWindowWrite m kind index g mask data tag det s
  | .shadowWindowWrite m g => Sys2Proof.Machine.execShadowWindowWrite m g s
  | .powerUp => Sys2Proof.Machine.execPowerUp s
  | .porstNReset => Sys2Proof.Machine.execPorstNReset s
  | .rootPllLock mode2 mode1 mode0 bootSel => Sys2Proof.Machine.execRootPllLock mode2 mode1 mode0 bootSel s
  | .memoryBist bad => Sys2Proof.Machine.execMemoryBist bad s
  | .logicBist ok => Sys2Proof.Machine.execLogicBist ok s
  | .fuseRead uncorrectable => Sys2Proof.Machine.execFuseRead uncorrectable s
  | .flashDiscovery octal quad hdrA keyA hdrB keyB => Sys2Proof.Machine.execFlashDiscovery octal quad hdrA keyA hdrB keyB s
  | .imageRead bytes err => Sys2Proof.Machine.execImageRead bytes err s
  | .signatureVerification => Sys2Proof.Machine.execSignatureVerification s
  | .registerWriteRecord => Sys2Proof.Machine.execRegisterWriteRecord s
  | .memoryLoadDirect => Sys2Proof.Machine.execMemoryLoadDirect s
  | .memoryLoadIndirect => Sys2Proof.Machine.execMemoryLoadIndirect s
  | .encryptedSection => Sys2Proof.Machine.execEncryptedSection s
  | .resourceClaimRecord => Sys2Proof.Machine.execResourceClaimRecord s
  | .commitRecord => Sys2Proof.Machine.execCommitRecord s
  | .rollbackFuseBurn => Sys2Proof.Machine.execRollbackFuseBurn s
  | .romServiceTick => Sys2Proof.Machine.execRomServiceTick s
  | .diagCharacter c stop => Sys2Proof.Machine.execDiagCharacter c stop s
  | .diagId => Sys2Proof.Machine.execDiagId s
  | .diagSt => Sys2Proof.Machine.execDiagSt s
  | .diagLog => Sys2Proof.Machine.execDiagLog s
  | .diagHs => Sys2Proof.Machine.execDiagHs s
  | .diagImg => Sys2Proof.Machine.execDiagImg s
  | .diagRd => Sys2Proof.Machine.execDiagRd s
  | .diagRst => Sys2Proof.Machine.execDiagRst s
  | .diagResetDelay => Sys2Proof.Machine.execDiagResetDelay s
  | .updateStart m => Sys2Proof.Machine.execUpdateStart m s
  | .updateAbort m => Sys2Proof.Machine.execUpdateAbort m s
  | .updateEraseDone ok => Sys2Proof.Machine.execUpdateEraseDone ok s
  | .updateProgramDone ok back => Sys2Proof.Machine.execUpdateProgramDone ok back s
  | .updateHeaderDone ok => Sys2Proof.Machine.execUpdateHeaderDone ok s
  | .clockMonitorWindow outOfRange stopped => Sys2Proof.Machine.execClockMonitorWindow outOfRange stopped s
  | .lanePllLock p => Sys2Proof.Machine.execLanePllLock p s
  | .swrst m v => Sys2Proof.Machine.execSwrst m v s
  | .softwareReset => Sys2Proof.Machine.execSoftwareReset s
  | .supervisorWatchdogExpiry => Sys2Proof.Machine.execSupervisorWatchdogExpiry s
  | .supervisorWatchdogService m v => Sys2Proof.Machine.execSupervisorWatchdogService m v s
  | .requestRun m => Sys2Proof.Machine.execRequestRun m s
  | .requestDoze m => Sys2Proof.Machine.execRequestDoze m s
  | .requestRetain m => Sys2Proof.Machine.execRequestRetain m s
  | .requestOff m => Sys2Proof.Machine.execRequestOff m s
  | .retainEntryComplete => Sys2Proof.Machine.execRetainEntryComplete s
  | .wakePin => Sys2Proof.Machine.execWakePin s
  | .wakeTimer => Sys2Proof.Machine.execWakeTimer s
  | .meridianActivityWake => Sys2Proof.Machine.execMeridianActivityWake s
  | .retainWake => Sys2Proof.Machine.execRetainWake s
  | .wakeFromOff => Sys2Proof.Machine.execWakeFromOff s
  | .bankPowerSetting m k v => Sys2Proof.Machine.execBankPowerSetting m k v s
  | .bankReady b => Sys2Proof.Machine.execBankReady b s
  | .registerWrite m ctx a v => Sys2Proof.Machine.execRegisterWrite m ctx a v s
  | .statusClear m a v => Sys2Proof.Machine.execStatusClear m a v s
  | .indAddrWrite m a v => Sys2Proof.Machine.execIndAddrWrite m a v s
  | .indDataRead m a => Sys2Proof.Machine.execIndDataRead m a s
  | .indDataWrite m a v => Sys2Proof.Machine.execIndDataWrite m a v s
  | .indFetchDone a => Sys2Proof.Machine.execIndFetchDone a s
  | .almCommitArm m v => Sys2Proof.Machine.execAlmCommitArm m v s
  | .almCommitReference m v => Sys2Proof.Machine.execAlmCommitReference m v s
  | .commitArmTimeout => Sys2Proof.Machine.execCommitArmTimeout s
  | .configCrcSweepDone => Sys2Proof.Machine.execConfigCrcSweepDone s
  | .crcTestControl m v => Sys2Proof.Machine.execCrcTestControl m v s
  | .configParityWalk a idx flip => Sys2Proof.Machine.execConfigParityWalk a idx flip s
  | .viewComparison differs => Sys2Proof.Machine.execViewComparison differs s
  | .scrubRead b sub flip => Sys2Proof.Machine.execScrubRead b sub flip s
  | .forcedScrubRead b sub flip => Sys2Proof.Machine.execForcedScrubRead b sub flip s
  | .engineLoadReturn c k flip => Sys2Proof.Machine.execEngineLoadReturn c k flip s
  | .storeCompletion c k nth => Sys2Proof.Machine.execStoreCompletion c k nth s
  | .wipe m v => Sys2Proof.Machine.execWipe m v s
  | .vaultWipeDone => Sys2Proof.Machine.execVaultWipeDone s
  | .lockAcquire m ctx n => Sys2Proof.Machine.execLockAcquire m ctx n s
  | .lockRelease m ctx n v => Sys2Proof.Machine.execLockRelease m ctx n v s
  | .lockRevoke m n => Sys2Proof.Machine.execLockRevoke m n s
  | .lockRevokeMaster m who => Sys2Proof.Machine.execLockRevokeMaster m who s
  | .engineEnable m n => Sys2Proof.Machine.execEngineEnable m n s
  | .engineDisable m n => Sys2Proof.Machine.execEngineDisable m n s
  | .contextReset m n v => Sys2Proof.Machine.execContextReset m n v s
  | .quantumExpiry c => Sys2Proof.Machine.execQuantumExpiry c s
  | .divisionDone c => Sys2Proof.Machine.execDivisionDone c s
  | .engineWatchdogService m n v => Sys2Proof.Machine.execEngineWatchdogService m n v s
  | .engineWatchdogExpiry n => Sys2Proof.Machine.execEngineWatchdogExpiry n s
  | .debuggerResume n k => Sys2Proof.Machine.execDebuggerResume n k s
  | .illegalInstruction c => Sys2Proof.Machine.execIllegalInstruction c s
  | .add c rd rs rt => Sys2Proof.Machine.execAdd c rd rs rt s
  | .adds c rd rs rt => Sys2Proof.Machine.execAdds c rd rs rt s
  | .sub c rd rs rt => Sys2Proof.Machine.execSub c rd rs rt s
  | .subs c rd rs rt => Sys2Proof.Machine.execSubs c rd rs rt s
  | .andR c rd rs rt => Sys2Proof.Machine.execAndR c rd rs rt s
  | .orR c rd rs rt => Sys2Proof.Machine.execOrR c rd rs rt s
  | .xorR c rd rs rt => Sys2Proof.Machine.execXorR c rd rs rt s
  | .andn c rd rs rt => Sys2Proof.Machine.execAndn c rd rs rt s
  | .cmp c rs rt => Sys2Proof.Machine.execCmp c rs rt s
  | .mov c rd rs => Sys2Proof.Machine.execMov c rd rs s
  | .notR c rd rs => Sys2Proof.Machine.execNotR c rd rs s
  | .neg c rd rs => Sys2Proof.Machine.execNeg c rd rs s
  | .negs c rd rs => Sys2Proof.Machine.execNegs c rd rs s
  | .abs c rd rs => Sys2Proof.Machine.execAbs c rd rs s
  | .abss c rd rs => Sys2Proof.Machine.execAbss c rd rs s
  | .lsl c rd rs rt => Sys2Proof.Machine.execLsl c rd rs rt s
  | .lsr c rd rs rt => Sys2Proof.Machine.execLsr c rd rs rt s
  | .asr c rd rs rt => Sys2Proof.Machine.execAsr c rd rs rt s
  | .ror c rd rs rt => Sys2Proof.Machine.execRor c rd rs rt s
  | .rol c rd rs rt => Sys2Proof.Machine.execRol c rd rs rt s
  | .lsli c rd rs a => Sys2Proof.Machine.execLsli c rd rs a s
  | .lsri c rd rs a => Sys2Proof.Machine.execLsri c rd rs a s
  | .asri c rd rs a => Sys2Proof.Machine.execAsri c rd rs a s
  | .rori c rd rs a => Sys2Proof.Machine.execRori c rd rs a s
  | .roli c rd rs a => Sys2Proof.Machine.execRoli c rd rs a s
  | .bfi c rd rs pos widthM1 => Sys2Proof.Machine.execBfi c rd rs pos widthM1 s
  | .bfxu c rd rs pos widthM1 => Sys2Proof.Machine.execBfxu c rd rs pos widthM1 s
  | .bfxs c rd rs pos widthM1 => Sys2Proof.Machine.execBfxs c rd rs pos widthM1 s
  | .bfir c rd rs rt => Sys2Proof.Machine.execBfir c rd rs rt s
  | .bfxur c rd rs rt => Sys2Proof.Machine.execBfxur c rd rs rt s
  | .bfxsr c rd rs rt => Sys2Proof.Machine.execBfxsr c rd rs rt s
  | .bswap c rd rs => Sys2Proof.Machine.execBswap c rd rs s
  | .hswap c rd rs => Sys2Proof.Machine.execHswap c rd rs s
  | .mul c rd rs rt => Sys2Proof.Machine.execMul c rd rs rt s
  | .mulh c rd rs rt => Sys2Proof.Machine.execMulh c rd rs rt s
  | .mulhu c rd rs rt => Sys2Proof.Machine.execMulhu c rd rs rt s
  | .div c rd rs rt => Sys2Proof.Machine.execDiv c rd rs rt s
  | .divu c rd rs rt => Sys2Proof.Machine.execDivu c rd rs rt s
  | .divs c rd rs rt => Sys2Proof.Machine.execDivs c rd rs rt s
  | .mac c ac rs rt => Sys2Proof.Machine.execMac c ac rs rt s
  | .msu c ac rs rt => Sys2Proof.Machine.execMsu c ac rs rt s
  | .acset c ac rs => Sys2Proof.Machine.execAcset c ac rs s
  | .acx c rd ac sh => Sys2Proof.Machine.execAcx c rd ac sh s
  | .acz c ac => Sys2Proof.Machine.execAcz c ac s
  | .crci c ac k => Sys2Proof.Machine.execCrci c ac k s
  | .crcb c ac rs k => Sys2Proof.Machine.execCrcb c ac rs k s
  | .crch c ac rs k => Sys2Proof.Machine.execCrch c ac rs k s
  | .crcw c ac rs k => Sys2Proof.Machine.execCrcw c ac rs k s
  | .crcx c rd ac k => Sys2Proof.Machine.execCrcx c rd ac k s
  | .csumh c ac rs => Sys2Proof.Machine.execCsumh c ac rs s
  | .csumw c ac rs => Sys2Proof.Machine.execCsumw c ac rs s
  | .csx c rd ac => Sys2Proof.Machine.execCsx c rd ac s
  | .mova c an rs => Sys2Proof.Machine.execMova c an rs s
  | .movd c rd an => Sys2Proof.Machine.execMovd c rd an s
  | .adda c an rs => Sys2Proof.Machine.execAdda c an rs s
  | .suba c an rs => Sys2Proof.Machine.execSuba c an rs s
  | .cmpa c an am => Sys2Proof.Machine.execCmpa c an am s
  | .addi c rd rs imm => Sys2Proof.Machine.execAddi c rd rs imm s
  | .addsi c rd rs imm => Sys2Proof.Machine.execAddsi c rd rs imm s
  | .andi c rd rs imm => Sys2Proof.Machine.execAndi c rd rs imm s
  | .ori c rd rs imm => Sys2Proof.Machine.execOri c rd rs imm s
  | .xori c rd rs imm => Sys2Proof.Machine.execXori c rd rs imm s
  | .cmpi c rs imm => Sys2Proof.Machine.execCmpi c rs imm s
  | .movi c rd imm => Sys2Proof.Machine.execMovi c rd imm s
  | .movhi c rd imm => Sys2Proof.Machine.execMovhi c rd imm s
  | .addai c an imm => Sys2Proof.Machine.execAddai c an imm s
  | .ldb c rd ab post off => Sys2Proof.Machine.execLdb c rd ab post off s
  | .ldbs c rd ab post off => Sys2Proof.Machine.execLdbs c rd ab post off s
  | .ldh c rd ab post off => Sys2Proof.Machine.execLdh c rd ab post off s
  | .ldhs c rd ab post off => Sys2Proof.Machine.execLdhs c rd ab post off s
  | .ldw c rd ab post off => Sys2Proof.Machine.execLdw c rd ab post off s
  | .ldd c rd ab post off => Sys2Proof.Machine.execLdd c rd ab post off s
  | .stb c rd ab post off => Sys2Proof.Machine.execStb c rd ab post off s
  | .sth c rd ab post off => Sys2Proof.Machine.execSth c rd ab post off s
  | .stw c rd ab post off => Sys2Proof.Machine.execStw c rd ab post off s
  | .std c rd ab post off => Sys2Proof.Machine.execStd c rd ab post off s
  | .bmovs c ash aloc incSh incLoc => Sys2Proof.Machine.execBmovs c ash aloc incSh incLoc s
  | .bmovl c ash aloc incSh incLoc => Sys2Proof.Machine.execBmovl c ash aloc incSh incLoc s
  | .bcc c cc off => Sys2Proof.Machine.execBcc c cc off s
  | .call c off => Sys2Proof.Machine.execCall c off s
  | .jr c an => Sys2Proof.Machine.execJr c an s
  | .callr c an => Sys2Proof.Machine.execCallr c an s
  | .ret c => Sys2Proof.Machine.execRet c s
  | .mfs c rd n => Sys2Proof.Machine.execMfs c rd n s
  | .mts c n rs => Sys2Proof.Machine.execMts c n rs s
  | .rfe c => Sys2Proof.Machine.execRfe c s
  | .brk c code => Sys2Proof.Machine.execBrk c code s
  | .nop c => Sys2Proof.Machine.execNop c s
  | .wfe c rd mask => Sys2Proof.Machine.execWfe c rd mask s
  | .sev c k => Sys2Proof.Machine.execSev c k s
  | .get c rd => Sys2Proof.Machine.execGet c rd s
  | .doneFinish c rs => Sys2Proof.Machine.execDoneFinish c rs s
  | .doneForward c rs => Sys2Proof.Machine.execDoneForward c rs s
  | .doneSubmit c rs => Sys2Proof.Machine.execDoneSubmit c rs s
  | .mbwait c rd rs => Sys2Proof.Machine.execMbwait c rd rs s
  | .mbwaitEnd c k => Sys2Proof.Machine.execMbwaitEnd c k s
  | .tcmp c rs j => Sys2Proof.Machine.execTcmp c rs j s
  | .twait c rs j => Sys2Proof.Machine.execTwait c rs j s
  | .twaitEnd c k => Sys2Proof.Machine.execTwaitEnd c k s
  | .customInstruction c sel du dv dw au imm7 => Sys2Proof.Machine.execCustomInstruction c sel du dv dw au imm7 s
  | .softwarePost m ctx v => Sys2Proof.Machine.execSoftwarePost m ctx v s
  | .itemArrival => Sys2Proof.Machine.execItemArrival s
  | .itemReady entry => Sys2Proof.Machine.execItemReady entry s
  | .itemAssignment => Sys2Proof.Machine.execItemAssignment s
  | .prefetchDone c k => Sys2Proof.Machine.execPrefetchDone c k s
  | .itemRelease c k entry => Sys2Proof.Machine.execItemRelease c k entry s
  | .flowTimeout c k => Sys2Proof.Machine.execFlowTimeout c k s
  | .revokedItemRelease c k => Sys2Proof.Machine.execRevokedItemRelease c k s
  | .orphanPop m => Sys2Proof.Machine.execOrphanPop m s
  | .orphanFree m token item => Sys2Proof.Machine.execOrphanFree m token item s
  | .orphanRequeue m token item => Sys2Proof.Machine.execOrphanRequeue m token item s
  | .traceEnable m v => Sys2Proof.Machine.execTraceEnable m v s
  | .statisticsWindow => Sys2Proof.Machine.execStatisticsWindow s
  | .mailboxWrite m n v => Sys2Proof.Machine.execMailboxWrite m n v s
  | .mailboxRead m n => Sys2Proof.Machine.execMailboxRead m n s
  | .mailboxPost m n v => Sys2Proof.Machine.execMailboxPost m n v s
  | .slewStart m j v => Sys2Proof.Machine.execSlewStart m j v s
  | .slewDone j => Sys2Proof.Machine.execSlewDone j s
  | .stepToSet m j => Sys2Proof.Machine.execStepToSet m j s
  | .stepByOffset m j => Sys2Proof.Machine.execStepByOffset m j s
  | .stepTakesEffect j => Sys2Proof.Machine.execStepTakesEffect j s
  | .cap m v => Sys2Proof.Machine.execCap m v s
  | .targetLoad m k v => Sys2Proof.Machine.execTargetLoad m k v s
  | .triggerFire k => Sys2Proof.Machine.execTriggerFire k s
  | .timedLaunch p cls => Sys2Proof.Machine.execTimedLaunch p cls s
  | .lateDiscard p cls => Sys2Proof.Machine.execLateDiscard p cls s
  | .tsqReadHead m p => Sys2Proof.Machine.execTsqReadHead m p s
  | .tsqReadLast m p => Sys2Proof.Machine.execTsqReadLast m p s
  | .frameTransmit sl rbA rbB => Sys2Proof.Machine.execFrameTransmit sl rbA rbB s
  | .frameCopyReceived ch sl bits arr => Sys2Proof.Machine.execFrameCopyReceived ch sl bits arr s
  | .receiveSlotEnd sl => Sys2Proof.Machine.execReceiveSlotEnd sl s
  | .constellationProposal m v => Sys2Proof.Machine.execConstellationProposal m v s
  | .constellationWithdrawal m => Sys2Proof.Machine.execConstellationWithdrawal m s
  | .clockCorrection => Sys2Proof.Machine.execClockCorrection s
  | .listenTimeout => Sys2Proof.Machine.execListenTimeout s
  | .listenFrameAccept ch bits ago => Sys2Proof.Machine.execListenFrameAccept ch bits ago s
  | .dawnFrame rbA rbB => Sys2Proof.Machine.execDawnFrame rbA rbB s
  | .dawnCollision => Sys2Proof.Machine.execDawnCollision s
  | .backoffExpiry => Sys2Proof.Machine.execBackoffExpiry s
  | .dawnGiveUp => Sys2Proof.Machine.execDawnGiveUp s
  | .eclipseScheduleCopy flips => Sys2Proof.Machine.execEclipseScheduleCopy flips s
  | .eclipseRcWindow count => Sys2Proof.Machine.execEclipseRcWindow count s
  | .guardianTruncation => Sys2Proof.Machine.execGuardianTruncation s
  | .mrdHalt m v => Sys2Proof.Machine.execMrdHalt m v s
  | .remoteResetRequest m v => Sys2Proof.Machine.execRemoteResetRequest m v s
  | .ethFrameReceive p bs fcs code merge frags ago => Sys2Proof.Machine.execEthFrameReceive p bs fcs code merge frags ago s
  | .linkUp p phy => Sys2Proof.Machine.execLinkUp p phy s
  | .linkDown p => Sys2Proof.Machine.execLinkDown p s
  | .linkHoldExpiry p => Sys2Proof.Machine.execLinkHoldExpiry p s
  | .portEnable m p => Sys2Proof.Machine.execPortEnable m p s
  | .portDisable m p => Sys2Proof.Machine.execPortDisable m p s
  | .verifyFrame p answered => Sys2Proof.Machine.execVerifyFrame p answered s
  | .ethTransmitEnd p flip => Sys2Proof.Machine.execEthTransmitEnd p flip s
  | .ethCounterLatchRead m p tx => Sys2Proof.Machine.execEthCounterLatchRead m p tx s
  | .switchAdmission upset => Sys2Proof.Machine.execSwitchAdmission upset s
  | .cutThroughStart p bs len ago => Sys2Proof.Machine.execCutThroughStart p bs len ago s
  | .streamBlockClear e => Sys2Proof.Machine.execStreamBlockClear e s
  | .addressAgeing => Sys2Proof.Machine.execAddressAgeing s
  | .gateChange p => Sys2Proof.Machine.execGateChange p s
  | .gateAdminChange m p => Sys2Proof.Machine.execGateAdminChange m p s
  | .gateAdminCancel m p => Sys2Proof.Machine.execGateAdminCancel m p s
  | .gateChangeTime p => Sys2Proof.Machine.execGateChangeTime p s
  | .frameAged q cls => Sys2Proof.Machine.execFrameAged q cls s
  | .enginePortDelivery n flip => Sys2Proof.Machine.execEnginePortDelivery n flip s
  | .txaddrSubmit m n v => Sys2Proof.Machine.execTxaddrSubmit m n v s
  | .submitCopyDone n => Sys2Proof.Machine.execSubmitCopyDone n s
  | .canEnable m n => Sys2Proof.Machine.execCanEnable m n s
  | .canDisable m n => Sys2Proof.Machine.execCanDisable m n s
  | .canIntegration n => Sys2Proof.Machine.execCanIntegration n s
  | .canFrameReceived n fdf rtr ide id esi brs dlc data ago => Sys2Proof.Machine.execCanFrameReceived n fdf rtr ide id esi brs dlc data ago s
  | .canFrameSent n ago => Sys2Proof.Machine.execCanFrameSent n ago s
  | .canArbitrationLost n => Sys2Proof.Machine.execCanArbitrationLost n s
  | .canError n tx data lec step => Sys2Proof.Machine.execCanError n tx data lec step s
  | .busOffRecovery n occ => Sys2Proof.Machine.execBusOffRecovery n occ s
  | .canProtocolException n => Sys2Proof.Machine.execCanProtocolException n s
  | .detectionDwellExpiry n => Sys2Proof.Machine.execDetectionDwellExpiry n s
  | .canTxpush m n v => Sys2Proof.Machine.execCanTxpush m n v s
  | .canAbortByTag m n tag progress => Sys2Proof.Machine.execCanAbortByTag m n tag progress s
  | .canAbortAll m n progress => Sys2Proof.Machine.execCanAbortAll m n progress s
  | .canTxevReadHead m n => Sys2Proof.Machine.execCanTxevReadHead m n s
  | .canTxevReadLast m n => Sys2Proof.Machine.execCanTxevReadLast m n s
  | .objectStatusRead m n o => Sys2Proof.Machine.execObjectStatusRead m n o s
  | .canCaPop m n v => Sys2Proof.Machine.execCanCaPop m n v s
  | .pioEnSet m v => Sys2Proof.Machine.execPioEnSet m v s
  | .pioEnClr m v => Sys2Proof.Machine.execPioEnClr m v s
  | .pioNop n => Sys2Proof.Machine.execPioNop n s
  | .pioDrv n v => Sys2Proof.Machine.execPioDrv n v s
  | .pioDrve n v => Sys2Proof.Machine.execPioDrve n v s
  | .pioEmit n k => Sys2Proof.Machine.execPioEmit n k s
  | .pioEmite n k v => Sys2Proof.Machine.execPioEmite n k v s
  | .pioEmitl n k e c => Sys2Proof.Machine.execPioEmitl n k e c s
  | .pioGrab n k pins => Sys2Proof.Machine.execPioGrab n k pins s
  | .pioGrabr n k pins => Sys2Proof.Machine.execPioGrabr n k pins s
  | .pioDisc n k => Sys2Proof.Machine.execPioDisc n k s
  | .pioLoad n => Sys2Proof.Machine.execPioLoad n s
  | .pioLoadt n => Sys2Proof.Machine.execPioLoadt n s
  | .pioSend n => Sys2Proof.Machine.execPioSend n s
  | .pioSende n => Sys2Proof.Machine.execPioSende n s
  | .pioSendt n => Sys2Proof.Machine.execPioSendt n s
  | .pioUntil n p pol pins => Sys2Proof.Machine.execPioUntil n p pol pins s
  | .pioUntilc n w pol k pins => Sys2Proof.Machine.execPioUntilc n w pol k pins s
  | .pioUntilp n pins => Sys2Proof.Machine.execPioUntilp n pins s
  | .pioUntilt n => Sys2Proof.Machine.execPioUntilt n s
  | .pioPause n k => Sys2Proof.Machine.execPioPause n k s
  | .pioMatch n => Sys2Proof.Machine.execPioMatch n s
  | .pioMatchi n k => Sys2Proof.Machine.execPioMatchi n k s
  | .pioLook n sh flip => Sys2Proof.Machine.execPioLook n sh flip s
  | .pioTput n => Sys2Proof.Machine.execPioTput n s
  | .pioMovol n => Sys2Proof.Machine.execPioMovol n s
  | .pioMovsr n => Sys2Proof.Machine.execPioMovsr n s
  | .pioGoto n c t => Sys2Proof.Machine.execPioGoto n c t s
  | .pioGotop n w pol t pins => Sys2Proof.Machine.execPioGotop n w pol t pins s
  | .pioLdlc n v => Sys2Proof.Machine.execPioLdlc n v s
  | .pioRate n sel r => Sys2Proof.Machine.execPioRate n sel r s
  | .pioStamp n => Sys2Proof.Machine.execPioStamp n s
  | .pioEvt n k => Sys2Proof.Machine.execPioEvt n k s
  | .pioHalt n => Sys2Proof.Machine.execPioHalt n s
  | .pioIllegalEncoding n => Sys2Proof.Machine.execPioIllegalEncoding n s
  | .pioWaitEnd n pins => Sys2Proof.Machine.execPioWaitEnd n pins s
  | .pioStallEnd n => Sys2Proof.Machine.execPioStallEnd n s
  | .pioTxFetch n => Sys2Proof.Machine.execPioTxFetch n s
  | .pioRxDrain n => Sys2Proof.Machine.execPioRxDrain n s
  | .pioRefillSwap n => Sys2Proof.Machine.execPioRefillSwap n s
  | .readbackMismatch p => Sys2Proof.Machine.execReadbackMismatch p s
  | .stuckDetected n v => Sys2Proof.Machine.execStuckDetected n v s
  | .filterSettled n => Sys2Proof.Machine.execFilterSettled n s
  | .samplerLatch n bits prev => Sys2Proof.Machine.execSamplerLatch n bits prev s
  | .comparatorTrip n bits => Sys2Proof.Machine.execComparatorTrip n bits s
  | .tripRelease m v => Sys2Proof.Machine.execTripRelease m v s
  | .captureEdge u rise phase => Sys2Proof.Machine.execCaptureEdge u rise phase s
  | .captureLatch u prev => Sys2Proof.Machine.execCaptureLatch u prev s
  | .captureReadHead m u => Sys2Proof.Machine.execCaptureReadHead m u s
  | .captureReadLast m u => Sys2Proof.Machine.execCaptureReadLast m u s
  | .pwmPeriodStart u => Sys2Proof.Machine.execPwmPeriodStart u s
  | .loopApply m j v => Sys2Proof.Machine.execLoopApply m j v s
  | .loopReset m j v => Sys2Proof.Machine.execLoopReset m j v s
  | .safetyDecision => Sys2Proof.Machine.execSafetyDecision s
  | .twilightConfirmed => Sys2Proof.Machine.execTwilightConfirmed s
  | .safetyEscalationReset => Sys2Proof.Machine.execSafetyEscalationReset s
  | .lockstepMismatch => Sys2Proof.Machine.execLockstepMismatch s
  | .voltageFault k mv => Sys2Proof.Machine.execVoltageFault k mv s
  | .temperatureSample tmin tmax => Sys2Proof.Machine.execTemperatureSample tmin tmax s
  | .safReq m v => Sys2Proof.Machine.execSafReq m v s
  | .secAdvance m target => Sys2Proof.Machine.execSecAdvance m target s
  | .secReturn m => Sys2Proof.Machine.execSecReturn m s
  | .secDefunct m => Sys2Proof.Machine.execSecDefunct m s
  | .progHash m slot => Sys2Proof.Machine.execProgHash m slot s
  | .secRevoke m slot => Sys2Proof.Machine.execSecRevoke m slot s
  | .progImgkey m => Sys2Proof.Machine.execProgImgkey m s
  | .debugKill m => Sys2Proof.Machine.execDebugKill m s
  | .sessionEnd m => Sys2Proof.Machine.execSessionEnd m s
  | .secCommandDone same => Sys2Proof.Machine.execSecCommandDone same s
  | .vaultRead => Sys2Proof.Machine.execVaultRead s
  | .vaultWrite => Sys2Proof.Machine.execVaultWrite s
  | .vaultWipe => Sys2Proof.Machine.execVaultWipe s
  | .secCommand => Sys2Proof.Machine.execSecCommand s
  | .tamperTrip k burned => Sys2Proof.Machine.execTamperTrip k burned s
  | .tapExtest cells levels => Sys2Proof.Machine.execTapExtest cells levels s
  | .tapIdcode => Sys2Proof.Machine.execTapIdcode s
  | .tapSamplePreload cells levels => Sys2Proof.Machine.execTapSamplePreload cells levels s
  | .tapHighz levels => Sys2Proof.Machine.execTapHighz levels s
  | .tapClamp levels => Sys2Proof.Machine.execTapClamp levels s
  | .tapBypass => Sys2Proof.Machine.execTapBypass s
  | .dbgAcc wr a v served => Sys2Proof.Machine.execDbgAcc wr a v served s
  | .dbgTest a v => Sys2Proof.Machine.execDbgTest a v s
  | .dbgWake => Sys2Proof.Machine.execDbgWake s
  | .dbgAuthCapture => Sys2Proof.Machine.execDbgAuthCapture s
  | .dbgAuthResponse bs => Sys2Proof.Machine.execDbgAuthResponse bs s
  | .authVerifyDone => Sys2Proof.Machine.execAuthVerifyDone s
  | .pcieLinkUp rate x2 => Sys2Proof.Machine.execPcieLinkUp rate x2 s
  | .pcieLinkDown => Sys2Proof.Machine.execPcieLinkDown s
  | .pciePerst low => Sys2Proof.Machine.execPciePerst low s
  | .pcieConfigRequest wr reg v fm => Sys2Proof.Machine.execPcieConfigRequest wr reg v fm s
  | .pcieMemoryWrite bar2 dw data => Sys2Proof.Machine.execPcieMemoryWrite bar2 dw data s
  | .pcieMemoryRead bar2 dw be => Sys2Proof.Machine.execPcieMemoryRead bar2 dw be s
  | .msixUnmask m vec => Sys2Proof.Machine.execMsixUnmask m vec s
  | .lhpRead a => Sys2Proof.Machine.execLhpRead a s
  | .lhpWrite a data => Sys2Proof.Machine.execLhpWrite a data s
  | .lhpStrobeRise early => Sys2Proof.Machine.execLhpStrobeRise early s
  | .hostStatusCapture m => Sys2Proof.Machine.execHostStatusCapture m s
  | .hbSvc m v => Sys2Proof.Machine.execHbSvc m v s
  | .responderHeartbeat => Sys2Proof.Machine.execResponderHeartbeat s
  | .swintVector m ctx vec => Sys2Proof.Machine.execSwintVector m ctx vec s
  | .swintPend m ctx vec => Sys2Proof.Machine.execSwintPend m ctx vec s
  | .vddioBankLoss b => Sys2Proof.Machine.execVddioBankLoss b s
  | .stuckEnd n => Sys2Proof.Machine.execStuckEnd n s
  | .offEntryComplete => Sys2Proof.Machine.execOffEntryComplete s
  | .vddioBankReturn b => Sys2Proof.Machine.execVddioBankReturn b s

end Sys2Proof.Machine
end

