-- ==== Sys2Proof/Machine/Tick.lean ====
section
/-! DEFINITION. Machine/Tick.lean: one CORE cycle in which no command comes (R82, R252, R253, R269, R301, R353, R372). -/

namespace Sys2Proof.Machine

/-- The ports with a preemptable copy on the line: a fragment that has grown long enough may be cut there (R353, R372). -/
def splitPorts (d : Dev) : List Nat :=
  (d.swc.queues.filter fun c => c.started && !c.paused && preemptable c.port c.cls d).map (·.port)

/-- A CORE cycle passes: the four time bases add their addends, triggers whose new target is past skip on, ports whose
preemptable frame can now be cut select again, and a Meridian copy that no tie can overtake is accepted. -/
def tick (d : Dev) : Dev :=
  let d := { d with now := d.now + 1 }
  let d := (List.range 4).foldl (fun d j => tbTick j d) d
  let d := if d.ntm.counting then (d.ntm.trig.map (·.1)).foldl (fun d k => trigSkip k d) d else d
  acceptHeld ((splitPorts d).foldl (fun d q => serve q d) d)

end Sys2Proof.Machine
end

