-- ==== Sys2Proof/Machine/Encoding.lean ====
section
/-! DEFINITION. Machine/Encoding.lean: the instruction words of the engines (R191-R206) and of the PIO engines (R416-R418):
which command a word spells, the word of a command, and the command that stands at a program counter. -/

namespace Sys2Proof.Machine

/-- An instruction where its must-be-0 fields are 0, none where they are not (R194). -/
def whenZero (n : Nat) (i : Instr) : Option Instr := if n = 0 then some i else none

/-- An AC field (R192): bits 3:1 must be 0. -/
def acField (n : Nat) : Option (Fin 2) := if n < 2 then some (Fin.ofNat 2 n) else none

/-- An A field (R192): bit 3 must be 0. -/
def aField (n : Nat) : Option (Fin 8) := if n < 8 then some (Fin.ofNat 8 n) else none

/-- The ALU group, X = 0 (R195). -/
def aluOf (c : Fin 17) (rd rs rt : Fin 16) (x : Nat) : Nat → Option Instr
  | 0 => whenZero x (.add c rd rs rt)
  | 1 => whenZero x (.adds c rd rs rt)
  | 2 => whenZero x (.sub c rd rs rt)
  | 3 => whenZero x (.subs c rd rs rt)
  | 4 => whenZero x (.andR c rd rs rt)
  | 5 => whenZero x (.orR c rd rs rt)
  | 6 => whenZero x (.xorR c rd rs rt)
  | 7 => whenZero x (.andn c rd rs rt)
  | 8 => whenZero (rd + x) (.cmp c rs rt)
  | 9 => whenZero (rt + x) (.mov c rd rs)
  | 10 => whenZero (rt + x) (.notR c rd rs)
  | 11 => whenZero (rt + x) (.neg c rd rs)
  | 12 => whenZero (rt + x) (.negs c rd rs)
  | 13 => whenZero (rt + x) (.abs c rd rs)
  | 14 => whenZero (rt + x) (.abss c rd rs)
  | _ => none

/-- The shift group (R196). -/
def shiftOf (c : Fin 17) (rd rs rt : Fin 16) (x : Nat) : Nat → Option Instr
  | 0 => whenZero x (.lsl c rd rs rt)
  | 1 => whenZero x (.lsr c rd rs rt)
  | 2 => whenZero x (.asr c rd rs rt)
  | 3 => whenZero x (.ror c rd rs rt)
  | 4 => whenZero x (.rol c rd rs rt)
  | 8 => whenZero (rt + x / 32) (.lsli c rd rs (BitVec.ofNat 5 x))
  | 9 => whenZero (rt + x / 32) (.lsri c rd rs (BitVec.ofNat 5 x))
  | 10 => whenZero (rt + x / 32) (.asri c rd rs (BitVec.ofNat 5 x))
  | 11 => whenZero (rt + x / 32) (.rori c rd rs (BitVec.ofNat 5 x))
  | 12 => whenZero (rt + x / 32) (.roli c rd rs (BitVec.ofNat 5 x))
  | _ => none

/-- The bit-field group (R197). -/
def fieldOf (c : Fin 17) (rd rs rt : Fin 16) (x : Nat) : Nat → Option Instr
  | 0 => whenZero rt (.bfi c rd rs (BitVec.ofNat 5 x) (BitVec.ofNat 5 (x / 32)))
  | 1 => whenZero rt (.bfxu c rd rs (BitVec.ofNat 5 x) (BitVec.ofNat 5 (x / 32)))
  | 2 => whenZero rt (.bfxs c rd rs (BitVec.ofNat 5 x) (BitVec.ofNat 5 (x / 32)))
  | 3 => whenZero x (.bfir c rd rs rt)
  | 4 => whenZero x (.bfxur c rd rs rt)
  | 5 => whenZero x (.bfxsr c rd rs rt)
  | 6 => whenZero (rt + x) (.bswap c rd rs)
  | 7 => whenZero (rt + x) (.hswap c rd rs)
  | _ => none

/-- The multiply and divide group, X = 0 (R198). -/
def mulOf (c : Fin 17) (rd rs rt : Fin 16) (x : Nat) : Nat → Option Instr
  | 0 => whenZero x (.mul c rd rs rt)
  | 1 => whenZero x (.mulh c rd rs rt)
  | 2 => whenZero x (.mulhu c rd rs rt)
  | 4 => whenZero x (.div c rd rs rt)
  | 5 => whenZero x (.divu c rd rs rt)
  | 6 => whenZero x (.divs c rd rs rt)
  | _ => none

/-- The accumulator group (R199). -/
def accOf (c : Fin 17) (rd rs rt : Fin 16) (x : Nat) : Nat → Option Instr
  | 0 => (acField rd).bind fun n => whenZero x (.mac c n rs rt)
  | 1 => (acField rd).bind fun n => whenZero x (.msu c n rs rt)
  | 2 => (acField rd).bind fun n => whenZero (rt + x) (.acset c n rs)
  | 3 => (acField rs).bind fun n => whenZero (rt + x / 64) (.acx c rd n (BitVec.ofNat 6 x))
  | 4 => (acField rd).bind fun n => whenZero (rs + rt + x) (.acz c n)
  | _ => none

/-- The CRC and checksum group (R199). -/
def crcOf (c : Fin 17) (rd rs rt : Fin 16) (x : Nat) : Nat → Option Instr
  | 0 => (acField rd).bind fun n => whenZero (rs + rt + x / 4) (.crci c n (Fin.ofNat 4 x))
  | 1 => (acField rd).bind fun n => whenZero (rt + x / 4) (.crcb c n rs (Fin.ofNat 4 x))
  | 2 => (acField rd).bind fun n => whenZero (rt + x / 4) (.crch c n rs (Fin.ofNat 4 x))
  | 3 => (acField rd).bind fun n => whenZero (rt + x / 4) (.crcw c n rs (Fin.ofNat 4 x))
  | 4 => (acField rs).bind fun n => whenZero (rt + x / 4) (.crcx c rd n (Fin.ofNat 4 x))
  | 5 => (acField rd).bind fun n => whenZero (rt + x) (.csumh c n rs)
  | 6 => (acField rd).bind fun n => whenZero (rt + x) (.csumw c n rs)
  | 7 => (acField rs).bind fun n => whenZero (rt + x) (.csx c rd n)
  | _ => none

/-- The address-register group, X = 0 and RT = 0 (R200). -/
def addrOf (c : Fin 17) (rd rs rt : Fin 16) (x : Nat) : Nat → Option Instr
  | 0 => (aField rd).bind fun n => whenZero (rt + x) (.mova c n rs)
  | 1 => (aField rs).bind fun n => whenZero (rt + x) (.movd c rd n)
  | 2 => (aField rd).bind fun n => whenZero (rt + x) (.adda c n rs)
  | 3 => (aField rd).bind fun n => whenZero (rt + x) (.suba c n rs)
  | 4 => (aField rd).bind fun n => (aField rs).bind fun m => whenZero (rt + x) (.cmpa c n m)
  | _ => none

/-- The system group (R206). DONE's row is the action in Ds: the word spells the DONE of all three (notes/assumptions/58.md). -/
def systemOf (c : Fin 17) (rd rs rt : Fin 16) (x : Nat) : Nat → Option Instr
  | 0 => whenZero (rs + rt + x / 32) (.mfs c rd (BitVec.ofNat 5 x))
  | 1 => whenZero (rd + rt + x / 32) (.mts c (BitVec.ofNat 5 x) rs)
  | 2 => whenZero (rd + rs + rt + x) (.rfe c)
  | 3 => whenZero (rd + rs + rt) (.brk c (BitVec.ofNat 10 x))
  | 4 => whenZero (rd + rs + rt + x) (.nop c)
  | 5 => whenZero (rs + rt + x / 16) (.wfe c rd (BitVec.ofNat 4 x))
  | 6 => whenZero (rd + rs + rt + x / 16) (.sev c (Fin.ofNat 16 x))
  | 7 => whenZero (rs + rt + x) (.get c rd)
  | 8 => whenZero (rd + rt + x) (.doneFinish c rs)
  | 9 => whenZero (rt + x) (.mbwait c rd rs)
  | 10 => whenZero (rd + rt + x / 4) (.tcmp c rs (Fin.ofNat 4 x))
  | 11 => whenZero (rd + rt + x / 4) (.twait c rs (Fin.ofNat 4 x))
  | _ => none

/-- The block-move group (R203). -/
def moveOf (c : Fin 17) (rd rs rt : Fin 16) (x : Nat) : Nat → Option Instr
  | 0 => (aField rd).bind fun n => (aField rs).bind fun m =>
    whenZero (rt + x / 4) (.bmovs c n m (x.testBit 0) (x.testBit 1))
  | 1 => (aField rd).bind fun n => (aField rs).bind fun m =>
    whenZero (rt + x / 4) (.bmovl c n m (x.testBit 0) (x.testBit 1))
  | _ => none

/-- Register jumps, calls and returns (R205). -/
def jumpOf (c : Fin 17) (rd rs rt : Fin 16) (x : Nat) : Nat → Option Instr
  | 0 => (aField rs).bind fun n => whenZero (rd + rt + x) (.jr c n)
  | 1 => (aField rs).bind fun n => whenZero (rd + rt + x) (.callr c n)
  | 2 => whenZero (rd + rs + rt + x) (.ret c)
  | _ => none

/-- The immediate group (R201): `sub` is bits 17:16. -/
def immediateOf (c : Fin 17) (rd rs : Fin 16) (sub : Nat) (imm : BitVec 16) : Nat → Option Instr
  | 0x08 => whenZero sub (.addi c rd rs imm)
  | 0x09 => whenZero sub (.addsi c rd rs imm)
  | 0x0A => whenZero sub (.andi c rd rs imm)
  | 0x0B => whenZero sub (.ori c rd rs imm)
  | 0x0C => whenZero sub (.xori c rd rs imm)
  | 0x0D => whenZero (sub + rd) (.cmpi c rs imm)
  | 0x0E => if sub = 1 then whenZero rs (.movhi c rd imm) else whenZero (sub + rs) (.movi c rd imm)
  | 0x0F => (aField rd).bind fun n => whenZero (sub + rs) (.addai c n imm)
  | _ => none

/-- Loads and stores (R202): `k` is SZ in bits 2:1 and SX in bit 0; AM 0b10 and 0b11 are reserved. -/
def memoryOf (c : Fin 17) (store : Bool) (rd : Fin 16) (ab : Fin 8) (am k must0 : Nat) (off : BitVec 11) : Option Instr :=
  if 2 ≤ am ∨ must0 ≠ 0 then none
  else
    let post := decide (am = 1)
    match store, k with
    | false, 0 => some (.ldb c rd ab post off)
    | false, 1 => some (.ldbs c rd ab post off)
    | false, 2 => some (.ldh c rd ab post off)
    | false, 3 => some (.ldhs c rd ab post off)
    | false, 4 => some (.ldw c rd ab post off)
    | false, 6 => some (.ldd c rd ab post off)
    | true, 0 => some (.stb c rd ab post off)
    | true, 2 => some (.sth c rd ab post off)
    | true, 4 => some (.stw c rd ab post off)
    | true, 6 => some (.std c rd ab post off)
    | _, _ => none

/-- The instruction that a word names (R191-R206); none where it is reserved (R193, R194). -/
def engineWordOf (c : Fin 17) (w : Nat) : Option Instr :=
  let op := nfld w 31 26
  let rd := Fin.ofNat 16 (nfld w 25 22)
  let rs := Fin.ofNat 16 (nfld w 21 18)
  let rt := Fin.ofNat 16 (nfld w 17 14)
  let fn := nfld w 13 10
  let x := nfld w 9 0
  match op with
  | 0x00 => aluOf c rd rs rt x fn
  | 0x01 => shiftOf c rd rs rt x fn
  | 0x02 => fieldOf c rd rs rt x fn
  | 0x03 => mulOf c rd rs rt x fn
  | 0x04 => accOf c rd rs rt x fn
  | 0x05 => crcOf c rd rs rt x fn
  | 0x06 => addrOf c rd rs rt x fn
  | 0x07 => systemOf c rd rs rt x fn
  | 0x10 => memoryOf c false rd (Fin.ofNat 8 (nfld w 21 19)) (nfld w 18 17) (nfld w 16 14) (nfld w 13 11)
      (BitVec.ofNat 11 w)
  | 0x11 => memoryOf c true rd (Fin.ofNat 8 (nfld w 21 19)) (nfld w 18 17) (nfld w 16 14) (nfld w 13 11)
      (BitVec.ofNat 11 w)
  | 0x12 => moveOf c rd rs rt x fn
  | 0x18 => whenZero (nfld w 25 25) (.bcc c (Fin.ofNat 16 (nfld w 24 21)) (BitVec.ofNat 21 w))
  | 0x19 => whenZero (nfld w 25 21) (.call c (BitVec.ofNat 21 w))
  | 0x1A => jumpOf c rd rs rt x fn
  | 0x3E => some (.customInstruction c rd rs rt (Fin.ofNat 16 fn) (Fin.ofNat 8 (nfld w 9 7)) (BitVec.ofNat 7 w))
  | _ => immediateOf c rd rs (nfld w 17 16) (BitVec.ofNat 16 w) op

/-- The command that engine c issues for an instruction word (R194): every word that names no instruction is illegal.
Reserved register pairs, numbers and conditions that an operand can spell are illegal in the command's own meaning. -/
def engineCommand (c : Fin 17) (w : Word) : Instr := (engineWordOf c w.toNat).getD (.illegalInstruction c)

/-- A word of format R (R191). -/
def formR (op fn rd rs rt x : Nat) : Nat := op * 2 ^ 26 + rd * 2 ^ 22 + rs * 2 ^ 18 + rt * 2 ^ 14 + fn * 2 ^ 10 + x
/-- A word of format I (R191). -/
def formI (op rd rs sub imm : Nat) : Nat := op * 2 ^ 26 + rd * 2 ^ 22 + rs * 2 ^ 18 + sub * 2 ^ 16 + imm
/-- A word of format M (R191); `k` is SZ and SX. -/
def formM (op rd ab : Nat) (post : Bool) (k off : Nat) : Nat :=
  op * 2 ^ 26 + rd * 2 ^ 22 + ab * 2 ^ 19 + post.toNat * 2 ^ 17 + k * 2 ^ 14 + off
/-- A word of format B (R191). -/
def formB (op cc off : Nat) : Nat := op * 2 ^ 26 + cc * 2 ^ 21 + off

/-- The instruction word of a command (R195-R206); none where the command is no engine instruction. -/
def engineWord : Instr → Option Nat
  | .add _ d s t => some (formR 0x00 0 d s t 0)
  | .adds _ d s t => some (formR 0x00 1 d s t 0)
  | .sub _ d s t => some (formR 0x00 2 d s t 0)
  | .subs _ d s t => some (formR 0x00 3 d s t 0)
  | .andR _ d s t => some (formR 0x00 4 d s t 0)
  | .orR _ d s t => some (formR 0x00 5 d s t 0)
  | .xorR _ d s t => some (formR 0x00 6 d s t 0)
  | .andn _ d s t => some (formR 0x00 7 d s t 0)
  | .cmp _ s t => some (formR 0x00 8 0 s t 0)
  | .mov _ d s => some (formR 0x00 9 d s 0 0)
  | .notR _ d s => some (formR 0x00 10 d s 0 0)
  | .neg _ d s => some (formR 0x00 11 d s 0 0)
  | .negs _ d s => some (formR 0x00 12 d s 0 0)
  | .abs _ d s => some (formR 0x00 13 d s 0 0)
  | .abss _ d s => some (formR 0x00 14 d s 0 0)
  | .lsl _ d s t => some (formR 0x01 0 d s t 0)
  | .lsr _ d s t => some (formR 0x01 1 d s t 0)
  | .asr _ d s t => some (formR 0x01 2 d s t 0)
  | .ror _ d s t => some (formR 0x01 3 d s t 0)
  | .rol _ d s t => some (formR 0x01 4 d s t 0)
  | .lsli _ d s a => some (formR 0x01 8 d s 0 a.toNat)
  | .lsri _ d s a => some (formR 0x01 9 d s 0 a.toNat)
  | .asri _ d s a => some (formR 0x01 10 d s 0 a.toNat)
  | .rori _ d s a => some (formR 0x01 11 d s 0 a.toNat)
  | .roli _ d s a => some (formR 0x01 12 d s 0 a.toNat)
  | .bfi _ d s p w => some (formR 0x02 0 d s 0 (32 * w.toNat + p.toNat))
  | .bfxu _ d s p w => some (formR 0x02 1 d s 0 (32 * w.toNat + p.toNat))
  | .bfxs _ d s p w => some (formR 0x02 2 d s 0 (32 * w.toNat + p.toNat))
  | .bfir _ d s t => some (formR 0x02 3 d s t 0)
  | .bfxur _ d s t => some (formR 0x02 4 d s t 0)
  | .bfxsr _ d s t => some (formR 0x02 5 d s t 0)
  | .bswap _ d s => some (formR 0x02 6 d s 0 0)
  | .hswap _ d s => some (formR 0x02 7 d s 0 0)
  | .mul _ d s t => some (formR 0x03 0 d s t 0)
  | .mulh _ d s t => some (formR 0x03 1 d s t 0)
  | .mulhu _ d s t => some (formR 0x03 2 d s t 0)
  | .div _ d s t => some (formR 0x03 4 d s t 0)
  | .divu _ d s t => some (formR 0x03 5 d s t 0)
  | .divs _ d s t => some (formR 0x03 6 d s t 0)
  | .mac _ n s t => some (formR 0x04 0 n s t 0)
  | .msu _ n s t => some (formR 0x04 1 n s t 0)
  | .acset _ n s => some (formR 0x04 2 n s 0 0)
  | .acx _ d n sh => some (formR 0x04 3 d n 0 sh.toNat)
  | .acz _ n => some (formR 0x04 4 n 0 0 0)
  | .crci _ n k => some (formR 0x05 0 n 0 0 k)
  | .crcb _ n s k => some (formR 0x05 1 n s 0 k)
  | .crch _ n s k => some (formR 0x05 2 n s 0 k)
  | .crcw _ n s k => some (formR 0x05 3 n s 0 k)
  | .crcx _ d n k => some (formR 0x05 4 d n 0 k)
  | .csumh _ n s => some (formR 0x05 5 n s 0 0)
  | .csumw _ n s => some (formR 0x05 6 n s 0 0)
  | .csx _ d n => some (formR 0x05 7 d n 0 0)
  | .mova _ a s => some (formR 0x06 0 a s 0 0)
  | .movd _ d a => some (formR 0x06 1 d a 0 0)
  | .adda _ a s => some (formR 0x06 2 a s 0 0)
  | .suba _ a s => some (formR 0x06 3 a s 0 0)
  | .cmpa _ a b => some (formR 0x06 4 a b 0 0)
  | .mfs _ d n => some (formR 0x07 0 d 0 0 n.toNat)
  | .mts _ n s => some (formR 0x07 1 0 s 0 n.toNat)
  | .rfe _ => some (formR 0x07 2 0 0 0 0)
  | .brk _ k => some (formR 0x07 3 0 0 0 k.toNat)
  | .nop _ => some (formR 0x07 4 0 0 0 0)
  | .wfe _ d m => some (formR 0x07 5 d 0 0 m.toNat)
  | .sev _ k => some (formR 0x07 6 0 0 0 k)
  | .get _ d => some (formR 0x07 7 d 0 0 0)
  | .doneFinish _ s => some (formR 0x07 8 0 s 0 0)
  | .doneForward _ s => some (formR 0x07 8 0 s 0 0)
  | .doneSubmit _ s => some (formR 0x07 8 0 s 0 0)
  | .mbwait _ d s => some (formR 0x07 9 d s 0 0)
  | .tcmp _ s j => some (formR 0x07 10 0 s 0 j)
  | .twait _ s j => some (formR 0x07 11 0 s 0 j)
  | .addi _ d s v => some (formI 0x08 d s 0 v.toNat)
  | .addsi _ d s v => some (formI 0x09 d s 0 v.toNat)
  | .andi _ d s v => some (formI 0x0A d s 0 v.toNat)
  | .ori _ d s v => some (formI 0x0B d s 0 v.toNat)
  | .xori _ d s v => some (formI 0x0C d s 0 v.toNat)
  | .cmpi _ s v => some (formI 0x0D 0 s 0 v.toNat)
  | .movi _ d v => some (formI 0x0E d 0 0 v.toNat)
  | .movhi _ d v => some (formI 0x0E d 0 1 v.toNat)
  | .addai _ a v => some (formI 0x0F a 0 0 v.toNat)
  | .ldb _ d a p o => some (formM 0x10 d a p 0 o.toNat)
  | .ldbs _ d a p o => some (formM 0x10 d a p 1 o.toNat)
  | .ldh _ d a p o => some (formM 0x10 d a p 2 o.toNat)
  | .ldhs _ d a p o => some (formM 0x10 d a p 3 o.toNat)
  | .ldw _ d a p o => some (formM 0x10 d a p 4 o.toNat)
  | .ldd _ d a p o => some (formM 0x10 d a p 6 o.toNat)
  | .stb _ d a p o => some (formM 0x11 d a p 0 o.toNat)
  | .sth _ d a p o => some (formM 0x11 d a p 2 o.toNat)
  | .stw _ d a p o => some (formM 0x11 d a p 4 o.toNat)
  | .std _ d a p o => some (formM 0x11 d a p 6 o.toNat)
  | .bmovs _ a l i j => some (formR 0x12 0 a l 0 (2 * j.toNat + i.toNat))
  | .bmovl _ a l i j => some (formR 0x12 1 a l 0 (2 * j.toNat + i.toNat))
  | .bcc _ cc o => some (formB 0x18 cc o.toNat)
  | .call _ o => some (formB 0x19 0 o.toNat)
  | .jr _ a => some (formR 0x1A 0 0 a 0 0)
  | .callr _ a => some (formR 0x1A 1 0 a 0 0)
  | .ret _ => some (formR 0x1A 2 0 0 0 0)
  | .customInstruction _ k u v w a i => some (formR 0x3E w k u v (128 * a + i.toNat))
  | _ => none

/-! ## PIO words (R416-R418) -/

/-- The operand bits that R417 does not name for an OP, as a mask; a GOTO with condition 8-15 is illegal too (R418). -/
def pioZeroBits (op : Nat) : Nat :=
  if op = 0x0F ∨ op = 0x12 ∨ op = 0x1A then 0
  else if op = 0x01 ∨ op = 0x02 ∨ op = 0x03 ∨ op = 0x06 ∨ op = 0x07 ∨ op = 0x08 ∨ op = 0x15 then 0x7E0
  else if op = 0x04 then 0x7C0
  else if op = 0x05 then 0x790
  else if op = 0x0E ∨ op = 0x14 ∨ op = 0x1B ∨ op = 0x1E ∨ op = 0x19 then 0x700
  else if op = 0x1C then 0x7FC
  else 0x7FF

/-- Is a 16-bit word an instruction of R417 (R418)? -/
def pioLegal (w : BitVec 16) : Bool := w.toNat % 2048 &&& pioZeroBits (w.toNat / 2048) = 0

/-- OP and operand of a PIO instruction (R417); none where the command is no legal PIO instruction. -/
def pioFields : Instr → Option (Nat × Nat)
  | .pioNop _ => some (0x00, 0)
  | .pioDrv _ v => some (0x01, v.toNat)
  | .pioDrve _ v => some (0x02, v.toNat)
  | .pioEmit _ k => some (0x03, k)
  | .pioEmite _ k v => some (0x04, 32 * v.toNat + k)
  | .pioEmitl _ k e c => some (0x05, 64 * c.toNat + 32 * e.toNat + k)
  | .pioGrab _ k _ => some (0x06, k)
  | .pioGrabr _ k _ => some (0x07, k)
  | .pioDisc _ k => some (0x08, k)
  | .pioLoad _ => some (0x09, 0)
  | .pioLoadt _ => some (0x0A, 0)
  | .pioSend _ => some (0x0B, 0)
  | .pioSende _ => some (0x0C, 0)
  | .pioSendt _ => some (0x0D, 0)
  | .pioUntil _ p pol _ => some (0x0E, 128 * pol.toNat + p)
  | .pioUntilc _ w pol k _ => some (0x0F, 1024 * pol.toNat + 32 * w + k)
  | .pioUntilp _ _ => some (0x10, 0)
  | .pioUntilt _ => some (0x11, 0)
  | .pioPause _ k => some (0x12, k)
  | .pioMatch _ => some (0x13, 0)
  | .pioMatchi _ k => some (0x14, k.toNat)
  | .pioLook _ s _ => some (0x15, s)
  | .pioTput _ => some (0x16, 0)
  | .pioMovol _ => some (0x17, 0)
  | .pioMovsr _ => some (0x18, 0)
  | .pioGoto _ c t => if c.val < 8 then some (0x19, 32 * c + t) else none
  | .pioGotop _ w pol t _ => some (0x1A, 1024 * pol.toNat + 32 * w + t)
  | .pioLdlc _ v => some (0x1B, v.toNat)
  | .pioRate _ s r => some (0x1C, 2 * r.toNat + s.toNat)
  | .pioStamp _ => some (0x1D, 0)
  | .pioEvt _ k => some (0x1E, k.toNat)
  | .pioHalt _ => some (0x1F, 0)
  | _ => none

/-- The word of a PIO instruction (R416). -/
def pioWord (i : Instr) : Option (BitVec 16) := (pioFields i).map fun p => BitVec.ofNat 16 (2048 * p.1 + p.2)

/-! ## What stands at a program counter -/

/-- The command that the RUNNING context of engine c issues next (R150, R161): the word at its PC, little-endian; none where
nothing issues, at a ROM gate, and where the fetch fails. -/
def fetchedCommand (c : Fin 17) (d : Dev) : Option Instr :=
  if !coreRuns c d then none
  else (running c d).bind fun key =>
    let x := getCtx key d
    let a := fetchAddr c x
    if (c.val = 16 ∧ (romGate x.pc.toNat).isSome = true) ∨ fetchBad c x d = true ∨ (badIn a 4 d).isSome = true then none
    else some (engineCommand c (word (leNat (memBytes a 4 d))))

/-- The word at the PC of PIO engine n (R407, R416). -/
def pioAtPc (n : Fin 32) (d : Dev) : BitVec 16 := (rd (A.pio n (0x100 + 4 * (getPio n d).pc)) d).setWidth 16

end Sys2Proof.Machine
end

