-- ==== Sys2Proof/Safety.lean ====
section
/-! DEFINITION. Safety.lean: what claims are stated in: when an engine issues, the states that differ in one context
only, fuses that stay burned, the safe state, canonical tables. -/

namespace Sys2Proof.Safety

open Sys2Proof.Machine

/-- Engine c issues an instruction from the context `key`: the engine executes, that context is RUNNING, no ROM gate
stands at its PC and its fetch passes (R150, R161, R483). -/
def Issues (c key : Nat) (s : State) : Prop :=
  coreRuns c s.dev = true ∧ running c s.dev = some key ∧
  (c = 16 → romGate (getCtx key s.dev).pc.toNat = none) ∧
  fetchBad c (getCtx key s.dev) s.dev = false ∧ badIn (fetchAddr c (getCtx key s.dev)) 4 s.dev = none

/-- The device once engine c has issued from context `key`: the engine keeps which context issued last (R152) and counts
the instruction (R238). -/
def issued (c key : Nat) (d : Dev) : Dev := modCore c (fun e => { e with last := key % 16, issued := e.issued + 1 }) d

/-- s after an instruction of engine c that changes its context `key` to x and nothing else. -/
def onlyCtx (c key : Nat) (x : Ctx) (s : State) : State := { s with dev := putCtx key x (issued c key s.dev) }

/-- s after an instruction of engine c that has no effect but to take exception e (R169). -/
def raises (c key : Nat) (e : Exc) (s : State) : State := { s with dev := takeExc key e (issued c key s.dev) }

/-- s after an instruction of engine c that blocks its context `key` in the wait w (R153). -/
def blocks (c key : Nat) (w : Wait) (s : State) : State :=
  { s with dev := block key (getCtx key s.dev) w (issued c key s.dev) }

/-- Every fuse of a set is burned (R477: a burned fuse stays burned). -/
def FusesHold (l : List Nat) (s : State) : Prop := ∀ i ∈ l, i ∈ s.fuses.burned

/-- The safe state (R75, R462): Twilight, with FAULT_N asserted. -/
def InTwilight (s : State) : Prop := s.dev.sys.mode = .twilight ∧ faultN s.dev = true

/-- The engine that issues an instruction, for the rows that are instructions of the engine instruction set (R159, R170). -/
def engineOf : Instr → Option (Fin 17)
  | .illegalInstruction c => some c
  | .add c _ _ _ => some c
  | .adds c _ _ _ => some c
  | .sub c _ _ _ => some c
  | .subs c _ _ _ => some c
  | .andR c _ _ _ => some c
  | .orR c _ _ _ => some c
  | .xorR c _ _ _ => some c
  | .andn c _ _ _ => some c
  | .cmp c _ _ => some c
  | .mov c _ _ => some c
  | .notR c _ _ => some c
  | .neg c _ _ => some c
  | .negs c _ _ => some c
  | .abs c _ _ => some c
  | .abss c _ _ => some c
  | .lsl c _ _ _ => some c
  | .lsr c _ _ _ => some c
  | .asr c _ _ _ => some c
  | .ror c _ _ _ => some c
  | .rol c _ _ _ => some c
  | .lsli c _ _ _ => some c
  | .lsri c _ _ _ => some c
  | .asri c _ _ _ => some c
  | .rori c _ _ _ => some c
  | .roli c _ _ _ => some c
  | .bfi c _ _ _ _ => some c
  | .bfxu c _ _ _ _ => some c
  | .bfxs c _ _ _ _ => some c
  | .bfir c _ _ _ => some c
  | .bfxur c _ _ _ => some c
  | .bfxsr c _ _ _ => some c
  | .bswap c _ _ => some c
  | .hswap c _ _ => some c
  | .mul c _ _ _ => some c
  | .mulh c _ _ _ => some c
  | .mulhu c _ _ _ => some c
  | .div c _ _ _ => some c
  | .divu c _ _ _ => some c
  | .divs c _ _ _ => some c
  | .mac c _ _ _ => some c
  | .msu c _ _ _ => some c
  | .acset c _ _ => some c
  | .acx c _ _ _ => some c
  | .acz c _ => some c
  | .crci c _ _ => some c
  | .crcb c _ _ _ => some c
  | .crch c _ _ _ => some c
  | .crcw c _ _ _ => some c
  | .crcx c _ _ _ => some c
  | .csumh c _ _ => some c
  | .csumw c _ _ => some c
  | .csx c _ _ => some c
  | .mova c _ _ => some c
  | .movd c _ _ => some c
  | .adda c _ _ => some c
  | .suba c _ _ => some c
  | .cmpa c _ _ => some c
  | .addi c _ _ _ => some c
  | .addsi c _ _ _ => some c
  | .andi c _ _ _ => some c
  | .ori c _ _ _ => some c
  | .xori c _ _ _ => some c
  | .cmpi c _ _ => some c
  | .movi c _ _ => some c
  | .movhi c _ _ => some c
  | .addai c _ _ => some c
  | .ldb c _ _ _ _ => some c
  | .ldbs c _ _ _ _ => some c
  | .ldh c _ _ _ _ => some c
  | .ldhs c _ _ _ _ => some c
  | .ldw c _ _ _ _ => some c
  | .ldd c _ _ _ _ => some c
  | .stb c _ _ _ _ => some c
  | .sth c _ _ _ _ => some c
  | .stw c _ _ _ _ => some c
  | .std c _ _ _ _ => some c
  | .bmovs c _ _ _ _ => some c
  | .bmovl c _ _ _ _ => some c
  | .bcc c _ _ => some c
  | .call c _ => some c
  | .jr c _ => some c
  | .callr c _ => some c
  | .ret c => some c
  | .mfs c _ _ => some c
  | .mts c _ _ => some c
  | .rfe c => some c
  | .brk c _ => some c
  | .nop c => some c
  | .wfe c _ _ => some c
  | .sev c _ => some c
  | .get c _ => some c
  | .doneFinish c _ => some c
  | .doneForward c _ => some c
  | .doneSubmit c _ => some c
  | .mbwait c _ _ => some c
  | .tcmp c _ _ => some c
  | .twait c _ _ => some c
  | .customInstruction c _ _ _ _ _ _ => some c
  | _ => none

/-- The registers and the memory are in their canonical form: rising keys, nothing listed at its default. -/
def Canonical (s : State) : Prop := tabWf regReset s.dev.regs = true ∧ Memory.wf s.dev.mem = true

end Sys2Proof.Safety
end

