-- ==== Sys2Proof/Certificates/Slice0/Obligations.lean ====
section
/-! DEFINITION. Certificates/Slice0/Obligations.lean: the statements about the model, one `def Obligations.<Name> : Prop`
each. -/

open Sys2Proof Sys2Proof.Machine Sys2Proof.Safety

/-- A step takes the command at the front of the queue. -/
def Obligations.StepRunsFrontCommand : Prop :=
  ∀ (c : Instr) (rest : List Instr) (s : State),
    step { s with pending := c :: rest } = exec c { s with pending := rest }

/-- No command stops the machine, none touches the queue, and three only burn fuses. -/
def Obligations.EveryCommandAnswers : Prop :=
  ∀ (c : Instr) (s : State), ∃ t, exec c s = .next t ∧ t.pending = s.pending ∧
    (t.fuses ≠ s.fuses → c = .rollbackFuseBurn ∨ (∃ same, c = .secCommandDone same) ∨ (∃ k n, c = .tamperTrip k n))

/-- R477: no step un-burns a fuse. -/
def Obligations.BurnedFusesStay : Prop :=
  ∀ (l : List Nat) (s s' : State), FusesHold l s → step s = .next s' → FusesHold l s'

/-- R75, R91, R150, R462: an engine that does not run changes nothing. -/
def Obligations.HaltedEnginesIssueNothing : Prop :=
  ∀ (i : Instr) (c : Fin 17) (s : State), engineOf i = some c →
    (c.val < 16 → s.dev.sys.mode ≠ .service ∨ inDoze s.dev = true ∨ rb (A.peCtrl c) 0 s.dev = false) →
    (c.val = 16 → powered s.dev = false ∨ s.dev.sys.romLoop = true) → exec i s = .next s

/-- R86: the state right after reset. -/
def Obligations.ResetValues : Prop :=
  let d := State.reset.dev
  d.sys.mode = .startup ∧ d.boot.step = .pll ∧ (∀ a, rd a d = regReset a) ∧ Canonical State.reset ∧
  d.regs = [] ∧ d.mem = [] ∧ d.locks = [] ∧ d.tabs = [] ∧ (∀ l, FusesHold l State.reset → l = []) ∧
  State.reset.pending = [] ∧
  rd A.sysPwrCfg d = 1 ∧ rd A.sysWakeEn d = 1 ∧ rd (A.sysBankRdy 0) d = 0xFFFFFFFF ∧ rd (A.sysBankRdy 1) d = 0x07FFFFFF ∧
  rd A.schPoolLvl d = 0x10001000 ∧ rd A.sysRstCause d = 0

/-- R253, R269: what a CORE cycle adds to a time base that does not slew, and a trigger that skips; the tick itself is
notes/assumptions/3.md. -/
def Obligations.IdleTick : Prop :=
  ∀ s : State, s.pending = [] →
    let units (b : TimeBase) : Int := ((b.sec * 1000000000 + b.ns) * 2 ^ 32 + b.frac : Nat)
    let still : Prop := (∀ r ∈ s.dev.mrd.slots, r.held = none) ∧
      ∀ c ∈ s.dev.swc.queues, c.started = true → c.paused = true ∨ preemptable c.port c.cls s.dev = false
    let quiet : Prop := ∀ k, (getTrig k s.dev).skipping = false
    ∃ t, step s = .next t ∧ t.dev.now = s.dev.now + 1 ∧ t.fuses = s.fuses ∧ t.pending = [] ∧
      (still → quiet → { t.dev with now := s.dev.now, ntm := s.dev.ntm, regs := s.dev.regs } = s.dev ∧
        (∀ a, (∀ j < 4, a ≠ A.ntmTb j 0x18) → rd a t.dev = rd a s.dev) ∧
        (s.dev.ntm.counting = false → t.dev.ntm.tb = s.dev.ntm.tb) ∧
        (s.dev.ntm.counting = true → s.dev.ntm.tb.length = 4 → ∀ j < 4,
          let rate := (rd (A.ntmTb j 0x10) s.dev).toInt
          (tbGet j s.dev).slew = 0 → -10737418 ≤ rate → rate ≤ 10737418 →
          units (tbGet j t.dev) = (units (tbGet j s.dev) + 10737418240 + rate) % (2 ^ 80 * 1000000000) ∧
          (tbGet j t.dev).ns < 1000000000 ∧ (tbGet j t.dev).epoch = (tbGet j s.dev).epoch)) ∧
      (still → s.dev.ntm.counting = true → ∀ k x, s.dev.ntm.trig = [(k, x)] → k < 64 → x.skipping = true →
        -- the same cycle without the trigger
        ∀ t₀, step { s with dev := { s.dev with ntm := { s.dev.ntm with trig := [] } } } = .next t₀ →
          (rb (A.ntmTrig k 12) 31 s.dev = false ∨ stepDue k t₀.dev = true → t.dev = putTrig k x t₀.dev) ∧
          (rb (A.ntmTrig k 12) 31 s.dev = true → stepDue k t₀.dev = false →
            (trigDiff k (putTrig k x t₀.dev) < 0 → t.dev = putTrig k { x with skipping := false } t₀.dev) ∧
            (0 ≤ trigDiff k (putTrig k x t₀.dev) →
              getTrig k t.dev = { x with target := x.target + (rd (A.ntmTrig k 8) s.dev).setWidth 64 } ∧
              rf (A.ntmTrig k 0x14) 15 0 t.dev = satInc 0xFFFF (rf (A.ntmTrig k 0x14) 15 0 s.dev) ∧
              rb (A.ntmTrig k 0x10) 1 t.dev = true)))

/-- R159, R170, R181, R195, R200, R201: the wrapping instructions and the compares, with their flags and their overflow
trap. -/
def Obligations.WrappingArithmetic : Prop :=
  ∀ (c : Fin 17) (key : Nat) (rd rs rt : Fin 16) (an am : Fin 8) (imm : BitVec 16) (s : State), Issues c key s →
    let x := getCtx key s.dev
    let a := x.dr rs
    let b := x.dr rt
    let i := imm.signExtend 32
    let flags (r : Word) (cy ov : Bool) : Word := flagV ov (flagC cy (flagZN r x.sr))
    let write (r : Word) (cy ov : Bool) : State := onlyCtx c key (({ x with sr := flags r cy ov }.setD rd r).advance) s
    let compare (r : Word) (cy ov : Bool) : State := onlyCtx c key ({ x with sr := flags r cy ov }.advance) s
    ((a.saddOverflow b && ovTrap x.sr) = false →
      exec (.add c rd rs rt) s = .next (write (a + b) (a.uaddOverflow b) (a.saddOverflow b))) ∧
    ((a.saddOverflow b && ovTrap x.sr) = true → exec (.add c rd rs rt) s = .next (raises c key { cause := 7 } s)) ∧
    ((a.ssubOverflow b && ovTrap x.sr) = false →
      exec (.sub c rd rs rt) s = .next (write (a - b) (!a.usubOverflow b) (a.ssubOverflow b))) ∧
    ((a.ssubOverflow b && ovTrap x.sr) = true → exec (.sub c rd rs rt) s = .next (raises c key { cause := 7 } s)) ∧
    ((a == 0x80000000 && ovTrap x.sr) = false →
      exec (.neg c rd rs) s = .next (write (0 - a) (a == 0) (a == 0x80000000))) ∧
    ((a == 0x80000000 && ovTrap x.sr) = true → exec (.neg c rd rs) s = .next (raises c key { cause := 7 } s)) ∧
    ((a.saddOverflow i && ovTrap x.sr) = false →
      exec (.addi c rd rs imm) s = .next (write (a + i) (a.uaddOverflow i) (a.saddOverflow i))) ∧
    ((a.saddOverflow i && ovTrap x.sr) = true → exec (.addi c rd rs imm) s = .next (raises c key { cause := 7 } s)) ∧
    exec (.cmp c rs rt) s = .next (compare (a - b) (!a.usubOverflow b) (a.ssubOverflow b)) ∧
    exec (.cmpi c rs imm) s = .next (compare (a - i) (!a.usubOverflow i) (a.ssubOverflow i)) ∧
    exec (.cmpa c an am) s = .next (compare (x.ar an - x.ar am) (!(x.ar an).usubOverflow (x.ar am))
      ((x.ar an).ssubOverflow (x.ar am)))

/-- R159, R181, R183: saturating results and ABS. `hold` is an integer held to 32 signed bits. -/
def Obligations.SaturatingArithmetic : Prop :=
  ∀ (c : Fin 17) (key : Nat) (rd rs rt : Fin 16) (imm : BitVec 16) (s : State), Issues c key s →
    let x := getCtx key s.dev
    let a := x.dr rs
    let b := x.dr rt
    let hold (i : Int) : Word := BitVec.ofInt 32 (max (-2147483648) (min 2147483647 i))
    let out (i : Int) : Bool := decide (i < -2147483648 ∨ 2147483647 < i)
    let write (i : Int) : State :=
      onlyCtx c key (({ x with sr := flagS (out i) (flagV (out i) (flagZN (hold i) x.sr)) }.setD rd (hold i)).advance) s
    exec (.adds c rd rs rt) s = .next (write (a.toInt + b.toInt)) ∧
    exec (.subs c rd rs rt) s = .next (write (a.toInt - b.toInt)) ∧
    exec (.negs c rd rs) s = .next (write (-a.toInt)) ∧
    exec (.abss c rd rs) s = .next (write (max a.toInt (-a.toInt))) ∧
    exec (.addsi c rd rs imm) s = .next (write (a.toInt + imm.toInt)) ∧
    ((a == 0x80000000 && ovTrap x.sr) = false →
      exec (.abs c rd rs) s = .next (onlyCtx c key
        (({ x with sr := flagV (a == 0x80000000) (flagZN (a.abs) x.sr) }.setD rd a.abs).advance) s)) ∧
    ((a == 0x80000000 && ovTrap x.sr) = true → exec (.abs c rd rs) s = .next (raises c key { cause := 7 } s))

/-- R178, R195, R197, R201: logic, moves and byte swaps; flags Z and N only. -/
def Obligations.LogicAndMoves : Prop :=
  ∀ (c : Fin 17) (key : Nat) (rd rs rt : Fin 16) (imm : BitVec 16) (s : State), Issues c key s →
    let x := getCtx key s.dev
    let a := x.dr rs
    let b := x.dr rt
    let write (r : Word) : Host.Outcome State Fault Refusal :=
      .next (onlyCtx c key (({ x with sr := flagZN r x.sr }.setD rd r).advance) s)
    exec (.andR c rd rs rt) s = write (a &&& b) ∧ exec (.orR c rd rs rt) s = write (a ||| b) ∧
    exec (.xorR c rd rs rt) s = write (a ^^^ b) ∧ exec (.andn c rd rs rt) s = write (a &&& ~~~b) ∧
    exec (.mov c rd rs) s = write a ∧ exec (.notR c rd rs) s = write (~~~a) ∧
    exec (.andi c rd rs imm) s = write (a &&& imm.zeroExtend 32) ∧
    exec (.ori c rd rs imm) s = write (a ||| imm.zeroExtend 32) ∧
    exec (.xori c rd rs imm) s = write (a ^^^ imm.zeroExtend 32) ∧
    exec (.movi c rd imm) s = write (imm.signExtend 32) ∧
    exec (.movhi c rd imm) s = write (imm ++ (0 : BitVec 16)) ∧
    exec (.bswap c rd rs) s =
      write (a.extractLsb' 0 8 ++ a.extractLsb' 8 8 ++ a.extractLsb' 16 8 ++ a.extractLsb' 24 8) ∧
    exec (.hswap c rd rs) s =
      write (a.extractLsb' 16 8 ++ a.extractLsb' 24 8 ++ a.extractLsb' 0 8 ++ a.extractLsb' 8 8)

/-- R184, R185, R196: shifts and rotates by every amount. -/
def Obligations.ShiftsAndRotates : Prop :=
  ∀ (c : Fin 17) (key : Nat) (rd rs rt : Fin 16) (imm : BitVec 5) (s : State), Issues c key s →
    let x := getCtx key s.dev
    let a := x.dr rs
    let n := (x.dr rt).toNat % 256
    let m := imm.toNat
    let write (n : Nat) (r : Word) (cy : Bool) : Host.Outcome State Fault Refusal :=
      .next (onlyCtx c key
        (({ x with sr := if n = 0 then flagZN r x.sr else flagC cy (flagZN r x.sr) }.setD rd r).advance) s)
    let lsl (n : Nat) := write n (a <<< n) (decide (n ≤ 32) && a.getLsbD (32 - n))
    let lsr (n : Nat) := write n (a >>> n) (decide (n ≤ 32) && a.getLsbD (n - 1))
    let asr (n : Nat) := write n (a.sshiftRight n) (if n ≤ 31 then a.getLsbD (n - 1) else a.msb)
    let ror (n : Nat) := write n (a.rotateRight (n % 32)) (a.rotateRight (n % 32)).msb
    let rol (n : Nat) := write n (a.rotateLeft (n % 32)) ((a.rotateLeft (n % 32)).getLsbD 0)
    exec (.lsl c rd rs rt) s = lsl n ∧ exec (.lsli c rd rs imm) s = lsl m ∧
    exec (.lsr c rd rs rt) s = lsr n ∧ exec (.lsri c rd rs imm) s = lsr m ∧
    exec (.asr c rd rs rt) s = asr n ∧ exec (.asri c rd rs imm) s = asr m ∧
    exec (.ror c rd rs rt) s = ror n ∧ exec (.rori c rd rs imm) s = ror m ∧
    exec (.rol c rd rs rt) s = rol n ∧ exec (.roli c rd rs imm) s = rol m

/-- R177, R197: every bit of a bit-field result. -/
def Obligations.BitFields : Prop :=
  ∀ (c : Fin 17) (key : Nat) (rd rs rt : Fin 16) (p w : BitVec 5) (s : State), Issues c key s →
    let x := getCtx key s.dev
    let a := x.dr rs
    let old := x.dr rd
    let bits (pos width : Nat) (ins zx sx : Instr) : Prop :=
      (∃ r : Word, (∀ j < 32, r.getLsbD j = if pos ≤ j ∧ j < pos + width then a.getLsbD (j - pos) else old.getLsbD j) ∧
        exec ins s = .next (onlyCtx c key (({ x with sr := flagZN r x.sr }.setD rd r).advance) s)) ∧
      (∃ r : Word, (∀ j < 32, r.getLsbD j = (decide (j < width) && a.getLsbD (pos + j))) ∧
        exec zx s = .next (onlyCtx c key (({ x with sr := flagZN r x.sr }.setD rd r).advance) s)) ∧
      (∃ r : Word, (∀ j < 32, r.getLsbD j = a.getLsbD (min (pos + min j (width - 1)) 31)) ∧
        exec sx s = .next (onlyCtx c key (({ x with sr := flagZN r x.sr }.setD rd r).advance) s))
    bits p.toNat (w.toNat + 1) (.bfi c rd rs p w) (.bfxu c rd rs p w) (.bfxs c rd rs p w) ∧
    bits ((x.dr rt).toNat % 32) ((x.dr rt).toNat / 256 % 32 + 1) (.bfir c rd rs rt) (.bfxur c rd rs rt) (.bfxsr c rd rs rt)

/-- R155, R181, R186, R187, R198, R199: products and accumulators. -/
def Obligations.MultiplyAndAccumulate : Prop :=
  ∀ (c : Fin 17) (key : Nat) (rd rs rt : Fin 16) (ac : Fin 2) (sh : BitVec 6) (s : State), Issues c key s →
    let x := getCtx key s.dev
    let a := x.dr rs
    let b := x.dr rt
    let write (r : Word) (ov : Bool) : State :=
      onlyCtx c key (({ x with sr := flagV ov (flagZN r x.sr) }.setD rd r).advance) s
    let accum (i : Int) : State :=
      onlyCtx c key (({ x with sr := flagS (decide (i < -2 ^ 71 ∨ 2 ^ 71 - 1 < i)) x.sr }.setAc ac
        (BitVec.ofInt 72 (max (-2 ^ 71) (min (2 ^ 71 - 1) i)))).advance) s
    let q := (x.ac ac).toInt / 2 ^ sh.toNat
    let fits := decide (q < -2147483648 ∨ 2147483647 < q)
    let held := BitVec.ofInt 32 (max (-2147483648) (min 2147483647 q))
    ((a.smulOverflow b && ovTrap x.sr) = false → exec (.mul c rd rs rt) s = .next (write (a * b) (a.smulOverflow b))) ∧
    ((a.smulOverflow b && ovTrap x.sr) = true → exec (.mul c rd rs rt) s = .next (raises c key { cause := 7 } s)) ∧
    exec (.mulh c rd rs rt) s = .next (write (((a.signExtend 64) * (b.signExtend 64)).extractLsb' 32 32) false) ∧
    exec (.mulhu c rd rs rt) s = .next (write (((a.zeroExtend 64) * (b.zeroExtend 64)).extractLsb' 32 32) false) ∧
    exec (.mac c ac rs rt) s = .next (accum ((x.ac ac).toInt + a.toInt * b.toInt)) ∧
    exec (.msu c ac rs rt) s = .next (accum ((x.ac ac).toInt - a.toInt * b.toInt)) ∧
    (rs.val % 2 = 0 → exec (.acset c ac rs) s =
      .next (onlyCtx c key ((x.setAc ac ((x.dr (rs + 1 : Nat) ++ a).signExtend 72)).advance) s)) ∧
    (rs.val % 2 = 1 → exec (.acset c ac rs) s = .next (raises c key { cause := 1 } s)) ∧
    (sh.toNat ≤ 40 → exec (.acx c rd ac sh) s =
      .next (onlyCtx c key (({ x with sr := flagS fits (flagV fits (flagZN held x.sr)) }.setD rd held).advance) s)) ∧
    (40 < sh.toNat → exec (.acx c rd ac sh) s = .next (raises c key { cause := 1 } s)) ∧
    exec (.acz c ac) s = .next (onlyCtx c key ((x.setAc ac 0).advance) s)

/-- R182, R183, R164, R170: divisions. V is cleared on a zero divisor (DEDUCED: notes/assumptions/13.md). -/
def Obligations.Divisions : Prop :=
  ∀ (c : Fin 17) (key : Nat) (rd rs rt : Fin 16) (s : State),
    (Issues c key s →
      let x := getCtx key s.dev
      let a := x.dr rs
      let b := x.dr rt
      let zero (q : Word) : Word × Word × Word := (q, a, flagDZ true (flagV false (flagZN q x.sr)))
      let signed (sat : Bool) : Word × Word × Word :=
        if b = 0 then zero (if a.msb then 0x80000000 else 0x7FFFFFFF)
        else if a = 0x80000000 ∧ b = 0xFFFFFFFF then
          (if sat then (0x7FFFFFFF, 0, flagS true (flagV true (flagZN 0x7FFFFFFF x.sr)))
           else (0x80000000, 0, flagV true (flagZN 0x80000000 x.sr)))
        else (a.sdiv b, a.srem b, flagV false (flagZN (a.sdiv b) x.sr))
      let unsigned : Word × Word × Word :=
        if b = 0 then zero 0xFFFFFFFF else (a / b, a % b, flagV false (flagZN (a / b) x.sr))
      let dzTrap := b = 0 ∧ bit x.sr 9 = true
      let ovf := a = 0x80000000 ∧ b = 0xFFFFFFFF ∧ ovTrap x.sr = true
      let starts (i : Instr) (r : Word × Word × Word) : Prop := ∃ t, exec i s = .next t ∧
        getCtx key t.dev = { x with
          state := .blocked
          wait := if (getCore c s.dev).divBusy = none then .division rd r.1 r.2.1 r.2.2 else .divider rd r.1 r.2.1 r.2.2 } ∧
        (getCore c t.dev).divBusy = some ((getCore c s.dev).divBusy.getD key) ∧
        t.dev.mem = s.dev.mem ∧ t.dev.regs = s.dev.regs
      (rd.val % 2 = 0 → ¬dzTrap → ¬ovf → starts (.div c rd rs rt) (signed false)) ∧
      (rd.val % 2 = 0 → ¬dzTrap → starts (.divu c rd rs rt) unsigned) ∧
      (rd.val % 2 = 0 → ¬dzTrap → starts (.divs c rd rs rt) (signed true)) ∧
      (rd.val % 2 = 0 → dzTrap → ∀ i ∈ [Instr.div c rd rs rt, .divu c rd rs rt, .divs c rd rs rt],
        exec i s = .next (raises c key { cause := 6 } s)) ∧
      (rd.val % 2 = 0 → ovf → exec (.div c rd rs rt) s = .next (raises c key { cause := 7 } s)) ∧
      (rd.val % 2 = 1 → ∀ i ∈ [Instr.div c rd rs rt, .divu c rd rs rt, .divs c rd rs rt],
        exec i s = .next (raises c key { cause := 1 } s))) ∧
    (∀ (d : Nat) (q r sr : Word), coreRuns c s.dev = true → (getCore c s.dev).divBusy = some key →
      (getCtx key s.dev).wait = .division d q r sr →
      ∃ t, exec (.divisionDone c) s = .next t ∧
        (getCtx key t.dev).dr d = q ∧ (getCtx key t.dev).dr (d + 1) = r ∧
        (∀ j, j ≠ d → j ≠ d + 1 → (getCtx key t.dev).dr j = (getCtx key s.dev).dr j) ∧
        ((getCtx key s.dev).rfe = false → (getCtx key t.dev).sr = sr) ∧
        (getCtx key t.dev).wait = .none ∧
        ((getCtx key t.dev).state = .ready ∨ (getCtx key t.dev).state = .running) ∧
        t.dev.mem = s.dev.mem ∧ t.dev.regs = s.dev.regs)

/-- R174, R175, R199: the CRC instructions on slot k; folding one byte takes its bits from bit 0 with REFIN = 1, else from
bit 7.
R174: the check values of the four slots at reset, folded byte by byte. -/
def Obligations.CrcInstructions : Prop :=
  (∀ (c : Fin 17) (key : Nat) (rd rs : Fin 16) (ac : Fin 2) (k : Fin 4) (s : State), Issues c key s →
    (∀ o ∈ [0, 4, 8, 12], A.peCrc c k o ∉ s.dev.badCfg) →
    let x := getCtx key s.dev
    let p := crcSlot c k s.dev
    let byteIn (cr : Nat) (b : Nat) : Nat :=
      ((if p.refIn then [0, 1, 2, 3, 4, 5, 6, 7] else [7, 6, 5, 4, 3, 2, 1, 0]).foldl
        (fun cr i => crcFoldBit p cr (b.testBit i)) cr)
    let fold (n : Nat) : Acc := BitVec.ofNat 72
      (((List.range n).map fun i => (x.dr rs).toNat / 256 ^ i % 256).foldl byteIn ((x.ac ac).toNat % 2 ^ p.width))
    exec (.crci c ac k) s = .next (onlyCtx c key ((x.setAc ac (BitVec.ofNat 72
      (if p.refIn then revBits p.width (p.init % 2 ^ p.width) else p.init % 2 ^ p.width))).advance) s) ∧
    exec (.crcb c ac rs k) s = .next (onlyCtx c key ((x.setAc ac (fold 1)).advance) s) ∧
    exec (.crch c ac rs k) s = .next (onlyCtx c key ((x.setAc ac (fold 2)).advance) s) ∧
    exec (.crcw c ac rs k) s = .next (onlyCtx c key ((x.setAc ac (fold 4)).advance) s) ∧
    exec (.crcx c rd ac k) s = .next (onlyCtx c key ((x.setD rd (word
      ((if p.refOut = p.refIn then (x.ac ac).toNat % 2 ^ p.width
        else revBits p.width ((x.ac ac).toNat % 2 ^ p.width)) ^^^ (p.fin % 2 ^ p.width)))).advance) s)) ∧
  (let check (k : Nat) : Word :=
    let p := crcSlot 0 k State.reset.dev
    crcFinish p ([0x31, 0x32, 0x33, 0x34, 0x35, 0x36, 0x37, 0x38, 0x39].foldl
      (fun cr b => crcFoldWord p 1 cr b) (crcInit p))
  check 0 = 0xBB3D ∧ check 1 = 0xCBF43926 ∧ check 2 = 0xE3069283 ∧ check 3 = 0xE3069283)

/-- R155, R156, R176, R199-R201: checksums and address registers. The fold of a sum n > 0xFFFF ends at
(n - 1) mod 0xFFFF + 1. -/
def Obligations.ChecksumAndAddressRegisters : Prop :=
  ∀ (c : Fin 17) (key : Nat) (rd rs : Fin 16) (ac : Fin 2) (an : Fin 8) (imm : BitVec 16) (s : State), Issues c key s →
    let x := getCtx key s.dev
    let m := x.dr rs
    let n := (x.ac ac).toNat
    let k := x.ring.toNat / 16 ^ an.val % 16
    let moves (i : Instr) (change : Word) : Prop := ∃ r : Word,
      (∀ j < 32, r.getLsbD j =
        if k = 0 ∨ k = 15 ∨ j < k + 2 then (x.ar an + change).getLsbD j else (x.ar an).getLsbD j) ∧
      exec i s = .next (onlyCtx c key ((x.setA an r).advance) s)
    exec (.csumh c ac rs) s =
      .next (onlyCtx c key ((x.setAc ac (x.ac ac + (m.extractLsb' 0 16).zeroExtend 72)).advance) s) ∧
    exec (.csumw c ac rs) s = .next (onlyCtx c key ((x.setAc ac
      (x.ac ac + (m.extractLsb' 16 16).zeroExtend 72 + (m.extractLsb' 0 16).zeroExtend 72)).advance) s) ∧
    exec (.csx c rd ac) s = .next (onlyCtx c key ((x.setD rd
      (word (0xFFFF - if n = 0 then 0 else (n - 1) % 0xFFFF + 1))).advance) s) ∧
    exec (.mova c an rs) s = .next (onlyCtx c key ((x.setA an m).advance) s) ∧
    exec (.movd c rd an) s = .next (onlyCtx c key ((x.setD rd (x.ar an)).advance) s) ∧
    moves (.adda c an rs) m ∧ moves (.suba c an rs) (-m) ∧ moves (.addai c an imm) (imm.signExtend 32)

/-- R162, R204, R205, R206: the branch-class instructions. `due` is the context that goes on in the delay slot with a
target.
R162, R169: where the next instruction stands after one that completes, shown on NOP. -/
def Obligations.BranchesAndDelaySlot : Prop :=
  (∀ (c : Fin 17) (key : Nat) (cc : Fin 16) (off : BitVec 21) (an : Fin 8) (s : State), Issues c key s →
    let x := getCtx key s.dev
    let z := bit x.sr 0
    let n := bit x.sr 1
    let cy := bit x.sr 2
    let v := bit x.sr 3
    let holds : Bool := [z, !z, cy, !cy, n, !n, v, !v, cy && !z, !cy || z, n == v, n != v, !z && n == v, z || n != v,
      true].getD cc.val false
    let rel : Word := x.pc + 4 * off.signExtend 32
    let due (y : Ctx) (target : Word) : Host.Outcome State Fault Refusal :=
      .next (onlyCtx c key { y with pc := x.pc + 4, slot := some (target.toNat, x.pc.toNat) } s)
    let clear (w : Word) : Word := w &&& 0xFFFFFFFC
    (x.slot = none →
      (cc.val < 15 → exec (.bcc c cc off) s = due x (if holds then rel else x.pc + 8)) ∧
      exec (.call c off) s = due { x with lr := x.pc + 8 } rel ∧
      exec (.jr c an) s = due x (clear (x.ar an)) ∧
      exec (.callr c an) s = due { x with lr := x.pc + 8 } (clear (x.ar an)) ∧
      exec (.ret c) s = due x (clear x.lr) ∧
      (x.sys = true → exec (.rfe c) s = due { x with rfe := true } x.epc) ∧
      (x.sys = false → exec (.rfe c) s = .next (raises c key { cause := 5 } s))) ∧
    (x.slot ≠ none →
      (cc.val < 15 → exec (.bcc c cc off) s = .next (raises c key { cause := 2 } s)) ∧
      ∀ i ∈ [Instr.call c off, .jr c an, .callr c an, .ret c, .rfe c],
        exec i s = .next (raises c key { cause := 2 } s)) ∧
    exec (.bcc c 15 off) s = .next (raises c key { cause := 1 } s)) ∧
  (∀ (c : Fin 17) (key : Nat) (s : State), Issues c key s →
    let x := getCtx key s.dev
    (x.slot = none → exec (.nop c) s = .next (onlyCtx c key { x with pc := x.pc + 4 } s)) ∧
    (∀ t b, x.slot = some (t, b) → x.rfe = false →
      exec (.nop c) s = .next (onlyCtx c key { x with pc := word t, slot := none } s)) ∧
    (∀ t b, x.slot = some (t, b) → x.rfe = true →
      exec (.nop c) s = .next (onlyCtx c key { x with
        pc := x.epc, slot := none, rfe := false,
        sr := setBit (setBit x.sr 7 (bit x.esr 15)) 11 false } s)))

/-- R167-R169, R171, R194: exception entry, on ILLEGAL_INSTRUCTION (CAUSE 0x01) and BRK (CAUSE 0x08). -/
def Obligations.ExceptionEntry : Prop :=
  ∀ (c : Fin 17) (key : Nat) (code : BitVec 10) (s : State), Issues c key s → key / 16 = c →
    let x := getCtx key s.dev
    ∀ p ∈ [(Instr.illegalInstruction c, 1), (.brk c code, 8)],
      (p.2 = 8 → c ≠ 16 → rb (A.peCtrl c) 1 s.dev = true → dbgAccGranted s.dev = false) →
      ∃ t, exec p.1 s = .next t ∧ t.dev.mem = s.dev.mem ∧
        (∀ a, a ≠ A.peStat c → rd a t.dev = rd a s.dev) ∧
        (bit x.sr 11 = false →
          getCtx key t.dev = { x with
            epc := (match x.slot with | some (_, b) => word b | none => x.pc)
            esr := word (p.2 + 16384 * x.slot.isSome.toNat + 32768 * x.sys.toNat)
            sr := x.sr ||| 0x880
            pc := word ((if c = 16 then 0x01000000 else 0) + p.2 * 0x20)
            slot := none, rfe := false, wait := .none } ∧
          (c ≠ 16 → rb (A.peStat c) 2 t.dev = true)) ∧
        (bit x.sr 11 = true →
          getCtx key t.dev = { x with state := .halted, wait := .none, hold := false } ∧
          (c ≠ 16 → rb (A.peStat c) 1 t.dev = true ∧ rf (A.peStat c) 15 12 t.dev = key % 16 ∧
            rf (A.peStat c) 23 16 t.dev = p.2))

/-- R157, R158, R165, R206: the special registers. -/
def Obligations.SpecialRegisters : Prop :=
  ∀ (c : Fin 17) (key : Nat) (rd : Fin 16) (n : BitVec 5) (s : State), Issues c key s →
    let x := getCtx key s.dev
    let v := x.dr rd
    let reads (n : BitVec 5) (w : Word) : Prop :=
      exec (.mfs c rd n) s = .next (onlyCtx c key ((x.setD rd w).advance) s)
    let writes (n : BitVec 5) (y : Ctx) : Prop := exec (.mts c n rd) s = .next (onlyCtx c key y.advance s)
    let raise (i : Instr) (e : Nat) : Prop := exec i s = .next (raises c key { cause := e } s)
    reads 0 x.sr ∧ reads 1 x.lr ∧ reads 2 x.epc ∧ reads 3 x.esr ∧ reads 4 x.ebad ∧
    (c ≠ 16 → key = 16 * c + key % 16 → reads 5 (word (16 * c + key % 16))) ∧
    reads 6 x.ring ∧ reads 7 x.icyc ∧ reads 8 x.btl ∧ reads 9 x.bth ∧
    (bit x.sr 8 = false → reads 10 (word s.dev.now)) ∧ (bit x.sr 8 = true → raise (.mfs c rd 10) 9) ∧
    (11 ≤ n.toNat → raise (.mfs c rd n) 1 ∧ raise (.mts c n rd) 1) ∧
    (n ∈ [(5 : BitVec 5), 7, 8, 9, 10] → raise (.mts c n rd) 1) ∧
    writes 1 { x with lr := v } ∧ writes 6 { x with ring := v } ∧
    (x.sys = true →
      writes 0 { x with sr := (x.sr &&& 0xFFFFF040) ||| (v &&& 0xFBF) } ∧ writes 2 { x with epc := v } ∧
      writes 3 { x with esr := v &&& 0xFFF0F0FF } ∧ writes 4 { x with ebad := v }) ∧
    (x.sys = false →
      (((v ^^^ x.sr) &&& 0xF80) = 0 → writes 0 { x with sr := (x.sr &&& 0xFFFFFFC0) ||| (v &&& 0x3F) }) ∧
      (((v ^^^ x.sr) &&& 0xF80) ≠ 0 → raise (.mts c 0 rd) 5) ∧
      raise (.mts c 2 rd) 5 ∧ raise (.mts c 3 rd) 5 ∧ raise (.mts c 4 rd) 5)

/-- R171, R172, R180, R206: events, the debugger's halt and the time compares.
R150, R152, R154: the quantum and the debugger's resume. -/
def Obligations.EventsAndTime : Prop :=
  ((∀ (c : Fin 17) (key : Nat) (rd rs k : Fin 16) (mask : BitVec 4) (j : Fin 4) (code : BitVec 10) (s : State),
    Issues c key s →
    let x := getCtx key s.dev
    let p := x.pend &&& mask.toNat
    let target := x.dr (rs + 1 : Nat) ++ x.dr rs
    let diff := tbNs j s.dev - target
    let raise (i : Instr) (e : Nat) : Prop := exec i s = .next (raises c key { cause := e } s)
    (mask ≠ 0 → p ≠ 0 →
      exec (.wfe c rd mask) s = .next (onlyCtx c key (({ x with pend := x.pend ^^^ p }.setD rd (word p)).advance) s)) ∧
    (mask ≠ 0 → p = 0 → exec (.wfe c rd mask) s = .next (blocks c key (.wfe rd mask.toNat) s)) ∧
    raise (.wfe c rd 0) 1 ∧
    (k.val < 10 → c ≠ 16 → ctxKey c k ≠ key → ∃ t, exec (.sev c k) s = .next t ∧
      let y := getCtx (ctxKey c k) s.dev
      let y' := getCtx (ctxKey c k) t.dev
      ((∀ r m, y.wait ≠ .wfe r m) → y' = { y with pend := y.pend ||| 8 }) ∧
      (∀ r m, y.state = .blocked → y.wait = .wfe r m → m.testBit 3 = true → y.pend &&& m = 0 → m < 16 →
        y'.wait = .none ∧ y'.dr r = 8 ∧ y'.pend = y.pend ∧ (y'.state = .ready ∨ y'.state = .running)) ∧
      t.dev.mem = s.dev.mem ∧ t.dev.regs = s.dev.regs) ∧
    (10 ≤ k.val → raise (.sev c k) 1) ∧
    (c ≠ 16 → rb (A.peCtrl c) 1 s.dev = true → dbgAccGranted s.dev = true → ∃ t, exec (.brk c code) s = .next t ∧
      getCtx key t.dev = { x.advance with state := .halted, hold := true, brk := code } ∧
      t.dev.mem = s.dev.mem ∧ t.dev.regs = s.dev.regs) ∧
    (rs.val % 2 = 0 → x.det = false → exec (.tcmp c rs j) s =
      .next (onlyCtx c key ({ x with sr := setBit (setBit x.sr 0 (diff == 0)) 1 diff.msb }.advance) s)) ∧
    (rs.val % 2 = 0 → x.det = false → c ≠ 16 →
      exec (.twait c rs j) s = .next (blocks c key (.timeBase j target) s)) ∧
    (rs.val % 2 = 0 → x.det = true → raise (.tcmp c rs j) 9 ∧ (c ≠ 16 → raise (.twait c rs j) 9)) ∧
    (rs.val % 2 = 1 → raise (.tcmp c rs j) 1 ∧ raise (.twait c rs j) 1)) ∧
  (∀ (c : Fin 16) (k : Fin 10) (j : Nat) (target : DWord) (s : State),
    coreRuns c s.dev = true → (getCtx (ctxKey c k) s.dev).state = .blocked →
    (getCtx (ctxKey c k) s.dev).wait = .timeBase j target → (tbNs j s.dev - target).msb = false →
    exec (.twaitEnd c k) s =
      .next { s with dev := unblock (ctxKey c k) (getCtx (ctxKey c k) s.dev) s.dev })) ∧
  ((∀ (c : Fin 16) (key : Nat) (s : State), coreRuns c s.dev = true → running c s.dev = some key →
    let q := rf (A.peQuantum c) 15 0 s.dev
    q ≠ 0 → (getCore c s.dev).quantumStart + q ≤ s.dev.now →
    (∀ k ∈ ctxKeys c, (getCtx k s.dev).state ≠ .ready) →
    exec (.quantumExpiry c) s =
      .next { s with dev := modCore c (fun e => { e with quantumStart := s.dev.now }) s.dev }) ∧
  (∀ (c : Fin 16) (key other : Nat) (s : State), coreRuns c s.dev = true → running c s.dev = some key →
    let q := rf (A.peQuantum c) 15 0 s.dev
    q ≠ 0 → (getCore c s.dev).quantumStart + q ≤ s.dev.now →
    other ∈ ctxKeys c → (getCtx other s.dev).state = .ready →
    ∃ t, exec (.quantumExpiry c) s = .next t ∧
      ((getCtx key t.dev).state = .ready ∨ (getCtx key t.dev).state = .running) ∧ running c t.dev ≠ none ∧
      (getCtx key t.dev).pc = (getCtx key s.dev).pc ∧ (getCtx key t.dev).d = (getCtx key s.dev).d ∧
      t.dev.mem = s.dev.mem ∧ t.dev.regs = s.dev.regs) ∧
  (∀ (n : Fin 16) (k : Fin 10) (s : State), (getCtx (ctxKey n k) s.dev).state = .halted →
    ∃ t, exec (.debuggerResume n k) s = .next t ∧
      ((getCtx (ctxKey n k) t.dev).state = .ready ∨ (getCtx (ctxKey n k) t.dev).state = .running) ∧
      (getCtx (ctxKey n k) t.dev).hold = false ∧
      (getCtx (ctxKey n k) t.dev).pc = (getCtx (ctxKey n k) s.dev).pc ∧
      (getCtx (ctxKey n k) t.dev).d = (getCtx (ctxKey n k) s.dev).d ∧
      t.dev.mem = s.dev.mem ∧ t.dev.regs = s.dev.regs))

/-- R160, R202: loads of the engine's own data RAM. `off` is the access's address, `up` the context after its base
register's update.
R160, R202: stores to the engine's own data RAM, and their frame over all of memory. -/
def Obligations.OwnRamLoadsAndStores : Prop :=
  (∀ (c : Fin 16) (key : Nat) (rd : Fin 16) (ab : Fin 8) (post : Bool) (o : BitVec 11) (s : State), Issues c key s →
    let x := getCtx key s.dev
    let v : Word := o.signExtend 32
    let addr : Nat := (if post then x.ringAdd ab 0 else x.ringAdd ab v).toNat
    let up : Ctx := if post then x.setA ab (x.ringAdd ab v) else x
    let b (i : Nat) : Byte := memByte (addr + i) s.dev
    let loads (n : Nat) (i : Instr) (y : Ctx) : Prop :=
      region addr = .dram c → addr % n = 0 → bankReady (42 + c) s.dev = true → badIn addr n s.dev = none →
      exec i s = .next (onlyCtx c key y.advance s)
    loads 1 (.ldb c.castSucc rd ab post o) (up.setD rd ((b 0).zeroExtend 32)) ∧
    loads 1 (.ldbs c.castSucc rd ab post o) (up.setD rd ((b 0).signExtend 32)) ∧
    loads 2 (.ldh c.castSucc rd ab post o) (up.setD rd ((b 1 ++ b 0).zeroExtend 32)) ∧
    loads 2 (.ldhs c.castSucc rd ab post o) (up.setD rd ((b 1 ++ b 0).signExtend 32)) ∧
    loads 4 (.ldw c.castSucc rd ab post o) (up.setD rd (b 3 ++ b 2 ++ b 1 ++ b 0)) ∧
    (rd.val % 2 = 0 → loads 8 (.ldd c.castSucc rd ab post o)
      ((up.setD rd (b 3 ++ b 2 ++ b 1 ++ b 0)).setD (rd + 1 : Nat) (b 7 ++ b 6 ++ b 5 ++ b 4))) ∧
    (rd.val % 2 = 1 → exec (.ldd c.castSucc rd ab post o) s = .next (raises c key { cause := 1 } s))) ∧
  (∀ (c : Fin 16) (key : Nat) (rd : Fin 16) (ab : Fin 8) (post : Bool) (o : BitVec 11) (s : State), Issues c key s →
    let x := getCtx key s.dev
    let v : Word := o.signExtend 32
    let addr : Nat := (if post then x.ringAdd ab 0 else x.ringAdd ab v).toNat
    let up : Ctx := if post then x.setA ab (x.ringAdd ab v) else x
    let stores (n : Nat) (i : Instr) (w : DWord) : Prop :=
      region addr = .dram c → addr % n = 0 → bankReady (42 + c) s.dev = true →
      ∃ t, exec i s = .next t ∧ getCtx key t.dev = up.advance ∧ (∀ k, k ≠ key → getCtx k t.dev = getCtx k s.dev) ∧
        (∀ a, memByte a t.dev = if addr ≤ a ∧ a < addr + n then w.extractLsb' (8 * (a - addr)) 8 else memByte a s.dev) ∧
        t.dev.regs = s.dev.regs ∧ t.dev.img = s.dev.img ∧ t.fuses = s.fuses
    stores 1 (.stb c.castSucc rd ab post o) ((x.dr rd).zeroExtend 64) ∧
    stores 2 (.sth c.castSucc rd ab post o) ((x.dr rd).zeroExtend 64) ∧
    stores 4 (.stw c.castSucc rd ab post o) ((x.dr rd).zeroExtend 64) ∧
    (rd.val % 2 = 0 → stores 8 (.std c.castSucc rd ab post o) (x.dr (rd + 1 : Nat) ++ x.dr rd)) ∧
    (rd.val % 2 = 1 → exec (.std c.castSucc rd ab post o) s = .next (raises c key { cause := 1 } s)))

/-- R137, R153, R160, R202: accesses to shared SRAM. -/
def Obligations.SharedLoadsAndStores : Prop :=
  (∀ (c : Fin 16) (key : Nat) (rd : Fin 16) (ab : Fin 8) (o : BitVec 11) (s : State), Issues c key s →
    let x := getCtx key s.dev
    let addr : Nat := (x.ringAdd ab (o.signExtend 32)).toNat
    region addr = .sram → addr % 4 = 0 → banksReady addr s.dev = true →
    (committed s.dev = true → (addr - 0x04000000) / 0x80000 ≠ poolBank s.dev) →
    (let b := blocks c key (.load rd 4 false addr [] (getCore c s.dev).storeSeq) s
     exec (.ldw c.castSucc rd ab false o) s = .next { b with dev := takeSeq c b.dev }) ∧
    (∃ t st, exec (.stw c.castSucc rd ab false o) s = .next t ∧ st.addr = addr ∧
      st.data = [(x.dr rd).extractLsb' 0 8, (x.dr rd).extractLsb' 8 8, (x.dr rd).extractLsb' 16 8,
        (x.dr rd).extractLsb' 24 8] ∧ st.cycle = x.icyc ∧ st.det = x.det ∧
      (x.stores.length < 5 → getCtx key t.dev = { x with stores := x.stores ++ [st] }.advance) ∧
      (5 ≤ x.stores.length → (getCtx key t.dev).state = .blocked ∧ (getCtx key t.dev).wait = .storeRoom st []) ∧
      t.dev.mem = s.dev.mem ∧ t.dev.regs = s.dev.regs)) ∧
  (∀ (c : Fin 16) (k : Fin 10) (rd addr seq : Nat) (s : State),
    let key := ctxKey c k
    let x := getCtx key s.dev
    let b (i : Nat) : Byte := memByte (addr + i) s.dev
    coreRuns c s.dev = true → x.state = .blocked → x.wait = .load rd 4 false addr [] seq → region addr = .sram →
    banksReady addr s.dev = true → badIn addr 4 s.dev = none → earlierAccess c addr seq s.dev = false →
    ∃ t, exec (.engineLoadReturn c.castSucc k false) s = .next t ∧
      (getCtx key t.dev).dr rd = b 3 ++ b 2 ++ b 1 ++ b 0 ∧ (getCtx key t.dev).wait = .none ∧
      (∀ j, j ≠ rd → (getCtx key t.dev).dr j = x.dr j) ∧ t.dev.mem = s.dev.mem ∧ t.dev.regs = s.dev.regs) ∧
  (∀ (c : Fin 16) (k : Fin 10) (nth : Fin 5) (st : Store) (s : State),
    powered s.dev = true → (getCtx (ctxKey c k) s.dev).stores[nth.val]? = some st → region st.addr = .sram →
    banksReady st.addr s.dev = true → earlierAccess c st.addr st.seq s.dev = false →
    ∃ t, exec (.storeCompletion c.castSucc k nth) s = .next t ∧
      (∀ a, memByte a t.dev =
        if st.addr ≤ a ∧ a < st.addr + st.data.length then st.data.getD (a - st.addr) 0 else memByte a s.dev) ∧
      t.dev.regs = s.dev.regs)

/-- R179, R203: block moves. -/
def Obligations.BlockMoves : Prop :=
  ∀ (c : Fin 16) (key : Nat) (ash aloc : Fin 8) (incSh incLoc : Bool) (s : State), Issues c key s →
    let x := getCtx key s.dev
    let sh : Nat := (x.ringAdd ash 0).toNat
    let loc : Nat := (x.ringAdd aloc 0).toNat
    let ups : List (Nat × Word) := (if incSh then [(ash.val, x.ringAdd ash 32)] else []) ++
      (if incLoc then [(aloc.val, x.ringAdd aloc 32)] else [])
    region loc = .dram c → loc % 32 = 0 → bankReady (42 + c) s.dev = true → region sh = .sram →
    (sh % 32 = 0 → banksReady sh s.dev = true →
      (committed s.dev = true → (sh - 0x04000000) / 0x80000 ≠ poolBank s.dev) →
      (badIn loc 32 s.dev = none → x.stores.length < 5 →
        ∃ t st, exec (.bmovs c.castSucc ash aloc incSh incLoc) s = .next t ∧ st.addr = sh ∧
          st.data = memBytes loc 32 s.dev ∧
          getCtx key t.dev = (({ x with stores := x.stores ++ [st] } : Ctx).setAs ups).advance ∧
          t.dev.mem = s.dev.mem ∧ t.dev.regs = s.dev.regs) ∧
      (let b := blocks c key (.block loc sh ups (getCore c s.dev).storeSeq) s
       exec (.bmovl c.castSucc ash aloc incSh incLoc) s = .next { b with dev := takeSeq c b.dev })) ∧
    (sh % 32 ≠ 0 →
      exec (.bmovs c.castSucc ash aloc incSh incLoc) s = .next (raises c key { cause := 3, wr := true, ebad := some sh } s) ∧
      exec (.bmovl c.castSucc ash aloc incSh incLoc) s = .next (raises c key { cause := 3, ebad := some sh } s))

/-- R207, R211-R214: an unloaded selector, a completed micro-operation and an invalid one. -/
def Obligations.CustomInstructions : Prop :=
  ∀ (c : Fin 16) (key : Nat) (sel du dv dw : Fin 16) (au : Fin 8) (imm : BitVec 7) (s : State), Issues c key s →
    let x := getCtx key s.dev
    let e := tabGet zeroDefault s.dev.tabs (tabKey (1 + c) sel)
    let i := Instr.customInstruction c.castSucc sel du dv dw au imm
    let addr := 0x08020000 + 0x40000 * c.val + 8 * (e.toNat % 256)
    let micro := leNat (memBytes addr 8 s.dev)
    let r := x.dr dv ^^^ x.dr dw
    (bit e 31 = false → exec i s = .next (raises c key { cause := 1 } s)) ∧
    (bit e 31 = true → e.toNat / 256 % 16 = 0 → 2 ^ 32 + tabKey (1 + c) sel ∉ s.dev.badCfg →
      badIn addr 8 s.dev = none →
      (micro / 2 ^ 58 = 7 → micro / 2 ^ 53 % 32 = 0 → micro / 2 ^ 48 % 32 = 1 → micro / 2 ^ 43 % 32 = 2 →
        exec i s = .next (onlyCtx c key
          (({ x with sr := if micro.testBit 42 then flagZN r x.sr else x.sr }.setD du r).advance) s)) ∧
      (micro / 2 ^ 58 = 0x3F → exec i s = .next (raises c key { cause := 0xA, sub := 1, uop := 0 } s)))

/-- R191-R206, R416, R417: decoding of an encoded instruction and encoding of a decoded word. -/
def Obligations.InstructionWords : Prop :=
  (∀ (i : Instr) (c : Fin 17) (w : Nat), engineOf i = some c → engineWord i = some w →
    w < 2 ^ 32 ∧
    (∀ s, i = .doneForward c s ∨ i = .doneSubmit c s → engineCommand c (word w) = .doneFinish c s) ∧
    ((∀ s, i ≠ .doneForward c s ∧ i ≠ .doneSubmit c s) → engineCommand c (word w) = i)) ∧
  (∀ (i : Instr) (c : Fin 17), engineOf i = some c → i ≠ .illegalInstruction c → ∃ w, engineWord i = some w) ∧
  (∀ (c : Fin 17) (w : Word),
    engineCommand c w = .illegalInstruction c ∨ engineWord (engineCommand c w) = some w.toNat) ∧
  (∀ w : BitVec 16, pioLegal w = true ↔ ∃ i, pioWord i = some w) ∧
  (∀ (c : Fin 17) (key : Nat) (s : State), Issues c key s →
    let a := fetchAddr c (getCtx key s.dev)
    fetchedCommand c s.dev = some (engineCommand c
      (memByte (a + 3) s.dev ++ memByte (a + 2) s.dev ++ memByte (a + 1) s.dev ++ memByte a s.dev)))

/-- R27, with the producer's own writes (R18, R20, R28, R166): writes to the two windows of Twin. -/
def Obligations.ImageWrites : Prop :=
  ∀ (m : Fin 28) (kind : Fin 16) (index : Fin 4096) (g : Fin 16384) (mask : BitVec 8) (data : DWord) (tag : Word)
    (det : Bool) (s : State), powered s.dev = true → 2 ^ 32 + tabKey 0 g ∉ s.dev.badCfg →
    let d := s.dev
    let e := producer g d
    let owner : Bool := prodKind e = kind.val && fld e 27 16 = index.val && kind ≠ 0 && kind ≠ 7
    let write := Instr.imageWindowWrite m kind index g mask data tag det
    let header (t : State) : DWord := committedGran 0 (flip t.dev)
    let discarded (u : State) : Prop := u.dev.img.pages = d.img.pages ∧ u.dev.img.sel = d.img.sel ∧
      u.dev.img.written = d.img.written ∧ u.dev.mem = d.mem ∧ u.dev.img.nondet = d.img.nondet
    (banksReady (0x06000000 + 8 * g.val) d = true →
      (owner = true → tag = rd A.memImgCycle d →
        (d.img.written.getLsbD g = true ∨ ∀ i < 8, badIn (twinAddr (selPage g d) g + i) 1 d = none) →
        ∃ t, exec write s = .next t ∧
        (∀ i < 8, (openGran g t.dev).extractLsb' (8 * i) 8 =
          if mask.getLsbD i then data.extractLsb' (8 * i) 8
          else if d.img.written.getLsbD g then (openGran g d).extractLsb' (8 * i) 8
          else (committedGran g d).extractLsb' (8 * i) 8) ∧
        (∀ h : Fin 16384, committedGran h t.dev = committedGran h d) ∧
        (∀ h : Fin 16384, h ≠ g → openGran h t.dev = openGran h d) ∧
        (∀ h : Fin 16384, t.dev.img.written.getLsbD h = (d.img.written.getLsbD h || h == g)) ∧
        t.dev.img.nondet = (d.img.nondet || (kind == 1 && !det)) ∧
        t.dev.mem = d.mem ∧ t.dev.regs = d.regs) ∧
      (owner = true → tag ≠ rd A.memImgCycle d → ∃ t, exec write s = .next t ∧ discarded t ∧
        t.dev.img.late = true ∧ t.dev.img.lateCnt = d.img.lateCnt + 1 ∧ rb A.memImgStat 2 t.dev = true ∧
        (header t).getLsbD 9 = true ∧ t.dev.img.npw = d.img.npw) ∧
      (owner = false → ∃ t, exec write s = .next t ∧ discarded t ∧
        t.dev.img.npw = true ∧ rb A.memImgStat 1 t.dev = true ∧ (header t).getLsbD 8 = true ∧
        t.dev.img.late = d.img.late ∧ t.dev.img.lateCnt = d.img.lateCnt)) ∧
    (banksReady (0x06020000 + 8 * g.val) d = true → ∃ t, exec (.shadowWindowWrite m g) s = .next t ∧ discarded t ∧
      t.dev.img.npw = true ∧ rb A.memImgStat 1 t.dev = true ∧ (header t).getLsbD 8 = true ∧
      t.dev.img.late = d.img.late ∧ t.dev.img.lateCnt = d.img.lateCnt)

/-- R13-R15, R17, R21, R29, R30: the boundary as the flip, the next cycle's opening and what it starts; and what the flip
and the opening do in every state. -/
def Obligations.CycleBoundary : Prop :=
  (∀ (grants : Nat) (s : State),
    let opens (node : Dev → Dev) (d : Dev) : Dev :=
      node (openCycle (flip (latchSkips (d.now - d.img.openNow) d)))
    let runs (d : Dev) : Dev := if d.sys.flipStop then lastFlip (afterFlip grants d) else afterFlip grants d
    (role s.dev = 0 → imageOn s.dev = true →
      let period := min 4000000 (max 800 (rd A.memImgPeriod s.dev).toNat)
      let dev' := runs (opens (fun d => { d with img := { d.img with due := d.img.due + period } }) s.dev)
      (s.dev.img.due ≤ s.dev.now → exec (.cycleBoundary grants) s = .next { s with dev := dev' }) ∧
      (s.dev.now < s.dev.img.due → exec (.cycleBoundary grants) s = .next s)) ∧
    (role s.dev ≠ 0 → holdsTimeline s.dev = true → s.dev.mrd.opened = false →
      let d := acceptHeld s.dev
      let after := runs (opens mrdBoundary d)
      (nextBound s.dev ≤ instant s.dev → remoteResetDue s.dev = false → imageOn d = true →
        exec (.cycleBoundary grants) s = .next { s with dev := if outputsHeld after then mrdStop after else after }) ∧
      (instant s.dev < nextBound s.dev → exec (.cycleBoundary grants) s = .next s)) ∧
    (role s.dev ≠ 0 → holdsTimeline s.dev = true → s.dev.mrd.opened = true →
      let d := { s.dev with mrd := { s.dev.mrd with opened := false } }
      imageOn d = true → exec (.cycleBoundary grants) s = .next { s with dev := runs (opens id d) })) ∧
  (∀ d : Dev,
    let m := missCount d
    let broken := d.img.cfg || d.img.nondet || d.img.unord || decide (m ≠ 0) || rackBroken d
    let g0 := committedGran 0 (flip d)
    (∀ g : Fin 16384, 2 ≤ g.val →
      committedGran g (flip d) = if d.img.written.getLsbD g then openGran g d else committedGran g d) ∧
    (flip d).img.written = 0 ∧
    g0.extractLsb' 32 32 = rd A.memImgCycle d ∧ g0.getLsbD 15 = broken ∧ g0.getLsbD 14 = d.img.cfg ∧
    g0.getLsbD 13 = d.img.nondet ∧ g0.getLsbD 12 = d.img.unord ∧ g0.getLsbD 11 = decide (m ≠ 0) ∧
    g0.getLsbD 10 = rackBroken d ∧ g0.getLsbD 9 = d.img.late ∧ g0.getLsbD 8 = d.img.npw ∧
    (g0.extractLsb' 0 8).toNat = min 255 (m + d.img.lateCnt) ∧
    (flip d).img.cfg = false ∧ (flip d).img.nondet = false ∧ (flip d).img.unord = false ∧
    (flip d).img.late = false ∧ (flip d).img.npw = false ∧ (flip d).img.lateCnt = 0 ∧ (flip d).mem = d.mem ∧
    rd A.memImgCycle (openCycle d) = rd A.memImgCycle d + 1 ∧ (openCycle d).img.pages = d.img.pages)

/-- R77, R86, R88, R467, R470: resets and what they keep. -/
def Obligations.DeviceResets : Prop :=
  ∀ (s : State) (m : Fin 20) (v : Word),
    let d := s.dev
    let began (t : State) (cause esc count : Nat) : Prop :=
      t.dev.sys.mode = .startup ∧ t.dev.boot.step = .pll ∧ t.dev.sys.log = d.sys.log ∧ t.fuses = s.fuses ∧
      rf A.sysRstCause 7 0 t.dev = cause ∧ rf A.sysRstCause 15 8 t.dev = esc ∧
      rf A.sysRstCause 31 16 t.dev = count ∧
      (∀ a, a ≠ A.sysRstCause → a ≠ A.secTampLog → a ≠ A.safStat → rd a t.dev = regReset a)
    let count := rf A.sysRstCause 31 16 d
    let more := min 0xFFFF (count + 1)
    (∃ t, exec .powerUp s = .next t ∧ t.dev.sys.mode = .startup ∧ t.dev.boot.step = .pll ∧ t.dev.sys.log = [] ∧
      (∀ a, rd a t.dev = regReset a) ∧ t.dev.mem = [] ∧ t.fuses = s.fuses) ∧
    (sameReset d = none →
      (∃ t, exec .porstNReset s = .next t ∧ began t 1 0 more) ∧
      (∀ u, d.sys.resetDue = some u → u ≤ d.now → ∃ t, exec .softwareReset s = .next t ∧ began t 3 0 more) ∧
      (∀ u, d.sys.diagDue = some u → u ≤ d.now → ∃ t, exec .diagResetDelay s = .next t ∧ began t 3 0 more) ∧
      (powered d = true → d.saf.swdogOn = true → d.saf.swdogStart + swdogPeriod d ≤ d.now →
        ∃ t, exec .supervisorWatchdogExpiry s = .next t ∧ began t 2 0 more) ∧
      (d.sys.mode = .twilight → rb A.safStat 0 d = true → rb A.safStat 1 d = false → d.saf.decided + 40000 ≤ d.now →
        d.sys.twCode < 256 →
        ∃ t, exec .safetyEscalationReset s = .next t ∧ began t 5 d.sys.twCode more)) ∧
    (∀ n, sameReset d = some n →
      (n ≤ 1 → exec .porstNReset s = .next s) ∧
      (1 < n → ∃ t, exec .porstNReset s = .next t ∧ began t 1 0 count)) ∧
    (powered d = true →
      (m.val ∈ [0, 17, 18] → v.toNat / 65536 = 0x0D3A → bit v 0 = true → d.sys.resetDue = none →
        ∃ t, exec (.swrst m v) s = .next t ∧ t.dev.sys.resetDue = some (d.now + 800) ∧ t.dev.mem = d.mem) ∧
      (m.val ∉ [0, 17, 18] ∨ v.toNat / 65536 ≠ 0x0D3A → exec (.swrst m v) s = .next s) ∧
      (v.toNat / 65536 = 0x0A5D → ∃ t, exec (.supervisorWatchdogService 0 v) s = .next t ∧
        t.dev.saf.swdogStart = d.now ∧ t.dev.mem = d.mem) ∧
      (v.toNat / 65536 ≠ 0x0A5D → exec (.supervisorWatchdogService 0 v) s = .next s) ∧
      (m ≠ 0 → ∃ t, exec (.supervisorWatchdogService m v) s = .next t ∧ rb A.safStat 5 t.dev = true ∧
        t.dev.saf = d.saf ∧ ∀ a, a ≠ A.safStat → rd a t.dev = rd a d))

/-- R41, R43, R45-R49, R52-R54, R67: the phases before the records. -/
def Obligations.StartupPhases : Prop :=
  ∀ s : State, s.dev.sys.mode = .startup →
    let d := s.dev
    let entered (t : State) (b : BootStep) (n : Nat) (msg : String) : Prop :=
      t.dev.sys.mode = .startup ∧ t.dev.boot.step = b ∧ rf A.almBootStat 27 24 t.dev = n ∧
      t.dev.out = d.out ++ [.diag (msg ++ "\r\n")]
    let failed (t : State) (code : Nat) : Prop :=
      t.dev.sys.mode = .twilight ∧ t.dev.sys.twCode = code ∧ t.dev.sys.romLoop = true
    let second (t : State) (code : Nat) : Prop :=
      failed t (rf A.almBootStat 23 16 d) ∧ rf A.almBootStat 15 8 t.dev = code
    (d.boot.step = .pll → d.sys.escalated = false → ∀ m2 m1 m0 bs,
      (¬(m2 = true ∧ m1 = true) → ∃ t, exec (.rootPllLock m2 m1 m0 bs) s = .next t ∧ entered t .mbist 3 "P3" ∧
        t.dev.ntm.counting = true ∧ rd A.sysStrap t.dev =
          word (32 * m2.toNat + 16 * m1.toNat + 8 * bs.toNat + 4 * m2.toNat + 2 * m1.toNat + m0.toNat)) ∧
      ∃ t, exec (.rootPllLock true true m0 bs) s = .next t ∧ failed t 0x01) ∧
    (d.boot.step = .mbist →
      (∃ t, exec (.memoryBist none) s = .next t ∧ entered t .lbist 4 "P4" ∧
        (∀ a, 0x20000 ≤ a → memByte a t.dev = 0) ∧ (∀ p g, pageGran p g t.dev = 0) ∧ t.dev.badPar = []) ∧
      ∀ b, ∃ t, exec (.memoryBist (some b)) s = .next t ∧ failed t 0x02) ∧
    (d.boot.step = .lbist →
      (∃ t, exec (.logicBist true) s = .next t ∧ entered t .fuses 5 "P5") ∧
      ∃ t, exec (.logicBist false) s = .next t ∧ failed t 0x03) ∧
    (d.boot.step = .fuses →
      (s.fuses.life < 5 → ∃ t, exec (.fuseRead false) s = .next t ∧ entered t .flash 6 "P6A" ∧
        rf A.secLc 31 29 t.dev = s.fuses.life) ∧
      (∃ t, exec (.fuseRead true) s = .next t ∧ failed t 0x04) ∧
      (5 ≤ s.fuses.life → s.fuses.life < 8 → ∃ t, exec (.fuseRead false) s = .next t ∧ failed t 0x05)) ∧
    (d.boot.step = .flash → ∀ quad hA kA hB kB, rb A.sysStrap 0 d = false →
      let a := slotHeader d.flashA hA
      let b := slotHeader d.flashB hB
      let first := slotBFirst a b d
      let hdr := if first then b else a
      let key := if first then slotKey d.flashB kB else slotKey d.flashA kA
      headerCode hdr key d = 0 →
      ∃ t, exec (.flashDiscovery true quad hA kA hB kB) s = .next t ∧ entered t .image 6 "P6B" ∧
        t.dev.boot.octal = true ∧ t.dev.boot.slot = first ∧ t.dev.boot.hdr = hdr ∧ t.dev.boot.key = key) ∧
    (d.boot.step = .image → ∀ bytes,
      let body := slotBody (flashSlot d.boot.slot d) bytes
      let n := imgLen d.boot.hdr
      let whole := tailOk (memPut 0x04800000 (slice (d.boot.hdr ++ body) 0 n) d)
      (whole = true → ∃ t, exec (.imageRead bytes false) s = .next t ∧ entered t .signature 6 "P6C" ∧
        ∀ i < n, memByte (0x04800000 + i) t.dev = (d.boot.hdr ++ body).getD i 0) ∧
      (d.boot.second = true →
        (whole = false → ∃ t, exec (.imageRead bytes false) s = .next t ∧ second t 0x14) ∧
        ∃ t, exec (.imageRead bytes true) s = .next t ∧ second t 0x20)) ∧
    (d.boot.step = .signature →
      let e := imgLen d.boot.hdr - 200
      let good := Config.ecdsaVerify (Config.sha384 (staged 0 e d)) d.boot.key (staged (e + 104) 96 d)
      (good = true → ∃ t, exec .signatureVerification s = .next t ∧ entered t .apply 6 "P6D" ∧ t.dev.mem = d.mem) ∧
      (good = false → d.boot.second = true → ∃ t, exec .signatureVerification s = .next t ∧ second t 0x19))

/-- R57-R62, R67: the records before the commit record. -/
def Obligations.AlmanacRecords : Prop :=
  ∀ s : State, s.dev.sys.mode = .startup → s.dev.boot.step = .apply →
    let d := s.dev
    let n := recLen d
    let ready (k : RecKind) : Prop := recKind d = k ∧ recHeadOk d = true
    let passed (t : State) : Prop := t.dev.boot.index = d.boot.index + 1 ∧
      (d.boot.encEnd = 0 ∨ d.boot.encEnd ≠ d.boot.cursor + 8 + n → t.dev.boot.cursor = d.boot.cursor + 8 + n) ∧
      (d.boot.encEnd ≠ 0 → d.boot.encEnd = d.boot.cursor + 8 + n →
        t.dev.boot.cursor = d.boot.cursor + 8 + n + 16 ∧ t.dev.boot.encEnd = 0)
    (ready .claim → n = 64 → (recClaim d).owner ≤ 12 → recNat 0x32 14 d = 0 →
      ∃ t, exec .resourceClaimRecord s = .next t ∧ passed t ∧ t.dev.boot.claims = d.boot.claims ++ [recClaim d] ∧
        t.dev.mem = d.mem ∧ t.dev.regs = d.regs) ∧
    (ready .direct → 12 ≤ n → recNat 1 3 d = 0 → recNat 8 4 d = 0 →
      (∀ i < max 1 (n - 12), (region (recNat 4 4 d + i) = .sram ∧ recNat 4 4 d + i < 0x04800000 ∨
        ∃ e, region (recNat 4 4 d + i) = .dram e) ∧ banksReady (recNat 4 4 d + i) d = true) →
      ∃ t, exec .memoryLoadDirect s = .next t ∧ passed t ∧ t.dev.regs = d.regs ∧
        ∀ a, memByte a t.dev = if recNat 4 4 d ≤ a ∧ a < recNat 4 4 d + (n - 12) then
          memByte (0x04800000 + d.boot.cursor + 20 + (a - recNat 4 4 d)) d else memByte a d) ∧
    (let applied := (recEntries d).foldl (fun d e =>
        let m := e.2.1 &&& ~~~(liveBits e.1)
        let r := readReg 0 0 e.1 d
        writeReg 0 0 e.1 ((r.1 &&& ~~~m) ||| (e.2.2 &&& m)) s.fuses r.2) d
     ready .regs → n % 12 = 0 → (∀ e ∈ recEntries d, e.1 % 4 = 0 ∧ (inWindow e.1 = true ∨ inPeRegs e.1 = true)) →
      applied.sys.mode = .startup → applied.boot.step = .apply →
      exec .registerWriteRecord s = .next { s with dev := leaveSection (nextRecord (8 + n) applied) }) ∧
    (let a := recNat 4 4 d
     let words := (List.range ((n - 12) / 4)).map fun i => word (recNat (12 + 4 * i) 4 d)
     let applied := words.foldl (fun d w => writeReg 0 0 (a + 4) w s.fuses (indComplete a d))
        (writeReg 0 0 a (word (recNat 8 4 d)) s.fuses (rackLoad a (recNat 8 4 d) (recBytes 12 (n - 12) d) d))
     ready .indirect → 12 ≤ n → recNat 1 3 d = 0 → isIndAddr a = true →
      applied.sys.mode = .startup → applied.boot.step = .apply →
      exec .memoryLoadIndirect s = .next { s with dev := leaveSection (nextRecord (8 + n) applied) }) ∧
    (∀ key, ready .enc → 32 < n → recNat 12 4 d = n - 32 → s.fuses.imageKey = some key → lifeState d ≠ 0 →
      if Config.gcmTagOk key (recBytes 0 12 d) (staged d.boot.cursor 8 d) (recBytes 16 (n - 32) d)
        (recBytes (16 + (n - 32)) 16 d) = true then
        ∃ t, exec .encryptedSection s = .next t ∧ t.dev.boot.index = d.boot.index + 1 ∧
          t.dev.boot.cursor = d.boot.cursor + 24 ∧ t.dev.boot.encEnd = d.boot.cursor + 24 + (n - 32) ∧
          ∀ i < n - 32, memByte (0x04800000 + d.boot.cursor + 24 + i) t.dev =
            Config.gcmPlainByte key (recBytes 0 12 d) (recBytes 16 (n - 32) d) i
      else d.boot.second = true → ∃ t, exec .encryptedSection s = .next t ∧ t.dev.sys.mode = .twilight ∧
        rf A.almBootStat 15 8 t.dev = 0x1B) ∧
    (recKind d = .bad → d.boot.second = true →
      ∀ i ∈ [Instr.registerWriteRecord, .memoryLoadDirect, .memoryLoadIndirect, .encryptedSection,
          .resourceClaimRecord, .commitRecord],
        ∃ t, exec i s = .next t ∧ t.dev.sys.mode = .twilight ∧ rf A.almBootStat 15 8 t.dev = 0x1A ∧
          t.dev.sys.twCode = rf A.almBootStat 23 16 d)

/-- R15, R65, R68, R69, R119, R120: commit and sweeps. -/
def Obligations.CommitAndSweeps : Prop :=
  ∀ (s : State) (v : Word) (m : Fin 20),
    let d := s.dev
    let refused (t : State) : Prop := rb A.almCrcStat 2 t.dev = true ∧ t.dev.sys.armDue = none ∧
      rb A.almCrcStat 0 t.dev = false ∧ t.dev.mem = d.mem
    let loading : Prop := d.sys.mode = .startup ∧ d.boot.step = .apply
    let ref := hdrNat d.boot.hdr 0x0C 2
    (loading → committed d = false → d.sys.armDue = none → crcPhase d = 0 → recKind d = .commit →
      recHeadOk d = true → recLen d = 4 → commitIndexOk d = true →
      wholeImageCode (enterPhase 7 "P7" .apply d) = 0 → configCrc d = word (recNat 0 4 d) →
      ∃ t, exec .commitRecord s = .next t ∧ t.dev.sys.mode = .service ∧ t.dev.boot.step = .done ∧
        rb A.almCrcStat 0 t.dev = true ∧ crcPhase t.dev = 1 ∧ rd A.memImgCycle t.dev = 0xFFFFFFFF ∧ t.fuses = s.fuses) ∧
    (powered d = true → committed d = false → d.sys.armDue = none →
      (∃ t, exec (.almCommitArm 0 0x0E1A0001) s = .next t ∧ t.dev.sys.armDue = some (d.now + 64) ∧
        t.dev.regs = d.regs ∧ t.dev.mem = d.mem) ∧
      (v ≠ 0x0E1A0001 → ¬loading → ∃ t, exec (.almCommitArm 0 v) s = .next t ∧ refused t) ∧
      (m ≠ 0 → exec (.almCommitArm m v) s = .next s)) ∧
    (∀ due, powered d = true → committed d = false → d.sys.armDue = some due →
      (d.now ≤ due → ∃ t, exec (.almCommitReference 0 v) s = .next t ∧ rd A.almCrcRef t.dev = v ∧
        t.dev.sys.sweepForCommit = true ∧ t.dev.sys.armDue = none ∧ ∀ a, a ≠ A.almCrcRef → rd a t.dev = rd a d) ∧
      (¬loading → m ≠ 0 ∨ due < d.now → ∃ t, exec (.almCommitReference m v) s = .next t ∧ refused t) ∧
      (¬loading → due < d.now → ∃ t, exec .commitArmTimeout s = .next t ∧ refused t)) ∧
    (powered d = true → crcPhase d = 2 → rb A.almCrcCtrl 0 d = false →
      (configCrc d = rd A.almCrcRef d → ∃ t, exec .configCrcSweepDone s = .next t ∧
        rd A.almCrcCur t.dev = configCrc d ∧ rb A.almCrcStat 1 t.dev = true ∧ crcPhase t.dev = 1 ∧ t.dev.saf = d.saf) ∧
      (configCrc d ≠ rd A.almCrcRef d → rb A.safStat 0 d = false → ∃ t, exec .configCrcSweepDone s = .next t ∧
        rd A.almCrcCur t.dev = configCrc d ∧ t.dev.saf.reports = d.saf.reports ++ [⟨0x43, 1, 0, 0⟩])) ∧
    (crcPhase d = 3 → configCrc d = rd A.almCrcRef d → ∃ t, exec .configCrcSweepDone s = .next t ∧ crcPhase t.dev = 1 ∧
      t.dev.sys.mode = (if d.sys.mode = .retain then .service else d.sys.mode)) ∧
    (crcPhase d = 3 → configCrc d ≠ rd A.almCrcRef d → rb A.safStat 0 d = false →
      ∃ t, exec .configCrcSweepDone s = .next t ∧ rd A.almCrcCur t.dev = configCrc d ∧
        t.dev.saf.reports = d.saf.reports ++ [⟨0x43, 1, 0, 0⟩]) ∧
    (powered d = true → crcPhase d = 0 → d.sys.sweepForCommit = false → ∃ t, exec .configCrcSweepDone s = .next t ∧
      rd A.almCrcCur t.dev = configCrc d ∧ ∀ a, a ≠ A.almCrcCur → a ≠ A.almCrcStat → rd a t.dev = rd a d) ∧
    (crcPhase d = 1 → exec .configCrcSweepDone s = .next s) ∧
    (powered d = true → ∃ t, exec (.crcTestControl m 1) s = .next t ∧ t.dev.mem = d.mem ∧
      (crcPhase d = 1 → crcPhase t.dev = 2) ∧ (crcPhase d ≠ 1 → crcPhase t.dev = crcPhase d)) ∧
    (inService d = true → lifeState d = 2 ∨ lifeState d = 3 → s.fuses.rollback < ref → ref ≤ 64 →
      ∃ t, exec .rollbackFuseBurn s = .next t ∧ t.fuses.rollback = ref ∧
        (∀ i, s.fuses.has i = true → t.fuses.has i = true) ∧ t.dev.mem = d.mem) ∧
    (inService d = false ∨ (lifeState d ≠ 2 ∧ lifeState d ≠ 3) → exec .rollbackFuseBurn s = .next s)

/-- R43, R44, R70, R76, R78: the responder and its commands. Field widths are the model's (notes/assumptions/14.md). -/
def Obligations.DiagResponder : Prop :=
  ∀ s : State,
    let d := s.dev
    let inSys (x : Sys) : State := { s with dev := { d with sys := x } }
    let answers (x : Sys) (reply : String) : State :=
      { s with dev := { d with sys := x, out := d.out ++ [.diag (reply ++ "\r\n")] } }
    let reply (r : String) : State := answers { d.sys with diagCmd := none } r
    let waits (line : List Char) : Prop := d.sys.diagCmd = some line
    let cr := Instr.diagCharacter 13 true
    let bare : List String := ["ID", "ST", "HS"]
    let args : List String := ["LOG", "IMG", "RD", "RST"]
    (∀ (c : Byte) (stop : Bool), stop = false ∨ d.sys.mode ≠ .twilight → exec (.diagCharacter c stop) s = .next s) ∧
    (d.sys.mode = .twilight → d.sys.romLoop = true →
      (∀ c : Byte, c ≠ 13 → d.sys.diagLine.length < 64 → exec (.diagCharacter c true) s =
        .next (inSys { d.sys with diagLine := d.sys.diagLine ++ [Char.ofNat c.toNat] })) ∧
      (∀ c : Byte, c ≠ 13 → 64 ≤ d.sys.diagLine.length → exec (.diagCharacter c true) s =
        .next (inSys { d.sys with diagLong := true })) ∧
      (d.sys.diagCmd = none → d.sys.diagLong = true →
        exec cr s = .next (answers { d.sys with diagLine := [], diagLong := false } "E LONG")) ∧
      (d.sys.diagCmd = none → d.sys.diagLong = false → (∀ c ∈ d.sys.diagLine, c ≠ ' ') →
        (String.ofList d.sys.diagLine ∉ bare ++ args →
          exec cr s = .next (answers { d.sys with diagLine := [] } "E UNKNOWN")) ∧
        (String.ofList d.sys.diagLine ∈ bare ++ args →
          exec cr s = .next (inSys { d.sys with diagLine := [], diagCmd := some d.sys.diagLine }))) ∧
      (waits ['I', 'D'] → exec .diagId s =
        .next (reply (diagOk [(4, 0x4160), (2, 0xA1), (2, Config.romVersion.toNat)]))) ∧
      (waits ['S', 'T'] → exec .diagSt s = .next (reply (diagOk
        [(2, d.sys.twCode), (2, rf A.almBootStat 23 16 d), (2, rf A.almBootStat 15 8 d),
          (2, rf A.almBootStat 27 24 d), (2, lifeState d), (2, rf A.almBootStat 29 29 d)]))) ∧
      (waits ['H', 'S'] → exec .diagHs s = .next (reply (diagOk ((hostBlock d).map fun w => (8, w.toNat))))) ∧
      (∀ h : List Char,
        (waits ("LOG ".toList ++ h) →
          (∀ n, hexParse h = some n → n < 16 → exec .diagLog s = .next (reply
            (let e := d.sys.log.getD n ⟨0, 0, 0, 0⟩
             diagOk [(2, e.code), (16, e.time.toNat), (4, e.resets)]))) ∧
          ((∀ n, hexParse h = some n → 16 ≤ n) → exec .diagLog s = .next (reply "E ARG"))) ∧
        (waits ("IMG ".toList ++ h) →
          (∀ n, hexParse h = some n → n < 16384 →
            exec .diagImg s = .next (reply (diagOk [(16, (committedGran n d).toNat)]))) ∧
          ((∀ n, hexParse h = some n → 16384 ≤ n) → exec .diagImg s = .next (reply "E ARG"))) ∧
        (waits ("RD ".toList ++ h) →
          (lifeKnown d = false ∨ 1 < lifeState d → exec .diagRd s = .next (reply "E DENIED")) ∧
          (lifeKnown d = true → lifeState d ≤ 1 →
            (hexParse h = none → exec .diagRd s = .next (reply "E ARG")) ∧
            ∀ a, hexParse h = some a →
              (a % 4 ≠ 0 ∨ permitted 19 false false (region a) d = false → exec .diagRd s = .next (reply "E ARG")) ∧
              (a % 4 = 0 → permitted 19 false false (region a) d = true →
                let w : Word := if banksReady a d = false then 0
                  else if region a = .reg then (readReg 19 0 a d).1 else word (leNat (readBytes a 4 d))
                exec .diagRd s = .next (reply (diagOk [(8, w.toNat)]))))) ∧
        (waits ("RST ".toList ++ h) → h ≠ ['Y'] → exec .diagRst s = .next (reply "E ARG"))) ∧
      (waits "LOG".toList → exec .diagLog s = .next (reply "E ARG")) ∧
      (waits "IMG".toList → exec .diagImg s = .next (reply "E ARG")) ∧
      (waits "RD".toList → lifeKnown d = true → lifeState d ≤ 1 → exec .diagRd s = .next (reply "E ARG")) ∧
      (waits "RST".toList → exec .diagRst s = .next (reply "E ARG")) ∧
      (waits "RST Y".toList → d.sys.diagDue = none → exec .diagRst s =
        .next (answers { d.sys with diagCmd := none, diagDue := some (d.now + 400000) } "OK")) ∧
      (∃ t, exec .romServiceTick s = .next t ∧ t.dev.saf = { d.saf with swdogStart := d.now } ∧ t.dev.hst = d.hst ∧
        t.dev.dsp = d.dsp ∧ t.dev.mem = d.mem ∧ ∀ a, rd a t.dev = rd a d)) ∧
    (d.sys.mode = .service → d.sys.romLoop = true → ∃ t, exec .romServiceTick s = .next t ∧
      t.dev.saf.swdogStart = d.now ∧ t.dev.hst.hbeat = d.hst.hbeat + 1 ∧ (inDoze d = false → t.dev.dsp.orphans = []))

/-- R71-R74: the update service. -/
def Obligations.FieldUpdate : Prop :=
  ∀ (m : Fin 20) (s : State), s.dev.sys.mode = .service →
    let d := s.dev
    let others (t : State) : Prop := t.fuses = s.fuses ∧ t.dev.mem = d.mem ∧ t.dev.img = d.img ∧ t.dev.sys = d.sys ∧
      flashSlot d.boot.slot t.dev = flashSlot d.boot.slot d ∧ ∀ a, a ≠ A.almUpdStat → rd a t.dev = rd a d
    let spare (t : State) : FlashSlot := flashSlot (!d.boot.slot) t.dev
    let on (t : State) (b : Boot) : Prop := others t ∧ t.dev.boot = b ∧ spare t = spare s ∧
      rd A.almUpdStat t.dev = rd A.almUpdStat d
    let failed (t : State) (c : Nat) (b : Boot) : Prop := others t ∧ spare t = spare s ∧
      t.dev.boot = { b with upd := .idle, updAbort := false } ∧ rf A.almUpdStat 23 16 t.dev = c ∧
      rb A.almUpdStat 2 t.dev = true ∧ rb A.almUpdStat 0 t.dev = false
    let src := (rd A.almUpdSrc d).toNat
    let len := (rd A.almUpdLen d).toNat
    let h := memBytes src 64 d
    let key := memBytes (src + len - 192) 96 d
    let hash := Config.sha384 (memBytes src (len - 200) d)
    let code := if stagedOk src len d = false then 0x14
      else if hdrFormat h d ≠ 0 then hdrFormat h d
      else if imgLen h ≠ len then 0x14
      else if rollbackBad true h d = true then 0x17
      else if imageKeyOk h key d = false then 0x18
      else if Config.ecdsaVerify hash key (memBytes (src + len - 96) 96 d) = false then 0x19
      else if hdrNat h 0x18 4 ≤ hdrNat d.boot.hdr 0x18 4 then 0x23 else 0
    (rb A.almUpdStat 0 d = false →
      (code ≠ 0 → ∃ t, exec (.updateStart m) s = .next t ∧ failed t code d.boot) ∧
      (code = 0 → ∃ t, exec (.updateStart m) s = .next t ∧ others t ∧ spare t = .headerless ∧
        t.dev.boot = { d.boot with upd := .erase, updAbort := false, updHdr := h, updBack := [], updHash := hash } ∧
        rb A.almUpdStat 0 t.dev = true ∧ rf A.almUpdStat 23 1 t.dev = rf A.almUpdStat 23 1 d)) ∧
    (rb A.almUpdStat 0 d = true → ∃ t, exec (.updateStart m) s = .next t ∧ on t d.boot) ∧
    (d.boot.upd = .idle → ∃ t, exec (.updateAbort m) s = .next t ∧ on t d.boot) ∧
    (d.boot.upd = .erase ∨ d.boot.upd = .program → ∃ t, exec (.updateAbort m) s = .next t ∧ failed t 0x24 d.boot) ∧
    (d.boot.upd = .header → ∃ t, exec (.updateAbort m) s = .next t ∧ on t { d.boot with updAbort := true }) ∧
    (d.boot.upd = .erase →
      (∃ t, exec (.updateEraseDone true) s = .next t ∧ on t { d.boot with upd := .program }) ∧
      ∃ t, exec (.updateEraseDone false) s = .next t ∧ failed t 0x22 d.boot) ∧
    (d.boot.upd = .program → ∀ back : List Byte,
      let b := { d.boot with updBack := back }
      let same := Config.sha384 (slice (d.boot.updHdr ++ back) 0 (imgLen d.boot.updHdr - 200)) = d.boot.updHash
      (same → ∃ t, exec (.updateProgramDone true back) s = .next t ∧ on t { b with upd := .header }) ∧
      (¬same → ∃ t, exec (.updateProgramDone true back) s = .next t ∧ failed t 0x21 b) ∧
      ∃ t, exec (.updateProgramDone false back) s = .next t ∧ failed t 0x22 b) ∧
    (d.boot.upd = .header →
      (∃ t, exec (.updateHeaderDone false) s = .next t ∧ failed t 0x22 d.boot) ∧
      ∃ t, exec (.updateHeaderDone true) s = .next t ∧ others t ∧
        spare t = .image (d.boot.updHdr ++ d.boot.updBack) ∧
        t.dev.boot = { d.boot with upd := .idle, updAbort := false } ∧ rb A.almUpdStat 0 t.dev = false ∧
        rb A.almUpdStat 1 t.dev = true ∧ rb A.almUpdStat 3 t.dev = (rb A.almUpdStat 3 d || d.boot.updAbort) ∧
        rf A.almUpdStat 23 16 t.dev = rf A.almUpdStat 23 16 d)

/-- R83, R85, R91, R92, R95, R107, R339, R341: monitors and requests. -/
def Obligations.PowerRequests : Prop :=
  ∀ s : State, powered s.dev = true →
    let d := s.dev
    let requests := [Instr.requestRun, .requestDoze, .requestRetain, .requestOff]
    let same (t : State) : Prop := t.dev.mem = d.mem ∧ t.dev.img = d.img ∧ t.fuses = s.fuses
    (∀ out stopped : BitVec 7,
      let bad := stopped.toNat ||| (out.toNat &&& d.sys.clkBad)
      let n := ((List.range 7).filter fun i => bad.testBit i).length
      (bad = 0 → exec (.clockMonitorWindow out stopped) s =
        .next { s with dev := { d with sys := { d.sys with clkBad := out.toNat } } }) ∧
      (bad ≠ 0 → rb A.safStat 0 d = false → ∃ t, exec (.clockMonitorWindow out stopped) s = .next t ∧ same t ∧
        t.dev.sys = { d.sys with clkBad := out.toNat } ∧
        t.dev.saf = { d.saf with reports := d.saf.reports ++ List.replicate n ⟨0x44, 0, 0, 0⟩ } ∧
        (∀ i < 7, rb A.sysClkStat i t.dev = (rb A.sysClkStat i d || bad.testBit i)) ∧
        rf A.sysClkStat 31 24 t.dev = (rf A.sysClkStat 31 24 d + n) % 256 ∧
        ∀ a, a ≠ A.sysClkStat → rd a t.dev = rd a d)) ∧
    (∀ p : Fin 10, d.sys.mode = .service → rb (A.ethCtrl p) 15 d = true →
      (ethRgmii p d = false →
        ∃ t, exec (.lanePllLock p) s = .next t ∧ getEth p t.dev = { getEth p d with lane := true } ∧
          { t.dev with eths := d.eths } = d ∧ ∀ q, q ≠ p.val → getEth q t.dev = getEth q d) ∧
      (ethRgmii p d = true → exec (.lanePllLock p) s = .next s)) ∧
    (∀ m : Fin 20, (m.val ∉ [0, 17, 18] ∨ d.sys.mode = .twilight ∨ rb A.sysPwrStat 4 d = true) →
      ∀ q ∈ requests, ∃ t, exec (q m) s = .next t ∧ same t ∧ t.dev.sys = d.sys ∧ rb A.sysPwrStat 6 t.dev = true ∧
        rf A.sysPwrStat 5 0 t.dev = rf A.sysPwrStat 5 0 d ∧ ∀ a, a ≠ A.sysPwrStat → rd a t.dev = rd a d) ∧
    (∀ m : Fin 20, m.val ∈ [0, 17, 18] → d.sys.mode = .service → rb A.sysPwrStat 4 d = false →
      (inDoze d = false → rf A.secLc 11 9 d < 2 →
        (∃ t, exec (.requestDoze m) s = .next t ∧ same t ∧ inDoze t.dev = true ∧ t.dev.ctxs = d.ctxs ∧
          t.dev.sys = { d.sys with entryTime := d.now } ∧ ∀ a, a ≠ A.sysPwrStat → rd a t.dev = rd a d) ∧
        (∃ t, exec (.requestRun m) s = .next t ∧ same t ∧ t.dev.sys = d.sys ∧ ∀ a, rd a t.dev = rd a d)) ∧
      (inDoze d = true →
        (∃ t, exec (.requestRun m) s = .next t ∧ same t ∧ inDoze t.dev = false ∧ t.dev.sys = d.sys ∧
          rf A.sysPwrStat 14 12 t.dev = rf A.sysPwrStat 14 12 d) ∧
        (∃ t, exec (.requestDoze m) s = .next t ∧ same t ∧ t.dev.sys = d.sys ∧ ∀ a, rd a t.dev = rd a d)) ∧
      (let rack := rackBoundaries d && !decide (d.mrd.node = .dawn ∨ d.mrd.node = .integrating)
       let begun (t : State) (off : Bool) : Prop := rb A.sysPwrStat 4 t.dev = true ∧ t.dev.mem = d.mem ∧
         t.dev.sys.mode = .service ∧ t.dev.sys.trans = some ⟨off, !rack, !rack, none⟩ ∧ t.dev.sys.flipStop = rack ∧
         (rack = false → rb A.memImgStat 0 t.dev = false)
       (∃ t, exec (.requestRetain m) s = .next t ∧ begun t false) ∧
       (∃ t, exec (.requestOff m) s = .next t ∧ begun t true)))

/-- R91-R95, R234, R245, R490: transitions and wakes. -/
def Obligations.RetainAndOff : Prop :=
  ∀ s : State,
    let d := s.dev
    let entered (t : State) (m : Mode) (w : Option Nat) : Prop := t.dev.sys.mode = m ∧ t.dev.sys.trans = none ∧
      t.dev.sys.retWake = w ∧ t.dev.sys.entryTime = d.now ∧ rb A.sysPwrStat 4 t.dev = false ∧ t.fuses = s.fuses ∧
      t.dev.dsp.ready = [] ∧ t.dev.dsp.insvc = [] ∧ t.dev.dsp.orphans = [] ∧ t.dev.ntm.counting = false ∧
      t.dev.ntm.tb = d.ntm.tb
    let ran (t : State) (src : Nat) : Prop := inDoze t.dev = false ∧ rf A.sysPwrStat 14 12 t.dev = src ∧
      t.dev.mem = d.mem ∧ t.dev.sys = d.sys
    let waking (src : Nat) : State := { s with dev := { d with sys := { d.sys with retWake := some src } } }
    let held (x : Trans) (src : Nat) : State :=
      { s with dev := { d with sys := { d.sys with trans := some { x with wake := some src } } } }
    let dozing : Prop := d.sys.trans = none ∧ d.sys.mode = .service ∧ inDoze d = true
    let asleep : Prop := d.sys.trans = none ∧ d.sys.retWake = none
    (∀ e w, d.sys.trans = some ⟨false, true, e, w⟩ →
      ∃ t, exec .retainEntryComplete s = .next t ∧ entered t .retain w ∧ rf A.sysPwrStat 2 0 t.dev = 0) ∧
    (∀ e w, d.sys.trans = some ⟨true, true, e, w⟩ →
      ∃ t, exec .offEntryComplete s = .next t ∧ entered t .off w ∧ t.dev.mem = [] ∧
        ∀ b < 59, rb (A.sysBankRdy (b / 32)) (b % 32) t.dev = false) ∧
    (rb A.sysWakeEn 0 d = true →
      (dozing → ∃ t, exec .wakePin s = .next t ∧ ran t 1) ∧
      (asleep → d.sys.mode = .retain ∨ d.sys.mode = .off → exec .wakePin s = .next (waking 1)) ∧
      (∀ x, d.sys.trans = some x → x.wake = none → exec .wakePin s = .next (held x 1))) ∧
    (rb A.sysWakeEn 1 d = true → rd A.sysWakeTmr d ≠ 0 → d.sys.entryTime + (rd A.sysWakeTmr d).toNat * 400000 ≤ d.now →
      (dozing → ∃ t, exec .wakeTimer s = .next t ∧ ran t 2) ∧
      (asleep → d.sys.mode = .retain ∨ d.sys.mode = .off → exec .wakeTimer s = .next (waking 2))) ∧
    (rb A.sysWakeEn 2 d = true →
      (asleep → d.sys.mode = .retain → exec .meridianActivityWake s = .next (waking 3)) ∧
      (∀ x, d.sys.trans = some x → x.wake = none → x.off = false →
        exec .meridianActivityWake s = .next (held x 3)) ∧
      (d.sys.trans = none → d.sys.mode = .service ∨ d.sys.mode = .off → exec .meridianActivityWake s = .next s)) ∧
    (rb A.sysWakeEn 0 d = false → exec .wakePin s = .next s) ∧
    (∀ w, d.sys.mode = .retain → d.sys.retWake = some w → rb A.secTampLog 31 d = false → crcPhase d ≠ 3 →
      ∃ t, exec .retainWake s = .next t ∧ crcPhase t.dev = 3 ∧ t.dev.sys = d.sys ∧
        ∀ b < 59, rb (A.sysBankRdy (b / 32)) (b % 32) t.dev = true) ∧
    (∀ w, d.sys.mode = .retain → d.sys.retWake = some w → rb A.secTampLog 31 d = true → crcPhase d ≠ 3 →
      ∃ t, exec .retainWake s = .next t ∧ t.dev.sys.mode = .startup ∧ t.dev.boot.step = .pll ∧
        t.dev.sys.escalated = true ∧ t.dev.sys.twCode = 0x4B ∧ t.dev.sys.log = d.sys.log ∧
        ∀ n < 64, rd (A.mbxData n) t.dev = rd (A.mbxData n) d) ∧
    (∀ w, sameReset d = none → d.sys.mode = .off → d.sys.retWake = some w → ∃ t, exec .wakeFromOff s = .next t ∧
      t.dev.sys.mode = .startup ∧ rf A.sysRstCause 2 0 t.dev = 6 ∧ t.dev.sys.log = d.sys.log ∧
      rf A.sysRstCause 31 16 t.dev = min 0xFFFF (rf A.sysRstCause 31 16 d + 1) ∧ t.fuses = s.fuses)

/-- R96, R98: bank power. -/
def Obligations.BankPower : Prop :=
  ∀ s : State, powered s.dev = true →
    let d := s.dev
    let ready (b : Nat) (d : Dev) : Bool := rb (A.sysBankRdy (b / 32)) (b % 32) d
    (∀ (m : Fin 20) (k : Fin 4) (v : Word), ∃ t, exec (.bankPowerSetting m k v) s = .next t ∧ t.fuses = s.fuses ∧
      ∀ j < 16, 16 * k.val + j < 59 →
        let b := 16 * k.val + j
        let code := fld v (2 * j + 1) (2 * j)
        let refused := if b < 32 ∨ d.sys.mode ≠ .service then false else if b < 40 then rb A.memImgCtrl 0 d else if b < 42 then false
          else if b < 58 then rb (A.peCtrl (b - 42)) 0 d else (List.range 14).any fun p => rf (A.swcPort p 0) 31 30 d ≠ 0
        (code = 1 ∨ code = 2 → refused = true →
          rf (A.sysBankPwr k) (2 * j + 1) (2 * j) t.dev = 0 ∧ rb A.sysPwrStat 7 t.dev = true ∧ ready b t.dev = ready b d) ∧
        (code = 1 ∨ code = 2 → refused = false →
          rf (A.sysBankPwr k) (2 * j + 1) (2 * j) t.dev = code ∧ ready b t.dev = false ∧ b ∉ t.dev.sys.bankPend ∧
          (code = 2 → b < 32 → ∀ i < 0x80000, memByte (0x04000000 + 0x80000 * b + i) t.dev = 0)) ∧
        (code = 0 ∨ code = 3 → rf (A.sysBankPwr k) (2 * j + 1) (2 * j) t.dev = code ∧ ready b t.dev = ready b d ∧
          (ready b d = false → b ∈ t.dev.sys.bankPend))) ∧
    (∀ b : Fin 59, b.val ∈ d.sys.bankPend → ∃ t, exec (.bankReady b) s = .next t ∧ ready b t.dev = true ∧
      b.val ∉ t.dev.sys.bankPend ∧ t.dev.mem = d.mem ∧ ∀ c < 59, c ≠ b.val → ready c t.dev = ready c d)

/-- R101-R103, R106, R108, R109, R114, R115, R167: what a write of a register does. -/
def Obligations.RegisterWrites : Prop :=
  ∀ (m : Fin 20) (ctx : Fin 10) (v : Word) (s : State), powered s.dev = true →
    let d := s.dev
    let c := masterCore m
    let key := keyOf c ctx
    let may : Prop := 16 < m.val ∨ (getCtx key d).sys = true
    let same (t : State) : Prop := t.fuses = s.fuses ∧ t.dev.mem = d.mem ∧ t.dev.tabs = d.tabs
    let marks (base k a : Nat) (t : State) : Prop := rb (base + 4) k t.dev = true ∧
      rd (base + 8) t.dev = word (m.val * 2 ^ 27 + k * 2 ^ 24 + (a - 0x10000000))
    let only (l : List Nat) (t : State) : Prop := ∀ a, a ∉ l → rd a t.dev = rd a d
    let sys := 0x10000000
    let bits (a mask : Nat) : Word := (rd a d &&& ~~~(word mask)) ||| (v &&& word mask)
    (∀ a, 0x10000000 ≤ a → a < 0x10010000 → a % 4 ≠ 0 →
      (16 < m.val → ∃ t, exec (.registerWrite m ctx (word a) v) s = .next t ∧ same t ∧ marks sys 6 a t ∧
        only [sys + 4, sys + 8] t) ∧
      let trap : Exc := { cause := if (getCtx key d).sys = true then 3 else 5, wr := true, ebad := some a }
      (m.val ≤ 16 → running c d = some key →
        exec (.registerWrite m ctx (word a) v) s = .next { s with dev := takeExc key trap d })) ∧
    (may → ∀ a ∈ [0x10000050, 0x100B0000, 0x10160010, 0x10200000],
      ∃ t, exec (.registerWrite m ctx (word a) v) s = .next t ∧ same t ∧ marks sys 7 a t ∧ only [sys + 4, sys + 8] t) ∧
    (may → ∃ t, exec (.registerWrite m ctx 0x10010050 v) s = .next t ∧ same t ∧ marks 0x10010000 7 0x10010050 t ∧
      only [0x10010004, 0x10010008] t) ∧
    (may → ∃ t, exec (.registerWrite m ctx (word A.sysWakeTmr) v) s = .next t ∧ same t ∧
      rd A.sysWakeTmr t.dev = v ∧ only [A.sysWakeTmr] t) ∧
    (may → ∃ t, exec (.registerWrite m ctx (word A.sysWakeEn) v) s = .next t ∧ same t ∧
      rd A.sysWakeEn t.dev = bits A.sysWakeEn 0x1F ∧ only [A.sysWakeEn, sys + 4, sys + 8] t ∧
      (if v.toNat / 32 = (rd A.sysWakeEn d).toNat / 32 then only [A.sysWakeEn] t else marks sys 5 A.sysWakeEn t)) ∧
    (may → v.toNat / 2 = (rd A.sysPwrCfg d).toNat / 2 →
      ∃ t, exec (.registerWrite m ctx (word A.sysPwrCfg) v) s = .next t ∧ same t ∧
        (committed d = false → rd A.sysPwrCfg t.dev = bits A.sysPwrCfg 1 ∧ only [A.sysPwrCfg] t) ∧
        (committed d = true → rd A.sysPwrCfg t.dev = rd A.sysPwrCfg d ∧
          (if bit v 0 = rb A.sysPwrCfg 0 d then only [] t
           else marks sys 2 A.sysPwrCfg t ∧ only [sys + 4, sys + 8] t))) ∧
    (may → v.toNat / 65536 = (rd A.schStatWin d).toNat / 65536 →
      ∃ t, exec (.registerWrite m ctx (word A.schStatWin) v) s = .next t ∧ same t ∧
        rd A.schStatWin t.dev = bits A.schStatWin 0xFFFF ∧
        (if v.toNat % 65536 = 0 then marks 0x10060000 1 A.schStatWin t else only [A.schStatWin] t)) ∧
    (16 < m.val ∨ (∀ k, running c d = some k → (getCtx k d).sys = true) → ∀ r ∈ [(A.memImgStat, 0x10040000, 0xE), (A.sysPwrStat, sys, 0xE0)],
      let w := rd r.1 d
      let current := v.toNat / 2 ^ 24 = w.toNat / 2 ^ 24 ∧ bit (tabGet zeroDefault d.wraps r.1) m = false
      ∃ t, exec (.statusClear m (word r.1) v) s = .next t ∧ same t ∧
        only [r.1, r.2.1 + 4, r.2.1 + 8] t ∧
        (current → rd r.1 t.dev = w &&& ~~~(v &&& word r.2.2)) ∧
        (¬current → rd r.1 t.dev = w ∧ rb (r.2.1 + 4) 0 t.dev = true))

/-- R105, R111, R112, R114, R115, R541: indirect access, on the producer table's and the flow table's pairs, and the end of the pin
table. -/
def Obligations.IndirectTables : Prop :=
  ∀ (m : Fin 20) (v : Word) (s : State) (p : Nat × Nat × Nat), powered s.dev = true →
    p ∈ [(A.memImgIndAddr, 0x10040000, 0), (A.schFlowIndAddr, 0x10060000, 17)] →
    let d := s.dev
    let a := p.1
    let idx := rf a 13 0 d
    let inc := if rf a 15 14 d = 1 then 1 else if rf a 15 14 d = 2 then 4 else 0
    let kept (t : State) : Prop := t.fuses = s.fuses ∧ t.dev.mem = d.mem
    let stepped (t : State) : Prop := kept t ∧ rf a 13 0 t.dev = (idx + inc) % 16384 ∧ rf a 15 14 t.dev = rf a 15 14 d ∧
      (getInd a t.dev).busy = true
    2 ^ 32 + tabKey p.2.2 idx ∉ d.badCfg → tabFind d.swc.held (tabKey 0 idx) = none →
    ((getInd a d).busy = false → ∃ t, exec (.indAddrWrite m (word a) v) s = .next t ∧ kept t ∧
      rf a 15 0 t.dev = v.toNat % 65536 ∧ (getInd a t.dev).busy = true ∧ t.dev.tabs = d.tabs) ∧
    ((getInd a d).busy = true → ∃ t, exec (.indFetchDone (word a)) s = .next t ∧ kept t ∧ t.dev.regs = d.regs ∧
      t.dev.tabs = d.tabs ∧ getInd a t.dev = ⟨tabRead p.2.2 idx d, false⟩) ∧
    ((getInd a d).busy = false → (m ≠ 19 → ∃ t, exec (.indDataRead m (word (a + 4))) s = .next t ∧ stepped t ∧
        tabGet zeroDefault t.dev.rdata m = (getInd a d).word ∧ t.dev.tabs = d.tabs) ∧
      (m = 19 → exec (.indDataRead m (word (a + 4))) s = .next { s with dev := giveRead 19 (getInd a d).word d })) ∧
    ((getInd a d).busy = true → ∃ t, exec (.indDataWrite m (word (a + 4)) v) s = .next t ∧ kept t ∧
      rb (p.2.1 + 4) 4 t.dev = true ∧ rd a t.dev = rd a d ∧ t.dev.tabs = d.tabs ∧ t.dev.inds = d.inds) ∧
    ((getInd a d).busy = false → p.2.2 = 0 → ∃ t, exec (.indDataWrite m (word (a + 4)) v) s = .next t ∧ stepped t ∧
      (∀ i, i ≠ idx → tabRead 0 i t.dev = tabRead 0 i d) ∧
      (committed d = false → tabRead 0 idx t.dev = (v &&& 0xFFFF8000) ||| (tabRead 0 idx d &&& 0x7FFF) ∧
        (v.toNat % 32768 ≠ 0 → rb 0x10040004 1 t.dev = true)) ∧
      (committed d = true → tabRead 0 idx t.dev = tabRead 0 idx d ∧
        rb 0x10040004 2 t.dev = (rb 0x10040004 2 d || decide (v ≠ tabRead 0 idx d)))) ∧
    ((getInd A.pioPinIndAddr d).busy = false → 128 ≤ rf A.pioPinIndAddr 13 0 d →
      ∃ t, exec (.indDataWrite m (word (A.pioPinIndAddr + 4)) v) s = .next t ∧ kept t ∧ t.dev.tabs = d.tabs ∧
        rb 0x101C0004 3 t.dev = true)

/-- R116, R123: what the two monitors report. -/
def Obligations.ConfigurationGuards : Prop :=
  ∀ s : State, powered s.dev = true → rb A.safStat 0 s.dev = false →
    let d := s.dev
    (∀ (a : Word) (u : RegUnit) (r : Row) (i : Nat), regAt a.toNat = some (u, r, i) → r.rw ≠ 0 ∨ r.rwl ≠ 0 →
      (∃ t, exec (.configParityWalk a none true) s = .next t ∧
        t.dev.saf.reports = d.saf.reports ++ [⟨0x42, u.code, a.toNat, 0⟩] ∧ a.toNat ∈ t.dev.badCfg ∧
        t.dev.regs = d.regs ∧ t.dev.mem = d.mem) ∧
      (a.toNat ∉ d.badCfg → exec (.configParityWalk a none false) s = .next s)) ∧
    (∀ (a : Word) (idx : Fin 524288) (u : RegUnit) (k i : Nat), isIndData a.toNat = true → unitOf a.toNat = some u →
      tableAt (a.toNat - 4) (idx / 65536) (idx % 16384) = some (k, i) → tabRwl k i ≠ 0 →
      (∃ t, exec (.configParityWalk a (some idx) true) s = .next t ∧
        t.dev.saf.reports = d.saf.reports ++ [⟨0x42, u.code, a.toNat, idx⟩] ∧ t.dev.tabs = d.tabs) ∧
      (2 ^ 32 + tabKey k i ∉ d.badCfg → exec (.configParityWalk a (some idx) false) s = .next s)) ∧
    (d.sys.mode = .service → ∀ u : Fin 48,
      (exec (.viewComparison [u]) { s with dev := { d with viewBad := [u.val] } } =
        .next { s with dev := { d with viewBad := [u.val], saf := { d.saf with reports := d.saf.reports ++ [⟨0x48, u, 0, 0⟩] } } }) ∧
      (∃ t, exec (.viewComparison []) { s with dev := { d with viewBad := [u.val] } } = .next t ∧ t.dev.viewBad = [] ∧
        t.dev.saf = d.saf ∧ rf A.safView 31 24 t.dev = u ∧ rb A.safStat 3 t.dev = true ∧
        rf A.safView 15 0 t.dev = min 0xFFFF (rf A.safView 15 0 d + 1) ∧
        ∀ a, a ≠ A.safView → a ≠ A.safStat → rd a t.dev = rd a d))

/-- R133, R139, R145, R148: scrub reads and the wipe. -/
def Obligations.ScrubberAndVault : Prop :=
  ∀ (s : State), powered s.dev = true →
    let d := s.dev
    (∀ (b : Fin 64) (sub : Fin 16), ∀ scrub ∈ [Instr.scrubRead b sub, .forcedScrubRead b sub],
      let n := scrubRows b sub
      let row := tabGet zeroNat d.scrub (16 * b + sub) % n
      let wiping := (b.val = 40 ∨ b.val = 41) ∧ rb A.memVaultStat 0 d = true
      (n = 0 ∨ bankReady b d = false ∨ wiping → exec (scrub none) s = .next s) ∧
      (n ≠ 0 → bankReady b d = true → ¬wiping → d.badPar = [] →
        ∃ t, exec (scrub none) s = .next t ∧ tabGet zeroNat t.dev.scrub (16 * b + sub) = (row + 1) % n ∧
          t.dev.mem = d.mem ∧ t.dev.badPar = [] ∧ t.dev.saf = d.saf ∧ (∀ a, a ≠ A.memScrubStat → rd a t.dev = rd a d) ∧
          ∀ k < 1024, k ≠ 16 * b.val + sub.val → tabGet zeroNat t.dev.scrub k = tabGet zeroNat d.scrub k) ∧
      (∀ i : Fin 32, b.val < 32 → sub.val = 0 → bankReady b d = true → d.badPar = [] → rb A.safStat 0 d = false →
        ∃ t, exec (scrub (some i)) s = .next t ∧ t.dev.saf.reports = d.saf.reports ++ [⟨0x41, 4, 0, 0⟩] ∧
          t.dev.badPar = [0x04000000 + 0x80000 * b.val + 32 * row + i.val] ∧ t.dev.mem = d.mem ∧
          rf A.memParLog1 15 0 t.dev = min 0xFFFF (rf A.memParLog1 15 0 d + 1) ∧
          (rb A.memParLog0 31 d = true → rd A.memParLog0 t.dev = rd A.memParLog0 d) ∧
          (rb A.memParLog0 31 d = false → rd A.memParLog0 t.dev =
            word (2 ^ 31 + 2 ^ 30 + b.val * 2 ^ 24 + row * 2 ^ 8 + i.val) ∧ rf A.memParLog1 31 27 t.dev = 24))) ∧
    (∀ (m : Fin 20) (v : Word),
      (v.toNat / 65536 ≠ 0x0B7E → exec (.wipe m v) s = .next s) ∧
      (v.toNat / 65536 = 0x0B7E → bit v 0 = true → m = 0 → secureMode d = true → rb A.memVaultStat 0 d = false →
        ∃ t, exec (.wipe m v) s = .next t ∧ rb A.memVaultStat 0 t.dev = true ∧ rf A.memVaultStat 7 5 t.dev = 4 ∧
          t.dev.mem = d.mem) ∧
      (v.toNat / 65536 = 0x0B7E → bit v 0 = true → m ≠ 0 →
        ∃ t, exec (.wipe m v) s = .next t ∧ rb A.memAccStat 2 t.dev = true ∧ rd A.memVaultStat t.dev = rd A.memVaultStat d ∧
          t.dev.mem = d.mem ∧ rd A.memAccAddr t.dev = word A.memVaultCmd)) ∧
    (rb A.memVaultStat 0 d = true → ∃ t, exec .vaultWipeDone s = .next t ∧ rb A.memVaultStat 0 t.dev = false ∧
      rb A.memVaultStat 1 t.dev = true ∧ (∀ a, a ≠ A.memVaultStat → rd a t.dev = rd a d) ∧
      ∀ a, memByte a t.dev = if 0x07000000 ≤ a ∧ a < 0x07080000 then 0 else memByte a d)

/-- R128, R240, R241, R243: mailboxes.
R248-R250: acquire, release and revoke. -/
def Obligations.MailboxesAndLocks : Prop :=
  (∀ (m : Fin 20) (n : Fin 64) (v : Word) (s : State), powered s.dev = true →
    let d := s.dev
    let full (k : Nat) (d : Dev) : Bool := rb (A.mbxFull (k / 32)) (k % 32) d
    let send := rf (A.mbxCfg n) 15 11 d
    let recv := rf (A.mbxCfg n) 10 6 d
    let ownCode (c : Nat) : Prop := m.val = c ∧ c ≤ 18 ∧ (56 ≤ n.val → c = 0 ∨ c = 17 ∨ c = 18)
    let maySend := (n.val < 56 ∧ send = 31) ∨ ownCode send
    let engineFar : Prop := 1 ≤ m.val ∧ m.val ≤ 16 ∧ 56 ≤ n.val
    let posts := 48 ≤ n.val ∧ n.val ≤ 55 ∧ rb (A.mbxCfg n) 31 d = true
    let others (t : State) : Prop := t.fuses = s.fuses ∧ t.dev.mem = d.mem ∧ t.dev.locks = d.locks ∧
      ∀ k < 64, k ≠ n.val → rd (A.mbxData k) t.dev = rd (A.mbxData k) d ∧ full k t.dev = full k d
    let denied (t : State) : Prop := others t ∧ rd (A.mbxData n) t.dev = rd (A.mbxData n) d ∧ full n t.dev = full n d ∧
      rb A.mbxStat 0 t.dev = true ∧ rf 0x10050008 31 27 t.dev = m ∧ rf 0x10050008 21 0 t.dev = A.mbxData n - 0x10000000
    (maySend → ¬posts → ∃ t, exec (.mailboxWrite m n v) s = .next t ∧ others t ∧ rd (A.mbxData n) t.dev = v ∧
      full n t.dev = true ∧ tabGet zeroDefault t.dev.mbxLast n = word m ∧
      rb (A.mbxColl (n / 8)) (n % 8) t.dev = (rb (A.mbxColl (n / 8)) (n % 8) d || full n d)) ∧
    (∀ key, 1 ≤ m.val → m.val ≤ 16 → 56 ≤ n.val → running (m.val - 1) d = some key →
      exec (.mailboxWrite m n v) s =
        .next { s with dev := accessExc key (m.val - 1) (A.mbxData n) true (4, some 0) d } ∧
      exec (.mailboxRead m n) s =
        .next { s with dev := accessExc key (m.val - 1) (A.mbxData n) false (4, some 0) d }) ∧
    (send < 19 ∧ (n.val < 56 ∨ send = 0 ∨ send = 17 ∨ send = 18) → m.val ≠ send → ¬engineFar →
      ∃ t, exec (.mailboxWrite m n v) s = .next t ∧ denied t) ∧
    (m.val < 19 → ownCode recv → ¬posts →
      (full n d = false → exec (.mailboxRead m n) s = .next { s with dev := giveRead m (rd (A.mbxData n) d) d }) ∧
      (full n d = true → ∃ t, exec (.mailboxRead m n) s = .next t ∧ others t ∧ full n t.dev = false ∧
        rd (A.mbxData n) t.dev = rd (A.mbxData n) d ∧ tabGet zeroDefault t.dev.rdata m = rd (A.mbxData n) d)) ∧
    (m = 19 → exec (.mailboxRead m n) s = .next { s with dev := giveRead 19 (rd (A.mbxData n) d) d }) ∧
    (m.val < 19 → ¬engineFar → posts ∨ (recv < 19 ∧ (n.val < 56 ∨ recv = 0 ∨ recv = 17 ∨ recv = 18) ∧ m.val ≠ recv) →
      ∃ t, exec (.mailboxRead m n) s = .next t ∧ denied t ∧ tabGet zeroDefault t.dev.rdata m = 0) ∧
    (maySend → posts → d.sys.mode = .service → rb A.schCtrl 0 d = true → d.dsp.arrival.length < 16 → d.dsp.waiting = [] →
      ∃ t it, exec (.mailboxPost m n v) s = .next t ∧ others t ∧ full n t.dev = false ∧
        t.dev.dsp = { d.dsp with arrival := d.dsp.arrival ++ [it] } ∧ it.src = 8 ∧
        it.flow = rf (A.mbxCfg n) 27 16 d ∧ it.arg = n ∧ it.buf = v ∧ it.head = [] ∧ it.icyc = rd A.memImgCycle d)) ∧
  (∀ (m : Fin 20) (ctx : Fin 10) (n : Fin 64) (s : State), powered s.dev = true →
    let d := s.dev
    let me : Owner := ⟨m, if 1 ≤ m.val ∧ m.val ≤ 16 then ctx.val else 0⟩
    let key := keyOf (masterCore m) ctx
    let x := getCtx key d
    let a := A.memLock n
    let may : Prop := 16 < m.val ∨ (x.sys = true ∧ x.det = false)
    let held (k : Nat) (d : Dev) : Bool := rb (A.memLockHeld (k / 32)) (k % 32) d
    let becomes (t : State) (o : Option Owner) : Prop := t.fuses = s.fuses ∧ t.dev.mem = d.mem ∧
      lockOwner n t.dev = o ∧ held n t.dev = o.isSome ∧
      ∀ k < 64, k ≠ n.val → lockOwner k t.dev = lockOwner k d ∧ held k t.dev = held k d
    (m.val ≤ 16 → running (masterCore m) d = some key → ∀ v : Word,
      (x.sys = false →
        exec (.lockAcquire m ctx n) s = .next { s with dev := takeExc key { cause := 5, ebad := some a } d } ∧
        exec (.lockRelease m ctx n v) s =
          .next { s with dev := takeExc key { cause := 5, wr := true, ebad := some a } d }) ∧
      (x.sys = true → x.det = true →
        exec (.lockAcquire m ctx n) s = .next { s with dev := takeExc key { cause := 9, ebad := some a } d })) ∧
    (lockOwner n d = none → m ≠ 19 → may → ∃ t, exec (.lockAcquire m ctx n) s = .next t ∧ becomes t (some me) ∧
      tabGet zeroDefault t.dev.rdata m = 0) ∧
    (lockOwner n d = none → m = 19 → exec (.lockAcquire m ctx n) s = .next { s with dev := giveRead 19 0x40000000 d }) ∧
    (may → ∀ o, lockOwner n d = some o → exec (.lockAcquire m ctx n) s =
      .next { s with dev := giveRead m (word (2 ^ 31 + o.master * 2 ^ 8 + o.ctx)) d }) ∧
    (∀ v : Word, may → lockOwner n d = some me → fld v 12 8 = me.master → fld v 3 0 = me.ctx →
      ∃ t, exec (.lockRelease m ctx n v) s = .next t ∧ becomes t none) ∧
    (∀ v : Word, may → (lockOwner n d ≠ some me ∨ fld v 12 8 ≠ me.master ∨ fld v 3 0 ≠ me.ctx) →
      ∃ t, exec (.lockRelease m ctx n v) s = .next t ∧ t.dev.locks = d.locks ∧ rb A.memLockStat 0 t.dev = true ∧
        t.dev.mem = d.mem) ∧
    (∀ o, lockOwner n d = some o → ∃ t, exec (.lockRevoke 0 n) s = .next t ∧ becomes t none ∧
      rb A.memLockStat 1 t.dev = true) ∧
    (lockOwner n d = none → justReleased n d = none →
      ∃ t, exec (.lockRevoke 0 n) s = .next t ∧ t.dev.locks = d.locks ∧ ∀ a, rd a t.dev = rd a d) ∧
    (lockOwner n d = none → justReleased n d ≠ none →
      ∃ t, exec (.lockRevoke 0 n) s = .next t ∧ t.dev.locks = d.locks ∧ rb A.memLockStat 2 t.dev = true) ∧
    (∀ who : Fin 32, ∃ t, exec (.lockRevokeMaster 0 who) s = .next t ∧ t.dev.mem = d.mem ∧
      ∀ k < 64, lockOwner k t.dev = if (lockOwner k d).any (fun o => o.master = who.val) then none else lockOwner k d) ∧
    (∀ who : Fin 32, m ≠ 0 → exec (.lockRevoke m n) s = .next s ∧ exec (.lockRevokeMaster m who) s = .next s))

/-- R150, R151, R154, R188-R190: engines start and stop. -/
def Obligations.EngineControl : Prop :=
  ∀ (m : Fin 20) (n : Fin 16) (v : Word) (s : State), powered s.dev = true →
    let d := s.dev
    let p := rd (A.peCtrl n) d
    let fresh (k : Nat) (t : State) : Prop :=
      let x := getCtx (ctxKey n k) t.dev
      (x.state = .ready ∨ x.state = .running) ∧ x.pc = 0 ∧ x.wait = .none ∧ x.slot = none ∧ x.pend = 0 ∧
      x.sr = setBit (setBit (setBit 0x80 8 (bit p 2)) 9 (bit p 3)) 10 (bit p 4) ∧ ∀ i, x.dr i = 0 ∧ x.ar i = 0
    (m = 0 → d.sys.mode ≠ .twilight → committed d = true → bit p 0 = false →
      ∃ t, exec (.engineEnable m n) s = .next t ∧ rb (A.peCtrl n) 0 t.dev = true ∧ t.dev.mem = d.mem ∧ t.dev.dsp = d.dsp ∧
        (∀ a, a ≠ A.peCtrl n → rd a t.dev = rd a d) ∧ (getCore n t.dev).wdogStart = d.now ∧
        (∀ k < 10, bit p (12 + k) = true → fresh k t) ∧
        ∀ key, key / 16 ≠ n.val → getCtx key t.dev = getCtx key d) ∧
    (m = 0 → bit p 0 = true → ∃ t, exec (.engineDisable m n) s = .next t ∧ rb (A.peCtrl n) 0 t.dev = false ∧
      ∀ k < 10, (getCtx (ctxKey n k) t.dev).state = .disabled) ∧
    (m = 0 → v.toNat / 65536 = 0x0C7A → ∃ t, exec (.contextReset m n v) s = .next t ∧
      ∀ k < 10, let x := getCtx (ctxKey n k) d
        (bit v k = true → bit p (12 + k) = true → x.state ≠ .disabled → fresh k t) ∧
        ((bit v k = false ∨ bit p (12 + k) = false ∨ x.state = .disabled) →
          let y := getCtx (ctxKey n k) t.dev
          y.d = x.d ∧ y.a = x.a ∧ y.pc = x.pc ∧ y.sr = x.sr ∧
            (y.wait = x.wait ∨ ∃ r q i w, x.wait = .divider r q i w ∧ y.wait = .division r q i w))) ∧
    (m ≠ 0 → exec (.engineEnable m n) s = .next s ∧ exec (.engineDisable m n) s = .next s ∧
      exec (.contextReset m n v) s = .next s) ∧
    (m.val = n.val + 1 → v.toNat / 65536 = 0x0A7D → ∃ t, exec (.engineWatchdogService m n v) s = .next t ∧
      getCore n t.dev = { getCore n d with wdogStart := d.now } ∧ t.dev.mem = d.mem ∧ t.dev.ctxs = d.ctxs) ∧
    (m.val ≠ n.val + 1 ∨ v.toNat / 65536 ≠ 0x0A7D → exec (.engineWatchdogService m n v) s = .next s) ∧
    (coreRuns n d = true → committed d = true → rb A.safStat 0 d = false →
      (getCore n d).wdogStart + 400 * rf (A.peWdog n) 8 0 d ≤ d.now → 10 ≤ rf (A.peWdog n) 8 0 d →
      rf (A.peWdog n) 8 0 d ≤ 500 → exec (.engineWatchdogExpiry n) s =
        .next { s with dev := { d with saf := { d.saf with reports := d.saf.reports ++ [⟨0x47, 0x20 + n, 0, 0⟩] } } })

/-- R227, R228, R246, R70: the instructions that meet Dispatch and the mailboxes. -/
def Obligations.GetDoneMbwait : Prop :=
  (∀ (c : Fin 17) (key : Nat) (rd rs : Fin 16) (s : State), Issues c key s →
    let d := s.dev
    let x := getCtx key d
    let item := heldItem c (key % 16) d
    let dones := [Instr.doneFinish c rs, .doneForward c rs, .doneSubmit c rs]
    (c.val = 16 → exec (.get c rd) s = .next (raises c key { cause := 1 } s) ∧
      ∀ i ∈ dones, exec i s = .next (raises c key { cause := 1 } s)) ∧
    (c.val < 16 → item = none → exec (.get c rd) s = .next (blocks c key (.get rd) s) ∧
      ∀ i ∈ dones, ∃ t, exec i s = .next t ∧ getCtx key t.dev = x.advance ∧ rb A.schStat 0 t.dev = true ∧
        t.dev.dsp = d.dsp ∧ t.dev.mem = d.mem ∧ ∀ a, a ≠ A.schStat → Machine.rd a t.dev = Machine.rd a d) ∧
    (∀ i, c.val < 16 → item = some i →
      (i.taken = true → exec (.get c rd) s = .next (onlyCtx c key ((x.setD rd (descWord0 i.item d)).advance) s)) ∧
      (i.taken = false → i.prefetched = false → exec (.get c rd) s = .next (blocks c key (.get rd) s)) ∧
      (i.taken = false → i.prefetched = true → ∃ t, exec (.get c rd) s = .next t ∧ t.dev.mem = d.mem ∧
        t.dev.regs = d.regs ∧ getCtx key t.dev =
          (({ x with pend := x.pend ^^^ (x.pend &&& 1), icyc := i.item.icyc, btl := i.item.bts.setWidth 32,
                     bth := (i.item.bts >>> 32).setWidth 32 }).setD rd (descWord0 i.item d)).advance ∧
        ∀ j, heldItem c (key % 16) t.dev = some j → j.taken = true) ∧
      (fld (x.dr rs) 31 30 ≠ 3 → ∀ q ∈ dones, ∃ t, exec q s = .next t ∧ t.dev.mem = d.mem ∧ t.dev.regs = d.regs ∧
        getCtx key t.dev = { x.advance with freeSince := d.now + 1 } ∧ t.dev.dsp.ready = d.dsp.ready ∧
        t.dev.dsp.insvc = d.dsp.insvc.map fun y => if y = i then
          { y with state := .done (fld (x.dr rs) 31 30) (fld (x.dr rs) 11 0), bound := (getCore c d).storeSeq,
                   ended := d.now } else y))) ∧
  (∀ (c : Fin 17) (key : Nat) (rd rs : Fin 16) (s : State), Issues c key s →
    let x := getCtx key s.dev
    let n := (x.dr rs).toNat % 64
    (56 ≤ n → exec (.mbwait c rd rs) s = .next (onlyCtx c key ((x.setD rd 4).advance) s)) ∧
    (n < 56 → exec (.mbwait c rd rs) s = .next (blocks c key (.mbTest rd n (bit (x.dr rs) 6)) s))) ∧
  (∀ (c : Fin 17) (k : Fin 10) (n r : Nat) (full : Bool) (s : State),
    let d := s.dev
    let key := ctxKey c k
    let x := getCtx key d
    let st := (decide (mbxFullBit n d = full)).toNat + 2 * (decide (c.val ≠ 16) && mbxFullBit c d).toNat
    coreRuns c d = true → x.state = .blocked → x.wait = .mbTest r n full → x.stores = [] →
      (st = 0 → exec (.mbwaitEnd c k) s = .next s) ∧
      (st ≠ 0 → ∃ t, exec (.mbwaitEnd c k) s = .next t ∧ (getCtx key t.dev).wait = .none ∧
        (getCtx key t.dev).d = (x.setD r (word st)).d ∧ t.dev.mem = d.mem ∧ t.dev.regs = d.regs ∧
        ((getCtx key t.dev).state = .ready ∨ (getCtx key t.dev).state = .running)))

/-- R216-R219, R226, R544: from a source to readiness.
R220-R222, R234: one assignment. -/
def Obligations.ArrivalReadinessAndAssignment : Prop :=
  (∀ s : State, s.dev.sys.mode = .service →
    let d := s.dev
    let q := d.dsp
    let dropped (f : Nat) (t : State) : Prop := rb A.schStat 1 t.dev = true ∧ t.dev.dsp.ready = q.ready ∧
      tabGet zeroDefault t.dev.dsp.drops f = word (min 8191 ((tabGet zeroDefault q.drops f).toNat + 1))
    (∀ (m : Fin 20) (ctx : Fin 10) (v : Word),
      let c := masterCore m
      let x := getCtx (keyOf c ctx) d
      16 < m.val ∨ (x.sys = true ∧ x.stores.length < 5 ∧ earlierAccess c A.schPost (getCore c d).storeSeq d = false) →
      (rb A.schCtrl 0 d = true → q.arrival.length < 16 → q.waiting = [] →
        ∃ t it, exec (.softwarePost m ctx v) s = .next t ∧ t.dev.dsp = { q with arrival := q.arrival ++ [it] } ∧
          it.src = 0 ∧ it.flow = v.toNat % 4096 ∧ it.arg = v.toNat / 4096 % 65536 ∧ it.head = [] ∧ it.len = 0 ∧
          it.icyc = rd A.memImgCycle d ∧ it.ts = tbNs 0 d ∧ it.token = false ∧ t.dev.mem = d.mem) ∧
      (rb A.schCtrl 0 d = true → (16 ≤ q.arrival.length ∨ q.waiting ≠ []) →
        ∃ t it, exec (.softwarePost m ctx v) s = .next t ∧ t.dev.dsp = { q with waiting := q.waiting ++ [it] } ∧
          it.src = 0 ∧ it.flow = v.toNat % 4096 ∧ it.arg = v.toNat / 4096 % 65536 ∧
          (m.val ≤ 16 → (getCtx (keyOf c ctx) t.dev).stores.length = x.stores.length + 1)) ∧
      (rb A.schCtrl 0 d = false → rb A.schTraceCtrl 31 d = false →
        ∃ t, exec (.softwarePost m ctx v) s = .next t ∧ dropped (v.toNat % 4096) t ∧ t.dev.dsp.arrival = q.arrival)) ∧
    (∀ it rest, q.waiting = it :: rest →
      (rb A.schCtrl 0 d = true → q.arrival.length < 16 →
        ∃ t, exec .itemArrival s = .next t ∧ t.dev.dsp = { q with arrival := q.arrival ++ [it], waiting := rest }) ∧
      (rb A.schCtrl 0 d = false → rb A.schTraceCtrl 31 d = false → it.src0 ≠ 1 → it.src0 ≠ 3 → it.src0 ≠ 10 →
        ∃ t, exec .itemArrival s = .next t ∧ dropped it.flow t ∧ t.dev.dsp.waiting = rest ∧
          t.dev.dsp.arrival = q.arrival)) ∧
    (∀ (entry : Fin 4096) it rest, dspOn d = true → q.arrival = it :: rest → it.token = false →
      rb A.schTraceCtrl 31 d = false → it.src0 ≠ 1 → it.src0 ≠ 3 → it.src0 ≠ 10 →
      (q.used.length = 4096 → ∃ t, exec (.itemReady entry) s = .next t ∧ dropped it.flow t ∧
        rb A.schStat 2 t.dev = true ∧ t.dev.dsp.arrival = rest) ∧
      (q.used.length ≠ 4096 → dropsAt it d = true →
        ∃ t, exec (.itemReady entry) s = .next t ∧ dropped it.flow t ∧ t.dev.dsp.arrival = rest) ∧
      (q.used.length ≠ 4096 → flowEn it.flow d = true → flowWaiting it.flow d + 1 ≤ flowQmax it.flow d →
        entry.val ∉ q.used → banksReady (poolAddr entry d) d = true →
        ∃ t x, exec (.itemReady entry) s = .next t ∧ t.dev.dsp.arrival = rest ∧ t.dev.dsp.used = entry.val :: q.used ∧
          x = { it with entry := entry.val, fseq := tabGet zeroNat q.fseq it.flow, ready := d.now, rank := q.seq + 1 } ∧
          (∀ y, y ∈ t.dev.dsp.ready ↔ y = x ∨ y ∈ q.ready) ∧
          (∀ i < 32, memByte (poolAddr entry d + i) t.dev = (descriptor x d).getD i 0) ∧
          (∀ a, (a < poolAddr entry d ∨ poolAddr entry d + 128 ≤ a) → memByte a t.dev = memByte a d)))) ∧
  (∀ s : State,
    let d := s.dev
    let q := d.dsp
    let reach (it : Item) (c k : Nat) : Prop := c < 16 ∧ (flowGroup it.flow d).testBit c = true ∧ k < 10 ∧ ctxFree c k d = true
    let candidate (it : Item) : Prop := it ∈ q.ready ∧ eligible it d = true ∧ ∃ c k, reach it c k
    (dspOn d = true → inDoze d = false → q.assignedAt ≠ d.now + 1 → rb A.schTraceCtrl 31 d = false → (∃ it, candidate it) →
      ∃ t it c k, exec .itemAssignment s = .next t ∧ candidate it ∧ reach it c k ∧
        (∀ y, candidate y → ranksBefore y it d = false) ∧
        (∀ e < 16, (flowGroup it.flow d).testBit e = true → (freeCtxs e d).length ≤ (freeCtxs c d).length) ∧
        (∀ j < 10, ctxFree c j d = true → (getCtx (ctxKey c k) d).freeSince ≤ (getCtx (ctxKey c j) d).freeSince) ∧
        t.dev.dsp = { q with ready := q.ready.filter (fun x => decide (x ≠ it)), assignedAt := d.now + 1,
                             insvc := q.insvc ++ [⟨it, c, k, false, false, d.now, .serving, 0, 0, 0⟩] } ∧
        t.dev.regs = d.regs ∧ t.dev.mem = d.mem ∧ t.dev.ctxs = d.ctxs) ∧
    ((dspOn d = false ∨ inDoze d = true ∨ q.assignedAt = d.now + 1 ∨ ¬∃ it, candidate it) → exec .itemAssignment s = .next s))

/-- R223, R225, R227-R230, R232, R233: an item's way through a context. -/
def Obligations.SlotsAndRelease : Prop :=
  ∀ (c : Fin 16) (k : Fin 10) (entry : Fin 4096) (s : State),
    let d := s.dev
    let q := d.dsp
    let x := getCtx (ctxKey c k) d
    let slot := 0x0801FB00 + 0x40000 * c.val + 0x80 * k.val
    let gone (i : InSvc) (t : State) : Prop := t.dev.dsp.insvc = q.insvc.filter fun y => decide (y ≠ i)
    rb A.schTraceCtrl 31 d = false →
    (∀ i, heldItem c k d = some i → i.prefetched = false → d.sys.mode = .service →
      let pool := poolAddr i.item.entry d
      let byte (j : Nat) : Byte := if i.item.token = true then (descriptor i.item d).getD j 0
        else if j < 32 + i.item.headLen then memByte (pool + j) d else 0
      bankReady (42 + c) d = true →
      (i.item.token = true ∨ ((∀ r ∈ [0, 32, 64], banksReady (pool + r) d = true) ∧ badIn pool 96 d = none)) →
      ∃ t, exec (.prefetchDone c k) s = .next t ∧
        (∀ a, memByte a t.dev = if slot ≤ a ∧ a < slot + 96 then byte (a - slot) else memByte a d) ∧
        t.dev.regs = d.regs ∧
        (x.state ≠ .blocked → getCtx (ctxKey c k) t.dev = { x with pend := x.pend ||| 1 }) ∧
        (∀ r, x.state = .blocked → x.wait = .get r → r < 16 →
          (getCtx (ctxKey c k) t.dev).dr r = descWord0 i.item d ∧ (getCtx (ctxKey c k) t.dev).icyc = i.item.icyc ∧
          ∀ j, heldItem c k t.dev = some j → j.taken = true)) ∧
    (q.insvc.find? (fun i => releasable c k i d) = none → exec (.itemRelease c k entry) s = .next s) ∧
    (∀ i act target, q.insvc.find? (fun i => releasable c k i d) = some i →
      i.state = .done act target → d.sys.mode = .service →
      (act = 0 → i.item.src0 ≠ 1 → i.item.src0 ≠ 3 → i.item.src0 ≠ 10 →
        ∃ t, exec (.itemRelease c k entry) s = .next t ∧ gone i t ∧ t.dev.dsp.ready = q.ready ∧ t.dev.mem = d.mem ∧
          t.dev.dsp.used = if i.item.token then q.used else q.used.filter fun e => decide (e ≠ i.item.entry)) ∧
      (act = 1 → i.item.token = false → i.item.hops < 15 → flowEn target d = true →
        flowWaiting target d + 1 ≤ flowQmax target d →
        ∃ t it, exec (.itemRelease c k entry) s = .next t ∧ gone i t ∧ t.dev.dsp.used = q.used ∧
          (∀ y, y ∈ t.dev.dsp.ready ↔ y = it ∨ y ∈ q.ready) ∧
          it = { i.item with src := 9, flow := target, hops := i.item.hops + 1, ready := d.now, rank := q.seq + 1,
                             fseq := tabGet zeroNat q.fseq target })) ∧
    (∀ i, heldItem c k d = some i →
      let due := dspOn d = true ∧ inDoze d = false ∧ flowTmo i.item.flow d ≠ 0 ∧
        i.assigned + i.frozen + flowTmo i.item.flow d ≤ d.now / 40 * 40
      (¬due → exec (.flowTimeout c k) s = .next s) ∧
      (due → i.item.token = false → i.taken = true → q.orphans.length < 64 → ∃ t, exec (.flowTimeout c k) s = .next t ∧
        (getCtx (ctxKey c k) t.dev).pc = 0 ∧ rb A.schStat 3 t.dev = true ∧
        t.dev.dsp.orphans = q.orphans ++ [⟨1, c, k, false, i.item.entry⟩] ∧ t.dev.dsp.orphaned = q.orphaned ++ [i.item] ∧
        t.dev.dsp.used = q.used ∧ t.dev.mem = d.mem) ∧
      (due → i.item.token = false → i.taken = false → flowWaiting i.item.flow d + 1 ≤ flowQmax i.item.flow d →
        ∃ t, exec (.flowTimeout c k) s = .next t ∧ (getCtx (ctxKey c k) t.dev).pc = 0 ∧ t.dev.dsp.orphans = q.orphans ∧
          ∀ y, y ∈ t.dev.dsp.ready ↔ y = i.item ∨ y ∈ q.ready)) ∧
    (∀ i, q.insvc.find? (fun i => i.core = c.val && i.ctx = k.val && i.state = .revoked) = some i →
      (d.sys.mode = .service → storesDone c k i.bound d = true → ∃ t, exec (.revokedItemRelease c k) s = .next t ∧ gone i t ∧
        t.dev.dsp.ready = q.ready ∧ t.dev.regs = d.regs ∧ t.dev.mem = d.mem) ∧
      (d.sys.mode ≠ .service ∨ storesDone c k i.bound d = false → exec (.revokedItemRelease c k) s = .next s))

/-- R233, R235, R238, R239: the orphan queue and the observation registers. -/
def Obligations.OrphansAndObservation : Prop :=
  ∀ (m : Fin 20) (s : State), powered s.dev = true →
    let d := s.dev
    let q := d.dsp
    let pops := m.val = 0 ∨ m.val = 17 ∨ m.val = 18
    (q.orphans = [] → exec (.orphanPop m) s = .next { s with dev := giveRead m 0 d }) ∧
    (∀ o rest, q.orphans = o :: rest →
      (pops → exec (.orphanPop m) s =
        .next { s with dev := { giveRead m (orphanWord o) d with dsp := { q with orphans := rest } } }) ∧
      (m = 19 → exec (.orphanPop m) s = .next { s with dev := giveRead m (orphanWord o) d }) ∧
      (¬pops → m ≠ 19 → exec (.orphanPop m) s = .next { s with dev := giveRead m 0 d })) ∧
    (∀ (token : Bool) (n : Fin 4096),
      let names (it : Item) : Prop := it.token = token ∧ (if token then it.flow = n.val else it.entry = n.val)
      (m ≠ 0 → exec (.orphanFree m token n) s = .next s ∧ exec (.orphanRequeue m token n) s = .next s) ∧
      ((∀ it ∈ q.orphaned, ¬names it) → ∀ i ∈ [Instr.orphanFree 0 token n, .orphanRequeue 0 token n],
        ∃ t, exec i s = .next t ∧ t.dev.dsp = q ∧ t.dev.mem = d.mem ∧ ∀ a, rd a t.dev = rd a d) ∧
      (∀ it, q.orphaned = [it] → names it → token = false → it.src0 ≠ 1 → it.src0 ≠ 3 → it.src0 ≠ 10 →
        (∃ t, exec (.orphanFree 0 token n) s = .next t ∧ t.dev.dsp.orphaned = [] ∧ t.dev.dsp.orphans = q.orphans ∧
          t.dev.dsp.used = q.used.filter (fun e => decide (e ≠ n.val)) ∧ t.dev.dsp.ready = q.ready ∧
          rf A.schPoolLvl 12 0 t.dev = (4096 - (q.used.filter fun e => decide (e ≠ n.val)).length) % 8192) ∧
        (flowWaiting it.flow d + 1 ≤ flowQmax it.flow d → ∃ t, exec (.orphanRequeue 0 token n) s = .next t ∧
          t.dev.dsp.orphaned = [] ∧ t.dev.dsp.used = q.used ∧ t.dev.dsp.drops = q.drops ∧
          ∀ y, y ∈ t.dev.dsp.ready ↔ y = it ∨ y ∈ q.ready))) ∧
    (∀ v : Word, ∃ t, exec (.traceEnable m v) s = .next t ∧ rb A.schTraceCtrl 31 t.dev = bit v 31 ∧
      rf A.schTraceCtrl 7 0 t.dev = v.toNat % 256 ∧ t.dev.dsp = q ∧ t.dev.mem = d.mem ∧
      rd A.schTraceWp t.dev = if bit v 31 then word (rf A.schTraceRp 15 0 d) else rd A.schTraceWp d) ∧
    (d.now < q.winStart + statWindow d → exec .statisticsWindow s = .next s) ∧
    (q.winStart + statWindow d ≤ d.now → ∃ t, exec .statisticsWindow s = .next t ∧ t.dev.dsp = { q with winStart := d.now } ∧
      t.dev.mem = d.mem ∧ ∀ n < 16, let e := getCore n d
        rf (A.schEngStat n 0) 31 16 t.dev = e.maxDepth % 65536 ∧
        rd (A.schEngStat n 4) t.dev = word (if e.assigns = 0 then 0 else e.waitSum / e.assigns) ∧
        rd (A.schEngStat n 8) t.dev = word e.waitMax ∧ rf (A.schEngStat n 12) 31 16 t.dev = min e.assigns 0xFFFF ∧
        rf (A.schEngStat n 12) 6 0 t.dev = min 100 (100 * e.issued / max (d.now - q.winStart) 1) ∧
        (getCore n t.dev).issued = 0 ∧ (getCore n t.dev).assigns = 0)

/-- R255, R257-R259: firmware adjusts and captures the time bases. -/
def Obligations.TimeBaseAdjustment : Prop :=
  ∀ (m : Fin 20) (j : Fin 4) (v : Word) (s : State), powered s.dev = true → s.dev.ntm.tb.length = 4 →
    let d := s.dev
    let b := tbGet j d
    let st := A.ntmTb j 0x38
    let r (o : Nat) : Nat := (rd (A.ntmTb j o) d).toNat
    let denied := j = 0 ∧ role d = 1
    let others (t : State) : Prop := t.fuses = s.fuses ∧ t.dev.mem = d.mem ∧ ∀ i < 4, i ≠ j.val → tbGet i t.dev = tbGet i d
    let latched (i : Instr) (op : Nat) : Prop := ∃ t, exec i s = .next t ∧ others t ∧
      tbGet j t.dev = { b with step := b.step ++ [{
        op := op, sec := (r 0x28 % 65536) * 2 ^ 32 + r 0x24, ns := min (r 0x20 % 2 ^ 30) 999999999
        ofs := (rd (A.ntmTb j 0x30) d ++ rd (A.ntmTb j 0x2C) d).toInt, due := d.now + 4 }] }
    (denied → ∀ i ∈ [Instr.slewStart m j v, .stepToSet m j, .stepByOffset m j],
      ∃ t, exec i s = .next t ∧ t.dev.ntm = d.ntm ∧ rb st 3 t.dev = true ∧ t.dev.mem = d.mem ∧
        ∀ a, a ≠ st → rd a t.dev = rd a d) ∧
    (¬denied → ∃ t, exec (.slewStart m j v) s = .next t ∧ others t ∧
      tbGet j t.dev = { b with slew := v.toInt * 2 ^ 32 } ∧ rb st 0 t.dev = decide (v ≠ 0) ∧
      rd (A.ntmTb j 0x14) t.dev = v ∧ rd (A.ntmTb j 0x18) t.dev = v ∧
      ∀ a, a ∉ [A.ntmTb j 0x14, A.ntmTb j 0x18, st] → rd a t.dev = rd a d) ∧
    (¬denied → latched (.stepToSet m j) 1 ∧ latched (.stepByOffset m j) 2) ∧
    ((rb st 0 d = false ∨ b.slew ≠ 0) → exec (.slewDone j) s = .next s) ∧
    (rb st 0 d = true → b.slew = 0 → ∃ t, exec (.slewDone j) s = .next t ∧ t.dev.ntm = d.ntm ∧ t.dev.mem = d.mem ∧
      rb st 0 t.dev = false ∧ rb st 2 t.dev = true ∧ rf st 31 24 t.dev = (rf st 31 24 d + 1) % 256 ∧
      ∀ a, a ≠ st → rd a t.dev = rd a d) ∧
    (b.step = [] → exec (.stepTakesEffect j) s = .next s) ∧
    (∀ c rest, b.step = c :: rest →
      (d.now < c.due → exec (.stepTakesEffect j) s = .next s) ∧
      (c.due ≤ d.now → ∃ t, exec (.stepTakesEffect j) s = .next t ∧ others t ∧
        let n := tbGet j t.dev
        (c.op = 1 ∨ b.frac < 2 ^ 32 → n.frac = b.frac) ∧ n.epoch = (b.epoch + 1) % 65536 ∧ n.slew = 0 ∧ n.step = rest ∧
        (c.op = 1 → n.sec = c.sec ∧ n.ns = c.ns) ∧
        (c.op ≠ 1 → b.frac < 2 ^ 32 → n.ns < 1000000000 ∧ ((n.sec * 1000000000 + n.ns : Nat) : Int) =
          (((b.sec * 1000000000 + b.ns : Nat) : Int) + c.ofs) % (2 ^ 48 * 1000000000)) ∧
        rb st 0 t.dev = false ∧ rb st 1 t.dev = true ∧ rb st 2 t.dev = rb st 2 d)) ∧
    (∃ t, exec (.cap m v) s = .next t ∧ t.dev.ntm = d.ntm ∧ t.dev.mem = d.mem ∧
      ∀ i < 4, let b := tbGet i d
        if bit v 0 then rd (A.ntmTb i 0) t.dev = word b.ns ∧ rd (A.ntmTb i 4) t.dev = word b.sec ∧
          rd (A.ntmTb i 8) t.dev = word (b.epoch % 2 ^ 16 * 2 ^ 16 + b.sec / 2 ^ 32) ∧ rd (A.ntmTb i 12) t.dev = word b.frac
        else ∀ o ∈ [0, 4, 8, 12], rd (A.ntmTb i o) t.dev = rd (A.ntmTb i o) d)

/-- R267-R273, R276, R277: triggers and timed transmission. -/
def Obligations.TriggersAndTimedFrames : Prop :=
  ∀ (m : Fin 20) (k : Fin 64) (p : Fin 10) (cls : Fin 8) (v : Word) (s : State), powered s.dev = true →
    let d := s.dev
    let x := getTrig k d
    let cfg := rd (A.ntmTrig k 12) d
    let st := A.ntmTrig k 0x10
    let period := rd (A.ntmTrig k 8) d
    let others (t : State) : Prop := t.fuses = s.fuses ∧ (rb A.schTraceCtrl 31 d = false → t.dev.mem = d.mem) ∧
      t.dev.ntm.tb = d.ntm.tb ∧ ∀ i < 64, i ≠ k.val → getTrig i t.dev = getTrig i d
    (∃ t, exec (.targetLoad m k v) s = .next t ∧ others t ∧
      getTrig k t.dev = { x with target := v ++ rd (A.ntmTrig k 0) d, held := false, skipping := false }) ∧
    (trigFires k d = false → exec (.triggerFire k) s = .next s) ∧
    (trigFires k d = true → ∃ t, exec (.triggerFire k) s = .next t ∧ others t ∧ rb st 0 t.dev = true ∧
      (getTrig k t.dev).fired = d.now + 1 ∧ rb (A.ntmTrig k 12) 31 t.dev = decide (period ≠ 0) ∧
      (getTrig k t.dev).target = x.target + period.setWidth 64 ∧
      (trigAct k d = 0 → t.dev.dsp = d.dsp ∧ t.dev.pios = d.pios ∧ t.dev.ccs = d.ccs ∧ t.dev.swc = d.swc ∧
        ∀ i, i ≠ supKey → getCtx i t.dev = getCtx i d) ∧
      (trigAct k d = 1 → d.sys.mode = .service → rb A.schCtrl 0 d = true → d.dsp.arrival.length < 16 → d.dsp.waiting = [] →
        ∃ it, t.dev.dsp = { d.dsp with arrival := d.dsp.arrival ++ [it] } ∧ it.src = 6 ∧ it.flow = fld cfg 11 0 ∧
          it.arg = k ∧ it.head = []) ∧
      (trigAct k d = 2 → (∀ r w, (getCtx (ctxKey (fld cfg 7 4) (fld cfg 3 0)) d).wait ≠ .wfe r w) →
        (getCtx (ctxKey (fld cfg 7 4) (fld cfg 3 0)) t.dev).pend =
          ((getCtx (ctxKey (fld cfg 7 4) (fld cfg 3 0)) d).pend ||| 4)) ∧
      (trigAct k d = 3 → headOf (fld cfg 7 4) (fld cfg 2 0) d = none → rb st 3 t.dev = true ∧ t.dev.swc = d.swc)) ∧
    (headOf p cls d = none → exec (.timedLaunch p cls) s = .next s ∧ exec (.lateDiscard p cls) s = .next s) ∧
    (∀ c, headOf p cls d = some c →
      ((∀ l, c.launch = some l → launchDue p l d = false) → exec (.timedLaunch p cls) s = .next s) ∧
      (∀ l bs upd ign, c.launch = some l → launchDue p l d = true → d.swc.queues = [c] → swcOn d = true →
        (getEth p d).link = .up → isLate c d = false → mayStart c d = true → neverFits c d = false →
        (editTags c.frame p).length + 4 ≤ maxLen p d → c.frame.upset = false → c.paused = false →
        lineBytes c (startAt c d) d = .bytes bs upd ign →
        ∃ t, exec (.timedLaunch p cls) s = .next t ∧ t.fuses = s.fuses ∧ t.dev.mem = d.mem ∧
          t.dev.swc.queues = [{ c with started := true, line := bs, since := startAt c d }]) ∧
      ((swcOn d = false ∨ isLate c d = false ∨ (getEth p d).link = .hold) → exec (.lateDiscard p cls) s = .next s) ∧
      (swcOn d = true → isLate c d = true → (getEth p d).link ≠ .hold → d.swc.queues = [c] →
        ∃ t, exec (.lateDiscard p cls) s = .next t ∧ t.dev.swc.queues = [] ∧ rb (A.ntmPtp p 0x18) 1 t.dev = true ∧
          rf (A.ntmPtp p 0x30) 15 0 t.dev = min 0xFFFF (rf (A.ntmPtp p 0x30) 15 0 d + 1) ∧ t.dev.mem = d.mem ∧
          ((tsqOf p d).length < 32 → tsqOf p t.dev = tsqOf p d ++
            if c.frame.tsreq then [stampDisc (ethBase p d) c.frame.tsid d] else []))) ∧
    (let head := (tsqOf p d).head?.getD stampZero
     (m = 19 → exec (.tsqReadHead m p) s = .next { s with dev := giveRead m head.w0 d } ∧
       exec (.tsqReadLast m p) s = .next { s with dev := giveRead m (tsqLatch p d).w3 d }) ∧
     (m ≠ 19 → (∃ t, exec (.tsqReadHead m p) s = .next t ∧ tabGet zeroDefault t.dev.rdata m = head.w0 ∧
         tsqLatch p t.dev = head ∧ tsqOf p t.dev = tsqOf p d ∧ t.dev.regs = d.regs ∧ t.dev.mem = d.mem) ∧
       ∃ t, exec (.tsqReadLast m p) s = .next t ∧ tabGet zeroDefault t.dev.rdata m = (tsqLatch p d).w3 ∧
         tsqLatch p t.dev = tsqLatch p d ∧ t.dev.mem = d.mem ∧
         tsqOf p t.dev = if bit (tsqLatch p d).w3 23 then (tsqOf p d).tail else tsqOf p d))

/-- R284-R314: the Meridian bus in operation. TB_0 offsets follow notes/assumptions/68.md and 69.md (R314, DEDUCED); the end of a
frame is counted in whole macroticks (R300, notes/assumptions/130.md). -/
def Obligations.MeridianFrames : Prop :=
  (∀ (l : List Int) (a b c e : Int), a ≤ b → b ≤ c → c ≤ e →
    (l.Perm [a] → midpoint l = a) ∧ (l.Perm [a, b] → midpoint l = (a + b).tdiv 2) ∧ (l.Perm [a, b, c] → midpoint l = b) ∧
    (l.Perm [a, b, c, e] → midpoint l = (b + c).tdiv 2)) ∧
  (∀ (sl : Fin 1024) (s : State), slotOf (curCst s.dev) sl s.dev = none →
    (∀ rbA rbB : Bool, exec (.frameTransmit sl rbA rbB) s = .next s) ∧ exec (.receiveSlotEnd sl) s = .next s) ∧
  (∀ (ch : Fin 2) (sl : Fin 1024) (x : Slot) (s : State), slotOf (curCst s.dev) sl s.dev = some x →
    let d := s.dev
    let r := slotRx sl d
    let w := mapWord (curCst d) sl d
    let due := mrdRuns d = true ∧ mrdSends d = true ∧ d.mrd.node = .active ∧ d.mrd.silent = none ∧ x.owner = ownNode d ∧
      x.active (mrdCc d) = true ∧ sl.val ∉ d.mrd.sent ∧ x.start + cstAp (curCst d) d ≤ macrotick d
    let null := d.sys.mode = .twilight ∨ fld w 31 30 ≠ 1
    let cack : Bool := if role d = 2 then d.mrd.confirm && x.sync else d.mrd.cack
    (∀ rbA rbB : Bool, (¬due → exec (.frameTransmit sl rbA rbB) s = .next s) ∧
      (due → eclBad d = true → ∃ t, exec (.frameTransmit sl rbA rbB) s = .next t ∧ t.dev.mrd.node = .halt ∧
        rb A.mrdEclStat 1 t.dev = true ∧ t.dev.mem = d.mem) ∧
      (due → eclBad d = false → (x.sync = true → 16 ≤ x.plen) → ∃ t bs, exec (.frameTransmit sl rbA rbB) s = .next t ∧
        (let start := frameStart x d
         let line := lineBits bs
         let fin := start + line.length * mrdBit
         let win := (ownWindow sl d).getD (fin, fin)
         let sent := (Tx.mk start line win.1 win.2).passed
         t.dev.out = d.out ++ (if x.chan.testBit 0 ∧ chanOn 0 d = true ∧ sent ≠ [] then [.meridian 0 sent] else []) ++
          (if x.chan.testBit 1 ∧ chanOn 1 d = true ∧ sent ≠ [] then [.meridian 1 sent] else [])) ∧
        bs.length = 10 + x.plen ∧ bs.drop (6 + x.plen) = leBytes 4 (crc32c (bs.take (6 + x.plen))) ∧
        bs.take 6 = [8 * ownNode d + x.typ, sl.val % 256, 4 * mrdCc d + sl.val / 256, x.plen,
          32 * curCst d + 16 * x.sync.toNat + 4 * (decide null).toNat + 2 * cack.toNat +
            (decide (d.sys.mode = .twilight)).toNat,
          32 * mrdNext d + if role d = 2 ∧ x.sync = true then d.mrd.rstn else 0].map (BitVec.ofNat 8) ∧
        t.dev.mrd.sent = sl.val :: d.mrd.sent ∧ t.dev.mem = d.mem ∧ t.dev.img.pages = d.img.pages ∧
        (x.chan = 3 → rbA = true → rbB = true → rd A.mrdEclStat t.dev = rd A.mrdEclStat d) ∧
        (chanOn 0 d = true → x.chan.testBit 0 = true → rbA = false → rb A.mrdEclStat 3 t.dev = true))) ∧
    (∀ (bits : List Bool) (arr : Int), holdsTimeline d = true → chanOn ch d = true →
      x.owner ≠ ownNode d → x.active (mrdCc d) = true → r.ended = false →
      let bs := (lineDecode bits).getD []
      let h := rxHdr bs
      let dev := arr - 4 * (mrdProp d : Int)
      let inWin := -80 ≤ dev ∧ dev ≤ 80
      let clean : Bool := (lineDecode bits).isSome && endsInSlot x dev (bs.length + 2) d
      let ok := inWin ∧ clean = true ∧ rxCrcOk bs = true ∧ (hdrOk x h d || dawnOk x h d) = true
      let at_ := mtInstant (x.start + cstAp (curCst d) d) d + arr * 2 ^ 30
      let copy : RxCopy := ⟨ch, dev, at_, at_ + (bs.length + 2 : Nat) * eclTick, bs⟩
      let run := exec (.frameCopyReceived ch sl bits arr) s
      let same (t : State) : Prop := t.dev.mem = d.mem ∧ t.dev.img = d.img ∧ t.dev.dsp = d.dsp ∧ t.dev.ntm = d.ntm
      let counts (o hi lo : Nat) : Prop := ∃ t, run = .next t ∧ same t ∧ t.dev.mrd.devs = d.mrd.devs ∧
        (slotRx sl t.dev).accepted = r.accepted ∧ (slotRx sl t.dev).held = r.held ∧
        rf (A.mrdChCnt ch o) hi lo t.dev = min 0xFFFF (rf (A.mrdChCnt ch o) hi lo d + 1)
      (¬inWin → counts 8 31 16) ∧ (inWin → clean = false → counts 4 15 0) ∧
      (inWin → clean = true → rxCrcOk bs = false → counts 4 31 16) ∧
      (inWin → clean = true → rxCrcOk bs = true → (hdrOk x h d || dawnOk x h d) = false → counts 8 15 0) ∧
      (ok → ∃ t, run = .next t ∧
        rd (A.mrdChCnt ch 0) t.dev = rd (A.mrdChCnt ch 0) d + 1 ∧
        (slotRx sl t.dev).aOk = (r.aOk || ch == 0) ∧ (slotRx sl t.dev).bOk = (r.bOk || ch == 1) ∧
        (∀ first, r.accepted = some first → same t ∧ (slotRx sl t.dev).accepted = some first ∧
          (slotRx sl t.dev).dis = (r.dis || first != bs)) ∧
        (r.accepted = none → r.held = none → same t ∧ (slotRx sl t.dev).accepted = none ∧
          (slotRx sl t.dev).held = some copy) ∧
        (∀ other, r.accepted = none → r.held = some other →
          let c := if copy.first other then copy else other
          let h := rxHdr c.bs
          let data := if x.sync then (rxPayload c.bs).drop 16 else rxPayload c.bs
          let g := fld w 13 0
          (slotRx sl t.dev).accepted = some c.bs ∧ (slotRx sl t.dev).held = none ∧
          (slotRx sl t.dev).dis = (r.dis || other.bs != bs) ∧ (rb A.schTraceCtrl 31 d = false → t.dev.mem = d.mem) ∧
          rb A.mrdRackFail h.node t.dev = h.fail ∧
          (h.fail = true → rb A.mrdRackAct h.node t.dev = false ∧ rb A.mrdNodeStat 4 t.dev = true) ∧
          (h.null = true ∨ h.fail = true ∨ h.dawn = true ∨ d.sys.mode ≠ .service ∨ fld w 31 30 = 0 →
            t.dev.img = d.img ∧ t.dev.dsp = d.dsp) ∧
          (h.null = false → h.fail = false → h.dawn = false → d.sys.mode = .service →
            (fld w 31 30 = 1 → t.dev.dsp = d.dsp) ∧ (fld w 31 30 = 2 → t.dev.img = d.img) ∧
            (bit w 30 = true → (∀ j < data.length, g + j / 8 < 16384 ∧ fld (producer (g + j / 8) d) 31 16 = 0x2000 + sl.val ∧
                banksReady (0x06000000 + 8 * (g + j / 8)) d = true) →
              ∀ j < data.length, (openGran (g + j / 8) t.dev).extractLsb' (8 * (j % 8)) 8 = data.getD j 0) ∧
            (bit w 31 = true → rb A.schCtrl 0 d = true → d.dsp.arrival.length < 16 → d.dsp.waiting = [] →
              ∃ it, t.dev.dsp = { d.dsp with arrival := d.dsp.arrival ++ [it] } ∧ it.src = 2 ∧ it.flow = fld w 25 14 ∧
                it.arg = sl ∧ it.head = data.take 64 ∧ it.len = data.length ∧
                it.buf = if bit w 30 then word (0x06020000 + 8 * g) else 0)) ∧
          (h.sync = false → t.dev.ntm = d.ntm ∧ t.dev.mrd.devs = d.mrd.devs) ∧
          (h.sync = true → t.dev.mrd.syncSeen = true ∧
            t.dev.mrd.devs = (if d.mrd.devs.any (fun y => y.node = h.node) then d.mrd.devs else d.mrd.devs ++ [⟨h.node, c.dev⟩]) ∧
            (role d ≠ 1 ∨ h.fail = true → t.dev.ntm = d.ntm) ∧
            (role d = 1 → h.fail = false → d.mrd.tbBest = none → d.ntm.tb.length = 4 →
              let k := carriedTime c.bs
              let b := tbGet 0 d
              let b' := tbGet 0 t.dev
              (k.epoch = b.epoch ∨ h.node ≠ 0 → t.dev.ntm = d.ntm) ∧
              rd A.mrdTb0Ofs t.dev =
                BitVec.ofInt 32 (k.ns64 + BitVec.ofNat 64 (mrdProp d) - (tbInstant 0 c.arr d).ns64).toInt ∧
              (k.epoch ≠ b.epoch → h.node = 0 → k.ns < 1000000000 → b'.epoch = k.epoch ∧ b'.frac = b.frac ∧ b'.slew = 0 ∧
                ((b'.sec * 1000000000 + b'.ns : Nat) : Int) =
                (((k.sec * 1000000000 + k.ns : Nat) : Int) + (instant d - c.arr) / 2 ^ 32) % (2 ^ 48 * 1000000000))))))) ∧
    (let ends := holdsTimeline d = true ∧ x.start + x.len ≤ macrotick d + 1 ∧ r.ended = false ∧ x.owner ≠ ownNode d ∧
       x.active (mrdCc d) = true
     let f (i : Nat) : Bool := r.accepted.any fun b => (b.getD 4 0).toNat.testBit i
     (∀ c, ends → d.mrd.slots = [r] → r.held = some c → ∃ t, exec (.receiveSlotEnd sl) s = .next t ∧
       (slotRx sl t.dev).ended = true ∧ (slotRx sl t.dev).held = none ∧ (slotRx sl t.dev).accepted = some c.bs) ∧
     ((∀ y ∈ d.mrd.slots, y.held = none) → (¬ends → exec (.receiveSlotEnd sl) s = .next s) ∧
     (ends → ∃ t, exec (.receiveSlotEnd sl) s = .next t ∧ t.dev.mem = d.mem ∧ t.dev.img = d.img ∧ t.dev.dsp = d.dsp ∧
       (slotRx sl t.dev).ended = true ∧
       (∀ c : Fin 2, rf (A.mrdChCnt c 12) 31 16 t.dev =
         let n := rf (A.mrdChCnt c 12) 31 16 d
         if x.chan.testBit c ∧ (if c = 0 then r.aOk else r.bOk) = false then min 0xFFFF (n + 1) else n) ∧
       tabGet zeroDefault t.dev.tabs (tabKey 20 sl) =
         word (r.aOk.toNat * 2 ^ 31 + r.bOk.toNat * 2 ^ 30 + r.dis.toNat * 2 ^ 29 + r.hdr.toNat * 2 ^ 28 +
           (f 2).toNat * 2 ^ 27 + (f 0).toNat * 2 ^ 26 + mrdCc d * 2 ^ 20))))) ∧
  (∀ (m : Fin 20) (v : Word) (s : State), powered s.dev = true →
    let d := s.dev
    let p := v.toNat % 8
    let same (t : State) : Prop := t.dev.mem = d.mem ∧ t.dev.mrd = d.mrd
    (role d ≠ 2 ∨ (p ≠ curCst d ∧ cstValid p d = false) →
      ∃ t, exec (.constellationProposal m v) s = .next t ∧ same t ∧ rb A.mrdStat 1 t.dev = true) ∧
    (role d = 2 → p ≠ curCst d → cstValid p d = true → ∃ t, exec (.constellationProposal m v) s = .next t ∧
      t.dev.mrd = { d.mrd with request := if d.mrd.proposal = some p then none else some p } ∧ rb A.mrdStat 9 t.dev = true ∧
      mrdNext t.dev = mrdNext d ∧ t.dev.mem = d.mem) ∧
    (role d = 2 → p = curCst d → ∀ i ∈ [Instr.constellationProposal m v, .constellationWithdrawal m],
      ((d.mrd.confirm && confirmSent d) = true → ∃ t, exec i s = .next t ∧ same t ∧ rb A.mrdStat 7 t.dev = true) ∧
      ((d.mrd.confirm && confirmSent d) = false → ∃ t, exec i s = .next t ∧ t.dev.mem = d.mem ∧
        t.dev.mrd = { d.mrd with request := none, proposal := none, confirm := false } ∧ rb A.mrdStat 9 t.dev = false ∧
        mrdNext t.dev = curCst d)) ∧
    (role d ≠ 2 → ∃ t, exec (.constellationWithdrawal m) s = .next t ∧ same t ∧ rb A.mrdStat 1 t.dev = true)) ∧
  (∀ s : State, (∀ y ∈ s.dev.mrd.slots, y.held = none) → (∀ b, s.dev.mrd.tbBest = some b → b.step = none) →
    let d := s.dev
    let due := holdsTimeline d = true ∧ d.mrd.node ≠ .dawn ∧ mrdCc d % 2 = 1 ∧ d.mrd.corrected = false ∧
      cstNit (curCst d) d ≤ macrotick d
    let n := d.mrd.devs.length
    let o := midpoint (d.mrd.devs.map (·.dev))
    let far := ofsLim d < (o.natAbs : Int)
    let pairs := pairDiffs d.mrd
    let fast := pairs ≠ [] ∧ rateOver (newRate d) d = true
    let bad := n = 0 ∨ far ∨ fast
    (¬due → exec .clockCorrection s = .next s) ∧
    (due → ∃ t, exec .clockCorrection s = .next t ∧ t.dev.mem = d.mem ∧ rf A.mrdSyncStat 15 13 t.dev = min n 7 ∧
      (n = 0 → rb A.mrdStat 4 t.dev = true ∧ rd A.mrdMtRate t.dev = rd A.mrdMtRate d) ∧
      (n ≠ 0 → rf A.mrdSyncStat 31 16 t.dev = wrapInt 16 o ∧ (far ∨ fast → rb A.mrdStat 5 t.dev = true) ∧
        rd A.mrdMtRate t.dev = if pairs ≠ [] ∧ rateOver (newRate d) d = false then BitVec.ofInt 32 (newRate d)
          else rd A.mrdMtRate d) ∧
      (¬bad → t.dev.mrd.node = d.mrd.node ∧ t.dev.mrd.corrected = true ∧ t.dev.mrd.ofs = o * 2 ^ 30 ∧
        t.dev.mrd.badPairs = 0) ∧
      (bad → (d.mrd.node ≠ .active ∨ d.mrd.badPairs = 0) → t.dev.mrd.node = d.mrd.node ∧ t.dev.mrd.corrected = true ∧
        t.dev.mrd.ofs = if n = 0 ∨ far then d.mrd.ofs else o * 2 ^ 30) ∧
      (bad → d.mrd.node = .active → d.mrd.badPairs ≠ 0 → rb A.mrdNodeStat 5 t.dev = true ∧
        t.dev.mrd.node = if d.sys.mode = .twilight then .halt else .listen) ∧
      (∀ k q, role d = 1 → d.mrd.tbBest = some ⟨k, q, none⟩ → d.ntm.tb.length = 4 →
        tbGet 0 t.dev = { tbGet 0 d with slew := q * 2 ^ 32 } ∧
        ∀ e, d.mrd.evenOfs = some e → rd (A.ntmTb 0 0x10) t.dev = BitVec.ofInt 32 ((rd (A.ntmTb 0 0x10) d).toInt +
          openDiv ((q - e) * 2 ^ 32) ((16 * cstCycle (curCst d) d : Nat) : Int))) ∧
      (role d ≠ 1 → t.dev.ntm = d.ntm)))

/-- R318-R340: how a node joins and leaves. That Eclipse's copy holds entry 0 of the START Constellation is the model's choice
(notes/assumptions/70.md). -/
def Obligations.MeridianRoles : Prop :=
  ∀ (m : Fin 20) (v : Word) (s : State),
    let d := s.dev
    let k := startCst d
    let own := ownNode d
    let runs := mrdRuns d = true
    let opens (t : State) : Prop := t.dev.mrd.node = .dawn ∧ curCst t.dev = k ∧ mrdNext t.dev = k ∧ mrdCc t.dev = 0 ∧
      t.dev.mrd.bound = instant d ∧ macrotick t.dev = 0 ∧ t.dev.mrd.opened = true ∧ t.dev.mrd.dawnSent = false ∧
      t.dev.mem = d.mem ∧ t.dev.img = d.img
    let halts (t : State) : Prop := t.dev.mrd.node = .halt ∧ rd A.mrdRackAct t.dev = 0 ∧ t.dev.mem = d.mem
    let fails (t : State) : Prop := halts t ∧ rb A.mrdEclStat 1 t.dev = true ∧
      (rb A.safStat 0 d = false → t.dev.saf.reports = d.saf.reports ++ [⟨0x49, 8, 0, 0⟩])
    let slot0 := cstEntry k 0 d
    (let due := runs ∧ mrdSends d = true ∧ d.mrd.node = .listen ∧ cstCold k own d = true ∧
       d.mrd.listenStart * tickUnit + listenLto d * cstCycle k d * mtUnit d ≤ instant d
     (¬due → exec .listenTimeout s = .next s) ∧
     (due → ∃ t, exec .listenTimeout s = .next t ∧ opens t ∧ t.dev.mrd.dawnCycles = 0)) ∧
    (∀ (ch : Fin 2) (bits : List Bool) (ago : Nat),
      let run := exec (.listenFrameAccept ch bits ago) s
      (¬runs ∨ chanOn ch d = false ∨ lineDecode bits = none → run = .next s) ∧
      (∀ bs, runs → chanOn ch d = true → lineDecode bits = some bs →
        let h := rxHdr bs
        let takes := listenOk bs d = true ∧ (d.mrd.node = .listen ∨ d.mrd.node = .backoff ∨
          (d.mrd.node = .dawn ∧ h.dawn = true ∧ h.node < own))
        (takes → ∃ t, run = .next t ∧ t.dev.mrd.node = .integrating ∧ curCst t.dev = h.cst ∧ mrdCc t.dev = h.cc ∧
          (∀ x, slotOf h.cst h.slot d = some x → t.dev.mrd.bound = instant d - ago * 2 ^ 30 - mrdProp d * 2 ^ 32 -
            ((x.start + cstAp h.cst d : Nat) : Int) * mtUnit d) ∧ t.dev.mem = d.mem ∧ t.dev.img = d.img) ∧
        (¬takes → d.mrd.node = .listen → run = .next { s with dev := { d with mrd := { d.mrd with listenStart := d.now } } }) ∧
        (¬takes → d.mrd.node ≠ .listen → run = .next s))) ∧
    (∀ rbA rbB : Bool,
      let due := runs ∧ mrdSends d = true ∧ d.mrd.node = .dawn ∧ d.mrd.dawnSent = false ∧
        slot0.start + cstAp k d ≤ macrotick d
      let start := frameStart slot0 d
      let bs := frameBytes own 0 0 (mrdCc d) k true true true false false k 0 (timeField start d)
      let win := eclipseWindow (cstEntry k 0 (eclipseView d)) d
      let sent := (Tx.mk start (lineBits bs) win.1 win.2).passed
      (¬due → exec (.dawnFrame rbA rbB) s = .next s) ∧
      (due → eclBad d = true → ∃ t, exec (.dawnFrame rbA rbB) s = .next t ∧ fails t) ∧
      (due → eclBad d = false → ∃ t, exec (.dawnFrame rbA rbB) s = .next t ∧ t.dev.mrd.dawnSent = true ∧
        t.dev.mrd.node = .dawn ∧ t.dev.mrd.dawnBack = ((chanOn 0 d && rbA) || (chanOn 1 d && rbB)) ∧
        bs.take 6 = [8 * own, 0, 4 * mrdCc d, 16, 32 * k + 28, 32 * k].map (BitVec.ofNat 8) ∧ bs.length = 26 ∧
        t.dev.out = d.out ++ (if chanOn 0 d = true ∧ sent ≠ [] then [.meridian 0 sent] else []) ++
          (if chanOn 1 d = true ∧ sent ≠ [] then [.meridian 1 sent] else []) ∧
        t.dev.regs = d.regs ∧ t.dev.mem = d.mem)) ∧
    (let due := runs ∧ d.mrd.node = .dawn ∧ d.mrd.dawnSent = true ∧ d.mrd.dawnBack = false ∧
       slot0.start + slot0.len ≤ macrotick d + 1
     (¬due → exec .dawnCollision s = .next s) ∧
     (due → ∃ t, exec .dawnCollision s = .next t ∧ t.dev.mrd.node = .backoff ∧ rb A.mrdNodeStat 0 t.dev = true ∧
       t.dev.mrd.backoffEnd = d.mrd.bound +
         ((slot0.start + slot0.len + (own + 1) * rf A.mrdDawnCfg 9 0 d : Nat) : Int) * mtUnit d ∧ t.dev.mem = d.mem)) ∧
    (let due := runs ∧ mrdSends d = true ∧ d.mrd.node = .backoff ∧ d.mrd.backoffEnd ≤ instant d
     (¬due → exec .backoffExpiry s = .next s) ∧ (due → ∃ t, exec .backoffExpiry s = .next t ∧ opens t)) ∧
    (let due := runs ∧ d.mrd.node = .dawn ∧ dawnDcyc d ≤ d.mrd.dawnCycles
     (¬due → exec .dawnGiveUp s = .next s) ∧
     (due → own = 0 → ∃ t, exec .dawnGiveUp s = .next t ∧ t.dev.mrd.node = .active ∧ rb A.mrdRackAct 0 t.dev = true ∧
       rb A.mrdNodeStat 3 t.dev = true ∧ t.dev.mem = d.mem) ∧
     (due → own ≠ 0 → ∃ t, exec .dawnGiveUp s = .next t ∧ t.dev.mrd.node = .listen ∧ t.dev.mrd.listenStart = d.now ∧
       t.dev.mem = d.mem)) ∧
    (∀ flips : List (Nat × Word),
      let run := exec (.eclipseScheduleCopy flips) s
      let differs := (eclipseCopy flips d).map (fun x => (x.idx, x.word)) ≠ eclipseWords d
      let holds (t : State) (i c w : Nat) : Prop := (⟨i, cstWord c w d, byteParity (cstWord c w d)⟩ : EclWord) ∈ t.dev.mrd.ecl
      (¬runs → run = .next s) ∧
      (runs → flips = [] → ∃ t, run = .next t ∧
        (∀ c < 8, ∀ w < 16, holds t (0x800 * c + w) c w) ∧
        (∀ c < 8, ∀ e < 256, ∀ w < 4, (cstEntry c e d).owner = own →
          holds t (0x800 * c + 16 + 4 * e + w) c (16 + 4 * e + w))) ∧
      (runs → ¬differs → ∃ t, run = .next t ∧ t.dev.mrd = { d.mrd with ecl := eclipseCopy flips d } ∧
        t.dev.regs = d.regs ∧ t.dev.saf = d.saf ∧ t.dev.mem = d.mem) ∧
      (runs → differs → ∃ t, run = .next t ∧ fails t)) ∧
    (∀ n : Fin 1024,
      let out := n.val < 384 ∨ 416 < n.val
      (¬runs → exec (.eclipseRcWindow n) s = .next s) ∧
      (runs → ∃ t, exec (.eclipseRcWindow n) s = .next t ∧ t.dev.mrd.rcBad = decide out ∧
        rf A.mrdEclStat 23 16 t.dev = (n.val + 112) % 256 ∧
        (¬(out ∧ d.mrd.rcBad = true) → t.dev.mrd.node = d.mrd.node ∧ t.dev.saf = d.saf) ∧
        (out → d.mrd.rcBad = true → fails t))) ∧
    (let acts := runs ∧ ∃ p ∈ d.mrd.tx, p.2.trips (instant d) = true
     (¬acts → exec .guardianTruncation s = .next s) ∧
     (acts → ∃ t, exec .guardianTruncation s = .next t ∧ rb A.mrdEclStat 2 t.dev = true ∧ t.dev.mem = d.mem ∧
       (∀ p ∈ t.dev.mrd.tx, p.2.trips (instant d) = false) ∧
       t.dev.mrd.node = if d.mrd.node ≠ .active then d.mrd.node else if d.sys.mode = .twilight then .halt else .listen)) ∧
    (powered d = true →
      (m ≠ 0 → exec (.mrdHalt m v) s = .next s) ∧
      (m = 0 → v.toNat / 65536 = 0x0A1E → bit v 0 = true → ∃ t, exec (.mrdHalt m v) s = .next t ∧ halts t) ∧
      (m = 0 → v.toNat / 65536 ≠ 0x0A1E ∨ bit v 0 = false →
        ∃ t, exec (.mrdHalt m v) s = .next t ∧ t.dev.mrd = d.mrd ∧ t.dev.mem = d.mem) ∧
      (v.toNat / 65536 ≠ 0x0B5A → exec (.remoteResetRequest m v) s = .next s) ∧
      (v.toNat / 65536 = 0x0B5A → role d = 2 → v.toNat % 32 ≠ 0 → ∃ t, exec (.remoteResetRequest m v) s = .next t ∧
        t.dev.mrd = { d.mrd with rstReq := some (v.toNat % 32) } ∧ t.dev.mem = d.mem) ∧
      (v.toNat / 65536 = 0x0B5A → role d ≠ 2 ∨ v.toNat % 32 = 0 → ∃ t, exec (.remoteResetRequest m v) s = .next t ∧
        t.dev.mrd = d.mrd ∧ rb A.mrdNodeStat 7 t.dev = true ∧ t.dev.mem = d.mem))

/-- R342-R357: the ports. LINK_CHG on PORT_DISABLE follows the description of ETH_STAT (R357). -/
def Obligations.EthernetPorts : Prop :=
  ∀ (m : Fin 20) (p : Fin 10) (s : State),
    let d := s.dev
    let e := getEth p d
    let st := A.ethStat p
    let en := rb (A.ethCtrl p) 15 d
    let gone (t : State) : Prop := ∀ c ∈ t.dev.swc.queues, c.port ≠ p.val
    let others (t : State) : Prop := t.fuses = s.fuses ∧ t.dev.mem = d.mem ∧ t.dev.dsp = d.dsp ∧
      ∀ q < 10, q ≠ p.val → getEth q t.dev = getEth q d
    (powered d = true →
      (d.sys.mode = .twilight → en = false → exec (.portEnable m p) s = .next s) ∧
      (d.sys.mode ≠ .twilight → en = false → ∃ t, exec (.portEnable m p) s = .next t ∧ others t ∧
        getEth p t.dev = { e with link := .down, lane := false } ∧ rb (A.ethCtrl p) 15 t.dev = true ∧ t.dev.swc = d.swc) ∧
      (en = true → ∃ t, exec (.portDisable m p) s = .next t ∧ others t ∧ getEth p t.dev = { e with link := .off, lane := false } ∧
        rb (A.ethCtrl p) 15 t.dev = false ∧ gone t ∧ rf (A.ethMmStat p) 2 0 t.dev = 0 ∧
        (e.link = .up → rb st 0 t.dev = true))) ∧
    (∀ phy : Fin 3,
      let comes := d.sys.mode = .service ∧ (e.link = .down ∨ e.link = .hold) ∧ (e.lane = true ∨ ethRgmii p d = true)
      (¬comes → exec (.linkUp p phy) s = .next s) ∧
      (comes → ∃ t, exec (.linkUp p phy) s = .next t ∧ others t ∧ rb st 0 t.dev = true ∧
        (underWay p d = [] → getEth p t.dev =
          { e with link := .up, speed := runSpeed p phy d, verify := 0, verifyLast := 0 }) ∧
        (d.swc.queues = [] → t.dev.swc.queues = []))) ∧
    (let hold := rf (A.ethHold p) 15 0 d
     let lost := d.sys.mode = .service ∧ e.link = .up
     let expires := d.sys.mode = .service ∧ e.link = .hold ∧ e.holdEnd ≤ d.now
     (¬lost → exec (.linkDown p) s = .next s) ∧
     (lost → hold = 0 → ∃ t, exec (.linkDown p) s = .next t ∧ others t ∧ getEth p t.dev = { e with link := .down } ∧
       gone t ∧ underWay p t.dev = [] ∧ rb st 0 t.dev = true) ∧
     (lost → hold ≠ 0 → ∃ t, exec (.linkDown p) s = .next t ∧ others t ∧ rb st 0 t.dev = true ∧
       getEth p t.dev = { e with link := .hold, holdEnd := d.now + 400 * hold } ∧ underWay p t.dev = [] ∧
       (underWay p d = [] → t.dev.swc.queues = d.swc.queues)) ∧
     (¬expires → exec (.linkHoldExpiry p) s = .next s) ∧
     (expires → ∃ t, exec (.linkHoldExpiry p) s = .next t ∧ others t ∧ getEth p t.dev = { e with link := .down } ∧
       (underWay p d = [] → gone t))) ∧
    (∀ (q : Fin 8) (answered : Bool), q.val = p.val →
      let v := rf (A.ethMmStat p) 2 0 d
      let due := d.sys.mode = .service ∧ e.link = .up ∧ (v = 1 ∨ v = 2) ∧ (e.verify = 0 ∨ e.verifyLast + 4000000 ≤ d.now)
      (¬due → exec (.verifyFrame q answered) s = .next s) ∧
      (due → e.verify < 3 → ∃ t, exec (.verifyFrame q answered) s = .next t ∧ others t ∧
        getEth p t.dev = { e with verify := e.verify + 1, verifyLast := d.now } ∧
        rf (A.ethMmStat p) 2 0 t.dev = if answered then 3 else 2) ∧
      (due → 3 ≤ e.verify → ∃ t, exec (.verifyFrame q answered) s = .next t ∧ others t ∧ getEth p t.dev = e ∧
        rf (A.ethMmStat p) 2 0 t.dev = 4)) ∧
    (∀ (bs : List Byte) (fcs code merge : Bool) (frags ago : Nat),
      let run := exec (.ethFrameReceive p bs fcs code merge frags ago) s
      let runt := bs.length + 4 < 64
      let giant := maxLen p d < bs.length + 4
      let cnt (o : Nat) (t : State) : Prop := rd (A.ethCnt p o) t.dev = rd (A.ethCnt p o) d + 1
      let counts (o : Nat) (c : Bool) (t : State) : Prop :=
        rd (A.ethCnt p o) t.dev = rd (A.ethCnt p o) d + if c then 1 else 0
      let stamp := ethStamp p e.rseq (ingressTb p (ethBase p d) ago d) d
      let good := d.sys.mode = .service ∧ e.link = .up ∧ merge = false ∧ ¬runt ∧ code = false ∧ ¬giant ∧ fcs = true
      let takes (t : State) : Prop := run = .next t ∧ cnt 0 t ∧ t.fuses = s.fuses ∧
        getEth p t.dev = { e with rxBytes := e.rxBytes + BitVec.ofNat 64 (bs.length + 4), rseq := (e.rseq + 1) % 65536 }
      (d.sys.mode ≠ .service ∨ (e.link ≠ .up ∧ (code = false ∨ (e.link = .off ∧ cutFrame p d = none))) → run = .next s) ∧
      (d.sys.mode = .service → (e.link = .up ∨ (code = true ∧ e.link ≠ .off)) → cutFrame p d = none →
        merge = true ∨ runt ∨ giant ∨ code = true ∨ fcs = false → ∃ t, run = .next t ∧ others t ∧ getEth p t.dev = e ∧
          t.dev.swc = d.swc ∧ counts 0 false t ∧ counts 0x50 merge t ∧ counts 0x0C (!merge && decide runt) t ∧
          counts 0x18 (!merge && code) t ∧ counts 0x14 (!merge && decide giant) t ∧
          counts 0x10 (!merge && !decide giant && !fcs) t) ∧
      (good → verdict p bs d = .control → ∃ t, takes t ∧ others t ∧ t.dev.swc = d.swc ∧ cnt 0x1C t) ∧
      (good → verdict p bs d = .drop → ∃ t, takes t ∧ others t ∧ t.dev.swc = d.swc ∧ cnt 0x20 t) ∧
      (good → cutFrame p d = none → (verdict p bs d = .trap ∨ verdict p bs d = .action true none) →
        ∃ t f, takes t ∧ others t ∧ t.dev.swc = { d.swc with inbound := d.swc.inbound ++ [f], nextId := d.swc.nextId + 1 } ∧
          f.bytes = bs ∧ f.port = p ∧ f.good = true ∧ f.trap = decide (verdict p bs d = .trap) ∧ f.stamp = stamp) ∧
      (∀ q : Fin 16, good → verdict p bs d = .action false (some q.val) →
        let r := 16 * p.val + q.val
        let x := getRing r d
        (ringEn r d = false → ∃ t, takes t ∧ others t ∧ cnt 0x20 t) ∧
        (ringEn r d = true → x.failed = true → ∃ t, takes t ∧ others t ∧ cnt 0x24 t) ∧
        (ringEn r d = true → x.failed = false → takeBuf r d = none → ∃ t, takes t ∧ others t ∧ cnt 0x24 t ∧
          rb st 1 t.dev = true) ∧
        (∀ i a, ringEn r d = true → x.failed = false → (takeBuf r d).map (·.1) = some i → a = bufAddr r i d →
          bs.length + 16 ≤ ringSize r d → macWriteFail a (16 + bs.length) d = none → rb A.schCtrl 0 d = true →
          d.dsp.arrival.length < 16 → d.dsp.waiting = [] →
          ∃ t it, takes t ∧ t.dev.swc = d.swc ∧ ringFree r t.dev + 1 = ringFree r d ∧
            t.dev.dsp = { d.dsp with arrival := d.dsp.arrival ++ [it] } ∧ it.src = 1 ∧ it.flow = rf (ringCtl r) 11 0 d ∧
            it.arg = 256 * p.val + q.val ∧ it.buf = word a ∧ it.len = bs.length ∧ it.head = bs.take 64 ∧
            ∀ b, memByte b t.dev = if a + 16 ≤ b ∧ b < a + 16 + bs.length then bs.getD (b - a - 16) 0
              else if a ≤ b ∧ b < a + 16 then stamp.bytes.getD (b - a) 0 else memByte b d))) ∧
    (∀ bad : Bool,
      (onLine p d = none ∨ d.sys.mode ≠ .service ∨ e.link ≠ .up → exec (.ethTransmitEnd p bad) s = .next s) ∧
      (∀ c, onLine p d = some c → c.cut = true → exec (.ethTransmitEnd p bad) s = .next s) ∧
      (∀ c, d.swc.queues = [c] → c.port = p → c.started = true → c.cut = false → c.paused = false →
        d.sys.mode = .service → e.link = .up →
        let line := c.line ++ List.replicate (60 - c.line.length) 0
        let ok := c.frame.good && !bad
        ∃ t, exec (.ethTransmitEnd p bad) s = .next t ∧ t.fuses = s.fuses ∧ t.dev.mem = d.mem ∧ t.dev.dsp = d.dsp ∧
          t.dev.swc.queues = [] ∧
          t.dev.out = d.out ++ [.eth p (line ++ leBytes 4 (if ok then crc32 line else crc32 line ^^^ 0xFFFFFFFF)) ok] ∧
          rd (A.ethCnt p 0x30) t.dev = rd (A.ethCnt p 0x30) d + (if ok then 1 else 0) ∧
          getEth p t.dev = { e with
            txBytes := if ok then e.txBytes + BitVec.ofNat 64 (line.length + 4) else e.txBytes
            lineAt := 25 * d.now + 12 * portByte p d })) ∧
    (powered d = true → ∀ tx : Bool,
      let n := if tx then e.txBytes else e.rxBytes
      ∃ t, exec (.ethCounterLatchRead m p tx) s = .next t ∧ tabGet zeroDefault t.dev.rdata m = n.setWidth 32 ∧
        t.dev.regs = d.regs ∧ others t ∧ getEth p t.dev = if m = 19 then e
          else if tx then { e with latchTx := (n >>> 32).setWidth 32 } else { e with latchRx := (n >>> 32).setWidth 32 })

/-- R359-R381: the switch core. -/
def Obligations.SwitchCore : Prop :=
  (∀ (upset : Bool) (s : State),
    let d := s.dev
    let enter := Instr.switchAdmission upset
    let d' := { d with swc := { d.swc with inbound := d.swc.inbound.tail } }
    (d.swc.inbound = [] ∨ (swcOn d = false ∧ d.sys.mode ≠ .service) → exec enter s = .next s) ∧
    (∀ f rest, d.swc.inbound = f :: rest →
      (swcOn d = false → d.sys.mode = .service → exec enter s = .next { s with dev := d' }) ∧
      (swcOn d = true → (10 ≤ f.port ∨ rf (A.swcPort f.port 0x10) 31 16 d = 0) →
        (f.planned = false → f.trap = false → f.direct = false → portState f.port d < 2 →
          ∃ t, exec enter s = .next t ∧ t.dev.swc = d'.swc ∧ t.dev.mem = d.mem ∧ t.dev.dsp = d.dsp ∧
            rd (A.swcCnt f.port 0x84) t.dev = rd (A.swcCnt f.port 0x84) d + 1) ∧
        (∀ n, n < 4 → f.planned = true ∨ (f.direct = true ∧ f.trap = false) → f.mask = 2 ^ (10 + n) → f.started = 0 →
          let g := { f with upset := upset, planned := true }
          let q := 10 + n
          let cells := (f.bytes.length + 4 + 255) / 256
          (portState q d = 0 ∨ rb (A.swcEp n 0) 31 d = false → ∃ t, exec enter s = .next t ∧
            t.dev.swc = d'.swc ∧ rd (A.swcCnt q 0x94) t.dev = rd (A.swcCnt q 0x94) d + 1 ∧ rb A.swcStat 0 t.dev = true) ∧
          (portState q d ≠ 0 → rb (A.swcEp n 0) 31 d = true → copyFits q cells true d.swc.queues d = true →
            ∃ t, exec enter s = .next t ∧ t.dev.swc = { d'.swc with queues := d.swc.queues ++ [{
              frame := g, port := q, cls := g.cls, launch := none, trigHeld := false, started := false, cut := false
              cells := cells, line := [], frags := 0, sent := 0, since := 0, paused := false }] } ∧ t.dev.mem = d.mem ∧ t.dev.dsp = d.dsp))))) ∧
  (∀ (p : Fin 10) (bs : List Byte) (len ago : Nat) (s : State),
    let d := s.dev
    let run := exec (.cutThroughStart p bs len ago) s
    let goes := swcOn d = true ∧ (getEth p d).link = .up ∧ (∃ q, verdict p bs d = .action true q) ∧
      rf (A.swcPort p 12) 9 0 d ≠ 0 ∧ 64 ≤ bs.length ∧ cutFrame p d = none
    (¬goes → run = .next s) ∧
    (goes → portState p d < 2 → ∃ t f, run = .next t ∧ t.dev.swc = { d.swc with
        cutIn := f :: dropIf (fun x => x.port = p) d.swc.cutIn, nextId := d.swc.nextId + 1 } ∧
      f.bytes = bs ∧ f.port = p ∧ f.planned = true ∧ f.mask = 0 ∧
      rd (A.swcCnt p 0x84) t.dev = rd (A.swcCnt p 0x84) d + 1) ∧
    (goes → portState p d = 3 → rb (A.swcPort p 0) 28 d = false → rb (A.swcPort p 0) 29 d = false → frameVid p bs d ≠ 4095 →
      (isTagged bs = true → frameVid p bs d ≠ 0) → (isTagged bs = false → rf (A.ethFrame p) 27 16 d ≠ 4095) →
      (∀ q < 10, q ≠ p.val → (getEth q d).link ≠ .up) → (∀ e < 512, bit (streamWord e 2 d) 31 = false) →
      ∃ t f, run = .next t ∧ t.dev.swc = { d.swc with
          cutIn := f :: dropIf (fun x => x.port = p) d.swc.cutIn, nextId := d.swc.nextId + 1 } ∧
        f.bytes = bs ∧ f.port = p ∧ f.planned = true ∧ f.started = 0 ∧ f.mask.testBit p = false ∧ t.dev.mem = d.mem ∧
        t.dev.dsp = d.dsp)) ∧
  (∀ (e : Fin 512) (s : State), powered s.dev = true → ∃ t, exec (.streamBlockClear e) s = .next t ∧
    (∀ i < 512, ∀ w < 8, streamWord i w t.dev = if i = e.val ∧ w = 7 then 0 else streamWord i w s.dev) ∧
    t.dev.regs = s.dev.regs ∧ t.dev.mem = s.dev.mem ∧ t.dev.swc = s.dev.swc) ∧
  (∀ s : State,
    let d := s.dev
    let due := swcOn d = true ∧ d.swc.lastAge + 400000000 ≤ d.now
    let tmo := rf A.swcCtrl 31 16 d
    (¬due → exec .addressAgeing s = .next s) ∧
    (due → ∃ t, exec .addressAgeing s = .next t ∧ t.dev.swc = { d.swc with lastAge := d.now } ∧ t.dev.regs = d.regs ∧
      t.dev.mem = d.mem ∧ ∀ e < 8192,
        let dyn : Bool := bit (addrWord e 1 d) 11 && !bit (addrWord e 1 d) 10
        let age := min 65535 (fld (addrWord e 3 d) 31 16 + 1)
        ∀ w < 4, addrWord e w t.dev =
          if dyn then (if tmo ≠ 0 ∧ tmo ≤ age then 0 else if w = 3 then word (age * 65536) else addrWord e w d)
          else addrWord e w d)) ∧
  (∀ (m : Fin 20) (p : Fin 10) (s : State),
    let d := s.dev
    let g := getGate p d
    let st := A.swcGate p 0x14
    let now := portNs p d
    (d.sys.mode ≠ .service → exec (.gateChange p) s = .next s) ∧
    (d.sys.mode = .service → ∃ t, exec (.gateChange p) s = .next t ∧
      rd (A.swcGate p 0x18) t.dev = word (gateStates p now d) ∧ t.dev.mem = d.mem ∧ t.dev.dsp = d.dsp) ∧
    (rb (A.swcGate p 0) 23 d = false → gateStates p now d = 255) ∧
    (rb (A.swcGate p 0) 23 d = true → g.begun = false ∨ now < g.base → gateStates p now d = rf (A.swcGate p 0) 31 24 d) ∧
    (powered d = true →
      (∃ t T k, exec (.gateAdminChange m p) s = .next t ∧ getGate p t.dev = { g with change := some T } ∧
        T = adminBase p d + k * adminCycle p d ∧ now ≤ T ∧ (k = 0 ∨ T < now + adminCycle p d) ∧ rb st 15 t.dev = true ∧
        t.dev.mem = d.mem ∧ ∀ q < 10, q ≠ p.val → getGate q t.dev = getGate q d) ∧
      (g.change = none → g.taken = 0 → ∃ t, exec (.gateAdminCancel m p) s = .next t ∧ t.dev.swc = d.swc ∧
        rd st t.dev = rd st d) ∧
      (g.change = none → g.taken ≠ 0 → ∃ t, exec (.gateAdminCancel m p) s = .next t ∧ t.dev.swc = d.swc ∧
        rb st 1 t.dev = true) ∧
      (∀ T, g.change = some T →
        (now < T → ∃ t, exec (.gateAdminCancel m p) s = .next t ∧ getGate p t.dev = { g with change := none } ∧
          rb st 15 t.dev = false) ∧
        (T ≤ now → ∃ t, exec (.gateAdminCancel m p) s = .next t ∧ t.dev.swc = d.swc ∧ rb st 1 t.dev = true))) ∧
    (g.change = none → exec (.gateChangeTime p) s = .next s) ∧
    (∀ T, g.change = some T →
      (now < T ∨ d.sys.mode ≠ .service → exec (.gateChangeTime p) s = .next s) ∧
      (T ≤ now → d.sys.mode = .service → ∃ t, exec (.gateChangeTime p) s = .next t ∧
        getGate p t.dev = { base := adminBase p d, cycle := adminCycle p d, begun := true, change := none, taken := d.now + 1 } ∧
        rf st 23 16 t.dev = adminLen p d ∧ rb st 14 t.dev = !rb st 14 d ∧ rb st 15 t.dev = false ∧ rb st 0 t.dev = true ∧
        t.dev.mem = d.mem))) ∧
  (∀ (q : Fin 14) (cls : Fin 8) (s : State),
    let d := s.dev
    let limit := ageLimit q cls d
    (headOf q cls d = none ∨ swcOn d = false ∨ limit = 0 → exec (.frameAged q cls) s = .next s) ∧
    (∀ c, headOf q cls d = some c →
      (d.now / 400 ≤ c.frame.arrival / 400 + limit → exec (.frameAged q cls) s = .next s) ∧
      (swcOn d = true → limit ≠ 0 → c.frame.arrival / 400 + limit < d.now / 400 → d.swc.queues = [c] →
        ∃ t, exec (.frameAged q cls) s = .next t ∧ t.dev.swc.queues = [] ∧ t.dev.mem = d.mem ∧
          rd (A.swcCnt q (0x10 * cls.val + 4)) t.dev = rd (A.swcCnt q (0x10 * cls.val + 4)) d + 1 ∧
          (q.val < 10 → c.frame.tsreq = true → (tsqOf q d).length < 32 →
            tsqOf q t.dev = tsqOf q d ++ [stampDisc (ethBase q d) c.frame.tsid d])))) ∧
  (∀ (m : Fin 20) (n : Fin 4) (v : Word) (s : State),
    let d := s.dev
    let r := 160 + n.val
    let x := getRing r d
    (∀ bad : Bool, (epHead n d = none ∨ swcOn d = false → exec (.enginePortDelivery n bad) s = .next s) ∧
      (∀ c, epHead n d = some c → swcOn d = true →
        let bs := editTags c.frame c.port
        let rest := dropIf (sameCopy c) d.swc.queues
        (bad = true ∨ c.frame.upset = true → ∃ t, exec (.enginePortDelivery n bad) s = .next t ∧ t.dev.swc.queues = rest ∧ t.dev.mem = d.mem ∧
          t.dev.dsp = d.dsp ∧ rf A.memSwbPar 15 0 t.dev = (rf A.memSwbPar 15 0 d + 1) % 65536) ∧
        (bad = false → c.frame.upset = false → takeBuf r d = none →
          ∃ t, exec (.enginePortDelivery n bad) s = .next t ∧ t.dev.swc.queues = rest ∧ t.dev.mem = d.mem ∧
            t.dev.dsp = d.dsp ∧ if c.frame.sample then
              rd (A.swcCnt c.frame.port 0xA0) t.dev = rd (A.swcCnt c.frame.port 0xA0) d + 1
            else rb A.swcStat 3 t.dev = true ∧ rd (A.swcCnt (10 + n) 0xA4) t.dev = rd (A.swcCnt (10 + n) 0xA4) d + 1) ∧
        (∀ i a, bad = false → c.frame.upset = false → x.failed = false → (takeBuf r d).map (·.1) = some i → a = bufAddr r i d →
          bs.length + 16 ≤ ringSize r d → macWriteFail a (16 + bs.length) d = none → rb A.schCtrl 0 d = true →
          d.dsp.arrival.length < 16 → d.dsp.waiting = [] →
          ∃ t it, exec (.enginePortDelivery n bad) s = .next t ∧ t.dev.swc.queues = rest ∧
            t.dev.dsp = { d.dsp with arrival := d.dsp.arrival ++ [it] } ∧ it.src = 10 ∧ it.buf = word a ∧
            it.len = bs.length ∧ it.head = bs.take 64 ∧
            it.flow = (rf (ringCtl r) 11 0 d + if rb (ringCtl r) 12 d then c.cls else 0) % 4096 ∧
            (c.frame.port < 16 → c.cls < 8 → it.arg = c.frame.port * 4096 + c.frame.sample.toNat * 2048 +
              c.frame.trap.toNat * 1024 + c.cls * 128 + n.val) ∧
            ∀ b, memByte b t.dev = if a + 16 ≤ b ∧ b < a + 16 + bs.length then bs.getD (b - a - 16) 0
              else if a ≤ b ∧ b < a + 16 then c.frame.stamp.bytes.getD (b - a) 0 else memByte b d))) ∧
    (∀ k, powered d = true → m.val ≤ 16 → running (masterCore m) d = some k → (getCtx k d).sys = false →
      exec (.txaddrSubmit m n v) s =
        .next { s with dev := takeExc k { cause := 5, wr := true, ebad := some (A.swcEp n 8) } d }) ∧
    (powered d = true → m = 19 → ∃ t, exec (.txaddrSubmit m n v) s = .next t ∧ t.dev.swc = d.swc ∧ t.dev.mem = d.mem) ∧
    (powered d = true → m ≠ 19 → (16 < m.val ∨ ∀ k, running (masterCore m) d = some k → (getCtx k d).sys = true) →
      (v.toNat % 32 ≠ 0 ∨ region v.toNat ≠ .sram → ∃ t, exec (.txaddrSubmit m n v) s = .next t ∧ t.dev.swc = d.swc ∧
        rb A.swcStat 4 t.dev = true ∧ rd (A.swcCnt (10 + n) 0xAC) t.dev = rd (A.swcCnt (10 + n) 0xAC) d + 1 ∧
        t.dev.mem = d.mem) ∧
      (v.toNat % 32 = 0 → region v.toNat = .sram → dmaRead v.toNat 16 d = (memBytes v.toNat 16 d, d) →
        let h := memBytes v.toNat 16 d
        let bad := submitBad v.toNat 0 true h
        (bad = true → ∃ t, exec (.txaddrSubmit m n v) s = .next t ∧ t.dev.swc = d.swc ∧ rb A.swcStat 4 t.dev = true) ∧
        (bad = false → 64 ≤ (submitsOf n d).length → ∃ t, exec (.txaddrSubmit m n v) s = .next t ∧ t.dev.swc = d.swc ∧
          rd (A.swcCnt (10 + n) 0xB0) t.dev = rd (A.swcCnt (10 + n) 0xB0) d + 1) ∧
        (bad = false → (submitsOf n d).length < 64 → ∃ t, exec (.txaddrSubmit m n v) s = .next t ∧
          submitsOf n t.dev = submitsOf n d ++ [{ addr := v.toNat, item := none, master := m, arrival := d.now }] ∧
          t.dev.mem = d.mem ∧ t.dev.dsp = d.dsp))) ∧
    (submitsOf n d = [] ∨ swcOn d = false ∨ rb (A.swcEp n 0) 31 d = false → exec (.submitCopyDone n) s = .next s) ∧
    (∀ y rest, submitsOf n d = y :: rest → swcOn d = true → rb (A.swcEp n 0) 31 d = true → y.item = none →
      ∃ t f, exec (.submitCopyDone n) s = .next t ∧ submitsOf n t.dev = rest ∧ t.dev.swc.inbound = d.swc.inbound ++ [f] ∧
        f.port = 10 + n.val ∧ f.arrival = y.arrival ∧ f.id = d.swc.nextId ∧ t.dev.dsp = d.dsp ∧
        t.dev.swc.queues = d.swc.queues ∧
        (banksReady y.addr d = true → region y.addr = .sram → region (y.addr + 3) = .sram → (memByte (y.addr + 3) t.dev).msb = false)))

/-- R383-R405: the CAN controllers. The error counters' steps are ISO 11898-1's (PRESUMED, notes/assumptions/88.md). -/
def Obligations.CanControllers : Prop :=
  (∀ (m : Fin 20) (n : Fin 4) (v : Word) (s : State), powered s.dev = true →
    let d := s.dev
    let c := getCan n d
    let st := A.canStat n
    let en := rb (A.canCtrl n) 15 d
    let cand := rf (A.canCtrl n) 10 8 d
    let others (t : State) : Prop := t.fuses = s.fuses ∧ t.dev.mem = d.mem ∧ t.dev.dsp = d.dsp ∧
      ∀ k < 4, k ≠ n.val → getCan k t.dev = getCan k d
    let disc (x : CanTx) : Stamp := stampDisc (canBase n d) x.tag d
    (d.sys.mode = .twilight → en = false → exec (.canEnable m n) s = .next s) ∧
    (d.sys.mode ≠ .twilight → en = false →
      (canMode n d ≠ 2 → candOk n cand d = true → ∃ t, exec (.canEnable m n) s = .next t ∧ others t ∧
        canState n t.dev = .integrating ∧ canAcand n t.dev = cand ∧ getCan n t.dev = { c with listen := false, tail := false } ∧
        rb (A.canCtrl n) 15 t.dev = true) ∧
      (canMode n d ≠ 2 → candOk n cand d = false → ∃ t, exec (.canEnable m n) s = .next t ∧ others t ∧
        canState n t.dev = canState n d ∧ rb st 9 t.dev = true ∧ getCan n t.dev = c) ∧
      (canMode n d = 2 → ∀ k, (usable n d).head? = some k → ∃ t, exec (.canEnable m n) s = .next t ∧ others t ∧
        canState n t.dev = .detecting ∧ (getCan n t.dev).trial = k ∧ (getCan n t.dev).listen = true ∧
        (getCan n t.dev).trialStart = d.now) ∧
      (canMode n d = 2 → usable n d = [] → ∃ t, exec (.canEnable m n) s = .next t ∧ others t ∧ rb st 12 t.dev = true ∧
        (getCan n t.dev).listen = true ∧ canAcand n t.dev = cand)) ∧
    (en = true → ∃ t, exec (.canDisable m n) s = .next t ∧ others t ∧ canState n t.dev = .off ∧
      (getCan n t.dev).fifo = [] ∧ rb (A.canCtrl n) 15 t.dev = false ∧ (c.events.length + c.fifo.length ≤ 32 →
        (getCan n t.dev).events = c.events ++ c.fifo.map disc)) ∧
    (let stage := (List.range 18).map fun k => stageWord n m k d
     (bit v 0 = false → ∃ t, exec (.canTxpush m n v) s = .next t ∧ others t ∧ getCan n t.dev = c) ∧
     (bit v 0 = true → pushBad n stage d = true → ∃ t, exec (.canTxpush m n v) s = .next t ∧ others t ∧ getCan n t.dev = c ∧
       rb st 7 t.dev = true ∧ rd (A.canCnt n 0x24) t.dev = rd (A.canCnt n 0x24) d + 1) ∧
     (bit v 0 = true → pushBad n stage d = false → 32 ≤ c.fifo.length → ∃ t, exec (.canTxpush m n v) s = .next t ∧ others t ∧
       getCan n t.dev = c ∧ rb st 6 t.dev = true) ∧
     (bit v 0 = true → pushBad n stage d = false → c.fifo.length < 32 → ∃ t, exec (.canTxpush m n v) s = .next t ∧
       others t ∧ getCan n t.dev = { c with fifo := c.fifo ++ [⟨stage, 0⟩] } ∧
       rf (A.canTxlvl n) 5 0 t.dev = c.fifo.length + 1)) ∧
    (∀ (tag : BitVec 16) (progress : Fin 3) (h : CanTx) (rest : List CanTx), c.fifo = h :: rest →
      c.events.length + c.fifo.length ≤ 32 →
      let now := canSends n d = false ∨ progress = 0
      ∀ p ∈ [(Instr.canAbortByTag m n tag progress, fun x : CanTx => x.tag = tag.toNat),
             (.canAbortAll m n progress, fun _ => True)],
        ∃ t, exec p.1 s = .next t ∧ others t ∧
          (p.2 h → now → (getCan n t.dev).fifo.Sublist rest ∧ (∀ x ∈ rest, x ∈ (getCan n t.dev).fifo ↔ ¬p.2 x)) ∧
          (p.2 h → ¬now → ∃ tail, (getCan n t.dev).fifo = { h with held := progress } :: tail ∧ tail.Sublist rest ∧
            ∀ x ∈ rest, x ∈ tail ↔ ¬p.2 x) ∧
          (¬p.2 h → ∃ tail, (getCan n t.dev).fifo = h :: tail ∧ tail.Sublist rest ∧ ∀ x ∈ rest, x ∈ tail ↔ ¬p.2 x) ∧
          (p.2 h → now → (∀ x ∈ rest, ¬p.2 x) → (getCan n t.dev).events = c.events ++ [disc h])) ∧
    (let head := c.events.head?.getD stampZero
     (∃ t, exec (.canTxevReadHead m n) s = .next t ∧ others t ∧ t.dev.regs = d.regs ∧
       tabGet zeroDefault t.dev.rdata m = head.w0 ∧ getCan n t.dev = if m = 19 then c else { c with latch := head }) ∧
     (∃ t, exec (.canTxevReadLast m n) s = .next t ∧ others t ∧ t.dev.regs = d.regs ∧
       tabGet zeroDefault t.dev.rdata m = c.latch.w3 ∧
       getCan n t.dev = if m ≠ 19 ∧ bit c.latch.w3 23 = true then { c with events := c.events.tail } else c)) ∧
    (∀ o : Fin 256, ∃ t, exec (.objectStatusRead m n o) s = .next t ∧ others t ∧ t.dev.regs = d.regs ∧
      tabGet zeroDefault t.dev.rdata m = (getObj n o d).status ∧ getCan n t.dev = c ∧
      getObj n o t.dev = if m = 19 then getObj n o d
        else { getObj n o d with status := (getObj n o d).status &&& 0x3FFFFFFF }) ∧
    (c.ca = [] ∨ bit v 0 = false ∨ rb (A.canCaCfg n) 30 d = true →
      ∃ t, exec (.canCaPop m n v) s = .next t ∧ others t ∧ getCan n t.dev = c) ∧
    (∀ e rest, c.ca = e :: rest → e ∉ rest → bit v 0 = true → rb (A.canCaCfg n) 30 d = false →
      ∃ t, exec (.canCaPop m n v) s = .next t ∧ others t ∧ getCan n t.dev = { c with ca := rest })) ∧
  (∀ (n : Fin 4) (s : State),
    let d := s.dev
    let c := getCan n d
    let st := A.canStat n
    let tec := rf (A.canErrc n) 24 16 d
    let rec' := rf (A.canErrc n) 15 8 d
    let onBus := canOnBus n d = true
    let others (t : State) : Prop := t.fuses = s.fuses ∧ t.dev.mem = d.mem ∧
      ∀ k < 4, k ≠ n.val → getCan k t.dev = getCan k d
    (canState n d ≠ .integrating → exec (.canIntegration n) s = .next s) ∧
    (canState n d = .integrating → ∃ t, exec (.canIntegration n) s = .next t ∧ others t ∧ getCan n t.dev = c ∧
      canState n t.dev = (if 127 < tec ∨ 127 < rec' then .passive else .active) ∧ ∀ a, a ≠ st → rd a t.dev = rd a d) ∧
    (∀ occ : Fin 129,
      let k := min 128 (rf (A.canErrc n) 7 0 d + occ)
      (canState n d ≠ .busOff → exec (.busOffRecovery n occ) s = .next s) ∧
      (canState n d = .busOff → ∃ t, exec (.busOffRecovery n occ) s = .next t ∧ others t ∧ getCan n t.dev = c ∧
        rf (A.canErrc n) 7 0 t.dev = k ∧ canState n t.dev = (if k = 128 then .active else .busOff) ∧
        rf (A.canErrc n) 24 16 t.dev = (if k = 128 then 0 else tec) ∧
        rf (A.canErrc n) 15 8 t.dev = if k = 128 then 0 else rec')) ∧
    (¬onBus → exec (.canProtocolException n) s = .next s) ∧
    (onBus → ∃ t, exec (.canProtocolException n) s = .next t ∧ others t ∧ getCan n t.dev = c ∧
      canState n t.dev = .integrating ∧ rb st 10 t.dev = true ∧ rd (A.canErrc n) t.dev = rd (A.canErrc n) d ∧
      rd (A.canCnt n 0x20) t.dev = rd (A.canCnt n 0x20) d + 1) ∧
    (let due := canState n d = .detecting ∧ c.trialStart + canDwell n d ≤ d.now
     (¬due → exec (.detectionDwellExpiry n) s = .next s) ∧
     (due → ∀ k, (usable n d).find? (fun k => c.trial < k) = some k → ∃ t, exec (.detectionDwellExpiry n) s = .next t ∧
       others t ∧ canState n t.dev = .detecting ∧ getCan n t.dev = { c with trial := k, trialStart := d.now }) ∧
     (due → (usable n d).find? (fun k => c.trial < k) = none → rf (A.canDet n) 3 0 d ≠ 0 →
       rf (A.canDet n) 3 0 d ≤ c.rounds + 1 → ∃ t, exec (.detectionDwellExpiry n) s = .next t ∧ others t ∧
         rb st 12 t.dev = true ∧ canAcand n t.dev = rf (A.canCtrl n) 10 8 d ∧ (getCan n t.dev).listen = true)) ∧
    (∀ (h : CanTx) (rest : List CanTx), c.fifo = h :: rest → canSends n d = true → c.events.length < 32 →
      (∀ ago : Nat, ∃ t, exec (.canFrameSent n ago) s = .next t ∧ others t ∧
        t.dev.out = d.out ++ [.can n (h.words.set 1 (setBit (h.words.getD 1 0) 5 (decide (canState n d = .passive))))] ∧
        getCan n t.dev = { c with
          tail := false, fifo := rest, events := c.events ++ [stampAt (canBase n d) h.tag (-(ago : Int)) d] } ∧
        rd (A.canCnt n 4) t.dev = rd (A.canCnt n 4) d + 1 ∧ (h.held ≠ 0 → rb st 8 t.dev = true) ∧
        rf (A.canErrc n) 24 16 t.dev = tec - 1) ∧
      (∃ t, exec (.canArbitrationLost n) s = .next t ∧ others t ∧ rd (A.canCnt n 0x14) t.dev = rd (A.canCnt n 0x14) d + 1 ∧
        getCan n t.dev = if h.held = 0 then { c with tail := false } else { c with
          tail := false, fifo := rest, events := c.events ++ [stampDisc (canBase n d) h.tag d] })) ∧
    (c.fifo = [] ∨ canSends n d = false →
      (∀ ago : Nat, exec (.canFrameSent n ago) s = .next s) ∧ exec (.canArbitrationLost n) s = .next s) ∧
    (∀ (tx data : Bool) (lec : Fin 7) (step : Fin 9),
      let run := exec (.canError n tx data lec step) s
      (¬onBus → canState n d ≠ .detecting → run = .next s) ∧
      (canState n d = .detecting → ∀ k, (usable n d).find? (fun k => c.trial < k) = some k → ∃ t, run = .next t ∧ others t ∧
        canState n t.dev = .detecting ∧ getCan n t.dev = { c with trial := k, trialStart := d.now }) ∧
      (onBus → tx = true → canSends n d = false → run = .next s) ∧
      (onBus → tx = false → canListen n d = true → ∃ t, run = .next t ∧ others t ∧ getCan n t.dev = c ∧
        rf (A.canErrc n) 24 16 t.dev = tec ∧ rf (A.canErrc n) 15 8 t.dev = rec' ∧ canState n t.dev = canState n d) ∧
      (onBus → canListen n d = false → ∃ t, run = .next t ∧ others t ∧
        rd (A.canCnt n 0x18) t.dev = rd (A.canCnt n 0x18) d + 1 ∧
        (let tec' := if tx then min 511 (tec + step.val) else tec
         let rec2 := if tx then rec' else min 255 (rec' + step.val)
         rf (A.canErrc n) 24 16 t.dev = tec' ∧ rf (A.canErrc n) 15 8 t.dev = rec2 ∧
         (if data then rf (A.canErrc n) 28 26 t.dev = lec.val else rf (A.canErrc n) 31 29 t.dev = lec.val) ∧
         canState n t.dev = (if 255 < tec' then .busOff else if 127 < tec' ∨ 127 < rec2 then .passive else .active) ∧
         (255 < tec' → rb st 2 t.dev = true) ∧
         (tec' ≤ 255 → 127 < tec' ∨ 127 < rec2 → canState n d = .active → rb st 1 t.dev = true)) ∧
        (∀ h rest, c.fifo = h :: rest → (getCan n t.dev).fifo = if tx = true ∧ h.held ≠ 0 then rest else c.fifo)))) ∧
  (∀ (n : Fin 4) (fdf rtr ide esi brs : Bool) (id : BitVec 29) (dlc : Fin 16) (data : List Byte) (ago : Nat) (s : State),
    let d := s.dev
    let f : CanFrame := ⟨fdf, rtr, ide, id, esi, brs, dlc, data⟩
    let c := getCan n d
    let run := exec (.canFrameReceived n fdf rtr ide id esi brs dlc data ago) s
    let stamp := stampAt (canBase n d) c.rseq (-(ago : Int)) d
    let takes := canOnBus n d = true ∧ (fdf = true → bit (candWord n (canAcand n d) 1 d) 31 = true ∧ rtr = false)
    let counts (t : State) : Prop := run = .next t ∧ t.fuses = s.fuses ∧
      (rb A.schTraceCtrl 31 d = false → t.dev.mem = d.mem) ∧
      rd (A.canCnt n 0) t.dev = rd (A.canCnt n 0) d + 1 ∧ (getCan n t.dev).rseq = (c.rseq + 1) % 65536 ∧
      (getCan n t.dev).fifo = c.fifo
    (canOnBus n d = false → canState n d ≠ .detecting → run = .next s) ∧
    (canState n d = .detecting → (fdf = true → bit (candWord n c.trial 1 d) 31 = true ∧ rtr = false) → c.trial < 8 →
      ∃ t, run = .next t ∧ rb (A.canStat n) 11 t.dev = true ∧ canAcand n t.dev = c.trial ∧
        (rb (A.canCtrl n) 12 d = true → canState n t.dev = .integrating) ∧
        (rb (A.canCtrl n) 12 d = false → canState n t.dev = .active ∧ (getCan n t.dev).listen = true)) ∧
    (takes → ∀ o, objMatch n f d = some o →
      let x := getObj n o d
      ∃ t y, counts t ∧ y = getObj n o t.dev ∧ y.words = f.record c.rseq ∧ y.stamp = stamp ∧
        fld y.status 29 22 = (fld x.status 29 22 + 1) % 256 ∧
        (bit (objWord n o 1 d) 31 = false → t.dev.dsp = d.dsp ∧ bit y.status 31 = true ∧
          bit y.status 30 = (bit x.status 30 || bit x.status 31)) ∧
        (bit x.status 31 = true ∨ (bit (objWord n o 1 d) 31 = true ∧ objPostWaits n o d = true) →
          bit y.status 30 = true ∧ rb (A.canStat n) 3 t.dev = true ∧ rd (A.canCnt n 0x10) t.dev = rd (A.canCnt n 0x10) d + 1) ∧
        (bit (objWord n o 1 d) 31 = true → d.sys.mode = .service → rb A.schCtrl 0 d = true → d.dsp.arrival.length < 16 →
          d.dsp.waiting = [] → ∃ it, t.dev.dsp = { d.dsp with arrival := d.dsp.arrival ++ [it] } ∧ it.src = 3 ∧
            it.flow = fld (objWord n o 1 d) 11 0 ∧ it.arg = 16384 * n.val + o ∧ it.len = 8 + f.len ∧
            it.buf = 0 ∧ bit y.status 31 = false)) ∧
    (takes → objMatch n f d = none → rb (A.canCaCfg n) 31 d = false → ∃ t, counts t ∧ t.dev.dsp = d.dsp ∧
      rd (A.canCnt n 8) t.dev = rd (A.canCnt n 8) d + 1 ∧ t.dev.canObjs = d.canObjs ∧ t.dev.canCa = d.canCa) ∧
    (takes → objMatch n f d = none → rb (A.canCaCfg n) 31 d = true → (∀ e < 64, e ∈ c.ca) → ∃ t, counts t ∧
      t.dev.dsp = d.dsp ∧ rb (A.canStat n) 4 t.dev = true ∧ rd (A.canCnt n 12) t.dev = rd (A.canCnt n 12) d + 1) ∧
    (∀ e, takes → objMatch n f d = none → rb (A.canCaCfg n) 31 d = true → e < 64 → e ∉ c.ca → (∀ i < e, i ∈ c.ca) →
      ∃ t, counts t ∧ tabGet canObjDefault t.dev.canCa (64 * n + e) = ⟨0, f.record c.rseq, stamp⟩ ∧
        (getCan n t.dev).ca = c.ca ++ [e] ∧ (rb (A.canCaCfg n) 30 d = false → t.dev.dsp = d.dsp) ∧
        (rb (A.canCaCfg n) 30 d = true → d.sys.mode = .service → rb A.schCtrl 0 d = true → d.dsp.arrival.length < 16 →
          d.dsp.waiting = [] → ∃ it, t.dev.dsp = { d.dsp with arrival := d.dsp.arrival ++ [it] } ∧ it.src = 3 ∧
            it.flow = rf (A.canCaCfg n) 11 0 d ∧ it.arg = 16384 * n.val + 8192 + e ∧ it.len = 8 + f.len)))

/-- R407-R418, R424, R426: one statement over the instructions that complete in their tick. -/
def Obligations.PioInstructions : Prop :=
  ∀ (n : Fin 32) (k w t5 : Fin 32) (p128 : Fin 128) (k11 : Fin 2048) (k16 : Fin 16) (v5 : BitVec 5) (v8 : Byte) (b1 b2 : Bool) (pins : BitVec 128) (s : State),
    let d := s.dev
    let x := getPio n d
    let win := inWin n pins d
    let cmpv := rd (A.pio n 0x50) d
    let cmask := rd (A.pio n 0x54) d
    let ob := pioFld n 0x4C 14 8 d
    let sb := pioFld n 0x4C 28 22 d
    let next (y : Pio) : Pio := { y with pc := (y.pc + 1) % 32, state := .running, wait := .none, last := some d.now }
    let moves (y : Pio) (pc : Nat) : Pio := { y with pc := pc, state := .running, wait := .none, last := some d.now }
    let others (t : State) : Prop := t.fuses = s.fuses ∧ t.dev.mem = d.mem ∧ t.dev.dsp = d.dsp ∧
      ∀ m < 32, m ≠ n.val → getPio m t.dev = getPio m d
    let sets (i : Instr) (y : Pio) : Prop := exec i s = .next { s with dev := putPio n y d }
    let place (old new : BitVec 128) (b cnt : Nat) (v : Nat → Bool) : Prop :=
      ∀ p < 128, new.getLsbD p = if b ≤ p ∧ p < b + cnt then v (p - b) else old.getLsbD p
    let drives (i : Instr) (y : Pio) (b cnt : Nat) (val en : Option (Nat → Bool)) : Prop := ∃ t, exec i s = .next t ∧
      others t ∧ t.dev.regs = d.regs ∧ getPio n t.dev = next y ∧
      (match val with | some v => place d.pins.val t.dev.pins.val b cnt v | none => t.dev.pins.val = d.pins.val) ∧
      (match en with | some v => place d.pins.en t.dev.pins.en b cnt v | none => t.dev.pins.en = d.pins.en)
    let cnt := min (k.val + 1) (pioOcnt n d)
    let cnt16 := min (k16.val + 1) (pioOcnt n d)
    let go := tickDue n d = true ∧ x.state = .running
    let all : List Instr := [.pioNop n, .pioDrv n v5, .pioDrve n v5, .pioEmit n k, .pioEmite n k b1, .pioEmitl n k16 b1 b2,
      .pioGrab n k pins, .pioGrabr n k pins, .pioDisc n k, .pioLoad n, .pioLoadt n, .pioSend n, .pioSende n, .pioSendt n,
      .pioUntil n p128 b1 pins, .pioPause n k11, .pioUntilt n, .pioUntilp n pins, .pioUntilc n w b1 k pins, .pioMatch n, .pioMatchi n v8, .pioLook n k none,
      .pioTput n, .pioMovol n, .pioMovsr n, .pioGoto n k16 t5, .pioGotop n w b1 t5 pins, .pioLdlc n v8, .pioRate n b1 b2,
      .pioStamp n, .pioEvt n v8, .pioHalt n, .pioIllegalEncoding n]
    (¬go → ∀ i ∈ all, exec i s = .next s) ∧
    (go → A.pio n (0x100 + 4 * x.pc) ∉ d.badCfg →
      sets (.pioNop n) (next x) ∧
      drives (.pioDrv n v5) x sb (pioScnt n d) (some fun i => v5.getLsbD i) none ∧
      drives (.pioDrve n v5) x sb (pioScnt n d) none (some fun i => v5.getLsbD i) ∧
      drives (.pioEmit n k) { x with sr := x.sr >>> (k.val + 1), sc := x.sc - (k.val + 1) } ob cnt
        (some fun i => x.sr.getLsbD i) none ∧
      drives (.pioEmite n k b1) x ob cnt none (some fun _ => b1) ∧
      ((b2 = false ∨ x.m = true) → drives (.pioEmitl n k16 b1 b2) x ob cnt16 (some fun i => x.ol.getLsbD i)
        (if b1 then some fun _ => true else none)) ∧
      (b2 = true → x.m = false → drives (.pioEmitl n k16 b1 b2) x ob cnt16 none none) ∧
      (∃ r : Word, (∀ j < 32, r.getLsbD j = if j ≤ k.val then win.getLsbD j else x.sr.getLsbD (j - (k.val + 1))) ∧
        sets (.pioGrab n k pins) (next { x with sr := r, sc := min (x.sc + (k.val + 1)) 32 })) ∧
      (∃ r : Word, (∀ j < 32, r.getLsbD j =
          if 31 - k.val ≤ j then win.getLsbD (j - (31 - k.val)) else x.sr.getLsbD (j + (k.val + 1))) ∧
        sets (.pioGrabr n k pins) (next { x with sr := r, sc := min (x.sc + (k.val + 1)) 32 })) ∧
      sets (.pioDisc n k) (next { x with sr := x.sr >>> (k.val + 1), sc := x.sc - (k.val + 1) }) ∧
      sets (.pioMatch n) (next { x with m := (x.sr ^^^ cmpv) &&& cmask == 0 }) ∧
      sets (.pioMatchi n v8) (next { x with m := (x.sr.extractLsb' 24 8 ^^^ v8) &&& cmask.extractLsb' 24 8 == 0 }) ∧
      (tabAddr n ((x.sr >>> k.val).toNat % 256) ∉ d.badPar → sets (.pioLook n k none)
        (next { x with ol := (rd (tabAddr n ((x.sr >>> k.val).toNat % 256)) d).setWidth 16 })) ∧
      (∀ b : Fin 18, ∃ t, exec (.pioLook n k (some b)) s = .next t ∧ others t ∧ t.dev.pins = d.pins ∧
        getPio n t.dev = next { x with ol :=
          (rd (tabAddr n ((x.sr >>> k.val).toNat % 256)) d ^^^ if b.val < 16 then word (2 ^ b.val) else 0).setWidth 16 } ∧
        (rb A.safStat 0 d = false → t.dev.saf.reports = d.saf.reports ++ [⟨0x41, 0x1C, 0, 0⟩])) ∧
      (∃ t, exec (.pioTput n) s = .next t ∧ others t ∧ getPio n t.dev = next x ∧ t.dev.pins = d.pins ∧
        ∀ a, rd a t.dev = if a = tabAddr n ((x.sr >>> 16).toNat % 256) then x.sr &&& 0xFFFF else rd a d) ∧
      sets (.pioMovol n) (next { x with ol := x.sr.setWidth 16 }) ∧
      sets (.pioMovsr n) (next { x with sr := x.ol.setWidth 32, sc := 16 }) ∧
      (let holds : Bool := [true, x.m, !x.m, x.sc == 0, x.sc != 0, x.lc != 0, !x.tx.isEmpty,
         decide (rxLevel x.rx < rxDepth n d)].getD k16.val false
       k16.val < 8 → sets (.pioGoto n k16 t5)
         (if holds then moves { x with lc := if k16.val = 5 then x.lc - 1 else x.lc } t5 else next x)) ∧
      (win.getLsbD w = b1 → ∃ e, sets (.pioGotop n w b1 t5 pins) (moves { x with event := e } t5) ∧
        e = some (d.ntm.tb.map fun b => b.add (if syncPin (winPin n w d) d then -2 * tickUnit else 0))) ∧
      (win.getLsbD w ≠ b1 → sets (.pioGotop n w b1 t5 pins) (next x)) ∧
      sets (.pioLdlc n v8) (next { x with lc := v8.toNat }) ∧
      (let stp := (rd (A.pio n (0x44 + 4 * b1.toNat)) d).toNat
       sets (.pioRate n b1 b2) (next { x with step := if stp = 0 then 2 ^ 32 else stp, t0 := d.now + b2.toNat })) ∧
      (let r := pioStampOf x d
       ∃ t, exec (.pioStamp n) s = .next t ∧ others t ∧ t.dev.pins = d.pins ∧ rb (A.pio n 0x78) 0 t.dev = true ∧
         getPio n t.dev = next { x with stamps := x.stamps + 1, openTs := if rxDst n d = 0 then some r.2 else x.openTs } ∧
         (∀ i < 4, rd (A.pio n (0x90 + 4 * i)) t.dev = r.1.wordAt i)) ∧
      (∃ t, exec (.pioHalt n) s = .next t ∧ others t ∧ t.dev.pins = d.pins ∧ rb (A.pio n 0x78) 4 t.dev = true ∧
        getPio n t.dev = { x with pc := (x.pc + 1) % 32, state := .halted, wait := .none, last := some d.now }) ∧
      (∀ i ∈ [Instr.pioIllegalEncoding n, .pioGoto n ⟨8 + k16.val % 8, by omega⟩ t5], ∃ t, exec i s = .next t ∧ others t ∧
        rb (A.pio n 0x78) 5 t.dev = true ∧ getPio n t.dev = { x with state := .halted, wait := .none, last := some d.now } ∧
        ∀ p < 128, p ∉ windowPins n d →
          t.dev.pins.val.getLsbD p = d.pins.val.getLsbD p ∧ t.dev.pins.en.getLsbD p = d.pins.en.getLsbD p))

/-- R408, R417, R420-R427: what waits, the FIFOs with their DMA, enable and the table's swap. -/
def Obligations.PioWaitsAndFifos : Prop :=
  ∀ (n : Fin 32) (k w : Fin 32) (p : Fin 128) (k11 : Fin 2048) (v8 : Byte) (pol : Bool) (pins : BitVec 128) (s : State),
    let d := s.dev
    let x := getPio n d
    let win := inWin n pins d
    let st := A.pio n 0x78
    let next (y : Pio) : Pio := { y with pc := (y.pc + 1) % 32, state := .running, wait := .none, last := some d.now }
    let holds (w : PioWait) : Pio := { x with state := .waiting, wait := w, last := some d.now }
    let stalls (w : PioWait) : Pio := { x with state := .stalled, wait := w, last := some d.now }
    let sets (i : Instr) (y : Pio) : Prop := exec i s = .next { s with dev := putPio n y d }
    let others (t : State) : Prop := t.fuses = s.fuses ∧ t.dev.pins = d.pins ∧
      ∀ m < 32, m ≠ n.val → getPio m t.dev = getPio m d
    let at' (p : Nat) : Option (List TimeBase) :=
      some (d.ntm.tb.map fun b => b.add (if syncPin p d then -2 * tickUnit else 0))
    let go := tickDue n d = true ∧ x.state = .running ∧ A.pio n (0x100 + 4 * x.pc) ∉ d.badCfg
    let room : Bool := decide (rxLevel x.rx < rxDepth n d)
    let full16 := rxDepth n d = 16
    let item := rxDst n d = 0
    let held := itemHeld n d
    (go →
      (sets (.pioUntil n p pol pins)
        (if (seen pins d).getLsbD p = pol then next { x with event := at' p } else holds (.level p pol))) ∧
      (if win.getLsbD w = pol then ∃ r : Word,
          (∀ j < 32, r.getLsbD j = if j ≤ k.val then win.getLsbD j else x.sr.getLsbD (j - (k.val + 1))) ∧
          sets (.pioUntilc n w pol k pins) (next { x with
            sr := r, sc := min (x.sc + (k.val + 1)) 32, event := at' (winPin n w d) })
        else sets (.pioUntilc n w pol k pins) (holds (.window w pol (k.val + 1)))) ∧
      (if (win ^^^ rd (A.pio n 0x50) d) &&& rd (A.pio n 0x54) d = 0 then
          ∃ e, sets (.pioUntilp n pins) (next { x with sr := win, sc := 32, event := e })
        else sets (.pioUntilp n pins) (holds .pattern)) ∧
      sets (.pioUntilt n) (if x.latch then next { x with latch := false } else holds .trigger) ∧
      sets (.pioPause n k11) (if k11 = 0 then next x else holds (.pause (tickIndex n d + k11))) ∧
      (∀ y rest, x.tx = y :: rest → ∀ q ∈ [(Instr.pioLoad n, x.m), (.pioLoadt n, true)], ∃ t, exec q.1 s = .next t ∧
        others t ∧ t.dev.mem = d.mem ∧ getPio n t.dev = next { x with sr := y, sc := 32, tx := rest, m := q.2 } ∧
        pioFld n 0x64 11 0 t.dev = (pioFld n 0x64 11 0 d + 1) % txWords n d) ∧
      (x.tx = [] → sets (.pioLoadt n) (next { x with m := false }) ∧
        (txDepth n d ≠ 16 → sets (.pioLoad n) (stalls .load)) ∧
        (txDepth n d = 16 → ∃ t, exec (.pioLoad n) s = .next t ∧ others t ∧ rb st 1 t.dev = true ∧
          getPio n t.dev = next { x with sr := rd (A.pio n 0x58) d, sc := 32 } ∧ rd (A.pio n 0x64) t.dev = rd (A.pio n 0x64) d)) ∧
      (let word' := PioRx.word x.sr (rd A.memImgCycle d)
       let closing (e : Bool) := item ∧ (e = true ∨ x.openCount = 15)
       ∀ q ∈ [(Instr.pioSend n, false, x.m), (.pioSende n, true, x.m), (.pioSendt n, false, true)],
         (room = true → ¬(closing q.2.1 ∧ held = true) →
           (¬closing q.2.1 → sets q.1 (next { x with
             sc := 0, rx := x.rx ++ [word'], openCount := if item then x.openCount + 1 else 0, m := q.2.2 })) ∧
           (closing q.2.1 → ∃ it, sets q.1 (next { x with
             sc := 0, rx := x.rx ++ [word', .close it], openCount := 0, openTs := none, m := q.2.2 }) ∧ it.src = 4 ∧
             it.arg = n ∧ it.flow = pioFld n 0x70 11 0 d ∧ it.icyc = rd A.memImgCycle d ∧ it.ts = x.openTs.getD (tbNs 0 d))) ∧
         ((room = false ∨ (closing q.2.1 ∧ held = true)) →
           (q.1 = .pioSendt n → sets q.1 (next { x with m := false })) ∧
           (q.1 ≠ .pioSendt n → ¬full16 → sets q.1 (stalls (.send q.2.1))) ∧
           (q.1 ≠ .pioSendt n → full16 → ∃ t, exec q.1 s = .next t ∧ others t ∧ rb st 2 t.dev = true ∧
             (getPio n t.dev).sc = 0 ∧ (getPio n t.dev).sr = x.sr ∧ (getPio n t.dev).state = .running ∧
             (q.2.1 = false → (getPio n t.dev).rx = x.rx)))) ∧
      (room = true → held = false → ∃ it, sets (.pioEvt n v8) (next { x with rx := x.rx ++ [.evt it] }) ∧ it.src = 4 ∧
        it.arg = n ∧ it.flow = pioFld n 0x70 11 0 d ∧ it.head = leBytes 4 v8.toNat ∧ it.len = 4) ∧
      ((room = false ∨ held = true) → ¬full16 → sets (.pioEvt n v8) (stalls (.evt v8.toNat))) ∧
      ((room = false ∨ held = true) → full16 → ∃ t, exec (.pioEvt n v8) s = .next t ∧ others t ∧ rb st 2 t.dev = true ∧
        getPio n t.dev = next x)) ∧
    (tickDue n d = false ∨ x.state ≠ .waiting → exec (.pioWaitEnd n pins) s = .next s) ∧
    (tickDue n d = true → x.state = .waiting → match waitDone n x.wait pins x d with
      | some y => sets (.pioWaitEnd n pins) (next y)
      | none => exec (.pioWaitEnd n pins) s = .next s) ∧
    (∀ t, waitDone n (.pause t) pins x d = if t ≤ tickIndex n d then some x else none) ∧
    (tickDue n d = false ∨ x.state ≠ .stalled → exec (.pioStallEnd n) s = .next s) ∧
    (tickDue n d = true → x.state = .stalled →
      (∀ y rest, x.wait = .load → x.tx = y :: rest → ∃ t, exec (.pioStallEnd n) s = .next t ∧ others t ∧ t.dev.mem = d.mem ∧
        getPio n t.dev = next { x with sr := y, sc := 32, tx := rest }) ∧
      (x.wait = .send false → room = true → ¬(item ∧ x.openCount = 15) → sets (.pioStallEnd n) (next { x with
        sc := 0, rx := x.rx ++ [.word x.sr (rd A.memImgCycle d)], openCount := if item then x.openCount + 1 else 0 }))) ∧
    (let i := (pioFld n 0x64 11 0 d + x.tx.length) % txWords n d
     let a := (rd (A.pio n 0x60) d).toNat + 4 * i
     let fetches := d.sys.mode = .service ∧ x.state ≠ .disabled ∧ x.tx.length < txDepth n d ∧
       i ≠ pioFld n 0x64 27 16 d % txWords n d
     (¬fetches → exec (.pioTxFetch n) s = .next s) ∧
     (fetches → accessFail 22 false false a d = none → badIn a 4 d = none →
       sets (.pioTxFetch n) { x with tx := x.tx ++ [word (leNat (memBytes a 4 d))] }) ∧
     (∀ kind, fetches → accessFail 22 false false a d = some kind → ∃ t, exec (.pioTxFetch n) s = .next t ∧
       (getPio n t.dev).state = .halted ∧ rb st 7 t.dev = true ∧ rd A.memAccAddr t.dev = word a ∧ t.dev.mem = d.mem)) ∧
    (d.sys.mode ≠ .service ∨ held = true ∨ x.rx = [] → exec (.pioRxDrain n) s = .next s) ∧
    (d.sys.mode = .service → held = false →
      (∀ y c rest, x.rx = .word y c :: rest → rxDst n d = 2 → ringFull n d = false →
        let wp := pioFld n 0x6C 11 0 d % rxWords n d
        let a := (rd (A.pio n 0x68) d).toNat + 4 * wp
        accessFail 22 true false a d = none → ∃ t, exec (.pioRxDrain n) s = .next t ∧ others t ∧
          getPio n t.dev = { x with rx := rest } ∧ pioFld n 0x6C 11 0 t.dev = (wp + 1) % rxWords n d ∧
          ∀ b, 0x20000 ≤ b → memByte b t.dev = if a ≤ b ∧ b < a + 4 then BitVec.ofNat 8 (y.toNat >>> (8 * (b - a)))
            else memByte b d) ∧
      (∀ y c rest, x.rx = .word y c :: rest → rxDst n d = 2 → ringFull n d = true → exec (.pioRxDrain n) s = .next s) ∧
      (∀ y c rest, x.rx = .word y c :: rest → rxDst n d = 1 →
        let e := y.toNat / 65536 % 256
        let g := (pioFld n 0x70 27 14 d + e / 4) % 16384
        banksReady (0x06000000 + 8 * g) d = true → fld (producer g d) 31 16 = 0x4000 + n.val → c = rd A.memImgCycle d →
        ∃ t, exec (.pioRxDrain n) s = .next t ∧ others t ∧ t.dev.mem = d.mem ∧ getPio n t.dev = { x with rx := rest } ∧
          (openGran g t.dev).extractLsb' (16 * (e % 4)) 16 = y.setWidth 16) ∧
      (∀ y c rest, x.rx = .word y c :: rest → item → (∀ it r, rest ≠ .close it :: r) →
        sets (.pioRxDrain n) { x with rx := rest, openWords := x.openWords ++ [y] }) ∧
      (∀ y c it rest, x.rx = .word y c :: .close it :: rest → item → rb A.schCtrl 0 d = true →
        d.dsp.arrival.length < 16 → d.dsp.waiting = [] → it.src = 4 →
        let bytes := (x.openWords ++ [y]).flatMap fun w => leBytes 4 w.toNat
        ∃ t, exec (.pioRxDrain n) s = .next t ∧ others t ∧ t.dev.mem = d.mem ∧
          getPio n t.dev = { x with rx := rest, openWords := [] } ∧ t.dev.dsp = { d.dsp with
            arrival := d.dsp.arrival ++ [{ it with head := bytes, headLen := bytes.length, len := bytes.length }] }) ∧
      (∀ it rest, x.rx = .evt it :: rest → rb A.schCtrl 0 d = true → d.dsp.arrival.length < 16 → d.dsp.waiting = [] →
        it.src = 4 → ∃ t, exec (.pioRxDrain n) s = .next t ∧ others t ∧ getPio n t.dev = { x with rx := rest } ∧
          t.dev.dsp = { d.dsp with arrival := d.dsp.arrival ++ [it] })) ∧
    (∀ (m : Fin 20), powered d = true →
      let one : Word := 1#32 <<< n.val
      let en := rb (A.pio n 0x40) 31 d
      let live := d.sys.mode = .service ∧ committed d = true
      let kept (t : State) : Prop := t.fuses = s.fuses ∧ t.dev.mem = d.mem ∧ t.dev.dsp = d.dsp ∧
        ∀ i < 32, i ≠ n.val → getPio i t.dev = getPio i d
      (d.sys.mode ≠ .twilight → ∃ t, exec (.pioEnSet m one) s = .next t ∧ kept t ∧ rb (A.pio n 0x40) 31 t.dev = true ∧
        (¬live ∨ en = true → getPio n t.dev = x) ∧
        (live → en = false → let y := getPio n t.dev
          y.state = (if rb (A.pio n 0x40) 30 d then .armed else .running) ∧ y.pc = pioFld n 0x40 29 25 d ∧
          y.t0 = d.now + 3 ∧ y.sr = 0 ∧ y.sc = 0 ∧ y.lc = 0 ∧ y.m = false ∧ y.ol = 0 ∧ y.tx = [] ∧ y.rx = [])) ∧
      (∃ t, exec (.pioEnClr m one) s = .next t ∧ kept t ∧ rb (A.pio n 0x40) 31 t.dev = false ∧
        (¬live ∨ en = false → getPio n t.dev = x) ∧
        (live → en = true → let y := getPio n t.dev
          y.state = .disabled ∧ y.tx = [] ∧ y.rx = [] ∧ y.openWords = [] ∧ y.latch = x.latch))) ∧
    (let swaps := d.sys.mode = .service ∧ x.refill = true ∧ ∀ i < n.val, (getPio i d).refill = false
     let gran (i : Nat) : Nat := (pioFld n 0x74 13 0 d + i) % 16384
     (¬swaps → exec (.pioRefillSwap n) s = .next s) ∧
     (swaps → (∀ i < rfCount n d, banksReady (0x06000000 + 8 * gran i) d = true) → d.badPar = [] →
       ∃ t, exec (.pioRefillSwap n) s = .next t ∧ others t ∧ t.dev.mem = d.mem ∧ getPio n t.dev = { x with refill := false } ∧
         (∀ e < 4 * rfCount n d, rd (tabAddr n e) t.dev =
           ((committedGran (gran (e / 4)) d).extractLsb' (16 * (e % 4)) 16).setWidth 32) ∧
         ∀ e, 4 * rfCount n d ≤ e → e < 256 → rd (tabAddr n e) t.dev = rd (tabAddr n e) d))

/-- R431-R442: the Sampler's channels, their latches, and the trips of their comparators. -/
def Obligations.SamplerAndComparators : Prop :=
  (∀ (n : Fin 24) (bits : List Bool) (prev v : Bool) (m : Fin 20) (w : Word) (s : State),
    let d := s.dev
    let x := getSd n d
    let st := A.smpSd n 0x14
    let clock := d.sys.mode = .service ∧ committed d = true ∧ rb (A.smpMclk (sdClock n d)) 31 d = true
    let works := clock ∧ rb (A.smpSd n 0) 31 d = true
    let sets (i : Instr) (y : Sd) : Prop := exec i s = .next { s with dev := putSd n y d }
    let shifted (l : List Bool) : List Bool := (l ++ x.bits.drop l.length).take 766
    let others (t : State) : Prop := t.fuses = s.fuses ∧ t.dev.pins = d.pins ∧
      (rb (A.smpSd n 0) 24 d = false ∨ rb A.schTraceCtrl 31 d = false → t.dev.mem = d.mem) ∧ ∀ i < 24, i ≠ n.val → getSd i t.dev = getSd i d
    (¬works → ∀ i ∈ [Instr.stuckDetected n v, .stuckEnd n, .filterSettled n, .comparatorTrip n bits], exec i s = .next s) ∧
    (works →
      (x.stuck = true → exec (.stuckDetected n v) s = .next s) ∧
      (x.stuck = false → ∃ t, exec (.stuckDetected n v) s = .next t ∧ others t ∧ rb st 1 t.dev = true ∧
        rf st 31 24 t.dev = (rf st 31 24 d + 1) % 256 ∧
        getSd n t.dev = { x with bits := shifted (List.replicate 64 v), stuck := true }) ∧
      (x.stuck = false → exec (.stuckEnd n) s = .next s) ∧
      (x.stuck = true → sets (.stuckEnd n) { x with stuck := false, bits := ((!x.bits.headD false) :: x.bits).take 766 }) ∧
      (let full := sdOrd n d * (sdLen n d - 1) * mclkDiv (sdClock n d) d ≤ 5 * (d.now - d.smpStart)
       (rb st 3 d = false → full → exec (.filterSettled n) s = .next { s with dev := wb st 3 true d }) ∧
       (rb st 3 d = true ∨ ¬full → exec (.filterSettled n) s = .next s)) ∧
      (rb (A.smpSd n 0xC) 31 d = false ∨ tripped n d = true → exec (.comparatorTrip n bits) s = .next s) ∧
      (rb (A.smpSd n 0xC) 31 d = true → tripped n d = false →
        (cmpTrips n (shifted bits) d = false → sets (.comparatorTrip n bits) { x with bits := shifted bits }) ∧
        (cmpTrips n (shifted bits) d = true → ∃ t, exec (.comparatorTrip n bits) s = .next t ∧ others t ∧
          tripped n t.dev = true ∧ rb st 0 t.dev = true ∧ getSd n t.dev = { x with bits := shifted bits } ∧
          (∀ i < 24, i ≠ n.val → tripped i t.dev = tripped i d) ∧
          ∀ u < 16, (rb (A.smpSd n 0xC) u d = true → ccTripped u t.dev = true ∧
              (ccMode u d ≠ 0 → 6 ∉ d.vddio →
                ccOut u t.dev = ccLevel (rf (A.smpCc u 0) 21 20 d))) ∧
            (rb (A.smpSd n 0xC) u d = false → ccTripped u t.dev = ccTripped u d ∧ getCc u t.dev = getCc u d)))) ∧
    (let lat := d.sys.mode = .service ∧ committed d = true ∧ rb (A.smpSd n 0) 31 d = true ∧ rb (A.smpSd n 0) 25 d = true
     let run := mclkRuns (sdClock n d) d
     let c := rd A.memImgCycle d
     let tag := if prev then c - 1 else c
     let due := d.img.begun = true ∧ x.latched ≠ some tag ∧
       let lofs := (rd (A.smpSd n 4) d).toNat
       if prev then c ≠ 0 ∧ x.latched ≠ some c ∧ d.img.prevNow + lofs < d.img.openNow else d.img.openNow + lofs ≤ d.now
     let y := if run then shifted bits else x.bits
     let res : BitVec 24 := if run then sincResult (sdOrd n d) (sdLen n d) y else 0
     let valid := run && rb st 3 d && !x.stuck
     let g := rf (A.smpSd n 8) 13 0 d
     (¬lat → exec (.samplerLatch n bits prev) s = .next s) ∧
     (lat → ¬due → exec (.samplerLatch n bits prev) s = .next s) ∧
     (lat → due → ∃ t, exec (.samplerLatch n bits prev) s = .next t ∧ others t ∧
       getSd n t.dev = { x with bits := y, count := x.count + 1, latched := some tag } ∧
       rf (A.smpSd n 0x18) 31 8 t.dev = res.toNat ∧
       (banksReady (0x06000000 + 8 * g) d = true → fld (producer g d) 31 16 = 0x3000 + n.val → rb (A.smpSd n 0) 24 d = false →
         (prev = true → t.dev.img.late = true ∧ ∀ h < 16384, openGran h t.dev = openGran h d) ∧
         (prev = false → openGran g t.dev = BitVec.ofNat 64 (valid.toNat * 2 ^ 63 + (tripped n d).toNat * 2 ^ 62 +
           (x.count + 1) % 65536 * 2 ^ 32 + res.toNat * 2 ^ 8) ∧ t.dev.img.written.getLsbD g = true) ∧
         ∀ h < 16384, h ≠ g → openGran h t.dev = openGran h d ∧ committedGran h t.dev = committedGran h d))) ∧
    (powered d = false → exec (.tripRelease m w) s = .next s) ∧
    (powered d = true → ∃ t, exec (.tripRelease m w) s = .next t ∧ t.fuses = s.fuses ∧ t.dev.mem = d.mem ∧
      t.dev.sds = d.sds ∧ rd A.smpTrip t.dev = rd A.smpTrip d &&& ~~~(w &&& 0xFFFFFF) ∧
      ∀ u < 16,
        let held := ∃ i < 24, tripped i d = true ∧ bit w i = false ∧ rb (A.smpSd i 0xC) u d = true
        (held → ccTripped u t.dev = ccTripped u d ∧ getCc u t.dev = getCc u d) ∧ (¬held → ccTripped u t.dev = false))) ∧
  (∀ r i : Nat, 8 ≤ r → sincWeight 1 r i = 1 ∧ sincWeight 2 r 0 = 1 ∧ sincWeight 3 r 0 = 1 ∧
    (i + 1 < 2 * r - 1 → sincWeight 2 r (i + 1) - sincWeight 2 r i = if i + 1 < r then 1 else -1) ∧
    (i + 1 < 3 * r - 2 → sincWeight 3 r (i + 1) - sincWeight 3 r i =
      (if i + 1 < 2 * r - 1 then sincWeight 2 r (i + 1) else 0) - (if r ≤ i + 1 then sincWeight 2 r (i + 1 - r) else 0)))

/-- R443-R454: the capture/compare units, read-back, and the Loop Array's commands and arithmetic. -/
def Obligations.CaptureOutputsAndLoops : Prop :=
  (∀ (u : Fin 16) (rise prev : Bool) (phase : Fin 8) (m : Fin 20) (s : State),
    let d := s.dev
    let x := getCc u d
    let st := A.smpCc u 0x18
    let runs (mode : Nat) : Prop := d.sys.mode = .service ∧ committed d = true ∧ rb (A.smpCc u 0) 31 d = true ∧ ccMode u d = mode
    let others (t : State) : Prop := t.fuses = s.fuses ∧ t.dev.mem = d.mem ∧ t.dev.dsp = d.dsp ∧ t.dev.sds = d.sds ∧
      ∀ i < 16, i ≠ u.val → getCc i t.dev = getCc i d
    (¬runs 0 → ∀ i ∈ [Instr.captureEdge u rise phase, .captureLatch u prev], exec i s = .next s) ∧
    (runs 0 →
      let code := rf (A.smpCc u 0) 28 27 d
      let takes := (code ≠ 1 ∧ code ≠ 2 ∨ (code = 1 ↔ rise = true)) ∧
        ∀ r f, x.seen = some (d.now, r, f) → (if rise then r else f) = false
      let j := rf (A.smpCc u 0) 26 25 d
      let y := { x with tag := x.tag + 1, count := if x.count < 0xFFFF then x.count + 1 else 0xFFFF
                        lastEdge := word ((tbNs j d).toNat * 8 + phase) }
      ∃ t, exec (.captureEdge u rise phase) s = .next t ∧ others t ∧ t.dev.img = d.img ∧ rb st 3 t.dev = rise ∧
        (¬takes → { getCc u t.dev with seen := x.seen } = x) ∧
        (takes → x.fifo.length < 4 → rb st 0 t.dev = true ∧ rd (A.smpCc u 0x1C) t.dev = word (x.fifo.length + 1) ∧
          { getCc u t.dev with seen := x.seen } = { y with fifo := x.fifo ++ [stampAt j (x.tag + 1) (80 * phase) d] }) ∧
        (takes → 4 ≤ x.fifo.length → rb st 1 t.dev = true ∧ { getCc u t.dev with seen := x.seen } = y)) ∧
    (runs 0 →
      let c := rd A.memImgCycle d
      let tag := if prev then c - 1 else c
      let due := d.img.begun = true ∧ x.latched ≠ some tag ∧
        let lofs := (rd (A.smpCc u 0x14) d).toNat
        if prev then c ≠ 0 ∧ x.latched ≠ some c ∧ d.img.prevNow + lofs < d.img.openNow else d.img.openNow + lofs ≤ d.now
      let g := rf (A.smpCc u 0x10) 13 0 d
      (rb (A.smpCc u 0) 22 d = false ∨ ¬due → exec (.captureLatch u prev) s = .next s) ∧
      (rb (A.smpCc u 0) 22 d = true → due → ∃ t, exec (.captureLatch u prev) s = .next t ∧ others t ∧
        getCc u t.dev = { x with count := 0, lastEdge := 0, latched := some tag } ∧
        (banksReady (0x06000000 + 8 * g) d = true → fld (producer g d) 31 16 = 0x6000 + u.val →
          (prev = true → t.dev.img.late = true ∧ openGran g t.dev = openGran g d) ∧
          (prev = false → openGran g t.dev = BitVec.ofNat 64 (x.count * 2 ^ 48 + (rb st 3 d).toNat * 2 ^ 47 +
            (if x.count = 0 then 0 else x.lastEdge.toNat)))))) ∧
    (powered d = false → exec (.captureReadHead m u) s = .next s ∧ exec (.captureReadLast m u) s = .next s) ∧
    (powered d = true →
      (∃ t, exec (.captureReadHead m u) s = .next t ∧ others t ∧ t.dev.img = d.img ∧
        tabGet zeroDefault t.dev.rdata m = (x.fifo.head?.getD stampZero).w0 ∧
        getCc u t.dev = if m.val = 19 then x else { x with latch := x.fifo.head?.getD stampZero }) ∧
      (∃ t, exec (.captureReadLast m u) s = .next t ∧ others t ∧ t.dev.img = d.img ∧
        tabGet zeroDefault t.dev.rdata m = x.latch.w3 ∧
        getCc u t.dev = if m.val ≠ 19 ∧ bit x.latch.w3 23 = true then { x with fifo := x.fifo.tail } else x)) ∧
    (let due (t : Nat) : Prop := runs 1 ∧ (x.next = some t ∨ x.sync = some t) ∧ (∀ q, x.next = some q → t ≤ q) ∧
       (∀ q, x.sync = some q → t ≤ q) ∧ t / 8 ≤ d.now
     ((∀ t, ¬due t) → exec (.pwmPeriodStart u) s = .next s) ∧
     ∀ p, due p →
       let len := 8 * max 2 (rf (A.smpCc u 4) 23 0 d)
       let share (v : Word) : Nat := if v.msb then 0 else v.toNat * len / 2 ^ 31
       ∃ t, exec (.pwmPeriodStart u) s = .next t ∧ others t ∧ t.dev.img = d.img ∧
         (let y := getCc u t.dev
          y.active = true ∧ y.start = p ∧ y.next = some (p + len) ∧
          y.sync = (if x.sync = some p then none else x.sync) ∧ y.fifo = x.fifo ∧
          (rb (A.smpCc u 0) 23 d = false → y.duty = rf (A.smpCc u 8) 28 0 d) ∧
          (rb (A.smpCc u 0) 23 d = true → (x.dnew = none → y.duty = share x.dval) ∧
            ∀ q v, x.dnew = some (q, v) → y.duty = share (if q ≤ p then v else x.dval) ∧
              y.dnew = if q ≤ p then none else some (q, v)) ∧
          (ccTripped u d = false → outputsHeld d = false → 6 ∉ d.vddio →
            ccOut u t.dev = some (decide (8 * d.now - p < y.duty)))))) ∧
  (∀ (p : Fin 144) (m : Fin 20) (j : Fin 2) (v : Word) (s : State),
    let d := s.dev
    let compared := d.sys.mode = .service ∧ committed d = true ∧
      (p.val < 128 → bit (pinWord p d) 2 = true ∧ d.pins.en.getLsbD p = true ∧
        tabGet (fun _ => 0) d.pins.changed p + 808 ≤ d.now) ∧
      (128 ≤ p.val → rb (A.smpCc (p.val - 128) 0) 17 d = true ∧ (ccOut (p.val - 128) d).isSome = true)
    (¬compared → exec (.readbackMismatch p) s = .next s) ∧
    (compared → ∃ t, exec (.readbackMismatch p) s = .next t ∧ t.fuses = s.fuses ∧ t.dev.mem = d.mem ∧
      t.dev.pins.val = d.pins.val ∧ t.dev.pins.en = d.pins.en ∧
      (p.val < 128 → rb A.pioRbStat 0 t.dev = true) ∧
      (rb A.safStat 0 d = false → t.dev.saf = { d.saf with
        reports := d.saf.reports ++ [⟨0x4A, if p.val < 128 then 0x1C else 0x1D, 0, 0⟩] }) ∧
      (rb A.safStat 0 d = true → rb A.safPend 10 t.dev = true ∧ rb A.safStat 2 t.dev = true)) ∧
    (powered d = false → exec (.loopApply m j v) s = .next s ∧ exec (.loopReset m j v) s = .next s) ∧
    (powered d = true →
      (∃ t, exec (.loopApply m j v) s = .next t ∧ t.fuses = s.fuses ∧ t.dev.mem = d.mem ∧ t.dev.tabs = d.tabs ∧
        t.dev.loop = d.loop ∧ ∀ n < 64, loopPending n t.dev = (loopPending n d || decide (n / 32 = j.val) && bit v (n % 32))) ∧
      (∃ t, exec (.loopReset m j v) s = .next t ∧ t.fuses = s.fuses ∧ t.dev.mem = d.mem ∧ t.dev.tabs = d.tabs ∧
        { t.dev.loop with reset := d.loop.reset } = d.loop ∧
        (∀ n < 64, t.dev.loop.reset.getLsbD n = (d.loop.reset.getLsbD n || decide (n / 32 = j.val) && bit v (n % 32))) ∧
        ∀ n < 64, loopPending n t.dev = loopPending n d))) ∧
  ∀ (p : LoopPar) (q : LoopState) (a sp : Word),
    let r := loopStep p q a sp
    (p.hold = true → r = (q.s3, word (2 ^ 27), q)) ∧
    (p.hold = false →
      r.2.2.s3 = r.1 ∧
      (p.type < 3 → p.umin.toInt ≤ p.umax.toInt → p.umin.toInt ≤ r.1.toInt ∧ r.1.toInt ≤ p.umax.toInt) ∧
      (p.type = 0 → bit r.2.1 28 = true → r.2.2.s0 = q.s0) ∧
      (p.type = 0 → bit r.2.1 28 = false → p.umin.toInt ≤ p.umax.toInt →
        p.umin.toInt * 2 ^ 31 ≤ r.2.2.s0 ∧ r.2.2.s0 ≤ p.umax.toInt * 2 ^ 31) ∧
      (p.type = 1 → r.2.2.s1 = a ∧ r.2.2.s2 = q.s1 ∧ r.2.2.s4 = q.s3) ∧
      (p.type = 2 → r.2.2.s1 = a) ∧
      (p.type = 3 → p.c0.msb = false → (r.1.toInt - q.s3.toInt).natAbs ≤ p.c0.toNat))

/-- R461-R470, R545, R540: the decision, the entry into Twilight, the monitors and the I/O supplies. -/
def Obligations.SafetyDecisionAndMonitors : Prop :=
  ∀ (m : Fin 20) (k : Fin 5) (b : Fin 15) (mv lo hi : BitVec 16) (v : Word) (s : State),
    let d := s.dev
    let fault := rb A.safStat 0 d = true
    let kept (t : State) : Prop := t.fuses = s.fuses ∧ t.dev.mem = d.mem ∧ t.dev.img = d.img ∧ t.dev.sys.mode = d.sys.mode
    -- a report reaches the controller: it waits for the decision, or after it sets its SAF_PEND bit and LATER and is logged
    let reported (code unit : Nat) (t : State) : Prop :=
      (¬fault → t.dev.saf.reports = d.saf.reports ++ [⟨code, unit, 0, 0⟩] ∧ t.dev.sys.log = d.sys.log) ∧
      (fault → rb A.safPend (code - 0x40) t.dev = true ∧ rb A.safStat 2 t.dev = true ∧
        t.dev.saf.reports = d.saf.reports ∧ ∃ e ∈ t.dev.sys.log, e.code = code)
    (fault ∨ d.saf.reports = [] → exec .safetyDecision s = .next s) ∧
    (∀ r before after, ¬fault → d.saf.reports = before ++ r :: after → (∀ q ∈ before, r.code < q.code) →
      (∀ q ∈ after, r.code ≤ q.code) → (∀ q ∈ d.saf.reports, 0x40 ≤ q.code ∧ q.code ≤ 0x4C ∧ q.unit < 256) →
      let tw := d.sys.mode = .twilight
      (tw → r.code = 0x40 → sameReset d = none → ∃ t, exec .safetyDecision s = .next t ∧ t.dev.sys.mode = .startup ∧ t.fuses = s.fuses ∧
        rf A.sysRstCause 7 0 t.dev = 5 ∧ rf A.sysRstCause 15 8 t.dev = d.sys.twCode % 256 ∧ ∃ e ∈ t.dev.sys.log, e.code = 0x40) ∧
      (¬(tw ∧ r.code = 0x40) → ∃ t, exec .safetyDecision s = .next t ∧ t.fuses = s.fuses ∧ t.dev.mem = d.mem ∧
        t.dev.img.pages = d.img.pages ∧ t.dev.sys.mode = .twilight ∧ rb A.safStat 0 t.dev = true ∧
        t.dev.saf.reports = [] ∧ t.dev.saf.decided = d.now ∧ rd A.safFault t.dev = word (r.code * 2 ^ 24 + r.unit * 2 ^ 16) ∧
        rd A.safFaultAddr t.dev = word r.addr ∧ rd A.safFaultIdx t.dev = word r.idx ∧
        rd A.safFaultTl t.dev = (tbNs 0 d).setWidth 32 ∧ rd A.safFaultTh t.dev = (tbNs 0 d >>> 32).setWidth 32 ∧
        (∀ q ∈ before ++ after, rb A.safPend (q.code - 0x40) t.dev = true ∧ rb A.safStat 2 t.dev = true) ∧
        (∀ i < 32, rb A.safPend i t.dev = true → rb A.safPend i d = true ∨ ∃ q ∈ before ++ after, q.code = 0x40 + i) ∧
        rb A.hstIntPend 17 t.dev = true ∧ (⟨r.code, tbNs 0 d, rf A.sysRstCause 31 16 d, 0⟩ : LogEntry) ∈ t.dev.sys.log ∧
        faultN t.dev = true ∧
        (tw → rb A.safStat 1 t.dev = true ∧ t.dev.sys.twCode = d.sys.twCode ∧ t.dev.pins = d.pins) ∧
        (¬tw → rb A.safStat 1 t.dev = rb A.safStat 1 d ∧ t.dev.sys.twCode = r.code ∧ t.dev.sys.twTime = d.now ∧
          t.dev.sys.trans = none ∧ t.dev.saf.swdogOn = true ∧
          (∀ c < 16, coreRuns c t.dev = false) ∧
          (∀ n < 32, (getPio n t.dev).state = if (getPio n d).state = .disabled then .disabled else .halted) ∧
          (∀ n < 4, rf (A.canStat n) 23 21 t.dev = CanState.code .off) ∧
          (∀ p < 10, rb (A.ethCtrl p) 15 d = true → (getEth p t.dev).link = .down ∧ (getEth p t.dev).lane = false) ∧
          (committed d = true →
            (∀ p < 128, let safe := fld (pinWord p d) 7 6
              t.dev.pins.val.getLsbD p = decide (safe = 2) ∧ t.dev.pins.en.getLsbD p = decide (safe = 1 ∨ safe = 2)) ∧
            ∀ u < 16, ccMode u d ≠ 0 → 6 ∉ d.vddio → ccOut u t.dev = ccLevel (rf (A.smpCc u 0) 21 20 d)) ∧
          (committed d = false → t.dev.pins = d.pins ∧ ∀ u < 16, ccOut u t.dev = none)))) ∧
    (let may := d.sys.mode = .twilight ∧ fault ∧ rb A.safStat 1 d = false ∧ d.now ≤ d.saf.decided + 40000
     (¬may → exec .twilightConfirmed s = .next s) ∧
     (may → exec .twilightConfirmed s = .next { s with dev := { wb A.safStat 1 true d with
       sys := { d.sys with romLoop := true } } })) ∧
    (monitored d = false → ∀ i ∈ [Instr.lockstepMismatch, .voltageFault k mv, .temperatureSample lo hi], exec i s = .next s) ∧
    (powered d = false → exec (.safReq m v) s = .next s) ∧
    (powered d = true ∨ (d.sys.mode = .retain ∧ crcPhase d = 3) →
      (¬(d.sys.mode = .twilight ∧ fault) → ∃ t, exec .lockstepMismatch s = .next t ∧ kept t ∧ reported 0x40 0xFF t) ∧
      (d.sys.mode = .twilight → fault → sameReset d = none → ∃ t, exec .lockstepMismatch s = .next t ∧ t.fuses = s.fuses ∧
        t.dev.sys.mode = .startup ∧ t.dev.boot.step = .pll ∧ rb A.safStat 4 t.dev = true ∧ rf A.sysRstCause 7 0 t.dev = 5 ∧
        rf A.sysRstCause 15 8 t.dev = d.sys.twCode % 256 ∧ ∃ e ∈ t.dev.sys.log, e.code = 0x40) ∧
      (let inside := if k.val < 3 then 740 ≤ mv.toNat ∧ mv.toNat ≤ 860
         else if k.val = 3 then 830 ≤ mv.toNat ∧ mv.toNat ≤ 970 else 1660 ≤ mv.toNat ∧ mv.toNat ≤ 1940
       (inside → exec (.voltageFault k mv) s = .next { s with dev := wr (A.safVmon k) (mv.setWidth 32) d }) ∧
       (¬inside → ∃ t, exec (.voltageFault k mv) s = .next t ∧ kept t ∧ reported 0x45 0xFF t ∧
         rd (A.safVmon k) t.dev = mv.setWidth 32)) ∧
      (let bad := lo.toInt < -188 ∨ 528 < hi.toInt
       ∃ t, exec (.temperatureSample lo hi) s = .next t ∧ kept t ∧ rd A.safTmon t.dev = lo ++ hi ∧
         t.dev.saf.tempBad = decide bad ∧
         (bad → d.saf.tempBad = true → reported 0x46 0xFF t) ∧
         (¬(bad ∧ d.saf.tempBad = true) → t.dev.saf.reports = d.saf.reports ∧ rd A.safPend t.dev = rd A.safPend d ∧
           t.dev.sys.log = d.sys.log))) ∧
    (powered d = true →
      (m ≠ 0 → ∃ t, exec (.safReq m v) s = .next t ∧ kept t ∧ rb A.safStat 5 t.dev = true ∧ t.dev.saf = d.saf ∧
        ∀ a, a ≠ A.safStat → rd a t.dev = rd a d) ∧
      (m = 0 → v.toNat / 65536 = 0x0C5F → ∃ t, exec (.safReq m v) s = .next t ∧ kept t ∧ reported 0x4C 0xFF t) ∧
      (m = 0 → v.toNat / 65536 ≠ 0x0C5F → ∃ t, exec (.safReq m v) s = .next t ∧ kept t ∧ t.dev.saf = d.saf)) ∧
    (∃ t, exec (.vddioBankLoss b) s = .next t ∧ t.fuses = s.fuses ∧ { t.dev with vddio := d.vddio } = d ∧
      (∀ x, x ∈ t.dev.vddio ↔ x = b.val ∨ x ∈ d.vddio) ∧ (b.val = 6 → ∀ u, ccOut u t.dev = none)) ∧
    (∃ t, exec (.vddioBankReturn b) s = .next t ∧ t.fuses = s.fuses ∧ { t.dev with vddio := d.vddio } = d ∧
      ∀ x, x ∈ t.dev.vddio ↔ x ≠ b.val ∧ x ∈ d.vddio)

/-- R480-R495: the security commands, what they burn, and tamper trips. -/
def Obligations.FusesAndSecurityCommands : Prop :=
  ∀ (m : Fin 20) (arg : BitVec 3) (same : Bool) (k : Fin 7) (nb : BitVec 10) (s : State),
    let d := s.dev
    let f := s.fuses
    let st := lifeState d
    let dbg := rf A.secLc 11 9 d
    let busy := rb A.secStat 0 d = true
    -- the debug rights of R492 for a command
    let vendor := dbg = 3
    let rights (op : Nat) : Prop := lifeKnown d = true ∧ rb A.secLc 25 d = false ∧
      (st = 0 ∨ st = 1 ∨ st = 4 ∨ (st = 2 ∧ (op = 7 ∨ op = 8 ∨ (op = 2 ∧ vendor))) ∨ (st = 3 ∧ vendor ∧ (op = 2 ∨ op = 8)))
    let may (op : Nat) : Prop := (m = 0 ∧ secureMode d = true) ∨ (m = 19 ∧ rights op)
    let usable (j : Nat) : Prop := f.has (fuseProg j) = true ∧ f.has (fuseRev j) = false
    let life (op : Nat) : Prop := op = 1 ∨ op = 2 ∨ op = 3
    let permitted (op a : Nat) : Prop :=
      (op = 1 ∧ ((st + 1 = a ∧ a ≤ 2 ∧ ∃ j < 4, usable j) ∨ (st = 2 ∧ a = 3))) ∨
      (op = 2 ∧ 1 ≤ st ∧ st ≤ 3 ∧ vendor) ∨
      (op = 3 ∧ st ≠ 5) ∨
      (op = 4 ∧ a < 4 ∧ f.has (fuseProg a) = false ∧ f.has (fuseRev a) = false ∧ (∀ i < 384, f.has (fuseHash a i) = false) ∧
        (st = 0 ∨ st = 1 ∨ st = 4 ∨ ((st = 2 ∨ st = 3) ∧ m = 0))) ∨
      (op = 5 ∧ a < 4 ∧ st ≠ 5 ∧ (st = 0 ∨ ∃ j < 4, j ≠ a ∧ usable j)) ∨
      (op = 6 ∧ (st = 0 ∨ st = 1) ∧ f.has fuseKeySet = false) ∨
      op = 7
    let kept (t : State) : Prop := t.fuses = f ∧ t.dev.mem = d.mem ∧ t.dev.img = d.img ∧ t.dev.sys = d.sys
    let taken (i : Instr) (op a : Nat) : Prop :=
      (powered d = false → exec i s = .next s) ∧
      (powered d = true → ¬may op → exec i s = .next { s with dev := raise A.secStat 3 d }) ∧
      (powered d = true → may op → busy → ∃ t, exec i s = .next t ∧ kept t ∧ rb A.secStat 2 t.dev = true ∧
        t.dev.sec = d.sec ∧ t.dev.ctxs = d.ctxs) ∧
      (powered d = true → may op → ¬busy → ¬permitted op a → ∃ t, exec i s = .next t ∧ kept t ∧
        rb A.secStat 2 t.dev = true ∧ t.dev.sec = { d.sec with stage := [] } ∧ t.dev.ctxs = d.ctxs) ∧
      (powered d = true → may op → ¬busy → permitted op a → ∃ t, exec i s = .next t ∧ kept t ∧ rb A.secStat 0 t.dev = true ∧
        t.dev.sec = { d.sec with cmd := some (op, a) } ∧ t.dev.ctxs = d.ctxs ∧
        (life op → rb A.memVaultStat 0 t.dev = true ∧ (rb A.memVaultStat 0 d = false → rf A.memVaultStat 7 5 t.dev = 2)) ∧
        (¬life op → rd A.memVaultStat t.dev = rd A.memVaultStat d))
    taken (.secAdvance m arg) 1 arg.toNat ∧ taken (.secReturn m) 2 0 ∧ taken (.secDefunct m) 3 0 ∧
    taken (.progHash m arg) 4 arg.toNat ∧ taken (.secRevoke m arg) 5 arg.toNat ∧ taken (.progImgkey m) 6 0 ∧
    taken (.debugKill m) 7 0 ∧
    (powered d = false → exec (.sessionEnd m) s = .next s) ∧
    (powered d = true → ¬may 8 → exec (.sessionEnd m) s = .next { s with dev := raise A.secStat 3 d }) ∧
    (powered d = true → may 8 → busy → ∃ t, exec (.sessionEnd m) s = .next t ∧ kept t ∧ rb A.secStat 2 t.dev = true ∧
      t.dev.sec = d.sec) ∧
    (powered d = true → may 8 → ¬busy → ∃ t, exec (.sessionEnd m) s = .next t ∧ kept t ∧ rb A.secStat 1 t.dev = true ∧
      t.dev.sec.cmd = none ∧ t.dev.sec.stage = [] ∧ rf A.secLc 11 9 t.dev = if dbg = 2 ∨ dbg = 3 then dbgBase d else dbg) ∧
    -- the end of the running command
    (d.sec.cmd = none ∨ powered d = false → exec (.secCommandDone same) s = .next s) ∧
    (∀ op a, d.sec.cmd = some (op, a) → powered d = true →
      let staged (i : Nat) : Prop := bit (tabGet zeroDefault d.sec.stage (i / 32)) (i % 32) = true
      let burns (i : Nat) : Prop :=
        (op = 1 ∧ ((a = 1 ∧ i = fuseLc 0) ∨ (a = 2 ∧ i = fuseLc 1) ∨ (a ≠ 1 ∧ a ≠ 2 ∧ i = fuseLc 2))) ∨
        (op = 2 ∧ (i = fuseDead ∨ i = fuseLc 3 ∨ ∃ j < 4, f.has (fuseProg j) = true ∧ i = fuseRev j)) ∨
        (op = 3 ∧ i = fuseLc 4) ∨
        (op = 4 ∧ ((∃ j < 384, staged j ∧ i = fuseHash a j) ∨ (same = true ∧ i = fuseProg a))) ∨
        (op = 5 ∧ i = fuseRev a) ∨
        (op = 6 ∧ ((∃ j < 256, staged j ∧ i = fuseKey j) ∨ (same = true ∧ i = fuseKeySet))) ∨
        (op = 7 ∧ i = fuseKill)
      (life op → rb A.memVaultStat 0 d = true → exec (.secCommandDone same) s = .next s) ∧
      (¬(life op ∧ rb A.memVaultStat 0 d = true) → ∃ t, exec (.secCommandDone same) s = .next t ∧ t.dev.mem = d.mem ∧
        t.dev.sys = d.sys ∧ (∀ i, i ∈ t.fuses.burned ↔ i ∈ f.burned ∨ burns i) ∧
        t.dev.sec.cmd = none ∧ t.dev.sec.stage = [] ∧ rb A.secStat 0 t.dev = false ∧
        rb A.secStat (if same = false ∧ (op = 4 ∨ op = 6) then 2 else 1) t.dev = true ∧
        lifeState t.dev = st ∧
        (phase5Done d = true ∨ st ≠ 0 → rf A.secLc 28 26 t.dev = t.fuses.life ∧ rb A.secLc 25 t.dev = t.fuses.has fuseKill ∧
          rf A.secLc 22 19 t.dev = maskOf 4 t.fuses.usable) ∧ (op = 7 → rf A.secLc 11 9 t.dev = 4) ∧
        (life op → rf A.secLc 11 9 t.dev ≠ 2 ∧ rf A.secLc 11 9 t.dev ≠ 3) ∧
        (op ≠ 7 → ¬life op → rf A.secLc 11 9 t.dev = dbg))) ∧
    -- tamper
    (let on := powered d = true ∨ (d.sys.mode = .retain ∧ crcPhase d = 3)
     let watched := rb (A.secTampCfg k) 31 d = true ∧ (on ∨ ((k.val < 4 ∨ k.val = 6) ∧
       (d.sys.mode = .off ∨ (d.sys.mode = .retain ∧ rb A.sysPwrCfg 0 d = true))))
     let act := tamperAct k d
     let n := rf A.secTampLog 15 0 d
     let fault := rb A.safStat 0 d = true
     (¬watched → exec (.tamperTrip k nb) s = .next s) ∧
     (watched → ∃ t, exec (.tamperTrip k nb) s = .next t ∧ (∀ i ∈ f.burned, i ∈ t.fuses.burned) ∧
       (d.sec.cmd = none → t.fuses = f) ∧ t.dev.mem = d.mem ∧ rb A.memVaultStat 0 t.dev = true ∧
       rf A.secLc 11 9 t.dev ≠ 2 ∧ rf A.secLc 11 9 t.dev ≠ 3 ∧ rb A.secStat 4 t.dev = true ∧
       rf A.secTampLog 30 28 t.dev = k.val ∧ rf A.secTampLog 15 0 t.dev = (if n < 0xFFFF then n + 1 else 0xFFFF) ∧
       (d.sec.cmd.isSome = true → rb A.secStat 2 t.dev = true) ∧
       (on → act = 2 → t.dev.sec.cmd = some (3, 0) ∧ rb A.secStat 0 t.dev = true) ∧
       (¬on ∨ act ≠ 2 → t.dev.sec.cmd = none) ∧
       (d.sys.mode = .startup → t.dev.sys.mode = .twilight ∧ t.dev.sys.twCode = 0x4B ∧ t.dev.sys.romLoop = true) ∧
       (on → d.sys.mode ≠ .startup → t.dev.sys.mode = d.sys.mode ∧
         (act = 0 → t.dev.saf = d.saf) ∧
         (act = 0 → rb A.sysWakeEn 3 d = true → d.sys.mode = .service → inDoze d = true → d.sys.trans = none →
           inDoze t.dev = false ∧ rf A.sysPwrStat 14 12 t.dev = 4) ∧
         (act ≠ 0 → ¬fault → t.dev.saf.reports = d.saf.reports ++ [⟨0x4B, 0xFF, 0, 0⟩]) ∧
         (act ≠ 0 → fault → rb A.safPend 11 t.dev = true ∧ rb A.safStat 2 t.dev = true)) ∧
       (¬on → t.dev.saf = d.saf ∧
         (act ≠ 0 → rb A.secTampLog 31 t.dev = true) ∧ (act = 0 → rb A.secTampLog 31 t.dev = rb A.secTampLog 31 d) ∧
         (rb A.sysWakeEn 3 d = false → t.dev.sys = d.sys))))

/-- R483, R491-R499: the ROM's gates, the TAP and authentication. -/
def Obligations.GatesTapAndDebug : Prop :=
  ∀ (wr served : Bool) (a v : Word) (cells levels bs : List Byte) (s : State),
    let d := s.dev
    let x := getCtx supKey d
    let o := (x.dr 2).toNat
    let kept (t : State) : Prop := t.fuses = s.fuses ∧ t.dev.regs = d.regs ∧ t.dev.mem = d.mem ∧ t.dev.img = d.img
    let at' (g : Nat) : Prop := atGate g d = true
    let back (y : Ctx) (status : Word) (t : State) : Prop := getCtx supKey t.dev = { y.setD 4 status with pc := x.lr }
    let vault := o < 0x80000 ∧ o % 4 = 0 ∧ rb A.memVaultStat 0 d = false ∧ bankReady (40 + o / 0x40000) d = true
    let word' := BitVec.ofNat 32 (leNat (memBytes (0x07000000 + o) 4 d))
    (¬at' 0 → exec .vaultRead s = .next s) ∧ (¬at' 1 → exec .vaultWrite s = .next s) ∧
    (¬at' 2 → exec .vaultWipe s = .next s) ∧ (¬at' 3 → exec .secCommand s = .next s) ∧
    (at' 0 → vault → badIn (0x07000000 + o) 4 d = none → ∃ t, exec .vaultRead s = .next t ∧ kept t ∧ back (x.setD 3 word') 0 t) ∧
    (at' 0 → ¬vault → ∃ t, exec .vaultRead s = .next t ∧ t.fuses = s.fuses ∧ t.dev.mem = d.mem ∧ back x 1 t) ∧
    (at' 1 → vault → ∃ t, exec .vaultWrite s = .next t ∧ t.fuses = s.fuses ∧ t.dev.regs = d.regs ∧ back x 0 t ∧
      ∀ b, 0x20000 ≤ b → memByte b t.dev = if 0x07000000 + o ≤ b ∧ b < 0x07000000 + o + 4 then
        BitVec.ofNat 8 ((x.dr 3).toNat >>> (8 * (b - (0x07000000 + o)))) else memByte b d) ∧
    (at' 1 → ¬vault → ∃ t, exec .vaultWrite s = .next t ∧ t.fuses = s.fuses ∧ t.dev.mem = d.mem ∧ back x 1 t) ∧
    (at' 2 → ∃ t, exec .vaultWipe s = .next t ∧ t.fuses = s.fuses ∧ t.dev.mem = d.mem ∧ rb A.memVaultStat 0 t.dev = true ∧
      back x 0 t) ∧
    (at' 3 →
      let w := x.dr 2
      let op := fld w 15 12
      let taken := fld w 31 16 = 0x0E5C ∧ 1 ≤ op ∧ op ≤ 8 ∧ commandOk 0 op (fld w 2 0) s.fuses d = true ∧
        (op = 4 ∨ op = 6 → (stagingAt (x.dr 3).toNat d).isSome = true)
      let busy := rb A.secStat 0 d = true
      (busy ∨ ¬taken → ∃ t, exec .secCommand s = .next t ∧ t.fuses = s.fuses ∧ t.dev.mem = d.mem ∧
        rb A.secStat 2 t.dev = true ∧ t.dev.sec = d.sec ∧ back x (if busy then 2 else 1) t) ∧
      (¬busy → taken → op = 8 → ∃ t, exec .secCommand s = .next t ∧ t.fuses = s.fuses ∧ t.dev.mem = d.mem ∧
        rb A.secStat 1 t.dev = true ∧ back x 0 t) ∧
      (¬busy → taken → op ≠ 8 → ∃ t, exec .secCommand s = .next t ∧ t.fuses = s.fuses ∧ t.dev.mem = d.mem ∧
        rb A.secStat 0 t.dev = true ∧ t.dev.sec.cmd = some (op, fld w 2 0) ∧ t.dev.sec.gate = true ∧
        getCtx supKey t.dev = x ∧
        ∀ l, op = 4 ∨ op = 6 → stagingAt (x.dr 3).toNat d = some l →
          ∀ i < 12, tabGet zeroDefault t.dev.sec.stage i = l.getD i 0)) ∧
    -- the TAP
    (let selects (i : Instr) (code drive : Nat) (dr bsr : List Byte) : Prop := exec i s = .next { s with
       dev := { d with sec := { d.sec with ir := code, drive := drive, dr := dr, bsr := bsr } } }
     let tw := d.sys.mode = .twilight
     (powered d = true →
       selects (.tapExtest cells levels) 0x00 (if tw then 1 else 0) levels cells ∧
       selects (.tapSamplePreload cells levels) 0x02 0 levels cells ∧
       (tw → selects (.tapHighz levels) 0x03 2 [0] d.sec.bsr ∧ selects (.tapClamp levels) 0x04 3 [0] d.sec.bsr) ∧
       (¬tw → selects (.tapHighz levels) 0x03 0 levels d.sec.bsr ∧ selects (.tapClamp levels) 0x04 0 levels d.sec.bsr)) ∧
     (powered d = false → selects (.tapExtest cells levels) 0x00 0 [0] d.sec.bsr ∧
       selects (.tapSamplePreload cells levels) 0x02 0 [0] d.sec.bsr ∧
       selects (.tapHighz levels) 0x03 0 [0] d.sec.bsr ∧ selects (.tapClamp levels) 0x04 0 [0] d.sec.bsr) ∧
     selects .tapIdcode 0x01 0 [0xC3, 0x09, 0x16, 0x14] d.sec.bsr ∧ selects .tapBypass 0x3F 0 [0] d.sec.bsr ∧
     -- debug instructions that the life cycle does not grant
     let bypass (i : Instr) (code : Nat) : Prop := selects i code 0 [0] d.sec.bsr
     let dbg := rf A.secLc 11 9 d
     let reached := powered d = true ∧ lifeKnown d = true ∧ rb A.secLc 25 d = false
     let st := lifeState d
     let granted := reached ∧ (st = 0 ∨ st = 1 ∨ st = 4 ∨ (st = 2 ∧ dbg = 2))
     (¬granted → bypass (.dbgAcc wr a v served) 0x10) ∧
     (¬reached ∨ lifeState d ≠ 0 → bypass (.dbgTest a v) 0x12) ∧
     (rb A.secLc 25 d = true ∨ lifeState d ≠ 1 → bypass .dbgWake 0x13) ∧
     (¬reached → bypass .dbgAuthCapture 0x11 ∧ bypass (.dbgAuthResponse bs) 0x11) ∧
     -- and those that it grants
     (granted →
       (region a.toNat = .reg → wr = false → ∃ t, exec (.dbgAcc wr a v served) s = .next t ∧ t.fuses = s.fuses ∧
         tabGet zeroDefault t.dev.rdata 19 = (readReg 19 0 a.toNat d).1 ∧ t.dev.mem = (readReg 19 0 a.toNat d).2.mem ∧
         t.dev.sec.dr = leBytes 4 (readReg 19 0 a.toNat d).1.toNat) ∧
       (region a.toNat = .reg → wr = true → ∃ t, exec (.dbgAcc wr a v served) s = .next t ∧ t.fuses = s.fuses ∧
         t.dev.regs = (writeReg 19 0 a.toNat v s.fuses d).regs) ∧
       (∀ n, region a.toNat = .dram n ∨ (region a.toNat = .sram ∧ committed d = false) →
         let b := a.toNat - a.toNat % 4
         banksReady b d = true → badIn b 4 d = none → ∃ t, exec (.dbgAcc wr a v served) s = .next t ∧ t.fuses = s.fuses ∧
           t.dev.regs = d.regs ∧ t.dev.ctxs = d.ctxs ∧
           (wr = false → t.dev.mem = d.mem ∧ tabGet zeroDefault t.dev.rdata 19 = word (leNat (memBytes b 4 d))) ∧
           (wr = true → ∀ c, 0x20000 ≤ c → memByte c t.dev = if b ≤ c ∧ c < b + 4 then
             BitVec.ofNat 8 (v.toNat >>> (8 * (c - b))) else memByte c d))) ∧
     (reached → lifeState d = 0 → ∀ u r i, regAt a.toNat = some (u, r, i) → ∃ t, exec (.dbgTest a v) s = .next t ∧
       t.fuses = s.fuses ∧ t.dev.mem = d.mem ∧
       ∀ c, rd c t.dev = if c = a.toNat then (rd c d &&& ~~~(word r.live)) ||| (v &&& word r.live) else rd c d) ∧
     (rb A.secLc 25 d = false → lifeState d = 1 →
       (rb A.sysWakeEn 4 d = false ∨ d.sys.mode = .service ∧ d.sys.trans = none → selects .dbgWake 0x13 0 [] d.sec.bsr) ∧
       (rb A.sysWakeEn 4 d = true → d.sys.mode = .retain ∨ d.sys.mode = .off → d.sys.trans = none → d.sys.retWake = none →
         ∃ t, exec .dbgWake s = .next t ∧ t.fuses = s.fuses ∧ t.dev.mem = d.mem ∧ t.dev.regs = d.regs ∧
           t.dev.sys = { d.sys with retWake := some 5 }))) ∧
    -- authentication
    (let reached := powered d = true ∧ lifeKnown d = true ∧ rb A.secLc 25 d = false
     let c := challengeBytes s.fuses d
     let failed (t : State) : Prop := rb A.secStat 6 t.dev = true ∧ t.dev.sec.fails = d.sec.fails + 1 ∧
       t.dev.sec.response = none ∧ (2 ≤ d.sec.fails → rb A.secStat 7 t.dev = true)
     let rest (t : State) : Prop := t.fuses = s.fuses ∧ t.dev.mem = d.mem ∧ t.dev.sys = d.sys ∧ t.dev.ctxs = d.ctxs
     (reached → ∃ t, exec .dbgAuthCapture s = .next t ∧ rest t ∧ t.dev.sec.challenge = some (c, d.now) ∧
       t.dev.sec.nonces = d.sec.nonces + 1 ∧ t.dev.sec.dr = slice c 0 196 ∧
       (d.sec.response.isSome = true → failed t) ∧ (d.sec.response = none → t.dev.regs = d.regs ∧ t.dev.sec.fails = d.sec.fails)) ∧
     c.length = 48 ∧ c.take 4 = [0x60, 0x41, 0xA1, BitVec.ofNat 8 d.sec.purpose] ∧
     (reached → d.sec.response.isSome = true → exec (.dbgAuthResponse bs) s = .next s) ∧
     (reached → d.sec.response = none → ∀ q t0, d.sec.challenge = some (q, t0) → bs.length = 196 →
       (d.now ≤ t0 + 4000000000 → exec (.dbgAuthResponse bs) s = .next { s with dev := { d with
         sec := { d.sec with response := some bs } } }) ∧
       (t0 + 4000000000 < d.now → ∃ t, exec (.dbgAuthResponse bs) s = .next t ∧ rest t ∧ failed t)) ∧
     (reached → d.sec.response = none → d.sec.challenge = none ∨ bs.length ≠ 196 → exec (.dbgAuthResponse bs) s =
       .next { s with dev := { d with sec := { d.sec with
         purpose := if (bs.getD 0 0).getLsbD 0 = true then 1 else 2 } } }) ∧
     (powered d = false ∨ d.sec.challenge = none ∨ d.sec.response = none → exec .authVerifyDone s = .next s) ∧
     (∀ q t0 r, powered d = true → d.sec.challenge = some (q, t0) → d.sec.response = some r →
       let slot := (r.getD 0 0).toNat
       let key := slice r 4 96
       let session := (q.getD 3 0).toNat = 1
       let passes := rb A.secStat 7 d = false ∧ Config.ecdsaVerify (Config.sha384 q) key (slice r 100 96) = true ∧
         (session → slot < 4 ∧ s.fuses.usable slot = true ∧ Config.sha384 key = s.fuses.hash slot ∧ lifeState d ≠ 3) ∧
         (¬session → slot = 0xFF ∧ Config.sha384 key = Config.vendorKeyHash ∧ 1 ≤ lifeState d ∧ lifeState d ≤ 3)
       (passes → ∃ t, exec .authVerifyDone s = .next t ∧ rest t ∧ rf A.secLc 11 9 t.dev = (if session then 2 else 3) ∧
         rb A.secStat 5 t.dev = true ∧ t.dev.sec.fails = 0 ∧ t.dev.sec.challenge = none ∧ t.dev.sec.response = none) ∧
       (¬passes → ∃ t, exec .authVerifyDone s = .next t ∧ rest t ∧ failed t ∧ t.dev.sec.challenge = none ∧
         rf A.secLc 11 9 t.dev = rf A.secLc 11 9 d)))

/-- R501-R516: the host ports, the status block and the interrupts to the hosts. -/
def Obligations.HostPortsAndInterrupts : Prop :=
  ∀ (rate : Fin 3) (x2 low wr bar2 early : Bool) (i : Fin 1024) (v : Word) (fm : Option Bool) (dw : BitVec 22)
    (be : List (BitVec 4)) (data : List (Option Byte)) (m : Fin 20) (vec : Fin 32) (sv : BitVec 5) (ctx : Fin 10)
    (la : BitVec 24) (lv : BitVec 16) (s : State),
    let d := s.dev
    let pow := powered d = true
    let up := rb A.hstPcieStat 0 d = true
    let service := d.sys.mode = .service
    let kept (t : State) : Prop := t.fuses = s.fuses ∧ t.dev.mem = d.mem ∧ t.dev.img = d.img ∧ t.dev.sys = d.sys ∧
      t.dev.ctxs = d.ctxs
    let same (t : State) : Prop := kept t ∧ t.dev.regs = d.regs
    -- the link
    (let trains := pow ∧ d.hst.perst = false ∧ d.boot.step ≠ .pll ∧ ¬up
     (¬trains → exec (.pcieLinkUp rate x2) s = .next s) ∧
     (trains → ∃ t, exec (.pcieLinkUp rate x2) s = .next t ∧ kept t ∧ t.dev.hst = d.hst ∧ rb A.hstPcieStat 0 t.dev = true ∧
       rf A.hstPcieStat 2 1 t.dev = rate.val + 1 ∧ rf A.hstPcieStat 4 3 t.dev = (if x2 then 2 else 1) ∧
       rb A.hstPcieStat 5 t.dev = true)) ∧
    (¬up → exec .pcieLinkDown s = .next s) ∧
    (up → ∃ t, exec .pcieLinkDown s = .next t ∧ kept t ∧ t.dev.hst = d.hst ∧ rf A.hstPcieStat 4 0 t.dev = 0 ∧
      rb A.hstPcieStat 5 t.dev = true) ∧
    (∃ t, exec (.pciePerst low) s = .next t ∧ kept t ∧ t.dev.hst.perst = low ∧
      (low = true → t.dev.hst.cfg = [] ∧ t.dev.hst.fnMask = false ∧ rb A.hstPcieStat 0 t.dev = false) ∧
      (low = false → t.dev.regs = d.regs ∧ t.dev.hst = { d.hst with perst := false })) ∧
    -- requests on the link
    (let answers := pow ∧ up
     let completes (t : State) (status : Nat) (ws : List Word) : Prop := t.dev.out = d.out ++ [.completion status ws]
     let page := 1 ≤ be.length ∧ dw.toNat / 1024 = (dw.toNat + be.length - 1) / 1024 ∧ (bar2 = true ∨ dw.toNat < 0x100000)
     let a := barAddr bar2 dw.toNat d
     (¬answers → exec (.pcieConfigRequest wr i v fm) s = .next s ∧ exec (.pcieMemoryRead bar2 dw be) s = .next s ∧
       exec (.pcieMemoryWrite bar2 dw data) s = .next s) ∧
     (answers → d.sys.mode = .startup → ∃ t, exec (.pcieConfigRequest wr i v fm) s = .next t ∧ same t ∧ t.dev.hst = d.hst ∧
       completes t 1 []) ∧
     (answers → d.sys.mode ≠ .startup →
       (wr = false → ∃ t, exec (.pcieConfigRequest wr i v fm) s = .next t ∧ same t ∧ t.dev.hst = d.hst ∧
         completes t 0 [cfgWord i d]) ∧
       (wr = true → ∃ t, exec (.pcieConfigRequest wr i v fm) s = .next t ∧ kept t ∧
         tabGet zeroDefault t.dev.hst.cfg i = v ∧ t.dev.hst.fnMask = fm.getD d.hst.fnMask ∧
         (∃ ms, t.dev.out = d.out ++ ms ++ [.completion 0 []]) ∧
         ∀ k < 1024, k ≠ i.val → tabGet zeroDefault t.dev.hst.cfg k = tabGet zeroDefault d.hst.cfg k)) ∧
     (cfgWord 0 d).toNat / 65536 = 0x4160 ∧ (cfgWord 0 d).toNat % 65536 = rf A.hstPcieId 31 16 d ∧
     cfgWord 2 d = 0x028000A1 ∧
     (answers → ¬page → exec (.pcieMemoryRead bar2 dw be) s = .next s) ∧
     (answers → page → service → bar2 = true →
       (∀ kind, accessFail 17 false false a d = some kind → ∃ t, exec (.pcieMemoryRead bar2 dw be) s = .next t ∧ kept t ∧
         completes t 2 [] ∧ rb A.memAccStat kind t.dev = true ∧ rd A.memAccAddr t.dev = word a) ∧
       (accessFail 17 false false a d = none → badRead a (4 * be.length) d = none →
         ∃ t, exec (.pcieMemoryRead bar2 dw be) s = .next t ∧ same t ∧ t.dev.hst = d.hst ∧
           completes t 0 ((List.range be.length).map fun k => word (leNat (readBytes (a + 4 * k) 4 d))))) ∧
     (answers → service → dw.toNat < 0x100000 → ∃ t, exec (.pcieMemoryRead false dw [0xF]) s = .next t ∧ t.fuses = s.fuses ∧
       t.dev.out = (readReg 17 0 (0x10000000 + 4 * dw.toNat) d).2.out ++
         [.completion 0 [(readReg 17 0 (0x10000000 + 4 * dw.toNat) d).1]]) ∧
     (answers → service → ∀ b0 b1 b2 b3, dw.toNat < 0x100000 →
       ∃ t, exec (.pcieMemoryWrite false dw [some b0, some b1, some b2, some b3]) s = .next t ∧ t.fuses = s.fuses ∧
         t.dev = writeReg 17 0 (0x10000000 + 4 * dw.toNat) (b3 ++ b2 ++ b1 ++ b0) s.fuses d) ∧
     (answers → service → 1 ≤ data.length → dw.toNat / 1024 = (dw.toNat + (data.length + 3) / 4 - 1) / 1024 →
       accessFail 17 true false (barAddr true dw.toNat d) d = none →
       let b := barAddr true dw.toNat d
       (region b = .sram → ∃ t, exec (.pcieMemoryWrite true dw data) s = .next t ∧ t.fuses = s.fuses ∧ t.dev.regs = d.regs ∧
         t.dev.img = d.img ∧ ∀ c, 0x20000 ≤ c → memByte c t.dev =
           if b ≤ c ∧ c < b + data.length then ((data.getD (c - b) none).getD (memByte c d)) else memByte c d) ∧
       (region b ≠ .sram → (∃ x, some x ∈ data) → ∃ t, exec (.pcieMemoryWrite true dw data) s = .next t ∧ t.fuses = s.fuses ∧
         t.dev.mem = d.mem ∧ t.dev.img.pages = d.img.pages ∧ t.dev.img.written = d.img.written ∧
         t.dev.img.npw = true ∧ rb A.memImgStat 1 t.dev = true))) ∧
    -- the parallel host port
    (let idle := pow ∧ d.hst.lhpStrobe = false ∧ 3 ∉ d.vddio
     let n := if rb A.hstLhpCfg 0 d then 2 else 1
     let la' := la.toNat - la.toNat % n
     let w := la' - la' % 4
     let r := 0x10000000 + (w - 0x100000)
     let part := la' % 4
     let drives (t : State) (x : Option Nat) : Prop := t.dev.hst.lhpStrobe = true ∧ t.dev.hst.lhpDrive = x
     let mapped := 0x100000 ≤ la' ∧ la' < 0x500000 ∧
       ((la' - 0x100000) / 0x10000 = 31 ∨ ((la' - 0x100000) / 0x10000 < 32 ∧ rb A.hstLhpBlk ((la' - 0x100000) / 0x10000) d = true))
     (¬idle → exec (.lhpRead la) s = .next s ∧ exec (.lhpWrite la lv) s = .next s) ∧
     (idle → 0x40000 ≤ la' → ¬mapped → ∀ i ∈ [Instr.lhpRead la, .lhpWrite la lv], ∃ t, exec i s = .next t ∧ kept t ∧
       rb A.memAccStat 0 t.dev = true ∧ drives t (if i = .lhpRead la then some 0 else none)) ∧
     (idle → service → la' < 0x40000 → banksReady (0x06000000 + la') d = true →
       (badRead (0x06000000 + la') n d = none → ∃ t, exec (.lhpRead la) s = .next t ∧ same t ∧
         drives t (some (leNat (readBytes (0x06000000 + la') n d)))) ∧
       ∃ t, exec (.lhpWrite la lv) s = .next t ∧ t.fuses = s.fuses ∧ t.dev.mem = d.mem ∧ t.dev.img.pages = d.img.pages ∧
         t.dev.img.npw = true ∧ rb A.memImgStat 1 t.dev = true ∧ drives t none) ∧
     (idle → service → mapped →
       (part ≠ 0 → d.hst.rAddr = some r → ∃ t, exec (.lhpRead la) s = .next t ∧ same t ∧
         drives t (some (d.hst.rWord.toNat / 256 ^ part % 256 ^ n))) ∧
       (part = 0 → accessFail 18 false false r d = none → ∃ t, exec (.lhpRead la) s = .next t ∧ t.fuses = s.fuses ∧
         t.dev.regs = (readReg 18 0 r d).2.regs ∧ t.dev.hst.rAddr = some r ∧ t.dev.hst.rWord = (readReg 18 0 r d).1 ∧
         drives t (some ((readReg 18 0 r d).1.toNat % 256 ^ n))) ∧
       (accessFail 18 true false r d = none →
         let old := if d.hst.wAddr = some r then d.hst.wWord else 0
         let new := setFld old (8 * (part + n) - 1) (8 * part) (lv.toNat % 256 ^ n)
         (part + n < 4 → ∃ t, exec (.lhpWrite la lv) s = .next t ∧ same t ∧ drives t none ∧ t.dev.hst.wAddr = some r ∧
           t.dev.hst.wWord = new) ∧
         (part + n = 4 → ∃ t, exec (.lhpWrite la lv) s = .next t ∧ t.fuses = s.fuses ∧ t.dev =
           writeReg 18 0 r new s.fuses { d with hst := { d.hst with
             lhpStrobe := true, lhpDrive := none, wAddr := some r, wWord := new } }))) ∧
     (¬pow ∨ d.hst.lhpStrobe = false → exec (.lhpStrobeRise early) s = .next s) ∧
     (pow → d.hst.lhpStrobe = true → ∃ t, exec (.lhpStrobeRise early) s = .next t ∧ kept t ∧
       t.dev.hst = { d.hst with lhpStrobe := false, lhpDrive := none } ∧
       (early = true → rb A.hstLhpStat 0 t.dev = true ∧ t.dev.out = d.out) ∧
       (early = false → t.dev.regs = d.regs ∧ t.dev.out = d.out ++ (match d.hst.lhpDrive with
         | some x => [Out.lhp x] | none => [])))) ∧
    -- the HST block
    (¬pow → exec (.hostStatusCapture m) s = .next s ∧ exec (.hbSvc m v) s = .next s ∧
      exec (.swintVector m ctx sv) s = .next s ∧ exec (.swintPend m ctx sv) s = .next s ∧ exec (.msixUnmask m vec) s = .next s) ∧
    (pow →
      (∃ t, exec (.hostStatusCapture m) s = .next t ∧ same t ∧
        tabGet zeroDefault t.dev.rdata m = (hostBlock d).getD 0 0 ∧ (hostBlock d).length = 16 ∧
        ∀ k < 320, tabGet zeroDefault t.dev.hst.snap k =
          if m.val ≠ 19 ∧ k / 16 = m.val then (hostBlock d).getD (k % 16) 0 else tabGet zeroDefault d.hst.snap k) ∧
      (m ≠ 0 ∨ v.toNat / 65536 ≠ 0x0B4D → exec (.hbSvc m v) s = .next s) ∧
      (m = 0 → v.toNat / 65536 = 0x0B4D → ∃ t, exec (.hbSvc m v) s = .next t ∧ kept t ∧
        t.dev.hst = { d.hst with hbeat := d.hst.hbeat + 1 }) ∧
      (let sys' := m = 0 ∨ (1 ≤ m.val ∧ m.val ≤ 16 ∧ (getCtx (ctxKey (m.val - 1) ctx) d).sys = true)
       let masked := rb (A.msixTable sv.toNat 12) 0 d = true ∨ d.hst.fnMask = true
       (¬sys' → exec (.swintVector m ctx sv) s = .next s ∧ exec (.swintPend m ctx sv) s = .next s) ∧
       (sys' → 18 ≤ sv.toNat → ∃ t, exec (.swintVector m ctx sv) s = .next t ∧ kept t ∧ t.dev.hst = d.hst ∧
         (masked → rb (A.msixPba 0) sv.toNat t.dev = true ∧ t.dev.out = d.out) ∧
         (¬masked → t.dev.out = d.out ++ if rb A.hstPcieStat 0 d then [.msix sv.toNat] else [])) ∧
       (sys' → 18 ≤ sv.toNat → sv.toNat ≤ 23 → ∃ t, exec (.swintPend m ctx sv) s = .next t ∧ kept t ∧
         rb A.hstIntPend sv.toNat t.dev = true ∧ t.dev.out = d.out) ∧
       (sys' → sv.toNat < 18 → ∃ t, exec (.swintVector m ctx sv) s = .next t ∧ kept t ∧
         rb (A.block 0x1F + 4) 1 t.dev = true ∧ t.dev.out = d.out ∧ rd A.hstIntPend t.dev = rd A.hstIntPend d) ∧
       (sys' → sv.toNat < 18 ∨ 23 < sv.toNat → ∃ t, exec (.swintPend m ctx sv) s = .next t ∧ kept t ∧
         rb (A.block 0x1F + 4) 1 t.dev = true ∧ t.dev.out = d.out ∧ rd A.hstIntPend t.dev = rd A.hstIntPend d)) ∧
      (∃ t, exec (.msixUnmask m vec) s = .next t ∧ kept t ∧ t.dev.hst = d.hst ∧ rb (A.msixTable vec 12) 0 t.dev = false ∧
        (rb (A.msixPba 0) vec d = true → d.hst.fnMask = false → up →
          t.dev.out = d.out ++ [.msix vec] ∧ rb (A.msixPba 0) vec t.dev = false) ∧
        (rb (A.msixPba 0) vec d = false ∨ d.hst.fnMask = true ∨ ¬up →
          t.dev.out = d.out ∧ rd (A.msixPba 0) t.dev = rd (A.msixPba 0) d))) ∧
    (let beats := d.sys.mode = .twilight ∧ d.sys.romLoop = true ∧ d.sys.twTime + 400000 ≤ d.now
     (¬beats → exec .responderHeartbeat s = .next s) ∧
     (beats → exec .responderHeartbeat s = .next { s with dev := { d with
       sys := { d.sys with twTime := d.now }, hst := { d.hst with hbeat := d.hst.hbeat + 1 } } }))
end

