-- ==== Sys2Proof/Laws/Tab.lean ====
section
/-! SUPPORT. Laws/Tab.lean: the laws of sparse tables: a read after a write, and that every write keeps the canonical
form. -/

namespace Sys2Proof.Machine

variable {α : Type}

theorem tabFind_tabInsert_same (t : Tab α) (k : Nat) (v : α) : tabFind (tabInsert t k v) k = some v := by
  induction t with
  | nil => simp [tabInsert, tabFind]
  | cons e t ih =>
    obtain ⟨k', v'⟩ := e
    unfold tabInsert
    split
    · simp [tabFind]
    · split
      · simp [tabFind]
      · rename_i h1 h2
        simp [tabFind, h2, ih]

theorem tabFind_tabInsert_ne (t : Tab α) {k j : Nat} (v : α) (h : j ≠ k) :
    tabFind (tabInsert t k v) j = tabFind t j := by
  induction t with
  | nil => simp [tabInsert, tabFind, h]
  | cons e t ih =>
    obtain ⟨k', v'⟩ := e
    unfold tabInsert
    split
    · simp [tabFind, h]
    · split
      · rename_i h2; subst h2; simp [tabFind, h]
      · simp only [tabFind, ih]

theorem tabFind_filter_same (t : Tab α) (k : Nat) : tabFind (tabErase t k) k = none := by
  induction t with
  | nil => rfl
  | cons e t ih =>
    obtain ⟨k', v'⟩ := e
    by_cases hk : k' = k
    · simpa [tabErase, List.filter_cons, hk] using ih
    · simp only [tabErase, List.filter_cons, hk, ne_eq, not_false_eq_true, decide_true, if_true, tabFind,
        Ne.symm hk, if_false]
      exact ih

theorem tabFind_tabErase_ne (t : Tab α) {k j : Nat} (h : j ≠ k) : tabFind (tabErase t k) j = tabFind t j := by
  induction t with
  | nil => rfl
  | cons e t ih =>
    obtain ⟨k', v'⟩ := e
    by_cases hk : k' = k
    · subst hk
      simp only [tabErase, List.filter_cons, ne_eq, not_true_eq_false, decide_false, tabFind, h, if_false]
      exact ih
    · simp only [tabErase, List.filter_cons, hk, ne_eq, not_false_eq_true, decide_true, if_true, tabFind]
      rw [← ih]; rfl

/-- A read after a write to the same key gives the value written. -/
@[simp] theorem tabGet_tabSet_same [DecidableEq α] (f : Nat → α) (t : Tab α) (k : Nat) (v : α) :
    tabGet f (tabSet f t k v) k = v := by
  unfold tabGet tabSet
  split
  · rename_i h; simp [tabFind_filter_same, h]
  · simp [tabFind_tabInsert_same]

/-- A write leaves every other key alone. -/
theorem tabGet_tabSet_ne [DecidableEq α] (f : Nat → α) (t : Tab α) {k j : Nat} (v : α) (h : j ≠ k) :
    tabGet f (tabSet f t k v) j = tabGet f t j := by
  unfold tabGet tabSet
  split
  · rw [tabFind_tabErase_ne t h]
  · rw [tabFind_tabInsert_ne t v h]

/-- A read after a write, either way. -/
theorem tabGet_tabSet [DecidableEq α] (f : Nat → α) (t : Tab α) (k j : Nat) (v : α) :
    tabGet f (tabSet f t k v) j = if j = k then v else tabGet f t j := by
  split
  · rename_i h; rw [h, tabGet_tabSet_same]
  · rename_i h; exact tabGet_tabSet_ne f t v h

/-- The canonical form, as a property of the keys and of the entries. -/
theorem tabWf_iff [DecidableEq α] (f : Nat → α) (t : Tab α) :
    tabWf f t = true ↔ t.Pairwise (fun a b => a.1 < b.1) ∧ ∀ e ∈ t, e.2 ≠ f e.1 := by
  induction t with
  | nil => simp [tabWf]
  | cons e t ih =>
    obtain ⟨k, v⟩ := e
    cases t with
    | nil => simp [tabWf]
    | cons e' t =>
      obtain ⟨k', v'⟩ := e'
      simp only [tabWf, Bool.and_eq_true, decide_eq_true_eq, ih, List.pairwise_cons, List.mem_cons]
      constructor
      · rintro ⟨⟨hv, hk⟩, ⟨hp, hq⟩, hd⟩
        refine ⟨⟨?_, hp, hq⟩, ?_⟩
        · rintro a (rfl | ha)
          · exact hk
          · exact Nat.lt_trans hk (hp a ha)
        · rintro a (rfl | ha)
          · exact hv
          · exact hd a ha
      · rintro ⟨⟨hk, hp, hq⟩, hd⟩
        exact ⟨⟨hd _ (.inl rfl), hk _ (.inl rfl)⟩, ⟨hp, hq⟩, fun a ha => hd a (.inr ha)⟩

theorem mem_tabInsert (t : Tab α) (k : Nat) (v : α) (e : Nat × α) (h : e ∈ tabInsert t k v) :
    e = (k, v) ∨ e ∈ t := by
  induction t with
  | nil => simpa [tabInsert] using h
  | cons a t ih =>
    obtain ⟨k', v'⟩ := a
    unfold tabInsert at h
    split at h
    · simpa using h
    · split at h
      · rcases List.mem_cons.mp h with h | h
        · exact .inl h
        · exact .inr (List.mem_cons_of_mem _ h)
      · rcases List.mem_cons.mp h with h | h
        · exact .inr (by simp [h])
        · rcases ih h with h | h
          · exact .inl h
          · exact .inr (List.mem_cons_of_mem _ h)

theorem pairwise_tabInsert (t : Tab α) (k : Nat) (v : α) (h : t.Pairwise fun a b => a.1 < b.1) :
    (tabInsert t k v).Pairwise fun a b => a.1 < b.1 := by
  induction t with
  | nil => simp [tabInsert]
  | cons a t ih =>
    obtain ⟨k', v'⟩ := a
    have h' := List.pairwise_cons.mp h
    unfold tabInsert
    split
    · rename_i hk
      refine List.pairwise_cons.mpr ⟨?_, h⟩
      intro b hb
      rcases List.mem_cons.mp hb with rfl | hb
      · exact hk
      · exact Nat.lt_trans hk (h'.1 b hb)
    · split
      · rename_i hk
        subst hk
        exact List.pairwise_cons.mpr ⟨fun b hb => h'.1 b hb, h'.2⟩
      · rename_i h1 h2
        refine List.pairwise_cons.mpr ⟨?_, ih h'.2⟩
        intro b hb
        rcases mem_tabInsert t k v b hb with rfl | hb
        · show k' < k
          omega
        · exact h'.1 b hb

/-- Unlisting any entries keeps the canonical form. -/
theorem tabWf_filter [DecidableEq α] (f : Nat → α) (t : Tab α) (p : Nat × α → Bool) (h : tabWf f t = true) :
    tabWf f (t.filter p) = true := by
  rw [tabWf_iff] at h ⊢
  exact ⟨h.1.filter p, fun e he => h.2 e (List.mem_filter.mp he).1⟩

/-- A write keeps the canonical form. -/
theorem tabWf_tabSet [DecidableEq α] (f : Nat → α) (t : Tab α) (k : Nat) (v : α) (h : tabWf f t = true) :
    tabWf f (tabSet f t k v) = true := by
  unfold tabSet
  split
  · exact tabWf_filter f t _ h
  · rename_i hv
    rw [tabWf_iff] at h ⊢
    refine ⟨pairwise_tabInsert t k v h.1, fun e he => ?_⟩
    rcases mem_tabInsert t k v e he with rfl | he
    · exact hv
    · exact h.2 e he

/-- Unlisting a key keeps the canonical form. -/
theorem tabWf_tabErase [DecidableEq α] (f : Nat → α) (t : Tab α) (k : Nat) (h : tabWf f t = true) :
    tabWf f (tabErase t k) = true := tabWf_filter f t _ h

/-- Unlisting a range of keys keeps the canonical form. -/
theorem tabWf_tabClear [DecidableEq α] (f : Nat → α) (t : Tab α) (lo hi : Nat) (h : tabWf f t = true) :
    tabWf f (tabClear t lo hi) = true := tabWf_filter f t _ h

/-- A key below every key of a table is not listed. -/
theorem tabFind_of_above (t : Tab α) (k : Nat) (h : ∀ e ∈ t, k < e.1) : tabFind t k = none := by
  induction t with
  | nil => rfl
  | cons e t ih =>
    obtain ⟨k', v⟩ := e
    have hk : k < k' := h (k', v) (by simp)
    simp only [tabFind, Nat.ne_of_lt hk, if_false]
    exact ih fun e he => h e (List.mem_cons_of_mem _ he)

/-- In a canonical table a listed value differs from its default. -/
theorem tabFind_ne_default [DecidableEq α] (f : Nat → α) (t : Tab α) (k : Nat) (v : α) (h : tabWf f t = true)
    (hv : tabFind t k = some v) : v ≠ f k := by
  have hd := ((tabWf_iff f t).mp h).2
  clear h
  induction t with
  | nil => simp [tabFind] at hv
  | cons e t ih =>
    obtain ⟨k', v'⟩ := e
    unfold tabFind at hv
    split at hv
    · rename_i hk
      subst hk
      cases hv
      exact hd (k, v) List.mem_cons_self
    · exact ih hv fun e he => hd e (List.mem_cons_of_mem _ he)

/-- What a canonical table lists is settled by what it reads. -/
theorem tabFind_eq_of_get [DecidableEq α] (f : Nat → α) (t u : Tab α) (ht : tabWf f t = true) (hu : tabWf f u = true)
    (h : ∀ k, tabGet f t k = tabGet f u k) (k : Nat) : tabFind t k = tabFind u k := by
  have hk := h k
  unfold tabGet at hk
  cases h1 : tabFind t k <;> cases h2 : tabFind u k <;> simp only [h1, h2, Option.getD] at hk ⊢
  · exact absurd hk.symm (tabFind_ne_default f u k _ hu h2)
  · exact absurd hk (tabFind_ne_default f t k _ ht h1)
  · rw [hk]

/-- Two canonical tables that read the same at every key are the same table. -/
theorem tab_ext [DecidableEq α] (f : Nat → α) (t u : Tab α) (ht : tabWf f t = true) (hu : tabWf f u = true)
    (h : ∀ k, tabGet f t k = tabGet f u k) : t = u := by
  have hf := tabFind_eq_of_get f t u ht hu h
  have pt := ((tabWf_iff f t).mp ht).1
  have pu := ((tabWf_iff f u).mp hu).1
  clear h ht hu
  induction t generalizing u with
  | nil =>
    cases u with
    | nil => rfl
    | cons e u => have := hf e.1; simp [tabFind] at this
  | cons e t ih =>
    obtain ⟨k, v⟩ := e
    cases u with
    | nil => have := hf k; simp [tabFind] at this
    | cons e' u =>
      obtain ⟨k', v'⟩ := e'
      have qt := List.pairwise_cons.mp pt
      have qu := List.pairwise_cons.mp pu
      have hkk : k = k' := by
        rcases Nat.lt_trichotomy k k' with hlt | heq | hgt
        · have h1 := hf k
          have h2 : tabFind ((k', v') :: u) k = none := by
            refine tabFind_of_above _ _ fun a ha => ?_
            rcases List.mem_cons.mp ha with rfl | ha
            · exact hlt
            · exact Nat.lt_trans hlt (qu.1 a ha)
          rw [h2] at h1
          simp [tabFind] at h1
        · exact heq
        · have h1 := hf k'
          have h2 : tabFind ((k, v) :: t) k' = none := by
            refine tabFind_of_above _ _ fun a ha => ?_
            rcases List.mem_cons.mp ha with rfl | ha
            · exact hgt
            · exact Nat.lt_trans hgt (qt.1 a ha)
          rw [h2] at h1
          simp [tabFind] at h1
      subst hkk
      have hv : v = v' := by have := hf k; simpa [tabFind] using this
      subst hv
      have : t = u := ih u (fun j => by
        have hj := hf j
        by_cases hjk : j = k
        · subst hjk
          rw [tabFind_of_above t j fun a ha => qt.1 a ha, tabFind_of_above u j fun a ha => qu.1 a ha]
        · simpa [tabFind, hjk] using hj) qt.2 qu.2
      rw [this]

end Sys2Proof.Machine
end

