-- ==== Sys2Proof/Laws/State.lean ====
section
/-! SUPPORT. Laws/State.lean: what each named update of the device leaves alone, one lemma per field and per getter, and the
read of what it writes. Nothing here needs to unfold a record update again. -/

namespace Sys2Proof.Machine

/-! ### wr -/

@[simp] theorem wr_now (a : Nat) (v : Word) (d : Dev) : (wr a v d).now = d.now := rfl
@[simp] theorem wr_free (a : Nat) (v : Word) (d : Dev) : (wr a v d).free = d.free := rfl
@[simp] theorem wr_wraps (a : Nat) (v : Word) (d : Dev) : (wr a v d).wraps = d.wraps := rfl
@[simp] theorem wr_tabs (a : Nat) (v : Word) (d : Dev) : (wr a v d).tabs = d.tabs := rfl
@[simp] theorem wr_inds (a : Nat) (v : Word) (d : Dev) : (wr a v d).inds = d.inds := rfl
@[simp] theorem wr_mem (a : Nat) (v : Word) (d : Dev) : (wr a v d).mem = d.mem := rfl
@[simp] theorem wr_rdata (a : Nat) (v : Word) (d : Dev) : (wr a v d).rdata = d.rdata := rfl
@[simp] theorem wr_badPar (a : Nat) (v : Word) (d : Dev) : (wr a v d).badPar = d.badPar := rfl
@[simp] theorem wr_badCfg (a : Nat) (v : Word) (d : Dev) : (wr a v d).badCfg = d.badCfg := rfl
@[simp] theorem wr_viewBad (a : Nat) (v : Word) (d : Dev) : (wr a v d).viewBad = d.viewBad := rfl
@[simp] theorem wr_scrub (a : Nat) (v : Word) (d : Dev) : (wr a v d).scrub = d.scrub := rfl
@[simp] theorem wr_sys (a : Nat) (v : Word) (d : Dev) : (wr a v d).sys = d.sys := rfl
@[simp] theorem wr_boot (a : Nat) (v : Word) (d : Dev) : (wr a v d).boot = d.boot := rfl
@[simp] theorem wr_flashA (a : Nat) (v : Word) (d : Dev) : (wr a v d).flashA = d.flashA := rfl
@[simp] theorem wr_flashB (a : Nat) (v : Word) (d : Dev) : (wr a v d).flashB = d.flashB := rfl
@[simp] theorem wr_img (a : Nat) (v : Word) (d : Dev) : (wr a v d).img = d.img := rfl
@[simp] theorem wr_ctxs (a : Nat) (v : Word) (d : Dev) : (wr a v d).ctxs = d.ctxs := rfl
@[simp] theorem wr_cores (a : Nat) (v : Word) (d : Dev) : (wr a v d).cores = d.cores := rfl
@[simp] theorem wr_dsp (a : Nat) (v : Word) (d : Dev) : (wr a v d).dsp = d.dsp := rfl
@[simp] theorem wr_locks (a : Nat) (v : Word) (d : Dev) : (wr a v d).locks = d.locks := rfl
@[simp] theorem wr_lockRel (a : Nat) (v : Word) (d : Dev) : (wr a v d).lockRel = d.lockRel := rfl
@[simp] theorem wr_mbxLast (a : Nat) (v : Word) (d : Dev) : (wr a v d).mbxLast = d.mbxLast := rfl
@[simp] theorem wr_ntm (a : Nat) (v : Word) (d : Dev) : (wr a v d).ntm = d.ntm := rfl
@[simp] theorem wr_mrd (a : Nat) (v : Word) (d : Dev) : (wr a v d).mrd = d.mrd := rfl
@[simp] theorem wr_eths (a : Nat) (v : Word) (d : Dev) : (wr a v d).eths = d.eths := rfl
@[simp] theorem wr_rings (a : Nat) (v : Word) (d : Dev) : (wr a v d).rings = d.rings := rfl
@[simp] theorem wr_swc (a : Nat) (v : Word) (d : Dev) : (wr a v d).swc = d.swc := rfl
@[simp] theorem wr_cans (a : Nat) (v : Word) (d : Dev) : (wr a v d).cans = d.cans := rfl
@[simp] theorem wr_canObjs (a : Nat) (v : Word) (d : Dev) : (wr a v d).canObjs = d.canObjs := rfl
@[simp] theorem wr_canCa (a : Nat) (v : Word) (d : Dev) : (wr a v d).canCa = d.canCa := rfl
@[simp] theorem wr_pios (a : Nat) (v : Word) (d : Dev) : (wr a v d).pios = d.pios := rfl
@[simp] theorem wr_pins (a : Nat) (v : Word) (d : Dev) : (wr a v d).pins = d.pins := rfl
@[simp] theorem wr_sds (a : Nat) (v : Word) (d : Dev) : (wr a v d).sds = d.sds := rfl
@[simp] theorem wr_ccs (a : Nat) (v : Word) (d : Dev) : (wr a v d).ccs = d.ccs := rfl
@[simp] theorem wr_smpStart (a : Nat) (v : Word) (d : Dev) : (wr a v d).smpStart = d.smpStart := rfl
@[simp] theorem wr_loop (a : Nat) (v : Word) (d : Dev) : (wr a v d).loop = d.loop := rfl
@[simp] theorem wr_sec (a : Nat) (v : Word) (d : Dev) : (wr a v d).sec = d.sec := rfl
@[simp] theorem wr_vddio (a : Nat) (v : Word) (d : Dev) : (wr a v d).vddio = d.vddio := rfl
@[simp] theorem wr_saf (a : Nat) (v : Word) (d : Dev) : (wr a v d).saf = d.saf := rfl
@[simp] theorem wr_hst (a : Nat) (v : Word) (d : Dev) : (wr a v d).hst = d.hst := rfl
@[simp] theorem wr_out (a : Nat) (v : Word) (d : Dev) : (wr a v d).out = d.out := rfl
@[simp] theorem getCtx_wr (q : Nat) (a : Nat) (v : Word) (d : Dev) : getCtx q (wr a v d) = getCtx q d := rfl
@[simp] theorem getCore_wr (q : Nat) (a : Nat) (v : Word) (d : Dev) : getCore q (wr a v d) = getCore q d := rfl
@[simp] theorem memByte_wr (b : Nat) (a : Nat) (v : Word) (d : Dev) : memByte b (wr a v d) = memByte b d := rfl
@[simp] theorem tbGet_wr (q : Nat) (a : Nat) (v : Word) (d : Dev) : tbGet q (wr a v d) = tbGet q d := rfl

/-! ### raiseBits -/

@[simp] theorem raiseBits_now (a m : Nat) (d : Dev) : (raiseBits a m d).now = d.now := rfl
@[simp] theorem raiseBits_free (a m : Nat) (d : Dev) : (raiseBits a m d).free = d.free := rfl
@[simp] theorem raiseBits_tabs (a m : Nat) (d : Dev) : (raiseBits a m d).tabs = d.tabs := rfl
@[simp] theorem raiseBits_inds (a m : Nat) (d : Dev) : (raiseBits a m d).inds = d.inds := rfl
@[simp] theorem raiseBits_mem (a m : Nat) (d : Dev) : (raiseBits a m d).mem = d.mem := rfl
@[simp] theorem raiseBits_rdata (a m : Nat) (d : Dev) : (raiseBits a m d).rdata = d.rdata := rfl
@[simp] theorem raiseBits_badPar (a m : Nat) (d : Dev) : (raiseBits a m d).badPar = d.badPar := rfl
@[simp] theorem raiseBits_badCfg (a m : Nat) (d : Dev) : (raiseBits a m d).badCfg = d.badCfg := rfl
@[simp] theorem raiseBits_viewBad (a m : Nat) (d : Dev) : (raiseBits a m d).viewBad = d.viewBad := rfl
@[simp] theorem raiseBits_scrub (a m : Nat) (d : Dev) : (raiseBits a m d).scrub = d.scrub := rfl
@[simp] theorem raiseBits_sys (a m : Nat) (d : Dev) : (raiseBits a m d).sys = d.sys := rfl
@[simp] theorem raiseBits_boot (a m : Nat) (d : Dev) : (raiseBits a m d).boot = d.boot := rfl
@[simp] theorem raiseBits_flashA (a m : Nat) (d : Dev) : (raiseBits a m d).flashA = d.flashA := rfl
@[simp] theorem raiseBits_flashB (a m : Nat) (d : Dev) : (raiseBits a m d).flashB = d.flashB := rfl
@[simp] theorem raiseBits_img (a m : Nat) (d : Dev) : (raiseBits a m d).img = d.img := rfl
@[simp] theorem raiseBits_ctxs (a m : Nat) (d : Dev) : (raiseBits a m d).ctxs = d.ctxs := rfl
@[simp] theorem raiseBits_cores (a m : Nat) (d : Dev) : (raiseBits a m d).cores = d.cores := rfl
@[simp] theorem raiseBits_dsp (a m : Nat) (d : Dev) : (raiseBits a m d).dsp = d.dsp := rfl
@[simp] theorem raiseBits_locks (a m : Nat) (d : Dev) : (raiseBits a m d).locks = d.locks := rfl
@[simp] theorem raiseBits_lockRel (a m : Nat) (d : Dev) : (raiseBits a m d).lockRel = d.lockRel := rfl
@[simp] theorem raiseBits_mbxLast (a m : Nat) (d : Dev) : (raiseBits a m d).mbxLast = d.mbxLast := rfl
@[simp] theorem raiseBits_ntm (a m : Nat) (d : Dev) : (raiseBits a m d).ntm = d.ntm := rfl
@[simp] theorem raiseBits_mrd (a m : Nat) (d : Dev) : (raiseBits a m d).mrd = d.mrd := rfl
@[simp] theorem raiseBits_eths (a m : Nat) (d : Dev) : (raiseBits a m d).eths = d.eths := rfl
@[simp] theorem raiseBits_rings (a m : Nat) (d : Dev) : (raiseBits a m d).rings = d.rings := rfl
@[simp] theorem raiseBits_swc (a m : Nat) (d : Dev) : (raiseBits a m d).swc = d.swc := rfl
@[simp] theorem raiseBits_cans (a m : Nat) (d : Dev) : (raiseBits a m d).cans = d.cans := rfl
@[simp] theorem raiseBits_canObjs (a m : Nat) (d : Dev) : (raiseBits a m d).canObjs = d.canObjs := rfl
@[simp] theorem raiseBits_canCa (a m : Nat) (d : Dev) : (raiseBits a m d).canCa = d.canCa := rfl
@[simp] theorem raiseBits_pios (a m : Nat) (d : Dev) : (raiseBits a m d).pios = d.pios := rfl
@[simp] theorem raiseBits_pins (a m : Nat) (d : Dev) : (raiseBits a m d).pins = d.pins := rfl
@[simp] theorem raiseBits_sds (a m : Nat) (d : Dev) : (raiseBits a m d).sds = d.sds := rfl
@[simp] theorem raiseBits_ccs (a m : Nat) (d : Dev) : (raiseBits a m d).ccs = d.ccs := rfl
@[simp] theorem raiseBits_smpStart (a m : Nat) (d : Dev) : (raiseBits a m d).smpStart = d.smpStart := rfl
@[simp] theorem raiseBits_loop (a m : Nat) (d : Dev) : (raiseBits a m d).loop = d.loop := rfl
@[simp] theorem raiseBits_sec (a m : Nat) (d : Dev) : (raiseBits a m d).sec = d.sec := rfl
@[simp] theorem raiseBits_vddio (a m : Nat) (d : Dev) : (raiseBits a m d).vddio = d.vddio := rfl
@[simp] theorem raiseBits_saf (a m : Nat) (d : Dev) : (raiseBits a m d).saf = d.saf := rfl
@[simp] theorem raiseBits_hst (a m : Nat) (d : Dev) : (raiseBits a m d).hst = d.hst := rfl
@[simp] theorem raiseBits_out (a m : Nat) (d : Dev) : (raiseBits a m d).out = d.out := rfl
@[simp] theorem getCtx_raiseBits (q : Nat) (a m : Nat) (d : Dev) : getCtx q (raiseBits a m d) = getCtx q d := rfl
@[simp] theorem getCore_raiseBits (q : Nat) (a m : Nat) (d : Dev) : getCore q (raiseBits a m d) = getCore q d := rfl
@[simp] theorem memByte_raiseBits (b : Nat) (a m : Nat) (d : Dev) : memByte b (raiseBits a m d) = memByte b d := rfl
@[simp] theorem tbGet_raiseBits (q : Nat) (a m : Nat) (d : Dev) : tbGet q (raiseBits a m d) = tbGet q d := rfl

/-! ### giveRead -/

@[simp] theorem giveRead_now (m : Nat) (v : Word) (d : Dev) : (giveRead m v d).now = d.now := rfl
@[simp] theorem giveRead_free (m : Nat) (v : Word) (d : Dev) : (giveRead m v d).free = d.free := rfl
@[simp] theorem giveRead_regs (m : Nat) (v : Word) (d : Dev) : (giveRead m v d).regs = d.regs := rfl
@[simp] theorem giveRead_wraps (m : Nat) (v : Word) (d : Dev) : (giveRead m v d).wraps = d.wraps := rfl
@[simp] theorem giveRead_tabs (m : Nat) (v : Word) (d : Dev) : (giveRead m v d).tabs = d.tabs := rfl
@[simp] theorem giveRead_inds (m : Nat) (v : Word) (d : Dev) : (giveRead m v d).inds = d.inds := rfl
@[simp] theorem giveRead_mem (m : Nat) (v : Word) (d : Dev) : (giveRead m v d).mem = d.mem := rfl
@[simp] theorem giveRead_badPar (m : Nat) (v : Word) (d : Dev) : (giveRead m v d).badPar = d.badPar := rfl
@[simp] theorem giveRead_badCfg (m : Nat) (v : Word) (d : Dev) : (giveRead m v d).badCfg = d.badCfg := rfl
@[simp] theorem giveRead_viewBad (m : Nat) (v : Word) (d : Dev) : (giveRead m v d).viewBad = d.viewBad := rfl
@[simp] theorem giveRead_scrub (m : Nat) (v : Word) (d : Dev) : (giveRead m v d).scrub = d.scrub := rfl
@[simp] theorem giveRead_sys (m : Nat) (v : Word) (d : Dev) : (giveRead m v d).sys = d.sys := rfl
@[simp] theorem giveRead_boot (m : Nat) (v : Word) (d : Dev) : (giveRead m v d).boot = d.boot := rfl
@[simp] theorem giveRead_flashA (m : Nat) (v : Word) (d : Dev) : (giveRead m v d).flashA = d.flashA := rfl
@[simp] theorem giveRead_flashB (m : Nat) (v : Word) (d : Dev) : (giveRead m v d).flashB = d.flashB := rfl
@[simp] theorem giveRead_img (m : Nat) (v : Word) (d : Dev) : (giveRead m v d).img = d.img := rfl
@[simp] theorem giveRead_ctxs (m : Nat) (v : Word) (d : Dev) : (giveRead m v d).ctxs = d.ctxs := rfl
@[simp] theorem giveRead_cores (m : Nat) (v : Word) (d : Dev) : (giveRead m v d).cores = d.cores := rfl
@[simp] theorem giveRead_dsp (m : Nat) (v : Word) (d : Dev) : (giveRead m v d).dsp = d.dsp := rfl
@[simp] theorem giveRead_locks (m : Nat) (v : Word) (d : Dev) : (giveRead m v d).locks = d.locks := rfl
@[simp] theorem giveRead_lockRel (m : Nat) (v : Word) (d : Dev) : (giveRead m v d).lockRel = d.lockRel := rfl
@[simp] theorem giveRead_mbxLast (m : Nat) (v : Word) (d : Dev) : (giveRead m v d).mbxLast = d.mbxLast := rfl
@[simp] theorem giveRead_ntm (m : Nat) (v : Word) (d : Dev) : (giveRead m v d).ntm = d.ntm := rfl
@[simp] theorem giveRead_mrd (m : Nat) (v : Word) (d : Dev) : (giveRead m v d).mrd = d.mrd := rfl
@[simp] theorem giveRead_eths (m : Nat) (v : Word) (d : Dev) : (giveRead m v d).eths = d.eths := rfl
@[simp] theorem giveRead_rings (m : Nat) (v : Word) (d : Dev) : (giveRead m v d).rings = d.rings := rfl
@[simp] theorem giveRead_swc (m : Nat) (v : Word) (d : Dev) : (giveRead m v d).swc = d.swc := rfl
@[simp] theorem giveRead_cans (m : Nat) (v : Word) (d : Dev) : (giveRead m v d).cans = d.cans := rfl
@[simp] theorem giveRead_canObjs (m : Nat) (v : Word) (d : Dev) : (giveRead m v d).canObjs = d.canObjs := rfl
@[simp] theorem giveRead_canCa (m : Nat) (v : Word) (d : Dev) : (giveRead m v d).canCa = d.canCa := rfl
@[simp] theorem giveRead_pios (m : Nat) (v : Word) (d : Dev) : (giveRead m v d).pios = d.pios := rfl
@[simp] theorem giveRead_pins (m : Nat) (v : Word) (d : Dev) : (giveRead m v d).pins = d.pins := rfl
@[simp] theorem giveRead_sds (m : Nat) (v : Word) (d : Dev) : (giveRead m v d).sds = d.sds := rfl
@[simp] theorem giveRead_ccs (m : Nat) (v : Word) (d : Dev) : (giveRead m v d).ccs = d.ccs := rfl
@[simp] theorem giveRead_smpStart (m : Nat) (v : Word) (d : Dev) : (giveRead m v d).smpStart = d.smpStart := rfl
@[simp] theorem giveRead_loop (m : Nat) (v : Word) (d : Dev) : (giveRead m v d).loop = d.loop := rfl
@[simp] theorem giveRead_sec (m : Nat) (v : Word) (d : Dev) : (giveRead m v d).sec = d.sec := rfl
@[simp] theorem giveRead_vddio (m : Nat) (v : Word) (d : Dev) : (giveRead m v d).vddio = d.vddio := rfl
@[simp] theorem giveRead_saf (m : Nat) (v : Word) (d : Dev) : (giveRead m v d).saf = d.saf := rfl
@[simp] theorem giveRead_hst (m : Nat) (v : Word) (d : Dev) : (giveRead m v d).hst = d.hst := rfl
@[simp] theorem giveRead_out (m : Nat) (v : Word) (d : Dev) : (giveRead m v d).out = d.out := rfl
@[simp] theorem rd_giveRead (b : Nat) (m : Nat) (v : Word) (d : Dev) : rd b (giveRead m v d) = rd b d := rfl
@[simp] theorem rf_giveRead (b h l : Nat) (m : Nat) (v : Word) (d : Dev) : rf b h l (giveRead m v d) = rf b h l d := rfl
@[simp] theorem rb_giveRead (b q : Nat) (m : Nat) (v : Word) (d : Dev) : rb b q (giveRead m v d) = rb b q d := rfl
@[simp] theorem getCtx_giveRead (q : Nat) (m : Nat) (v : Word) (d : Dev) : getCtx q (giveRead m v d) = getCtx q d := rfl
@[simp] theorem getCore_giveRead (q : Nat) (m : Nat) (v : Word) (d : Dev) : getCore q (giveRead m v d) = getCore q d := rfl
@[simp] theorem memByte_giveRead (b : Nat) (m : Nat) (v : Word) (d : Dev) : memByte b (giveRead m v d) = memByte b d := rfl
@[simp] theorem tbGet_giveRead (q : Nat) (m : Nat) (v : Word) (d : Dev) : tbGet q (giveRead m v d) = tbGet q d := rfl

/-! ### putCtx -/

@[simp] theorem putCtx_now (k : Nat) (x : Ctx) (d : Dev) : (putCtx k x d).now = d.now := rfl
@[simp] theorem putCtx_free (k : Nat) (x : Ctx) (d : Dev) : (putCtx k x d).free = d.free := rfl
@[simp] theorem putCtx_regs (k : Nat) (x : Ctx) (d : Dev) : (putCtx k x d).regs = d.regs := rfl
@[simp] theorem putCtx_wraps (k : Nat) (x : Ctx) (d : Dev) : (putCtx k x d).wraps = d.wraps := rfl
@[simp] theorem putCtx_tabs (k : Nat) (x : Ctx) (d : Dev) : (putCtx k x d).tabs = d.tabs := rfl
@[simp] theorem putCtx_inds (k : Nat) (x : Ctx) (d : Dev) : (putCtx k x d).inds = d.inds := rfl
@[simp] theorem putCtx_mem (k : Nat) (x : Ctx) (d : Dev) : (putCtx k x d).mem = d.mem := rfl
@[simp] theorem putCtx_rdata (k : Nat) (x : Ctx) (d : Dev) : (putCtx k x d).rdata = d.rdata := rfl
@[simp] theorem putCtx_badPar (k : Nat) (x : Ctx) (d : Dev) : (putCtx k x d).badPar = d.badPar := rfl
@[simp] theorem putCtx_badCfg (k : Nat) (x : Ctx) (d : Dev) : (putCtx k x d).badCfg = d.badCfg := rfl
@[simp] theorem putCtx_viewBad (k : Nat) (x : Ctx) (d : Dev) : (putCtx k x d).viewBad = d.viewBad := rfl
@[simp] theorem putCtx_scrub (k : Nat) (x : Ctx) (d : Dev) : (putCtx k x d).scrub = d.scrub := rfl
@[simp] theorem putCtx_sys (k : Nat) (x : Ctx) (d : Dev) : (putCtx k x d).sys = d.sys := rfl
@[simp] theorem putCtx_boot (k : Nat) (x : Ctx) (d : Dev) : (putCtx k x d).boot = d.boot := rfl
@[simp] theorem putCtx_flashA (k : Nat) (x : Ctx) (d : Dev) : (putCtx k x d).flashA = d.flashA := rfl
@[simp] theorem putCtx_flashB (k : Nat) (x : Ctx) (d : Dev) : (putCtx k x d).flashB = d.flashB := rfl
@[simp] theorem putCtx_img (k : Nat) (x : Ctx) (d : Dev) : (putCtx k x d).img = d.img := rfl
@[simp] theorem putCtx_cores (k : Nat) (x : Ctx) (d : Dev) : (putCtx k x d).cores = d.cores := rfl
@[simp] theorem putCtx_dsp (k : Nat) (x : Ctx) (d : Dev) : (putCtx k x d).dsp = d.dsp := rfl
@[simp] theorem putCtx_locks (k : Nat) (x : Ctx) (d : Dev) : (putCtx k x d).locks = d.locks := rfl
@[simp] theorem putCtx_lockRel (k : Nat) (x : Ctx) (d : Dev) : (putCtx k x d).lockRel = d.lockRel := rfl
@[simp] theorem putCtx_mbxLast (k : Nat) (x : Ctx) (d : Dev) : (putCtx k x d).mbxLast = d.mbxLast := rfl
@[simp] theorem putCtx_ntm (k : Nat) (x : Ctx) (d : Dev) : (putCtx k x d).ntm = d.ntm := rfl
@[simp] theorem putCtx_mrd (k : Nat) (x : Ctx) (d : Dev) : (putCtx k x d).mrd = d.mrd := rfl
@[simp] theorem putCtx_eths (k : Nat) (x : Ctx) (d : Dev) : (putCtx k x d).eths = d.eths := rfl
@[simp] theorem putCtx_rings (k : Nat) (x : Ctx) (d : Dev) : (putCtx k x d).rings = d.rings := rfl
@[simp] theorem putCtx_swc (k : Nat) (x : Ctx) (d : Dev) : (putCtx k x d).swc = d.swc := rfl
@[simp] theorem putCtx_cans (k : Nat) (x : Ctx) (d : Dev) : (putCtx k x d).cans = d.cans := rfl
@[simp] theorem putCtx_canObjs (k : Nat) (x : Ctx) (d : Dev) : (putCtx k x d).canObjs = d.canObjs := rfl
@[simp] theorem putCtx_canCa (k : Nat) (x : Ctx) (d : Dev) : (putCtx k x d).canCa = d.canCa := rfl
@[simp] theorem putCtx_pios (k : Nat) (x : Ctx) (d : Dev) : (putCtx k x d).pios = d.pios := rfl
@[simp] theorem putCtx_pins (k : Nat) (x : Ctx) (d : Dev) : (putCtx k x d).pins = d.pins := rfl
@[simp] theorem putCtx_sds (k : Nat) (x : Ctx) (d : Dev) : (putCtx k x d).sds = d.sds := rfl
@[simp] theorem putCtx_ccs (k : Nat) (x : Ctx) (d : Dev) : (putCtx k x d).ccs = d.ccs := rfl
@[simp] theorem putCtx_smpStart (k : Nat) (x : Ctx) (d : Dev) : (putCtx k x d).smpStart = d.smpStart := rfl
@[simp] theorem putCtx_loop (k : Nat) (x : Ctx) (d : Dev) : (putCtx k x d).loop = d.loop := rfl
@[simp] theorem putCtx_sec (k : Nat) (x : Ctx) (d : Dev) : (putCtx k x d).sec = d.sec := rfl
@[simp] theorem putCtx_vddio (k : Nat) (x : Ctx) (d : Dev) : (putCtx k x d).vddio = d.vddio := rfl
@[simp] theorem putCtx_saf (k : Nat) (x : Ctx) (d : Dev) : (putCtx k x d).saf = d.saf := rfl
@[simp] theorem putCtx_hst (k : Nat) (x : Ctx) (d : Dev) : (putCtx k x d).hst = d.hst := rfl
@[simp] theorem putCtx_out (k : Nat) (x : Ctx) (d : Dev) : (putCtx k x d).out = d.out := rfl
@[simp] theorem rd_putCtx (b : Nat) (k : Nat) (x : Ctx) (d : Dev) : rd b (putCtx k x d) = rd b d := rfl
@[simp] theorem rf_putCtx (b h l : Nat) (k : Nat) (x : Ctx) (d : Dev) : rf b h l (putCtx k x d) = rf b h l d := rfl
@[simp] theorem rb_putCtx (b q : Nat) (k : Nat) (x : Ctx) (d : Dev) : rb b q (putCtx k x d) = rb b q d := rfl
@[simp] theorem getCore_putCtx (q : Nat) (k : Nat) (x : Ctx) (d : Dev) : getCore q (putCtx k x d) = getCore q d := rfl
@[simp] theorem memByte_putCtx (b : Nat) (k : Nat) (x : Ctx) (d : Dev) : memByte b (putCtx k x d) = memByte b d := rfl
@[simp] theorem tbGet_putCtx (q : Nat) (k : Nat) (x : Ctx) (d : Dev) : tbGet q (putCtx k x d) = tbGet q d := rfl

/-! ### modCore -/

@[simp] theorem modCore_now (c : Nat) (f : Core → Core) (d : Dev) : (modCore c f d).now = d.now := rfl
@[simp] theorem modCore_free (c : Nat) (f : Core → Core) (d : Dev) : (modCore c f d).free = d.free := rfl
@[simp] theorem modCore_regs (c : Nat) (f : Core → Core) (d : Dev) : (modCore c f d).regs = d.regs := rfl
@[simp] theorem modCore_wraps (c : Nat) (f : Core → Core) (d : Dev) : (modCore c f d).wraps = d.wraps := rfl
@[simp] theorem modCore_tabs (c : Nat) (f : Core → Core) (d : Dev) : (modCore c f d).tabs = d.tabs := rfl
@[simp] theorem modCore_inds (c : Nat) (f : Core → Core) (d : Dev) : (modCore c f d).inds = d.inds := rfl
@[simp] theorem modCore_mem (c : Nat) (f : Core → Core) (d : Dev) : (modCore c f d).mem = d.mem := rfl
@[simp] theorem modCore_rdata (c : Nat) (f : Core → Core) (d : Dev) : (modCore c f d).rdata = d.rdata := rfl
@[simp] theorem modCore_badPar (c : Nat) (f : Core → Core) (d : Dev) : (modCore c f d).badPar = d.badPar := rfl
@[simp] theorem modCore_badCfg (c : Nat) (f : Core → Core) (d : Dev) : (modCore c f d).badCfg = d.badCfg := rfl
@[simp] theorem modCore_viewBad (c : Nat) (f : Core → Core) (d : Dev) : (modCore c f d).viewBad = d.viewBad := rfl
@[simp] theorem modCore_scrub (c : Nat) (f : Core → Core) (d : Dev) : (modCore c f d).scrub = d.scrub := rfl
@[simp] theorem modCore_sys (c : Nat) (f : Core → Core) (d : Dev) : (modCore c f d).sys = d.sys := rfl
@[simp] theorem modCore_boot (c : Nat) (f : Core → Core) (d : Dev) : (modCore c f d).boot = d.boot := rfl
@[simp] theorem modCore_flashA (c : Nat) (f : Core → Core) (d : Dev) : (modCore c f d).flashA = d.flashA := rfl
@[simp] theorem modCore_flashB (c : Nat) (f : Core → Core) (d : Dev) : (modCore c f d).flashB = d.flashB := rfl
@[simp] theorem modCore_img (c : Nat) (f : Core → Core) (d : Dev) : (modCore c f d).img = d.img := rfl
@[simp] theorem modCore_ctxs (c : Nat) (f : Core → Core) (d : Dev) : (modCore c f d).ctxs = d.ctxs := rfl
@[simp] theorem modCore_dsp (c : Nat) (f : Core → Core) (d : Dev) : (modCore c f d).dsp = d.dsp := rfl
@[simp] theorem modCore_locks (c : Nat) (f : Core → Core) (d : Dev) : (modCore c f d).locks = d.locks := rfl
@[simp] theorem modCore_lockRel (c : Nat) (f : Core → Core) (d : Dev) : (modCore c f d).lockRel = d.lockRel := rfl
@[simp] theorem modCore_mbxLast (c : Nat) (f : Core → Core) (d : Dev) : (modCore c f d).mbxLast = d.mbxLast := rfl
@[simp] theorem modCore_ntm (c : Nat) (f : Core → Core) (d : Dev) : (modCore c f d).ntm = d.ntm := rfl
@[simp] theorem modCore_mrd (c : Nat) (f : Core → Core) (d : Dev) : (modCore c f d).mrd = d.mrd := rfl
@[simp] theorem modCore_eths (c : Nat) (f : Core → Core) (d : Dev) : (modCore c f d).eths = d.eths := rfl
@[simp] theorem modCore_rings (c : Nat) (f : Core → Core) (d : Dev) : (modCore c f d).rings = d.rings := rfl
@[simp] theorem modCore_swc (c : Nat) (f : Core → Core) (d : Dev) : (modCore c f d).swc = d.swc := rfl
@[simp] theorem modCore_cans (c : Nat) (f : Core → Core) (d : Dev) : (modCore c f d).cans = d.cans := rfl
@[simp] theorem modCore_canObjs (c : Nat) (f : Core → Core) (d : Dev) : (modCore c f d).canObjs = d.canObjs := rfl
@[simp] theorem modCore_canCa (c : Nat) (f : Core → Core) (d : Dev) : (modCore c f d).canCa = d.canCa := rfl
@[simp] theorem modCore_pios (c : Nat) (f : Core → Core) (d : Dev) : (modCore c f d).pios = d.pios := rfl
@[simp] theorem modCore_pins (c : Nat) (f : Core → Core) (d : Dev) : (modCore c f d).pins = d.pins := rfl
@[simp] theorem modCore_sds (c : Nat) (f : Core → Core) (d : Dev) : (modCore c f d).sds = d.sds := rfl
@[simp] theorem modCore_ccs (c : Nat) (f : Core → Core) (d : Dev) : (modCore c f d).ccs = d.ccs := rfl
@[simp] theorem modCore_smpStart (c : Nat) (f : Core → Core) (d : Dev) : (modCore c f d).smpStart = d.smpStart := rfl
@[simp] theorem modCore_loop (c : Nat) (f : Core → Core) (d : Dev) : (modCore c f d).loop = d.loop := rfl
@[simp] theorem modCore_sec (c : Nat) (f : Core → Core) (d : Dev) : (modCore c f d).sec = d.sec := rfl
@[simp] theorem modCore_vddio (c : Nat) (f : Core → Core) (d : Dev) : (modCore c f d).vddio = d.vddio := rfl
@[simp] theorem modCore_saf (c : Nat) (f : Core → Core) (d : Dev) : (modCore c f d).saf = d.saf := rfl
@[simp] theorem modCore_hst (c : Nat) (f : Core → Core) (d : Dev) : (modCore c f d).hst = d.hst := rfl
@[simp] theorem modCore_out (c : Nat) (f : Core → Core) (d : Dev) : (modCore c f d).out = d.out := rfl
@[simp] theorem rd_modCore (b : Nat) (c : Nat) (f : Core → Core) (d : Dev) : rd b (modCore c f d) = rd b d := rfl
@[simp] theorem rf_modCore (b h l : Nat) (c : Nat) (f : Core → Core) (d : Dev) : rf b h l (modCore c f d) = rf b h l d := rfl
@[simp] theorem rb_modCore (b q : Nat) (c : Nat) (f : Core → Core) (d : Dev) : rb b q (modCore c f d) = rb b q d := rfl
@[simp] theorem getCtx_modCore (q : Nat) (c : Nat) (f : Core → Core) (d : Dev) : getCtx q (modCore c f d) = getCtx q d := rfl
@[simp] theorem memByte_modCore (b : Nat) (c : Nat) (f : Core → Core) (d : Dev) : memByte b (modCore c f d) = memByte b d := rfl
@[simp] theorem tbGet_modCore (q : Nat) (c : Nat) (f : Core → Core) (d : Dev) : tbGet q (modCore c f d) = tbGet q d := rfl

/-! ### memPut -/

@[simp] theorem memPut_now (a : Nat) (bs : List Byte) (d : Dev) : (memPut a bs d).now = d.now := rfl
@[simp] theorem memPut_free (a : Nat) (bs : List Byte) (d : Dev) : (memPut a bs d).free = d.free := rfl
@[simp] theorem memPut_regs (a : Nat) (bs : List Byte) (d : Dev) : (memPut a bs d).regs = d.regs := rfl
@[simp] theorem memPut_wraps (a : Nat) (bs : List Byte) (d : Dev) : (memPut a bs d).wraps = d.wraps := rfl
@[simp] theorem memPut_tabs (a : Nat) (bs : List Byte) (d : Dev) : (memPut a bs d).tabs = d.tabs := rfl
@[simp] theorem memPut_inds (a : Nat) (bs : List Byte) (d : Dev) : (memPut a bs d).inds = d.inds := rfl
@[simp] theorem memPut_rdata (a : Nat) (bs : List Byte) (d : Dev) : (memPut a bs d).rdata = d.rdata := rfl
@[simp] theorem memPut_badCfg (a : Nat) (bs : List Byte) (d : Dev) : (memPut a bs d).badCfg = d.badCfg := rfl
@[simp] theorem memPut_viewBad (a : Nat) (bs : List Byte) (d : Dev) : (memPut a bs d).viewBad = d.viewBad := rfl
@[simp] theorem memPut_scrub (a : Nat) (bs : List Byte) (d : Dev) : (memPut a bs d).scrub = d.scrub := rfl
@[simp] theorem memPut_sys (a : Nat) (bs : List Byte) (d : Dev) : (memPut a bs d).sys = d.sys := rfl
@[simp] theorem memPut_boot (a : Nat) (bs : List Byte) (d : Dev) : (memPut a bs d).boot = d.boot := rfl
@[simp] theorem memPut_flashA (a : Nat) (bs : List Byte) (d : Dev) : (memPut a bs d).flashA = d.flashA := rfl
@[simp] theorem memPut_flashB (a : Nat) (bs : List Byte) (d : Dev) : (memPut a bs d).flashB = d.flashB := rfl
@[simp] theorem memPut_img (a : Nat) (bs : List Byte) (d : Dev) : (memPut a bs d).img = d.img := rfl
@[simp] theorem memPut_ctxs (a : Nat) (bs : List Byte) (d : Dev) : (memPut a bs d).ctxs = d.ctxs := rfl
@[simp] theorem memPut_cores (a : Nat) (bs : List Byte) (d : Dev) : (memPut a bs d).cores = d.cores := rfl
@[simp] theorem memPut_dsp (a : Nat) (bs : List Byte) (d : Dev) : (memPut a bs d).dsp = d.dsp := rfl
@[simp] theorem memPut_locks (a : Nat) (bs : List Byte) (d : Dev) : (memPut a bs d).locks = d.locks := rfl
@[simp] theorem memPut_lockRel (a : Nat) (bs : List Byte) (d : Dev) : (memPut a bs d).lockRel = d.lockRel := rfl
@[simp] theorem memPut_mbxLast (a : Nat) (bs : List Byte) (d : Dev) : (memPut a bs d).mbxLast = d.mbxLast := rfl
@[simp] theorem memPut_ntm (a : Nat) (bs : List Byte) (d : Dev) : (memPut a bs d).ntm = d.ntm := rfl
@[simp] theorem memPut_mrd (a : Nat) (bs : List Byte) (d : Dev) : (memPut a bs d).mrd = d.mrd := rfl
@[simp] theorem memPut_eths (a : Nat) (bs : List Byte) (d : Dev) : (memPut a bs d).eths = d.eths := rfl
@[simp] theorem memPut_rings (a : Nat) (bs : List Byte) (d : Dev) : (memPut a bs d).rings = d.rings := rfl
@[simp] theorem memPut_swc (a : Nat) (bs : List Byte) (d : Dev) : (memPut a bs d).swc = d.swc := rfl
@[simp] theorem memPut_cans (a : Nat) (bs : List Byte) (d : Dev) : (memPut a bs d).cans = d.cans := rfl
@[simp] theorem memPut_canObjs (a : Nat) (bs : List Byte) (d : Dev) : (memPut a bs d).canObjs = d.canObjs := rfl
@[simp] theorem memPut_canCa (a : Nat) (bs : List Byte) (d : Dev) : (memPut a bs d).canCa = d.canCa := rfl
@[simp] theorem memPut_pios (a : Nat) (bs : List Byte) (d : Dev) : (memPut a bs d).pios = d.pios := rfl
@[simp] theorem memPut_pins (a : Nat) (bs : List Byte) (d : Dev) : (memPut a bs d).pins = d.pins := rfl
@[simp] theorem memPut_sds (a : Nat) (bs : List Byte) (d : Dev) : (memPut a bs d).sds = d.sds := rfl
@[simp] theorem memPut_ccs (a : Nat) (bs : List Byte) (d : Dev) : (memPut a bs d).ccs = d.ccs := rfl
@[simp] theorem memPut_smpStart (a : Nat) (bs : List Byte) (d : Dev) : (memPut a bs d).smpStart = d.smpStart := rfl
@[simp] theorem memPut_loop (a : Nat) (bs : List Byte) (d : Dev) : (memPut a bs d).loop = d.loop := rfl
@[simp] theorem memPut_sec (a : Nat) (bs : List Byte) (d : Dev) : (memPut a bs d).sec = d.sec := rfl
@[simp] theorem memPut_vddio (a : Nat) (bs : List Byte) (d : Dev) : (memPut a bs d).vddio = d.vddio := rfl
@[simp] theorem memPut_saf (a : Nat) (bs : List Byte) (d : Dev) : (memPut a bs d).saf = d.saf := rfl
@[simp] theorem memPut_hst (a : Nat) (bs : List Byte) (d : Dev) : (memPut a bs d).hst = d.hst := rfl
@[simp] theorem memPut_out (a : Nat) (bs : List Byte) (d : Dev) : (memPut a bs d).out = d.out := rfl
@[simp] theorem rd_memPut (b : Nat) (a : Nat) (bs : List Byte) (d : Dev) : rd b (memPut a bs d) = rd b d := rfl
@[simp] theorem rf_memPut (b h l : Nat) (a : Nat) (bs : List Byte) (d : Dev) : rf b h l (memPut a bs d) = rf b h l d := rfl
@[simp] theorem rb_memPut (b q : Nat) (a : Nat) (bs : List Byte) (d : Dev) : rb b q (memPut a bs d) = rb b q d := rfl
@[simp] theorem getCtx_memPut (q : Nat) (a : Nat) (bs : List Byte) (d : Dev) : getCtx q (memPut a bs d) = getCtx q d := rfl
@[simp] theorem getCore_memPut (q : Nat) (a : Nat) (bs : List Byte) (d : Dev) : getCore q (memPut a bs d) = getCore q d := rfl
@[simp] theorem tbGet_memPut (q : Nat) (a : Nat) (bs : List Byte) (d : Dev) : tbGet q (memPut a bs d) = tbGet q d := rfl

/-! ### memZero -/

@[simp] theorem memZero_now (lo hi : Nat) (d : Dev) : (memZero lo hi d).now = d.now := rfl
@[simp] theorem memZero_free (lo hi : Nat) (d : Dev) : (memZero lo hi d).free = d.free := rfl
@[simp] theorem memZero_regs (lo hi : Nat) (d : Dev) : (memZero lo hi d).regs = d.regs := rfl
@[simp] theorem memZero_wraps (lo hi : Nat) (d : Dev) : (memZero lo hi d).wraps = d.wraps := rfl
@[simp] theorem memZero_tabs (lo hi : Nat) (d : Dev) : (memZero lo hi d).tabs = d.tabs := rfl
@[simp] theorem memZero_inds (lo hi : Nat) (d : Dev) : (memZero lo hi d).inds = d.inds := rfl
@[simp] theorem memZero_rdata (lo hi : Nat) (d : Dev) : (memZero lo hi d).rdata = d.rdata := rfl
@[simp] theorem memZero_badCfg (lo hi : Nat) (d : Dev) : (memZero lo hi d).badCfg = d.badCfg := rfl
@[simp] theorem memZero_viewBad (lo hi : Nat) (d : Dev) : (memZero lo hi d).viewBad = d.viewBad := rfl
@[simp] theorem memZero_scrub (lo hi : Nat) (d : Dev) : (memZero lo hi d).scrub = d.scrub := rfl
@[simp] theorem memZero_sys (lo hi : Nat) (d : Dev) : (memZero lo hi d).sys = d.sys := rfl
@[simp] theorem memZero_boot (lo hi : Nat) (d : Dev) : (memZero lo hi d).boot = d.boot := rfl
@[simp] theorem memZero_flashA (lo hi : Nat) (d : Dev) : (memZero lo hi d).flashA = d.flashA := rfl
@[simp] theorem memZero_flashB (lo hi : Nat) (d : Dev) : (memZero lo hi d).flashB = d.flashB := rfl
@[simp] theorem memZero_img (lo hi : Nat) (d : Dev) : (memZero lo hi d).img = d.img := rfl
@[simp] theorem memZero_ctxs (lo hi : Nat) (d : Dev) : (memZero lo hi d).ctxs = d.ctxs := rfl
@[simp] theorem memZero_cores (lo hi : Nat) (d : Dev) : (memZero lo hi d).cores = d.cores := rfl
@[simp] theorem memZero_dsp (lo hi : Nat) (d : Dev) : (memZero lo hi d).dsp = d.dsp := rfl
@[simp] theorem memZero_locks (lo hi : Nat) (d : Dev) : (memZero lo hi d).locks = d.locks := rfl
@[simp] theorem memZero_lockRel (lo hi : Nat) (d : Dev) : (memZero lo hi d).lockRel = d.lockRel := rfl
@[simp] theorem memZero_mbxLast (lo hi : Nat) (d : Dev) : (memZero lo hi d).mbxLast = d.mbxLast := rfl
@[simp] theorem memZero_ntm (lo hi : Nat) (d : Dev) : (memZero lo hi d).ntm = d.ntm := rfl
@[simp] theorem memZero_mrd (lo hi : Nat) (d : Dev) : (memZero lo hi d).mrd = d.mrd := rfl
@[simp] theorem memZero_eths (lo hi : Nat) (d : Dev) : (memZero lo hi d).eths = d.eths := rfl
@[simp] theorem memZero_rings (lo hi : Nat) (d : Dev) : (memZero lo hi d).rings = d.rings := rfl
@[simp] theorem memZero_swc (lo hi : Nat) (d : Dev) : (memZero lo hi d).swc = d.swc := rfl
@[simp] theorem memZero_cans (lo hi : Nat) (d : Dev) : (memZero lo hi d).cans = d.cans := rfl
@[simp] theorem memZero_canObjs (lo hi : Nat) (d : Dev) : (memZero lo hi d).canObjs = d.canObjs := rfl
@[simp] theorem memZero_canCa (lo hi : Nat) (d : Dev) : (memZero lo hi d).canCa = d.canCa := rfl
@[simp] theorem memZero_pios (lo hi : Nat) (d : Dev) : (memZero lo hi d).pios = d.pios := rfl
@[simp] theorem memZero_pins (lo hi : Nat) (d : Dev) : (memZero lo hi d).pins = d.pins := rfl
@[simp] theorem memZero_sds (lo hi : Nat) (d : Dev) : (memZero lo hi d).sds = d.sds := rfl
@[simp] theorem memZero_ccs (lo hi : Nat) (d : Dev) : (memZero lo hi d).ccs = d.ccs := rfl
@[simp] theorem memZero_smpStart (lo hi : Nat) (d : Dev) : (memZero lo hi d).smpStart = d.smpStart := rfl
@[simp] theorem memZero_loop (lo hi : Nat) (d : Dev) : (memZero lo hi d).loop = d.loop := rfl
@[simp] theorem memZero_sec (lo hi : Nat) (d : Dev) : (memZero lo hi d).sec = d.sec := rfl
@[simp] theorem memZero_vddio (lo hi : Nat) (d : Dev) : (memZero lo hi d).vddio = d.vddio := rfl
@[simp] theorem memZero_saf (lo hi : Nat) (d : Dev) : (memZero lo hi d).saf = d.saf := rfl
@[simp] theorem memZero_hst (lo hi : Nat) (d : Dev) : (memZero lo hi d).hst = d.hst := rfl
@[simp] theorem memZero_out (lo hi : Nat) (d : Dev) : (memZero lo hi d).out = d.out := rfl
@[simp] theorem rd_memZero (b : Nat) (lo hi : Nat) (d : Dev) : rd b (memZero lo hi d) = rd b d := rfl
@[simp] theorem rf_memZero (b h l : Nat) (lo hi : Nat) (d : Dev) : rf b h l (memZero lo hi d) = rf b h l d := rfl
@[simp] theorem rb_memZero (b q : Nat) (lo hi : Nat) (d : Dev) : rb b q (memZero lo hi d) = rb b q d := rfl
@[simp] theorem getCtx_memZero (q : Nat) (lo hi : Nat) (d : Dev) : getCtx q (memZero lo hi d) = getCtx q d := rfl
@[simp] theorem getCore_memZero (q : Nat) (lo hi : Nat) (d : Dev) : getCore q (memZero lo hi d) = getCore q d := rfl
@[simp] theorem tbGet_memZero (q : Nat) (lo hi : Nat) (d : Dev) : tbGet q (memZero lo hi d) = tbGet q d := rfl

/-! ### tbPut -/

@[simp] theorem tbPut_now (j : Nat) (t : TimeBase) (d : Dev) : (tbPut j t d).now = d.now := rfl
@[simp] theorem tbPut_free (j : Nat) (t : TimeBase) (d : Dev) : (tbPut j t d).free = d.free := rfl
@[simp] theorem tbPut_regs (j : Nat) (t : TimeBase) (d : Dev) : (tbPut j t d).regs = d.regs := rfl
@[simp] theorem tbPut_wraps (j : Nat) (t : TimeBase) (d : Dev) : (tbPut j t d).wraps = d.wraps := rfl
@[simp] theorem tbPut_tabs (j : Nat) (t : TimeBase) (d : Dev) : (tbPut j t d).tabs = d.tabs := rfl
@[simp] theorem tbPut_inds (j : Nat) (t : TimeBase) (d : Dev) : (tbPut j t d).inds = d.inds := rfl
@[simp] theorem tbPut_mem (j : Nat) (t : TimeBase) (d : Dev) : (tbPut j t d).mem = d.mem := rfl
@[simp] theorem tbPut_rdata (j : Nat) (t : TimeBase) (d : Dev) : (tbPut j t d).rdata = d.rdata := rfl
@[simp] theorem tbPut_badPar (j : Nat) (t : TimeBase) (d : Dev) : (tbPut j t d).badPar = d.badPar := rfl
@[simp] theorem tbPut_badCfg (j : Nat) (t : TimeBase) (d : Dev) : (tbPut j t d).badCfg = d.badCfg := rfl
@[simp] theorem tbPut_viewBad (j : Nat) (t : TimeBase) (d : Dev) : (tbPut j t d).viewBad = d.viewBad := rfl
@[simp] theorem tbPut_scrub (j : Nat) (t : TimeBase) (d : Dev) : (tbPut j t d).scrub = d.scrub := rfl
@[simp] theorem tbPut_sys (j : Nat) (t : TimeBase) (d : Dev) : (tbPut j t d).sys = d.sys := rfl
@[simp] theorem tbPut_boot (j : Nat) (t : TimeBase) (d : Dev) : (tbPut j t d).boot = d.boot := rfl
@[simp] theorem tbPut_flashA (j : Nat) (t : TimeBase) (d : Dev) : (tbPut j t d).flashA = d.flashA := rfl
@[simp] theorem tbPut_flashB (j : Nat) (t : TimeBase) (d : Dev) : (tbPut j t d).flashB = d.flashB := rfl
@[simp] theorem tbPut_img (j : Nat) (t : TimeBase) (d : Dev) : (tbPut j t d).img = d.img := rfl
@[simp] theorem tbPut_ctxs (j : Nat) (t : TimeBase) (d : Dev) : (tbPut j t d).ctxs = d.ctxs := rfl
@[simp] theorem tbPut_cores (j : Nat) (t : TimeBase) (d : Dev) : (tbPut j t d).cores = d.cores := rfl
@[simp] theorem tbPut_dsp (j : Nat) (t : TimeBase) (d : Dev) : (tbPut j t d).dsp = d.dsp := rfl
@[simp] theorem tbPut_locks (j : Nat) (t : TimeBase) (d : Dev) : (tbPut j t d).locks = d.locks := rfl
@[simp] theorem tbPut_lockRel (j : Nat) (t : TimeBase) (d : Dev) : (tbPut j t d).lockRel = d.lockRel := rfl
@[simp] theorem tbPut_mbxLast (j : Nat) (t : TimeBase) (d : Dev) : (tbPut j t d).mbxLast = d.mbxLast := rfl
@[simp] theorem tbPut_mrd (j : Nat) (t : TimeBase) (d : Dev) : (tbPut j t d).mrd = d.mrd := rfl
@[simp] theorem tbPut_eths (j : Nat) (t : TimeBase) (d : Dev) : (tbPut j t d).eths = d.eths := rfl
@[simp] theorem tbPut_rings (j : Nat) (t : TimeBase) (d : Dev) : (tbPut j t d).rings = d.rings := rfl
@[simp] theorem tbPut_swc (j : Nat) (t : TimeBase) (d : Dev) : (tbPut j t d).swc = d.swc := rfl
@[simp] theorem tbPut_cans (j : Nat) (t : TimeBase) (d : Dev) : (tbPut j t d).cans = d.cans := rfl
@[simp] theorem tbPut_canObjs (j : Nat) (t : TimeBase) (d : Dev) : (tbPut j t d).canObjs = d.canObjs := rfl
@[simp] theorem tbPut_canCa (j : Nat) (t : TimeBase) (d : Dev) : (tbPut j t d).canCa = d.canCa := rfl
@[simp] theorem tbPut_pios (j : Nat) (t : TimeBase) (d : Dev) : (tbPut j t d).pios = d.pios := rfl
@[simp] theorem tbPut_pins (j : Nat) (t : TimeBase) (d : Dev) : (tbPut j t d).pins = d.pins := rfl
@[simp] theorem tbPut_sds (j : Nat) (t : TimeBase) (d : Dev) : (tbPut j t d).sds = d.sds := rfl
@[simp] theorem tbPut_ccs (j : Nat) (t : TimeBase) (d : Dev) : (tbPut j t d).ccs = d.ccs := rfl
@[simp] theorem tbPut_smpStart (j : Nat) (t : TimeBase) (d : Dev) : (tbPut j t d).smpStart = d.smpStart := rfl
@[simp] theorem tbPut_loop (j : Nat) (t : TimeBase) (d : Dev) : (tbPut j t d).loop = d.loop := rfl
@[simp] theorem tbPut_sec (j : Nat) (t : TimeBase) (d : Dev) : (tbPut j t d).sec = d.sec := rfl
@[simp] theorem tbPut_vddio (j : Nat) (t : TimeBase) (d : Dev) : (tbPut j t d).vddio = d.vddio := rfl
@[simp] theorem tbPut_saf (j : Nat) (t : TimeBase) (d : Dev) : (tbPut j t d).saf = d.saf := rfl
@[simp] theorem tbPut_hst (j : Nat) (t : TimeBase) (d : Dev) : (tbPut j t d).hst = d.hst := rfl
@[simp] theorem tbPut_out (j : Nat) (t : TimeBase) (d : Dev) : (tbPut j t d).out = d.out := rfl
@[simp] theorem rd_tbPut (b : Nat) (j : Nat) (t : TimeBase) (d : Dev) : rd b (tbPut j t d) = rd b d := rfl
@[simp] theorem rf_tbPut (b h l : Nat) (j : Nat) (t : TimeBase) (d : Dev) : rf b h l (tbPut j t d) = rf b h l d := rfl
@[simp] theorem rb_tbPut (b q : Nat) (j : Nat) (t : TimeBase) (d : Dev) : rb b q (tbPut j t d) = rb b q d := rfl
@[simp] theorem getCtx_tbPut (q : Nat) (j : Nat) (t : TimeBase) (d : Dev) : getCtx q (tbPut j t d) = getCtx q d := rfl
@[simp] theorem getCore_tbPut (q : Nat) (j : Nat) (t : TimeBase) (d : Dev) : getCore q (tbPut j t d) = getCore q d := rfl
@[simp] theorem memByte_tbPut (b : Nat) (j : Nat) (t : TimeBase) (d : Dev) : memByte b (tbPut j t d) = memByte b d := rfl

/-! ### putTrig -/

@[simp] theorem putTrig_now (k : Nat) (t : Trig) (d : Dev) : (putTrig k t d).now = d.now := rfl
@[simp] theorem putTrig_free (k : Nat) (t : Trig) (d : Dev) : (putTrig k t d).free = d.free := rfl
@[simp] theorem putTrig_regs (k : Nat) (t : Trig) (d : Dev) : (putTrig k t d).regs = d.regs := rfl
@[simp] theorem putTrig_wraps (k : Nat) (t : Trig) (d : Dev) : (putTrig k t d).wraps = d.wraps := rfl
@[simp] theorem putTrig_tabs (k : Nat) (t : Trig) (d : Dev) : (putTrig k t d).tabs = d.tabs := rfl
@[simp] theorem putTrig_inds (k : Nat) (t : Trig) (d : Dev) : (putTrig k t d).inds = d.inds := rfl
@[simp] theorem putTrig_mem (k : Nat) (t : Trig) (d : Dev) : (putTrig k t d).mem = d.mem := rfl
@[simp] theorem putTrig_rdata (k : Nat) (t : Trig) (d : Dev) : (putTrig k t d).rdata = d.rdata := rfl
@[simp] theorem putTrig_badPar (k : Nat) (t : Trig) (d : Dev) : (putTrig k t d).badPar = d.badPar := rfl
@[simp] theorem putTrig_badCfg (k : Nat) (t : Trig) (d : Dev) : (putTrig k t d).badCfg = d.badCfg := rfl
@[simp] theorem putTrig_viewBad (k : Nat) (t : Trig) (d : Dev) : (putTrig k t d).viewBad = d.viewBad := rfl
@[simp] theorem putTrig_scrub (k : Nat) (t : Trig) (d : Dev) : (putTrig k t d).scrub = d.scrub := rfl
@[simp] theorem putTrig_sys (k : Nat) (t : Trig) (d : Dev) : (putTrig k t d).sys = d.sys := rfl
@[simp] theorem putTrig_boot (k : Nat) (t : Trig) (d : Dev) : (putTrig k t d).boot = d.boot := rfl
@[simp] theorem putTrig_flashA (k : Nat) (t : Trig) (d : Dev) : (putTrig k t d).flashA = d.flashA := rfl
@[simp] theorem putTrig_flashB (k : Nat) (t : Trig) (d : Dev) : (putTrig k t d).flashB = d.flashB := rfl
@[simp] theorem putTrig_img (k : Nat) (t : Trig) (d : Dev) : (putTrig k t d).img = d.img := rfl
@[simp] theorem putTrig_ctxs (k : Nat) (t : Trig) (d : Dev) : (putTrig k t d).ctxs = d.ctxs := rfl
@[simp] theorem putTrig_cores (k : Nat) (t : Trig) (d : Dev) : (putTrig k t d).cores = d.cores := rfl
@[simp] theorem putTrig_dsp (k : Nat) (t : Trig) (d : Dev) : (putTrig k t d).dsp = d.dsp := rfl
@[simp] theorem putTrig_locks (k : Nat) (t : Trig) (d : Dev) : (putTrig k t d).locks = d.locks := rfl
@[simp] theorem putTrig_lockRel (k : Nat) (t : Trig) (d : Dev) : (putTrig k t d).lockRel = d.lockRel := rfl
@[simp] theorem putTrig_mbxLast (k : Nat) (t : Trig) (d : Dev) : (putTrig k t d).mbxLast = d.mbxLast := rfl
@[simp] theorem putTrig_mrd (k : Nat) (t : Trig) (d : Dev) : (putTrig k t d).mrd = d.mrd := rfl
@[simp] theorem putTrig_eths (k : Nat) (t : Trig) (d : Dev) : (putTrig k t d).eths = d.eths := rfl
@[simp] theorem putTrig_rings (k : Nat) (t : Trig) (d : Dev) : (putTrig k t d).rings = d.rings := rfl
@[simp] theorem putTrig_swc (k : Nat) (t : Trig) (d : Dev) : (putTrig k t d).swc = d.swc := rfl
@[simp] theorem putTrig_cans (k : Nat) (t : Trig) (d : Dev) : (putTrig k t d).cans = d.cans := rfl
@[simp] theorem putTrig_canObjs (k : Nat) (t : Trig) (d : Dev) : (putTrig k t d).canObjs = d.canObjs := rfl
@[simp] theorem putTrig_canCa (k : Nat) (t : Trig) (d : Dev) : (putTrig k t d).canCa = d.canCa := rfl
@[simp] theorem putTrig_pios (k : Nat) (t : Trig) (d : Dev) : (putTrig k t d).pios = d.pios := rfl
@[simp] theorem putTrig_pins (k : Nat) (t : Trig) (d : Dev) : (putTrig k t d).pins = d.pins := rfl
@[simp] theorem putTrig_sds (k : Nat) (t : Trig) (d : Dev) : (putTrig k t d).sds = d.sds := rfl
@[simp] theorem putTrig_ccs (k : Nat) (t : Trig) (d : Dev) : (putTrig k t d).ccs = d.ccs := rfl
@[simp] theorem putTrig_smpStart (k : Nat) (t : Trig) (d : Dev) : (putTrig k t d).smpStart = d.smpStart := rfl
@[simp] theorem putTrig_loop (k : Nat) (t : Trig) (d : Dev) : (putTrig k t d).loop = d.loop := rfl
@[simp] theorem putTrig_sec (k : Nat) (t : Trig) (d : Dev) : (putTrig k t d).sec = d.sec := rfl
@[simp] theorem putTrig_vddio (k : Nat) (t : Trig) (d : Dev) : (putTrig k t d).vddio = d.vddio := rfl
@[simp] theorem putTrig_saf (k : Nat) (t : Trig) (d : Dev) : (putTrig k t d).saf = d.saf := rfl
@[simp] theorem putTrig_hst (k : Nat) (t : Trig) (d : Dev) : (putTrig k t d).hst = d.hst := rfl
@[simp] theorem putTrig_out (k : Nat) (t : Trig) (d : Dev) : (putTrig k t d).out = d.out := rfl
@[simp] theorem rd_putTrig (b : Nat) (k : Nat) (t : Trig) (d : Dev) : rd b (putTrig k t d) = rd b d := rfl
@[simp] theorem rf_putTrig (b h l : Nat) (k : Nat) (t : Trig) (d : Dev) : rf b h l (putTrig k t d) = rf b h l d := rfl
@[simp] theorem rb_putTrig (b q : Nat) (k : Nat) (t : Trig) (d : Dev) : rb b q (putTrig k t d) = rb b q d := rfl
@[simp] theorem getCtx_putTrig (q : Nat) (k : Nat) (t : Trig) (d : Dev) : getCtx q (putTrig k t d) = getCtx q d := rfl
@[simp] theorem getCore_putTrig (q : Nat) (k : Nat) (t : Trig) (d : Dev) : getCore q (putTrig k t d) = getCore q d := rfl
@[simp] theorem memByte_putTrig (b : Nat) (k : Nat) (t : Trig) (d : Dev) : memByte b (putTrig k t d) = memByte b d := rfl

/-! ### modDsp -/

@[simp] theorem modDsp_now (f : Dsp → Dsp) (d : Dev) : (modDsp f d).now = d.now := rfl
@[simp] theorem modDsp_free (f : Dsp → Dsp) (d : Dev) : (modDsp f d).free = d.free := rfl
@[simp] theorem modDsp_regs (f : Dsp → Dsp) (d : Dev) : (modDsp f d).regs = d.regs := rfl
@[simp] theorem modDsp_wraps (f : Dsp → Dsp) (d : Dev) : (modDsp f d).wraps = d.wraps := rfl
@[simp] theorem modDsp_tabs (f : Dsp → Dsp) (d : Dev) : (modDsp f d).tabs = d.tabs := rfl
@[simp] theorem modDsp_inds (f : Dsp → Dsp) (d : Dev) : (modDsp f d).inds = d.inds := rfl
@[simp] theorem modDsp_mem (f : Dsp → Dsp) (d : Dev) : (modDsp f d).mem = d.mem := rfl
@[simp] theorem modDsp_rdata (f : Dsp → Dsp) (d : Dev) : (modDsp f d).rdata = d.rdata := rfl
@[simp] theorem modDsp_badPar (f : Dsp → Dsp) (d : Dev) : (modDsp f d).badPar = d.badPar := rfl
@[simp] theorem modDsp_badCfg (f : Dsp → Dsp) (d : Dev) : (modDsp f d).badCfg = d.badCfg := rfl
@[simp] theorem modDsp_viewBad (f : Dsp → Dsp) (d : Dev) : (modDsp f d).viewBad = d.viewBad := rfl
@[simp] theorem modDsp_scrub (f : Dsp → Dsp) (d : Dev) : (modDsp f d).scrub = d.scrub := rfl
@[simp] theorem modDsp_sys (f : Dsp → Dsp) (d : Dev) : (modDsp f d).sys = d.sys := rfl
@[simp] theorem modDsp_boot (f : Dsp → Dsp) (d : Dev) : (modDsp f d).boot = d.boot := rfl
@[simp] theorem modDsp_flashA (f : Dsp → Dsp) (d : Dev) : (modDsp f d).flashA = d.flashA := rfl
@[simp] theorem modDsp_flashB (f : Dsp → Dsp) (d : Dev) : (modDsp f d).flashB = d.flashB := rfl
@[simp] theorem modDsp_img (f : Dsp → Dsp) (d : Dev) : (modDsp f d).img = d.img := rfl
@[simp] theorem modDsp_ctxs (f : Dsp → Dsp) (d : Dev) : (modDsp f d).ctxs = d.ctxs := rfl
@[simp] theorem modDsp_cores (f : Dsp → Dsp) (d : Dev) : (modDsp f d).cores = d.cores := rfl
@[simp] theorem modDsp_locks (f : Dsp → Dsp) (d : Dev) : (modDsp f d).locks = d.locks := rfl
@[simp] theorem modDsp_lockRel (f : Dsp → Dsp) (d : Dev) : (modDsp f d).lockRel = d.lockRel := rfl
@[simp] theorem modDsp_mbxLast (f : Dsp → Dsp) (d : Dev) : (modDsp f d).mbxLast = d.mbxLast := rfl
@[simp] theorem modDsp_ntm (f : Dsp → Dsp) (d : Dev) : (modDsp f d).ntm = d.ntm := rfl
@[simp] theorem modDsp_mrd (f : Dsp → Dsp) (d : Dev) : (modDsp f d).mrd = d.mrd := rfl
@[simp] theorem modDsp_eths (f : Dsp → Dsp) (d : Dev) : (modDsp f d).eths = d.eths := rfl
@[simp] theorem modDsp_rings (f : Dsp → Dsp) (d : Dev) : (modDsp f d).rings = d.rings := rfl
@[simp] theorem modDsp_swc (f : Dsp → Dsp) (d : Dev) : (modDsp f d).swc = d.swc := rfl
@[simp] theorem modDsp_cans (f : Dsp → Dsp) (d : Dev) : (modDsp f d).cans = d.cans := rfl
@[simp] theorem modDsp_canObjs (f : Dsp → Dsp) (d : Dev) : (modDsp f d).canObjs = d.canObjs := rfl
@[simp] theorem modDsp_canCa (f : Dsp → Dsp) (d : Dev) : (modDsp f d).canCa = d.canCa := rfl
@[simp] theorem modDsp_pios (f : Dsp → Dsp) (d : Dev) : (modDsp f d).pios = d.pios := rfl
@[simp] theorem modDsp_pins (f : Dsp → Dsp) (d : Dev) : (modDsp f d).pins = d.pins := rfl
@[simp] theorem modDsp_sds (f : Dsp → Dsp) (d : Dev) : (modDsp f d).sds = d.sds := rfl
@[simp] theorem modDsp_ccs (f : Dsp → Dsp) (d : Dev) : (modDsp f d).ccs = d.ccs := rfl
@[simp] theorem modDsp_smpStart (f : Dsp → Dsp) (d : Dev) : (modDsp f d).smpStart = d.smpStart := rfl
@[simp] theorem modDsp_loop (f : Dsp → Dsp) (d : Dev) : (modDsp f d).loop = d.loop := rfl
@[simp] theorem modDsp_sec (f : Dsp → Dsp) (d : Dev) : (modDsp f d).sec = d.sec := rfl
@[simp] theorem modDsp_vddio (f : Dsp → Dsp) (d : Dev) : (modDsp f d).vddio = d.vddio := rfl
@[simp] theorem modDsp_saf (f : Dsp → Dsp) (d : Dev) : (modDsp f d).saf = d.saf := rfl
@[simp] theorem modDsp_hst (f : Dsp → Dsp) (d : Dev) : (modDsp f d).hst = d.hst := rfl
@[simp] theorem modDsp_out (f : Dsp → Dsp) (d : Dev) : (modDsp f d).out = d.out := rfl
@[simp] theorem rd_modDsp (b : Nat) (f : Dsp → Dsp) (d : Dev) : rd b (modDsp f d) = rd b d := rfl
@[simp] theorem rf_modDsp (b h l : Nat) (f : Dsp → Dsp) (d : Dev) : rf b h l (modDsp f d) = rf b h l d := rfl
@[simp] theorem rb_modDsp (b q : Nat) (f : Dsp → Dsp) (d : Dev) : rb b q (modDsp f d) = rb b q d := rfl
@[simp] theorem getCtx_modDsp (q : Nat) (f : Dsp → Dsp) (d : Dev) : getCtx q (modDsp f d) = getCtx q d := rfl
@[simp] theorem getCore_modDsp (q : Nat) (f : Dsp → Dsp) (d : Dev) : getCore q (modDsp f d) = getCore q d := rfl
@[simp] theorem memByte_modDsp (b : Nat) (f : Dsp → Dsp) (d : Dev) : memByte b (modDsp f d) = memByte b d := rfl
@[simp] theorem tbGet_modDsp (q : Nat) (f : Dsp → Dsp) (d : Dev) : tbGet q (modDsp f d) = tbGet q d := rfl

/-! ### modSwc -/

@[simp] theorem modSwc_now (f : Swc → Swc) (d : Dev) : (modSwc f d).now = d.now := rfl
@[simp] theorem modSwc_free (f : Swc → Swc) (d : Dev) : (modSwc f d).free = d.free := rfl
@[simp] theorem modSwc_regs (f : Swc → Swc) (d : Dev) : (modSwc f d).regs = d.regs := rfl
@[simp] theorem modSwc_wraps (f : Swc → Swc) (d : Dev) : (modSwc f d).wraps = d.wraps := rfl
@[simp] theorem modSwc_tabs (f : Swc → Swc) (d : Dev) : (modSwc f d).tabs = d.tabs := rfl
@[simp] theorem modSwc_inds (f : Swc → Swc) (d : Dev) : (modSwc f d).inds = d.inds := rfl
@[simp] theorem modSwc_mem (f : Swc → Swc) (d : Dev) : (modSwc f d).mem = d.mem := rfl
@[simp] theorem modSwc_rdata (f : Swc → Swc) (d : Dev) : (modSwc f d).rdata = d.rdata := rfl
@[simp] theorem modSwc_badPar (f : Swc → Swc) (d : Dev) : (modSwc f d).badPar = d.badPar := rfl
@[simp] theorem modSwc_badCfg (f : Swc → Swc) (d : Dev) : (modSwc f d).badCfg = d.badCfg := rfl
@[simp] theorem modSwc_viewBad (f : Swc → Swc) (d : Dev) : (modSwc f d).viewBad = d.viewBad := rfl
@[simp] theorem modSwc_scrub (f : Swc → Swc) (d : Dev) : (modSwc f d).scrub = d.scrub := rfl
@[simp] theorem modSwc_sys (f : Swc → Swc) (d : Dev) : (modSwc f d).sys = d.sys := rfl
@[simp] theorem modSwc_boot (f : Swc → Swc) (d : Dev) : (modSwc f d).boot = d.boot := rfl
@[simp] theorem modSwc_flashA (f : Swc → Swc) (d : Dev) : (modSwc f d).flashA = d.flashA := rfl
@[simp] theorem modSwc_flashB (f : Swc → Swc) (d : Dev) : (modSwc f d).flashB = d.flashB := rfl
@[simp] theorem modSwc_img (f : Swc → Swc) (d : Dev) : (modSwc f d).img = d.img := rfl
@[simp] theorem modSwc_ctxs (f : Swc → Swc) (d : Dev) : (modSwc f d).ctxs = d.ctxs := rfl
@[simp] theorem modSwc_cores (f : Swc → Swc) (d : Dev) : (modSwc f d).cores = d.cores := rfl
@[simp] theorem modSwc_dsp (f : Swc → Swc) (d : Dev) : (modSwc f d).dsp = d.dsp := rfl
@[simp] theorem modSwc_locks (f : Swc → Swc) (d : Dev) : (modSwc f d).locks = d.locks := rfl
@[simp] theorem modSwc_lockRel (f : Swc → Swc) (d : Dev) : (modSwc f d).lockRel = d.lockRel := rfl
@[simp] theorem modSwc_mbxLast (f : Swc → Swc) (d : Dev) : (modSwc f d).mbxLast = d.mbxLast := rfl
@[simp] theorem modSwc_ntm (f : Swc → Swc) (d : Dev) : (modSwc f d).ntm = d.ntm := rfl
@[simp] theorem modSwc_mrd (f : Swc → Swc) (d : Dev) : (modSwc f d).mrd = d.mrd := rfl
@[simp] theorem modSwc_eths (f : Swc → Swc) (d : Dev) : (modSwc f d).eths = d.eths := rfl
@[simp] theorem modSwc_rings (f : Swc → Swc) (d : Dev) : (modSwc f d).rings = d.rings := rfl
@[simp] theorem modSwc_cans (f : Swc → Swc) (d : Dev) : (modSwc f d).cans = d.cans := rfl
@[simp] theorem modSwc_canObjs (f : Swc → Swc) (d : Dev) : (modSwc f d).canObjs = d.canObjs := rfl
@[simp] theorem modSwc_canCa (f : Swc → Swc) (d : Dev) : (modSwc f d).canCa = d.canCa := rfl
@[simp] theorem modSwc_pios (f : Swc → Swc) (d : Dev) : (modSwc f d).pios = d.pios := rfl
@[simp] theorem modSwc_pins (f : Swc → Swc) (d : Dev) : (modSwc f d).pins = d.pins := rfl
@[simp] theorem modSwc_sds (f : Swc → Swc) (d : Dev) : (modSwc f d).sds = d.sds := rfl
@[simp] theorem modSwc_ccs (f : Swc → Swc) (d : Dev) : (modSwc f d).ccs = d.ccs := rfl
@[simp] theorem modSwc_smpStart (f : Swc → Swc) (d : Dev) : (modSwc f d).smpStart = d.smpStart := rfl
@[simp] theorem modSwc_loop (f : Swc → Swc) (d : Dev) : (modSwc f d).loop = d.loop := rfl
@[simp] theorem modSwc_sec (f : Swc → Swc) (d : Dev) : (modSwc f d).sec = d.sec := rfl
@[simp] theorem modSwc_vddio (f : Swc → Swc) (d : Dev) : (modSwc f d).vddio = d.vddio := rfl
@[simp] theorem modSwc_saf (f : Swc → Swc) (d : Dev) : (modSwc f d).saf = d.saf := rfl
@[simp] theorem modSwc_hst (f : Swc → Swc) (d : Dev) : (modSwc f d).hst = d.hst := rfl
@[simp] theorem modSwc_out (f : Swc → Swc) (d : Dev) : (modSwc f d).out = d.out := rfl
@[simp] theorem rd_modSwc (b : Nat) (f : Swc → Swc) (d : Dev) : rd b (modSwc f d) = rd b d := rfl
@[simp] theorem rf_modSwc (b h l : Nat) (f : Swc → Swc) (d : Dev) : rf b h l (modSwc f d) = rf b h l d := rfl
@[simp] theorem rb_modSwc (b q : Nat) (f : Swc → Swc) (d : Dev) : rb b q (modSwc f d) = rb b q d := rfl
@[simp] theorem getCtx_modSwc (q : Nat) (f : Swc → Swc) (d : Dev) : getCtx q (modSwc f d) = getCtx q d := rfl
@[simp] theorem getCore_modSwc (q : Nat) (f : Swc → Swc) (d : Dev) : getCore q (modSwc f d) = getCore q d := rfl
@[simp] theorem memByte_modSwc (b : Nat) (f : Swc → Swc) (d : Dev) : memByte b (modSwc f d) = memByte b d := rfl
@[simp] theorem tbGet_modSwc (q : Nat) (f : Swc → Swc) (d : Dev) : tbGet q (modSwc f d) = tbGet q d := rfl

/-! ### modMrd -/

@[simp] theorem modMrd_now (f : Mrd → Mrd) (d : Dev) : (modMrd f d).now = d.now := rfl
@[simp] theorem modMrd_free (f : Mrd → Mrd) (d : Dev) : (modMrd f d).free = d.free := rfl
@[simp] theorem modMrd_regs (f : Mrd → Mrd) (d : Dev) : (modMrd f d).regs = d.regs := rfl
@[simp] theorem modMrd_wraps (f : Mrd → Mrd) (d : Dev) : (modMrd f d).wraps = d.wraps := rfl
@[simp] theorem modMrd_tabs (f : Mrd → Mrd) (d : Dev) : (modMrd f d).tabs = d.tabs := rfl
@[simp] theorem modMrd_inds (f : Mrd → Mrd) (d : Dev) : (modMrd f d).inds = d.inds := rfl
@[simp] theorem modMrd_mem (f : Mrd → Mrd) (d : Dev) : (modMrd f d).mem = d.mem := rfl
@[simp] theorem modMrd_rdata (f : Mrd → Mrd) (d : Dev) : (modMrd f d).rdata = d.rdata := rfl
@[simp] theorem modMrd_badPar (f : Mrd → Mrd) (d : Dev) : (modMrd f d).badPar = d.badPar := rfl
@[simp] theorem modMrd_badCfg (f : Mrd → Mrd) (d : Dev) : (modMrd f d).badCfg = d.badCfg := rfl
@[simp] theorem modMrd_viewBad (f : Mrd → Mrd) (d : Dev) : (modMrd f d).viewBad = d.viewBad := rfl
@[simp] theorem modMrd_scrub (f : Mrd → Mrd) (d : Dev) : (modMrd f d).scrub = d.scrub := rfl
@[simp] theorem modMrd_sys (f : Mrd → Mrd) (d : Dev) : (modMrd f d).sys = d.sys := rfl
@[simp] theorem modMrd_boot (f : Mrd → Mrd) (d : Dev) : (modMrd f d).boot = d.boot := rfl
@[simp] theorem modMrd_flashA (f : Mrd → Mrd) (d : Dev) : (modMrd f d).flashA = d.flashA := rfl
@[simp] theorem modMrd_flashB (f : Mrd → Mrd) (d : Dev) : (modMrd f d).flashB = d.flashB := rfl
@[simp] theorem modMrd_img (f : Mrd → Mrd) (d : Dev) : (modMrd f d).img = d.img := rfl
@[simp] theorem modMrd_ctxs (f : Mrd → Mrd) (d : Dev) : (modMrd f d).ctxs = d.ctxs := rfl
@[simp] theorem modMrd_cores (f : Mrd → Mrd) (d : Dev) : (modMrd f d).cores = d.cores := rfl
@[simp] theorem modMrd_dsp (f : Mrd → Mrd) (d : Dev) : (modMrd f d).dsp = d.dsp := rfl
@[simp] theorem modMrd_locks (f : Mrd → Mrd) (d : Dev) : (modMrd f d).locks = d.locks := rfl
@[simp] theorem modMrd_lockRel (f : Mrd → Mrd) (d : Dev) : (modMrd f d).lockRel = d.lockRel := rfl
@[simp] theorem modMrd_mbxLast (f : Mrd → Mrd) (d : Dev) : (modMrd f d).mbxLast = d.mbxLast := rfl
@[simp] theorem modMrd_ntm (f : Mrd → Mrd) (d : Dev) : (modMrd f d).ntm = d.ntm := rfl
@[simp] theorem modMrd_eths (f : Mrd → Mrd) (d : Dev) : (modMrd f d).eths = d.eths := rfl
@[simp] theorem modMrd_rings (f : Mrd → Mrd) (d : Dev) : (modMrd f d).rings = d.rings := rfl
@[simp] theorem modMrd_swc (f : Mrd → Mrd) (d : Dev) : (modMrd f d).swc = d.swc := rfl
@[simp] theorem modMrd_cans (f : Mrd → Mrd) (d : Dev) : (modMrd f d).cans = d.cans := rfl
@[simp] theorem modMrd_canObjs (f : Mrd → Mrd) (d : Dev) : (modMrd f d).canObjs = d.canObjs := rfl
@[simp] theorem modMrd_canCa (f : Mrd → Mrd) (d : Dev) : (modMrd f d).canCa = d.canCa := rfl
@[simp] theorem modMrd_pios (f : Mrd → Mrd) (d : Dev) : (modMrd f d).pios = d.pios := rfl
@[simp] theorem modMrd_pins (f : Mrd → Mrd) (d : Dev) : (modMrd f d).pins = d.pins := rfl
@[simp] theorem modMrd_sds (f : Mrd → Mrd) (d : Dev) : (modMrd f d).sds = d.sds := rfl
@[simp] theorem modMrd_ccs (f : Mrd → Mrd) (d : Dev) : (modMrd f d).ccs = d.ccs := rfl
@[simp] theorem modMrd_smpStart (f : Mrd → Mrd) (d : Dev) : (modMrd f d).smpStart = d.smpStart := rfl
@[simp] theorem modMrd_loop (f : Mrd → Mrd) (d : Dev) : (modMrd f d).loop = d.loop := rfl
@[simp] theorem modMrd_sec (f : Mrd → Mrd) (d : Dev) : (modMrd f d).sec = d.sec := rfl
@[simp] theorem modMrd_vddio (f : Mrd → Mrd) (d : Dev) : (modMrd f d).vddio = d.vddio := rfl
@[simp] theorem modMrd_saf (f : Mrd → Mrd) (d : Dev) : (modMrd f d).saf = d.saf := rfl
@[simp] theorem modMrd_hst (f : Mrd → Mrd) (d : Dev) : (modMrd f d).hst = d.hst := rfl
@[simp] theorem modMrd_out (f : Mrd → Mrd) (d : Dev) : (modMrd f d).out = d.out := rfl
@[simp] theorem rd_modMrd (b : Nat) (f : Mrd → Mrd) (d : Dev) : rd b (modMrd f d) = rd b d := rfl
@[simp] theorem rf_modMrd (b h l : Nat) (f : Mrd → Mrd) (d : Dev) : rf b h l (modMrd f d) = rf b h l d := rfl
@[simp] theorem rb_modMrd (b q : Nat) (f : Mrd → Mrd) (d : Dev) : rb b q (modMrd f d) = rb b q d := rfl
@[simp] theorem getCtx_modMrd (q : Nat) (f : Mrd → Mrd) (d : Dev) : getCtx q (modMrd f d) = getCtx q d := rfl
@[simp] theorem getCore_modMrd (q : Nat) (f : Mrd → Mrd) (d : Dev) : getCore q (modMrd f d) = getCore q d := rfl
@[simp] theorem memByte_modMrd (b : Nat) (f : Mrd → Mrd) (d : Dev) : memByte b (modMrd f d) = memByte b d := rfl
@[simp] theorem tbGet_modMrd (q : Nat) (f : Mrd → Mrd) (d : Dev) : tbGet q (modMrd f d) = tbGet q d := rfl

/-! ### modEth -/

@[simp] theorem modEth_now (p : Nat) (f : Eth → Eth) (d : Dev) : (modEth p f d).now = d.now := rfl
@[simp] theorem modEth_free (p : Nat) (f : Eth → Eth) (d : Dev) : (modEth p f d).free = d.free := rfl
@[simp] theorem modEth_regs (p : Nat) (f : Eth → Eth) (d : Dev) : (modEth p f d).regs = d.regs := rfl
@[simp] theorem modEth_wraps (p : Nat) (f : Eth → Eth) (d : Dev) : (modEth p f d).wraps = d.wraps := rfl
@[simp] theorem modEth_tabs (p : Nat) (f : Eth → Eth) (d : Dev) : (modEth p f d).tabs = d.tabs := rfl
@[simp] theorem modEth_inds (p : Nat) (f : Eth → Eth) (d : Dev) : (modEth p f d).inds = d.inds := rfl
@[simp] theorem modEth_mem (p : Nat) (f : Eth → Eth) (d : Dev) : (modEth p f d).mem = d.mem := rfl
@[simp] theorem modEth_rdata (p : Nat) (f : Eth → Eth) (d : Dev) : (modEth p f d).rdata = d.rdata := rfl
@[simp] theorem modEth_badPar (p : Nat) (f : Eth → Eth) (d : Dev) : (modEth p f d).badPar = d.badPar := rfl
@[simp] theorem modEth_badCfg (p : Nat) (f : Eth → Eth) (d : Dev) : (modEth p f d).badCfg = d.badCfg := rfl
@[simp] theorem modEth_viewBad (p : Nat) (f : Eth → Eth) (d : Dev) : (modEth p f d).viewBad = d.viewBad := rfl
@[simp] theorem modEth_scrub (p : Nat) (f : Eth → Eth) (d : Dev) : (modEth p f d).scrub = d.scrub := rfl
@[simp] theorem modEth_sys (p : Nat) (f : Eth → Eth) (d : Dev) : (modEth p f d).sys = d.sys := rfl
@[simp] theorem modEth_boot (p : Nat) (f : Eth → Eth) (d : Dev) : (modEth p f d).boot = d.boot := rfl
@[simp] theorem modEth_flashA (p : Nat) (f : Eth → Eth) (d : Dev) : (modEth p f d).flashA = d.flashA := rfl
@[simp] theorem modEth_flashB (p : Nat) (f : Eth → Eth) (d : Dev) : (modEth p f d).flashB = d.flashB := rfl
@[simp] theorem modEth_img (p : Nat) (f : Eth → Eth) (d : Dev) : (modEth p f d).img = d.img := rfl
@[simp] theorem modEth_ctxs (p : Nat) (f : Eth → Eth) (d : Dev) : (modEth p f d).ctxs = d.ctxs := rfl
@[simp] theorem modEth_cores (p : Nat) (f : Eth → Eth) (d : Dev) : (modEth p f d).cores = d.cores := rfl
@[simp] theorem modEth_dsp (p : Nat) (f : Eth → Eth) (d : Dev) : (modEth p f d).dsp = d.dsp := rfl
@[simp] theorem modEth_locks (p : Nat) (f : Eth → Eth) (d : Dev) : (modEth p f d).locks = d.locks := rfl
@[simp] theorem modEth_lockRel (p : Nat) (f : Eth → Eth) (d : Dev) : (modEth p f d).lockRel = d.lockRel := rfl
@[simp] theorem modEth_mbxLast (p : Nat) (f : Eth → Eth) (d : Dev) : (modEth p f d).mbxLast = d.mbxLast := rfl
@[simp] theorem modEth_ntm (p : Nat) (f : Eth → Eth) (d : Dev) : (modEth p f d).ntm = d.ntm := rfl
@[simp] theorem modEth_mrd (p : Nat) (f : Eth → Eth) (d : Dev) : (modEth p f d).mrd = d.mrd := rfl
@[simp] theorem modEth_rings (p : Nat) (f : Eth → Eth) (d : Dev) : (modEth p f d).rings = d.rings := rfl
@[simp] theorem modEth_swc (p : Nat) (f : Eth → Eth) (d : Dev) : (modEth p f d).swc = d.swc := rfl
@[simp] theorem modEth_cans (p : Nat) (f : Eth → Eth) (d : Dev) : (modEth p f d).cans = d.cans := rfl
@[simp] theorem modEth_canObjs (p : Nat) (f : Eth → Eth) (d : Dev) : (modEth p f d).canObjs = d.canObjs := rfl
@[simp] theorem modEth_canCa (p : Nat) (f : Eth → Eth) (d : Dev) : (modEth p f d).canCa = d.canCa := rfl
@[simp] theorem modEth_pios (p : Nat) (f : Eth → Eth) (d : Dev) : (modEth p f d).pios = d.pios := rfl
@[simp] theorem modEth_pins (p : Nat) (f : Eth → Eth) (d : Dev) : (modEth p f d).pins = d.pins := rfl
@[simp] theorem modEth_sds (p : Nat) (f : Eth → Eth) (d : Dev) : (modEth p f d).sds = d.sds := rfl
@[simp] theorem modEth_ccs (p : Nat) (f : Eth → Eth) (d : Dev) : (modEth p f d).ccs = d.ccs := rfl
@[simp] theorem modEth_smpStart (p : Nat) (f : Eth → Eth) (d : Dev) : (modEth p f d).smpStart = d.smpStart := rfl
@[simp] theorem modEth_loop (p : Nat) (f : Eth → Eth) (d : Dev) : (modEth p f d).loop = d.loop := rfl
@[simp] theorem modEth_sec (p : Nat) (f : Eth → Eth) (d : Dev) : (modEth p f d).sec = d.sec := rfl
@[simp] theorem modEth_vddio (p : Nat) (f : Eth → Eth) (d : Dev) : (modEth p f d).vddio = d.vddio := rfl
@[simp] theorem modEth_saf (p : Nat) (f : Eth → Eth) (d : Dev) : (modEth p f d).saf = d.saf := rfl
@[simp] theorem modEth_hst (p : Nat) (f : Eth → Eth) (d : Dev) : (modEth p f d).hst = d.hst := rfl
@[simp] theorem modEth_out (p : Nat) (f : Eth → Eth) (d : Dev) : (modEth p f d).out = d.out := rfl
@[simp] theorem rd_modEth (b : Nat) (p : Nat) (f : Eth → Eth) (d : Dev) : rd b (modEth p f d) = rd b d := rfl
@[simp] theorem rf_modEth (b h l : Nat) (p : Nat) (f : Eth → Eth) (d : Dev) : rf b h l (modEth p f d) = rf b h l d := rfl
@[simp] theorem rb_modEth (b q : Nat) (p : Nat) (f : Eth → Eth) (d : Dev) : rb b q (modEth p f d) = rb b q d := rfl
@[simp] theorem getCtx_modEth (q : Nat) (p : Nat) (f : Eth → Eth) (d : Dev) : getCtx q (modEth p f d) = getCtx q d := rfl
@[simp] theorem getCore_modEth (q : Nat) (p : Nat) (f : Eth → Eth) (d : Dev) : getCore q (modEth p f d) = getCore q d := rfl
@[simp] theorem memByte_modEth (b : Nat) (p : Nat) (f : Eth → Eth) (d : Dev) : memByte b (modEth p f d) = memByte b d := rfl
@[simp] theorem tbGet_modEth (q : Nat) (p : Nat) (f : Eth → Eth) (d : Dev) : tbGet q (modEth p f d) = tbGet q d := rfl

/-! ### modCan -/

@[simp] theorem modCan_now (n : Nat) (f : Can → Can) (d : Dev) : (modCan n f d).now = d.now := rfl
@[simp] theorem modCan_free (n : Nat) (f : Can → Can) (d : Dev) : (modCan n f d).free = d.free := rfl
@[simp] theorem modCan_regs (n : Nat) (f : Can → Can) (d : Dev) : (modCan n f d).regs = d.regs := rfl
@[simp] theorem modCan_wraps (n : Nat) (f : Can → Can) (d : Dev) : (modCan n f d).wraps = d.wraps := rfl
@[simp] theorem modCan_tabs (n : Nat) (f : Can → Can) (d : Dev) : (modCan n f d).tabs = d.tabs := rfl
@[simp] theorem modCan_inds (n : Nat) (f : Can → Can) (d : Dev) : (modCan n f d).inds = d.inds := rfl
@[simp] theorem modCan_mem (n : Nat) (f : Can → Can) (d : Dev) : (modCan n f d).mem = d.mem := rfl
@[simp] theorem modCan_rdata (n : Nat) (f : Can → Can) (d : Dev) : (modCan n f d).rdata = d.rdata := rfl
@[simp] theorem modCan_badPar (n : Nat) (f : Can → Can) (d : Dev) : (modCan n f d).badPar = d.badPar := rfl
@[simp] theorem modCan_badCfg (n : Nat) (f : Can → Can) (d : Dev) : (modCan n f d).badCfg = d.badCfg := rfl
@[simp] theorem modCan_viewBad (n : Nat) (f : Can → Can) (d : Dev) : (modCan n f d).viewBad = d.viewBad := rfl
@[simp] theorem modCan_scrub (n : Nat) (f : Can → Can) (d : Dev) : (modCan n f d).scrub = d.scrub := rfl
@[simp] theorem modCan_sys (n : Nat) (f : Can → Can) (d : Dev) : (modCan n f d).sys = d.sys := rfl
@[simp] theorem modCan_boot (n : Nat) (f : Can → Can) (d : Dev) : (modCan n f d).boot = d.boot := rfl
@[simp] theorem modCan_flashA (n : Nat) (f : Can → Can) (d : Dev) : (modCan n f d).flashA = d.flashA := rfl
@[simp] theorem modCan_flashB (n : Nat) (f : Can → Can) (d : Dev) : (modCan n f d).flashB = d.flashB := rfl
@[simp] theorem modCan_img (n : Nat) (f : Can → Can) (d : Dev) : (modCan n f d).img = d.img := rfl
@[simp] theorem modCan_ctxs (n : Nat) (f : Can → Can) (d : Dev) : (modCan n f d).ctxs = d.ctxs := rfl
@[simp] theorem modCan_cores (n : Nat) (f : Can → Can) (d : Dev) : (modCan n f d).cores = d.cores := rfl
@[simp] theorem modCan_dsp (n : Nat) (f : Can → Can) (d : Dev) : (modCan n f d).dsp = d.dsp := rfl
@[simp] theorem modCan_locks (n : Nat) (f : Can → Can) (d : Dev) : (modCan n f d).locks = d.locks := rfl
@[simp] theorem modCan_lockRel (n : Nat) (f : Can → Can) (d : Dev) : (modCan n f d).lockRel = d.lockRel := rfl
@[simp] theorem modCan_mbxLast (n : Nat) (f : Can → Can) (d : Dev) : (modCan n f d).mbxLast = d.mbxLast := rfl
@[simp] theorem modCan_ntm (n : Nat) (f : Can → Can) (d : Dev) : (modCan n f d).ntm = d.ntm := rfl
@[simp] theorem modCan_mrd (n : Nat) (f : Can → Can) (d : Dev) : (modCan n f d).mrd = d.mrd := rfl
@[simp] theorem modCan_eths (n : Nat) (f : Can → Can) (d : Dev) : (modCan n f d).eths = d.eths := rfl
@[simp] theorem modCan_rings (n : Nat) (f : Can → Can) (d : Dev) : (modCan n f d).rings = d.rings := rfl
@[simp] theorem modCan_swc (n : Nat) (f : Can → Can) (d : Dev) : (modCan n f d).swc = d.swc := rfl
@[simp] theorem modCan_canObjs (n : Nat) (f : Can → Can) (d : Dev) : (modCan n f d).canObjs = d.canObjs := rfl
@[simp] theorem modCan_canCa (n : Nat) (f : Can → Can) (d : Dev) : (modCan n f d).canCa = d.canCa := rfl
@[simp] theorem modCan_pios (n : Nat) (f : Can → Can) (d : Dev) : (modCan n f d).pios = d.pios := rfl
@[simp] theorem modCan_pins (n : Nat) (f : Can → Can) (d : Dev) : (modCan n f d).pins = d.pins := rfl
@[simp] theorem modCan_sds (n : Nat) (f : Can → Can) (d : Dev) : (modCan n f d).sds = d.sds := rfl
@[simp] theorem modCan_ccs (n : Nat) (f : Can → Can) (d : Dev) : (modCan n f d).ccs = d.ccs := rfl
@[simp] theorem modCan_smpStart (n : Nat) (f : Can → Can) (d : Dev) : (modCan n f d).smpStart = d.smpStart := rfl
@[simp] theorem modCan_loop (n : Nat) (f : Can → Can) (d : Dev) : (modCan n f d).loop = d.loop := rfl
@[simp] theorem modCan_sec (n : Nat) (f : Can → Can) (d : Dev) : (modCan n f d).sec = d.sec := rfl
@[simp] theorem modCan_vddio (n : Nat) (f : Can → Can) (d : Dev) : (modCan n f d).vddio = d.vddio := rfl
@[simp] theorem modCan_saf (n : Nat) (f : Can → Can) (d : Dev) : (modCan n f d).saf = d.saf := rfl
@[simp] theorem modCan_hst (n : Nat) (f : Can → Can) (d : Dev) : (modCan n f d).hst = d.hst := rfl
@[simp] theorem modCan_out (n : Nat) (f : Can → Can) (d : Dev) : (modCan n f d).out = d.out := rfl
@[simp] theorem rd_modCan (b : Nat) (n : Nat) (f : Can → Can) (d : Dev) : rd b (modCan n f d) = rd b d := rfl
@[simp] theorem rf_modCan (b h l : Nat) (n : Nat) (f : Can → Can) (d : Dev) : rf b h l (modCan n f d) = rf b h l d := rfl
@[simp] theorem rb_modCan (b q : Nat) (n : Nat) (f : Can → Can) (d : Dev) : rb b q (modCan n f d) = rb b q d := rfl
@[simp] theorem getCtx_modCan (q : Nat) (n : Nat) (f : Can → Can) (d : Dev) : getCtx q (modCan n f d) = getCtx q d := rfl
@[simp] theorem getCore_modCan (q : Nat) (n : Nat) (f : Can → Can) (d : Dev) : getCore q (modCan n f d) = getCore q d := rfl
@[simp] theorem memByte_modCan (b : Nat) (n : Nat) (f : Can → Can) (d : Dev) : memByte b (modCan n f d) = memByte b d := rfl
@[simp] theorem tbGet_modCan (q : Nat) (n : Nat) (f : Can → Can) (d : Dev) : tbGet q (modCan n f d) = tbGet q d := rfl

/-! ### putObj -/

@[simp] theorem putObj_now (n o : Nat) (x : CanObj) (d : Dev) : (putObj n o x d).now = d.now := rfl
@[simp] theorem putObj_free (n o : Nat) (x : CanObj) (d : Dev) : (putObj n o x d).free = d.free := rfl
@[simp] theorem putObj_regs (n o : Nat) (x : CanObj) (d : Dev) : (putObj n o x d).regs = d.regs := rfl
@[simp] theorem putObj_wraps (n o : Nat) (x : CanObj) (d : Dev) : (putObj n o x d).wraps = d.wraps := rfl
@[simp] theorem putObj_tabs (n o : Nat) (x : CanObj) (d : Dev) : (putObj n o x d).tabs = d.tabs := rfl
@[simp] theorem putObj_inds (n o : Nat) (x : CanObj) (d : Dev) : (putObj n o x d).inds = d.inds := rfl
@[simp] theorem putObj_mem (n o : Nat) (x : CanObj) (d : Dev) : (putObj n o x d).mem = d.mem := rfl
@[simp] theorem putObj_rdata (n o : Nat) (x : CanObj) (d : Dev) : (putObj n o x d).rdata = d.rdata := rfl
@[simp] theorem putObj_badPar (n o : Nat) (x : CanObj) (d : Dev) : (putObj n o x d).badPar = d.badPar := rfl
@[simp] theorem putObj_badCfg (n o : Nat) (x : CanObj) (d : Dev) : (putObj n o x d).badCfg = d.badCfg := rfl
@[simp] theorem putObj_viewBad (n o : Nat) (x : CanObj) (d : Dev) : (putObj n o x d).viewBad = d.viewBad := rfl
@[simp] theorem putObj_scrub (n o : Nat) (x : CanObj) (d : Dev) : (putObj n o x d).scrub = d.scrub := rfl
@[simp] theorem putObj_sys (n o : Nat) (x : CanObj) (d : Dev) : (putObj n o x d).sys = d.sys := rfl
@[simp] theorem putObj_boot (n o : Nat) (x : CanObj) (d : Dev) : (putObj n o x d).boot = d.boot := rfl
@[simp] theorem putObj_flashA (n o : Nat) (x : CanObj) (d : Dev) : (putObj n o x d).flashA = d.flashA := rfl
@[simp] theorem putObj_flashB (n o : Nat) (x : CanObj) (d : Dev) : (putObj n o x d).flashB = d.flashB := rfl
@[simp] theorem putObj_img (n o : Nat) (x : CanObj) (d : Dev) : (putObj n o x d).img = d.img := rfl
@[simp] theorem putObj_ctxs (n o : Nat) (x : CanObj) (d : Dev) : (putObj n o x d).ctxs = d.ctxs := rfl
@[simp] theorem putObj_cores (n o : Nat) (x : CanObj) (d : Dev) : (putObj n o x d).cores = d.cores := rfl
@[simp] theorem putObj_dsp (n o : Nat) (x : CanObj) (d : Dev) : (putObj n o x d).dsp = d.dsp := rfl
@[simp] theorem putObj_locks (n o : Nat) (x : CanObj) (d : Dev) : (putObj n o x d).locks = d.locks := rfl
@[simp] theorem putObj_lockRel (n o : Nat) (x : CanObj) (d : Dev) : (putObj n o x d).lockRel = d.lockRel := rfl
@[simp] theorem putObj_mbxLast (n o : Nat) (x : CanObj) (d : Dev) : (putObj n o x d).mbxLast = d.mbxLast := rfl
@[simp] theorem putObj_ntm (n o : Nat) (x : CanObj) (d : Dev) : (putObj n o x d).ntm = d.ntm := rfl
@[simp] theorem putObj_mrd (n o : Nat) (x : CanObj) (d : Dev) : (putObj n o x d).mrd = d.mrd := rfl
@[simp] theorem putObj_eths (n o : Nat) (x : CanObj) (d : Dev) : (putObj n o x d).eths = d.eths := rfl
@[simp] theorem putObj_rings (n o : Nat) (x : CanObj) (d : Dev) : (putObj n o x d).rings = d.rings := rfl
@[simp] theorem putObj_swc (n o : Nat) (x : CanObj) (d : Dev) : (putObj n o x d).swc = d.swc := rfl
@[simp] theorem putObj_cans (n o : Nat) (x : CanObj) (d : Dev) : (putObj n o x d).cans = d.cans := rfl
@[simp] theorem putObj_canCa (n o : Nat) (x : CanObj) (d : Dev) : (putObj n o x d).canCa = d.canCa := rfl
@[simp] theorem putObj_pios (n o : Nat) (x : CanObj) (d : Dev) : (putObj n o x d).pios = d.pios := rfl
@[simp] theorem putObj_pins (n o : Nat) (x : CanObj) (d : Dev) : (putObj n o x d).pins = d.pins := rfl
@[simp] theorem putObj_sds (n o : Nat) (x : CanObj) (d : Dev) : (putObj n o x d).sds = d.sds := rfl
@[simp] theorem putObj_ccs (n o : Nat) (x : CanObj) (d : Dev) : (putObj n o x d).ccs = d.ccs := rfl
@[simp] theorem putObj_smpStart (n o : Nat) (x : CanObj) (d : Dev) : (putObj n o x d).smpStart = d.smpStart := rfl
@[simp] theorem putObj_loop (n o : Nat) (x : CanObj) (d : Dev) : (putObj n o x d).loop = d.loop := rfl
@[simp] theorem putObj_sec (n o : Nat) (x : CanObj) (d : Dev) : (putObj n o x d).sec = d.sec := rfl
@[simp] theorem putObj_vddio (n o : Nat) (x : CanObj) (d : Dev) : (putObj n o x d).vddio = d.vddio := rfl
@[simp] theorem putObj_saf (n o : Nat) (x : CanObj) (d : Dev) : (putObj n o x d).saf = d.saf := rfl
@[simp] theorem putObj_hst (n o : Nat) (x : CanObj) (d : Dev) : (putObj n o x d).hst = d.hst := rfl
@[simp] theorem putObj_out (n o : Nat) (x : CanObj) (d : Dev) : (putObj n o x d).out = d.out := rfl
@[simp] theorem rd_putObj (b : Nat) (n o : Nat) (x : CanObj) (d : Dev) : rd b (putObj n o x d) = rd b d := rfl
@[simp] theorem rf_putObj (b h l : Nat) (n o : Nat) (x : CanObj) (d : Dev) : rf b h l (putObj n o x d) = rf b h l d := rfl
@[simp] theorem rb_putObj (b q : Nat) (n o : Nat) (x : CanObj) (d : Dev) : rb b q (putObj n o x d) = rb b q d := rfl
@[simp] theorem getCtx_putObj (q : Nat) (n o : Nat) (x : CanObj) (d : Dev) : getCtx q (putObj n o x d) = getCtx q d := rfl
@[simp] theorem getCore_putObj (q : Nat) (n o : Nat) (x : CanObj) (d : Dev) : getCore q (putObj n o x d) = getCore q d := rfl
@[simp] theorem memByte_putObj (b : Nat) (n o : Nat) (x : CanObj) (d : Dev) : memByte b (putObj n o x d) = memByte b d := rfl
@[simp] theorem tbGet_putObj (q : Nat) (n o : Nat) (x : CanObj) (d : Dev) : tbGet q (putObj n o x d) = tbGet q d := rfl

/-! ### putPio -/

@[simp] theorem putPio_now (n : Nat) (x : Pio) (d : Dev) : (putPio n x d).now = d.now := rfl
@[simp] theorem putPio_free (n : Nat) (x : Pio) (d : Dev) : (putPio n x d).free = d.free := rfl
@[simp] theorem putPio_regs (n : Nat) (x : Pio) (d : Dev) : (putPio n x d).regs = d.regs := rfl
@[simp] theorem putPio_wraps (n : Nat) (x : Pio) (d : Dev) : (putPio n x d).wraps = d.wraps := rfl
@[simp] theorem putPio_tabs (n : Nat) (x : Pio) (d : Dev) : (putPio n x d).tabs = d.tabs := rfl
@[simp] theorem putPio_inds (n : Nat) (x : Pio) (d : Dev) : (putPio n x d).inds = d.inds := rfl
@[simp] theorem putPio_mem (n : Nat) (x : Pio) (d : Dev) : (putPio n x d).mem = d.mem := rfl
@[simp] theorem putPio_rdata (n : Nat) (x : Pio) (d : Dev) : (putPio n x d).rdata = d.rdata := rfl
@[simp] theorem putPio_badPar (n : Nat) (x : Pio) (d : Dev) : (putPio n x d).badPar = d.badPar := rfl
@[simp] theorem putPio_badCfg (n : Nat) (x : Pio) (d : Dev) : (putPio n x d).badCfg = d.badCfg := rfl
@[simp] theorem putPio_viewBad (n : Nat) (x : Pio) (d : Dev) : (putPio n x d).viewBad = d.viewBad := rfl
@[simp] theorem putPio_scrub (n : Nat) (x : Pio) (d : Dev) : (putPio n x d).scrub = d.scrub := rfl
@[simp] theorem putPio_sys (n : Nat) (x : Pio) (d : Dev) : (putPio n x d).sys = d.sys := rfl
@[simp] theorem putPio_boot (n : Nat) (x : Pio) (d : Dev) : (putPio n x d).boot = d.boot := rfl
@[simp] theorem putPio_flashA (n : Nat) (x : Pio) (d : Dev) : (putPio n x d).flashA = d.flashA := rfl
@[simp] theorem putPio_flashB (n : Nat) (x : Pio) (d : Dev) : (putPio n x d).flashB = d.flashB := rfl
@[simp] theorem putPio_img (n : Nat) (x : Pio) (d : Dev) : (putPio n x d).img = d.img := rfl
@[simp] theorem putPio_ctxs (n : Nat) (x : Pio) (d : Dev) : (putPio n x d).ctxs = d.ctxs := rfl
@[simp] theorem putPio_cores (n : Nat) (x : Pio) (d : Dev) : (putPio n x d).cores = d.cores := rfl
@[simp] theorem putPio_dsp (n : Nat) (x : Pio) (d : Dev) : (putPio n x d).dsp = d.dsp := rfl
@[simp] theorem putPio_locks (n : Nat) (x : Pio) (d : Dev) : (putPio n x d).locks = d.locks := rfl
@[simp] theorem putPio_lockRel (n : Nat) (x : Pio) (d : Dev) : (putPio n x d).lockRel = d.lockRel := rfl
@[simp] theorem putPio_mbxLast (n : Nat) (x : Pio) (d : Dev) : (putPio n x d).mbxLast = d.mbxLast := rfl
@[simp] theorem putPio_ntm (n : Nat) (x : Pio) (d : Dev) : (putPio n x d).ntm = d.ntm := rfl
@[simp] theorem putPio_mrd (n : Nat) (x : Pio) (d : Dev) : (putPio n x d).mrd = d.mrd := rfl
@[simp] theorem putPio_eths (n : Nat) (x : Pio) (d : Dev) : (putPio n x d).eths = d.eths := rfl
@[simp] theorem putPio_rings (n : Nat) (x : Pio) (d : Dev) : (putPio n x d).rings = d.rings := rfl
@[simp] theorem putPio_swc (n : Nat) (x : Pio) (d : Dev) : (putPio n x d).swc = d.swc := rfl
@[simp] theorem putPio_cans (n : Nat) (x : Pio) (d : Dev) : (putPio n x d).cans = d.cans := rfl
@[simp] theorem putPio_canObjs (n : Nat) (x : Pio) (d : Dev) : (putPio n x d).canObjs = d.canObjs := rfl
@[simp] theorem putPio_canCa (n : Nat) (x : Pio) (d : Dev) : (putPio n x d).canCa = d.canCa := rfl
@[simp] theorem putPio_pins (n : Nat) (x : Pio) (d : Dev) : (putPio n x d).pins = d.pins := rfl
@[simp] theorem putPio_sds (n : Nat) (x : Pio) (d : Dev) : (putPio n x d).sds = d.sds := rfl
@[simp] theorem putPio_ccs (n : Nat) (x : Pio) (d : Dev) : (putPio n x d).ccs = d.ccs := rfl
@[simp] theorem putPio_smpStart (n : Nat) (x : Pio) (d : Dev) : (putPio n x d).smpStart = d.smpStart := rfl
@[simp] theorem putPio_loop (n : Nat) (x : Pio) (d : Dev) : (putPio n x d).loop = d.loop := rfl
@[simp] theorem putPio_sec (n : Nat) (x : Pio) (d : Dev) : (putPio n x d).sec = d.sec := rfl
@[simp] theorem putPio_vddio (n : Nat) (x : Pio) (d : Dev) : (putPio n x d).vddio = d.vddio := rfl
@[simp] theorem putPio_saf (n : Nat) (x : Pio) (d : Dev) : (putPio n x d).saf = d.saf := rfl
@[simp] theorem putPio_hst (n : Nat) (x : Pio) (d : Dev) : (putPio n x d).hst = d.hst := rfl
@[simp] theorem putPio_out (n : Nat) (x : Pio) (d : Dev) : (putPio n x d).out = d.out := rfl
@[simp] theorem rd_putPio (b : Nat) (n : Nat) (x : Pio) (d : Dev) : rd b (putPio n x d) = rd b d := rfl
@[simp] theorem rf_putPio (b h l : Nat) (n : Nat) (x : Pio) (d : Dev) : rf b h l (putPio n x d) = rf b h l d := rfl
@[simp] theorem rb_putPio (b q : Nat) (n : Nat) (x : Pio) (d : Dev) : rb b q (putPio n x d) = rb b q d := rfl
@[simp] theorem getCtx_putPio (q : Nat) (n : Nat) (x : Pio) (d : Dev) : getCtx q (putPio n x d) = getCtx q d := rfl
@[simp] theorem getCore_putPio (q : Nat) (n : Nat) (x : Pio) (d : Dev) : getCore q (putPio n x d) = getCore q d := rfl
@[simp] theorem memByte_putPio (b : Nat) (n : Nat) (x : Pio) (d : Dev) : memByte b (putPio n x d) = memByte b d := rfl
@[simp] theorem tbGet_putPio (q : Nat) (n : Nat) (x : Pio) (d : Dev) : tbGet q (putPio n x d) = tbGet q d := rfl

/-! ### putSd -/

@[simp] theorem putSd_now (n : Nat) (x : Sd) (d : Dev) : (putSd n x d).now = d.now := rfl
@[simp] theorem putSd_free (n : Nat) (x : Sd) (d : Dev) : (putSd n x d).free = d.free := rfl
@[simp] theorem putSd_regs (n : Nat) (x : Sd) (d : Dev) : (putSd n x d).regs = d.regs := rfl
@[simp] theorem putSd_wraps (n : Nat) (x : Sd) (d : Dev) : (putSd n x d).wraps = d.wraps := rfl
@[simp] theorem putSd_tabs (n : Nat) (x : Sd) (d : Dev) : (putSd n x d).tabs = d.tabs := rfl
@[simp] theorem putSd_inds (n : Nat) (x : Sd) (d : Dev) : (putSd n x d).inds = d.inds := rfl
@[simp] theorem putSd_mem (n : Nat) (x : Sd) (d : Dev) : (putSd n x d).mem = d.mem := rfl
@[simp] theorem putSd_rdata (n : Nat) (x : Sd) (d : Dev) : (putSd n x d).rdata = d.rdata := rfl
@[simp] theorem putSd_badPar (n : Nat) (x : Sd) (d : Dev) : (putSd n x d).badPar = d.badPar := rfl
@[simp] theorem putSd_badCfg (n : Nat) (x : Sd) (d : Dev) : (putSd n x d).badCfg = d.badCfg := rfl
@[simp] theorem putSd_viewBad (n : Nat) (x : Sd) (d : Dev) : (putSd n x d).viewBad = d.viewBad := rfl
@[simp] theorem putSd_scrub (n : Nat) (x : Sd) (d : Dev) : (putSd n x d).scrub = d.scrub := rfl
@[simp] theorem putSd_sys (n : Nat) (x : Sd) (d : Dev) : (putSd n x d).sys = d.sys := rfl
@[simp] theorem putSd_boot (n : Nat) (x : Sd) (d : Dev) : (putSd n x d).boot = d.boot := rfl
@[simp] theorem putSd_flashA (n : Nat) (x : Sd) (d : Dev) : (putSd n x d).flashA = d.flashA := rfl
@[simp] theorem putSd_flashB (n : Nat) (x : Sd) (d : Dev) : (putSd n x d).flashB = d.flashB := rfl
@[simp] theorem putSd_img (n : Nat) (x : Sd) (d : Dev) : (putSd n x d).img = d.img := rfl
@[simp] theorem putSd_ctxs (n : Nat) (x : Sd) (d : Dev) : (putSd n x d).ctxs = d.ctxs := rfl
@[simp] theorem putSd_cores (n : Nat) (x : Sd) (d : Dev) : (putSd n x d).cores = d.cores := rfl
@[simp] theorem putSd_dsp (n : Nat) (x : Sd) (d : Dev) : (putSd n x d).dsp = d.dsp := rfl
@[simp] theorem putSd_locks (n : Nat) (x : Sd) (d : Dev) : (putSd n x d).locks = d.locks := rfl
@[simp] theorem putSd_lockRel (n : Nat) (x : Sd) (d : Dev) : (putSd n x d).lockRel = d.lockRel := rfl
@[simp] theorem putSd_mbxLast (n : Nat) (x : Sd) (d : Dev) : (putSd n x d).mbxLast = d.mbxLast := rfl
@[simp] theorem putSd_ntm (n : Nat) (x : Sd) (d : Dev) : (putSd n x d).ntm = d.ntm := rfl
@[simp] theorem putSd_mrd (n : Nat) (x : Sd) (d : Dev) : (putSd n x d).mrd = d.mrd := rfl
@[simp] theorem putSd_eths (n : Nat) (x : Sd) (d : Dev) : (putSd n x d).eths = d.eths := rfl
@[simp] theorem putSd_rings (n : Nat) (x : Sd) (d : Dev) : (putSd n x d).rings = d.rings := rfl
@[simp] theorem putSd_swc (n : Nat) (x : Sd) (d : Dev) : (putSd n x d).swc = d.swc := rfl
@[simp] theorem putSd_cans (n : Nat) (x : Sd) (d : Dev) : (putSd n x d).cans = d.cans := rfl
@[simp] theorem putSd_canObjs (n : Nat) (x : Sd) (d : Dev) : (putSd n x d).canObjs = d.canObjs := rfl
@[simp] theorem putSd_canCa (n : Nat) (x : Sd) (d : Dev) : (putSd n x d).canCa = d.canCa := rfl
@[simp] theorem putSd_pios (n : Nat) (x : Sd) (d : Dev) : (putSd n x d).pios = d.pios := rfl
@[simp] theorem putSd_pins (n : Nat) (x : Sd) (d : Dev) : (putSd n x d).pins = d.pins := rfl
@[simp] theorem putSd_ccs (n : Nat) (x : Sd) (d : Dev) : (putSd n x d).ccs = d.ccs := rfl
@[simp] theorem putSd_smpStart (n : Nat) (x : Sd) (d : Dev) : (putSd n x d).smpStart = d.smpStart := rfl
@[simp] theorem putSd_loop (n : Nat) (x : Sd) (d : Dev) : (putSd n x d).loop = d.loop := rfl
@[simp] theorem putSd_sec (n : Nat) (x : Sd) (d : Dev) : (putSd n x d).sec = d.sec := rfl
@[simp] theorem putSd_vddio (n : Nat) (x : Sd) (d : Dev) : (putSd n x d).vddio = d.vddio := rfl
@[simp] theorem putSd_saf (n : Nat) (x : Sd) (d : Dev) : (putSd n x d).saf = d.saf := rfl
@[simp] theorem putSd_hst (n : Nat) (x : Sd) (d : Dev) : (putSd n x d).hst = d.hst := rfl
@[simp] theorem putSd_out (n : Nat) (x : Sd) (d : Dev) : (putSd n x d).out = d.out := rfl
@[simp] theorem rd_putSd (b : Nat) (n : Nat) (x : Sd) (d : Dev) : rd b (putSd n x d) = rd b d := rfl
@[simp] theorem rf_putSd (b h l : Nat) (n : Nat) (x : Sd) (d : Dev) : rf b h l (putSd n x d) = rf b h l d := rfl
@[simp] theorem rb_putSd (b q : Nat) (n : Nat) (x : Sd) (d : Dev) : rb b q (putSd n x d) = rb b q d := rfl
@[simp] theorem getCtx_putSd (q : Nat) (n : Nat) (x : Sd) (d : Dev) : getCtx q (putSd n x d) = getCtx q d := rfl
@[simp] theorem getCore_putSd (q : Nat) (n : Nat) (x : Sd) (d : Dev) : getCore q (putSd n x d) = getCore q d := rfl
@[simp] theorem memByte_putSd (b : Nat) (n : Nat) (x : Sd) (d : Dev) : memByte b (putSd n x d) = memByte b d := rfl
@[simp] theorem tbGet_putSd (q : Nat) (n : Nat) (x : Sd) (d : Dev) : tbGet q (putSd n x d) = tbGet q d := rfl

/-! ### putCc -/

@[simp] theorem putCc_now (n : Nat) (x : Cc) (d : Dev) : (putCc n x d).now = d.now := by simp only [putCc, wr_now]
@[simp] theorem putCc_free (n : Nat) (x : Cc) (d : Dev) : (putCc n x d).free = d.free := by simp only [putCc, wr_free]
@[simp] theorem putCc_wraps (n : Nat) (x : Cc) (d : Dev) : (putCc n x d).wraps = d.wraps := by simp only [putCc, wr_wraps]
@[simp] theorem putCc_tabs (n : Nat) (x : Cc) (d : Dev) : (putCc n x d).tabs = d.tabs := by simp only [putCc, wr_tabs]
@[simp] theorem putCc_inds (n : Nat) (x : Cc) (d : Dev) : (putCc n x d).inds = d.inds := by simp only [putCc, wr_inds]
@[simp] theorem putCc_mem (n : Nat) (x : Cc) (d : Dev) : (putCc n x d).mem = d.mem := by simp only [putCc, wr_mem]
@[simp] theorem putCc_rdata (n : Nat) (x : Cc) (d : Dev) : (putCc n x d).rdata = d.rdata := by simp only [putCc, wr_rdata]
@[simp] theorem putCc_badPar (n : Nat) (x : Cc) (d : Dev) : (putCc n x d).badPar = d.badPar := by simp only [putCc, wr_badPar]
@[simp] theorem putCc_badCfg (n : Nat) (x : Cc) (d : Dev) : (putCc n x d).badCfg = d.badCfg := by simp only [putCc, wr_badCfg]
@[simp] theorem putCc_viewBad (n : Nat) (x : Cc) (d : Dev) : (putCc n x d).viewBad = d.viewBad := by simp only [putCc, wr_viewBad]
@[simp] theorem putCc_scrub (n : Nat) (x : Cc) (d : Dev) : (putCc n x d).scrub = d.scrub := by simp only [putCc, wr_scrub]
@[simp] theorem putCc_sys (n : Nat) (x : Cc) (d : Dev) : (putCc n x d).sys = d.sys := by simp only [putCc, wr_sys]
@[simp] theorem putCc_boot (n : Nat) (x : Cc) (d : Dev) : (putCc n x d).boot = d.boot := by simp only [putCc, wr_boot]
@[simp] theorem putCc_flashA (n : Nat) (x : Cc) (d : Dev) : (putCc n x d).flashA = d.flashA := by simp only [putCc, wr_flashA]
@[simp] theorem putCc_flashB (n : Nat) (x : Cc) (d : Dev) : (putCc n x d).flashB = d.flashB := by simp only [putCc, wr_flashB]
@[simp] theorem putCc_img (n : Nat) (x : Cc) (d : Dev) : (putCc n x d).img = d.img := by simp only [putCc, wr_img]
@[simp] theorem putCc_ctxs (n : Nat) (x : Cc) (d : Dev) : (putCc n x d).ctxs = d.ctxs := by simp only [putCc, wr_ctxs]
@[simp] theorem putCc_cores (n : Nat) (x : Cc) (d : Dev) : (putCc n x d).cores = d.cores := by simp only [putCc, wr_cores]
@[simp] theorem putCc_dsp (n : Nat) (x : Cc) (d : Dev) : (putCc n x d).dsp = d.dsp := by simp only [putCc, wr_dsp]
@[simp] theorem putCc_locks (n : Nat) (x : Cc) (d : Dev) : (putCc n x d).locks = d.locks := by simp only [putCc, wr_locks]
@[simp] theorem putCc_lockRel (n : Nat) (x : Cc) (d : Dev) : (putCc n x d).lockRel = d.lockRel := by simp only [putCc, wr_lockRel]
@[simp] theorem putCc_mbxLast (n : Nat) (x : Cc) (d : Dev) : (putCc n x d).mbxLast = d.mbxLast := by simp only [putCc, wr_mbxLast]
@[simp] theorem putCc_ntm (n : Nat) (x : Cc) (d : Dev) : (putCc n x d).ntm = d.ntm := by simp only [putCc, wr_ntm]
@[simp] theorem putCc_mrd (n : Nat) (x : Cc) (d : Dev) : (putCc n x d).mrd = d.mrd := by simp only [putCc, wr_mrd]
@[simp] theorem putCc_eths (n : Nat) (x : Cc) (d : Dev) : (putCc n x d).eths = d.eths := by simp only [putCc, wr_eths]
@[simp] theorem putCc_rings (n : Nat) (x : Cc) (d : Dev) : (putCc n x d).rings = d.rings := by simp only [putCc, wr_rings]
@[simp] theorem putCc_swc (n : Nat) (x : Cc) (d : Dev) : (putCc n x d).swc = d.swc := by simp only [putCc, wr_swc]
@[simp] theorem putCc_cans (n : Nat) (x : Cc) (d : Dev) : (putCc n x d).cans = d.cans := by simp only [putCc, wr_cans]
@[simp] theorem putCc_canObjs (n : Nat) (x : Cc) (d : Dev) : (putCc n x d).canObjs = d.canObjs := by simp only [putCc, wr_canObjs]
@[simp] theorem putCc_canCa (n : Nat) (x : Cc) (d : Dev) : (putCc n x d).canCa = d.canCa := by simp only [putCc, wr_canCa]
@[simp] theorem putCc_pios (n : Nat) (x : Cc) (d : Dev) : (putCc n x d).pios = d.pios := by simp only [putCc, wr_pios]
@[simp] theorem putCc_pins (n : Nat) (x : Cc) (d : Dev) : (putCc n x d).pins = d.pins := by simp only [putCc, wr_pins]
@[simp] theorem putCc_sds (n : Nat) (x : Cc) (d : Dev) : (putCc n x d).sds = d.sds := by simp only [putCc, wr_sds]
@[simp] theorem putCc_smpStart (n : Nat) (x : Cc) (d : Dev) : (putCc n x d).smpStart = d.smpStart := by simp only [putCc, wr_smpStart]
@[simp] theorem putCc_loop (n : Nat) (x : Cc) (d : Dev) : (putCc n x d).loop = d.loop := by simp only [putCc, wr_loop]
@[simp] theorem putCc_sec (n : Nat) (x : Cc) (d : Dev) : (putCc n x d).sec = d.sec := by simp only [putCc, wr_sec]
@[simp] theorem putCc_vddio (n : Nat) (x : Cc) (d : Dev) : (putCc n x d).vddio = d.vddio := by simp only [putCc, wr_vddio]
@[simp] theorem putCc_saf (n : Nat) (x : Cc) (d : Dev) : (putCc n x d).saf = d.saf := by simp only [putCc, wr_saf]
@[simp] theorem putCc_hst (n : Nat) (x : Cc) (d : Dev) : (putCc n x d).hst = d.hst := by simp only [putCc, wr_hst]
@[simp] theorem putCc_out (n : Nat) (x : Cc) (d : Dev) : (putCc n x d).out = d.out := by simp only [putCc, wr_out]
@[simp] theorem getCtx_putCc (q : Nat) (n : Nat) (x : Cc) (d : Dev) : getCtx q (putCc n x d) = getCtx q d := by simp only [putCc, getCtx_wr]; rfl
@[simp] theorem getCore_putCc (q : Nat) (n : Nat) (x : Cc) (d : Dev) : getCore q (putCc n x d) = getCore q d := by simp only [putCc, getCore_wr]; rfl
@[simp] theorem memByte_putCc (b : Nat) (n : Nat) (x : Cc) (d : Dev) : memByte b (putCc n x d) = memByte b d := by simp only [putCc, memByte_wr]; rfl
@[simp] theorem tbGet_putCc (q : Nat) (n : Nat) (x : Cc) (d : Dev) : tbGet q (putCc n x d) = tbGet q d := by simp only [putCc, tbGet_wr]; rfl

/-! ### tabPut -/

theorem setTabs_now (d : Dev) (t : Tab Word) : ({ d with tabs := t } : Dev).now = d.now := rfl
theorem setTabs_free (d : Dev) (t : Tab Word) : ({ d with tabs := t } : Dev).free = d.free := rfl
theorem setTabs_regs (d : Dev) (t : Tab Word) : ({ d with tabs := t } : Dev).regs = d.regs := rfl
theorem setTabs_wraps (d : Dev) (t : Tab Word) : ({ d with tabs := t } : Dev).wraps = d.wraps := rfl
theorem setTabs_inds (d : Dev) (t : Tab Word) : ({ d with tabs := t } : Dev).inds = d.inds := rfl
theorem setTabs_mem (d : Dev) (t : Tab Word) : ({ d with tabs := t } : Dev).mem = d.mem := rfl
theorem setTabs_rdata (d : Dev) (t : Tab Word) : ({ d with tabs := t } : Dev).rdata = d.rdata := rfl
theorem setTabs_badPar (d : Dev) (t : Tab Word) : ({ d with tabs := t } : Dev).badPar = d.badPar := rfl
theorem setTabs_badCfg (d : Dev) (t : Tab Word) : ({ d with tabs := t } : Dev).badCfg = d.badCfg := rfl
theorem setTabs_viewBad (d : Dev) (t : Tab Word) : ({ d with tabs := t } : Dev).viewBad = d.viewBad := rfl
theorem setTabs_scrub (d : Dev) (t : Tab Word) : ({ d with tabs := t } : Dev).scrub = d.scrub := rfl
theorem setTabs_sys (d : Dev) (t : Tab Word) : ({ d with tabs := t } : Dev).sys = d.sys := rfl
theorem setTabs_boot (d : Dev) (t : Tab Word) : ({ d with tabs := t } : Dev).boot = d.boot := rfl
theorem setTabs_flashA (d : Dev) (t : Tab Word) : ({ d with tabs := t } : Dev).flashA = d.flashA := rfl
theorem setTabs_flashB (d : Dev) (t : Tab Word) : ({ d with tabs := t } : Dev).flashB = d.flashB := rfl
theorem setTabs_img (d : Dev) (t : Tab Word) : ({ d with tabs := t } : Dev).img = d.img := rfl
theorem setTabs_ctxs (d : Dev) (t : Tab Word) : ({ d with tabs := t } : Dev).ctxs = d.ctxs := rfl
theorem setTabs_cores (d : Dev) (t : Tab Word) : ({ d with tabs := t } : Dev).cores = d.cores := rfl
theorem setTabs_dsp (d : Dev) (t : Tab Word) : ({ d with tabs := t } : Dev).dsp = d.dsp := rfl
theorem setTabs_locks (d : Dev) (t : Tab Word) : ({ d with tabs := t } : Dev).locks = d.locks := rfl
theorem setTabs_lockRel (d : Dev) (t : Tab Word) : ({ d with tabs := t } : Dev).lockRel = d.lockRel := rfl
theorem setTabs_mbxLast (d : Dev) (t : Tab Word) : ({ d with tabs := t } : Dev).mbxLast = d.mbxLast := rfl
theorem setTabs_ntm (d : Dev) (t : Tab Word) : ({ d with tabs := t } : Dev).ntm = d.ntm := rfl
theorem setTabs_mrd (d : Dev) (t : Tab Word) : ({ d with tabs := t } : Dev).mrd = d.mrd := rfl
theorem setTabs_eths (d : Dev) (t : Tab Word) : ({ d with tabs := t } : Dev).eths = d.eths := rfl
theorem setTabs_rings (d : Dev) (t : Tab Word) : ({ d with tabs := t } : Dev).rings = d.rings := rfl
theorem setTabs_swc (d : Dev) (t : Tab Word) : ({ d with tabs := t } : Dev).swc = d.swc := rfl
theorem setTabs_cans (d : Dev) (t : Tab Word) : ({ d with tabs := t } : Dev).cans = d.cans := rfl
theorem setTabs_canObjs (d : Dev) (t : Tab Word) : ({ d with tabs := t } : Dev).canObjs = d.canObjs := rfl
theorem setTabs_canCa (d : Dev) (t : Tab Word) : ({ d with tabs := t } : Dev).canCa = d.canCa := rfl
theorem setTabs_pios (d : Dev) (t : Tab Word) : ({ d with tabs := t } : Dev).pios = d.pios := rfl
theorem setTabs_pins (d : Dev) (t : Tab Word) : ({ d with tabs := t } : Dev).pins = d.pins := rfl
theorem setTabs_sds (d : Dev) (t : Tab Word) : ({ d with tabs := t } : Dev).sds = d.sds := rfl
theorem setTabs_ccs (d : Dev) (t : Tab Word) : ({ d with tabs := t } : Dev).ccs = d.ccs := rfl
theorem setTabs_smpStart (d : Dev) (t : Tab Word) : ({ d with tabs := t } : Dev).smpStart = d.smpStart := rfl
theorem setTabs_loop (d : Dev) (t : Tab Word) : ({ d with tabs := t } : Dev).loop = d.loop := rfl
theorem setTabs_sec (d : Dev) (t : Tab Word) : ({ d with tabs := t } : Dev).sec = d.sec := rfl
theorem setTabs_vddio (d : Dev) (t : Tab Word) : ({ d with tabs := t } : Dev).vddio = d.vddio := rfl
theorem setTabs_saf (d : Dev) (t : Tab Word) : ({ d with tabs := t } : Dev).saf = d.saf := rfl
theorem setTabs_hst (d : Dev) (t : Tab Word) : ({ d with tabs := t } : Dev).hst = d.hst := rfl
theorem setTabs_out (d : Dev) (t : Tab Word) : ({ d with tabs := t } : Dev).out = d.out := rfl

@[simp] theorem tabPut_now (t i : Nat) (v : Word) (d : Dev) : (tabPut t i v d).now = d.now := setTabs_now d _
@[simp] theorem tabPut_free (t i : Nat) (v : Word) (d : Dev) : (tabPut t i v d).free = d.free := setTabs_free d _
@[simp] theorem tabPut_regs (t i : Nat) (v : Word) (d : Dev) : (tabPut t i v d).regs = d.regs := setTabs_regs d _
@[simp] theorem tabPut_wraps (t i : Nat) (v : Word) (d : Dev) : (tabPut t i v d).wraps = d.wraps := setTabs_wraps d _
@[simp] theorem tabPut_inds (t i : Nat) (v : Word) (d : Dev) : (tabPut t i v d).inds = d.inds := setTabs_inds d _
@[simp] theorem tabPut_mem (t i : Nat) (v : Word) (d : Dev) : (tabPut t i v d).mem = d.mem := setTabs_mem d _
@[simp] theorem tabPut_rdata (t i : Nat) (v : Word) (d : Dev) : (tabPut t i v d).rdata = d.rdata := setTabs_rdata d _
@[simp] theorem tabPut_badPar (t i : Nat) (v : Word) (d : Dev) : (tabPut t i v d).badPar = d.badPar := setTabs_badPar d _
@[simp] theorem tabPut_badCfg (t i : Nat) (v : Word) (d : Dev) : (tabPut t i v d).badCfg = d.badCfg := setTabs_badCfg d _
@[simp] theorem tabPut_viewBad (t i : Nat) (v : Word) (d : Dev) : (tabPut t i v d).viewBad = d.viewBad := setTabs_viewBad d _
@[simp] theorem tabPut_scrub (t i : Nat) (v : Word) (d : Dev) : (tabPut t i v d).scrub = d.scrub := setTabs_scrub d _
@[simp] theorem tabPut_sys (t i : Nat) (v : Word) (d : Dev) : (tabPut t i v d).sys = d.sys := setTabs_sys d _
@[simp] theorem tabPut_boot (t i : Nat) (v : Word) (d : Dev) : (tabPut t i v d).boot = d.boot := setTabs_boot d _
@[simp] theorem tabPut_flashA (t i : Nat) (v : Word) (d : Dev) : (tabPut t i v d).flashA = d.flashA := setTabs_flashA d _
@[simp] theorem tabPut_flashB (t i : Nat) (v : Word) (d : Dev) : (tabPut t i v d).flashB = d.flashB := setTabs_flashB d _
@[simp] theorem tabPut_img (t i : Nat) (v : Word) (d : Dev) : (tabPut t i v d).img = d.img := setTabs_img d _
@[simp] theorem tabPut_ctxs (t i : Nat) (v : Word) (d : Dev) : (tabPut t i v d).ctxs = d.ctxs := setTabs_ctxs d _
@[simp] theorem tabPut_cores (t i : Nat) (v : Word) (d : Dev) : (tabPut t i v d).cores = d.cores := setTabs_cores d _
@[simp] theorem tabPut_dsp (t i : Nat) (v : Word) (d : Dev) : (tabPut t i v d).dsp = d.dsp := setTabs_dsp d _
@[simp] theorem tabPut_locks (t i : Nat) (v : Word) (d : Dev) : (tabPut t i v d).locks = d.locks := setTabs_locks d _
@[simp] theorem tabPut_lockRel (t i : Nat) (v : Word) (d : Dev) : (tabPut t i v d).lockRel = d.lockRel := setTabs_lockRel d _
@[simp] theorem tabPut_mbxLast (t i : Nat) (v : Word) (d : Dev) : (tabPut t i v d).mbxLast = d.mbxLast := setTabs_mbxLast d _
@[simp] theorem tabPut_ntm (t i : Nat) (v : Word) (d : Dev) : (tabPut t i v d).ntm = d.ntm := setTabs_ntm d _
@[simp] theorem tabPut_mrd (t i : Nat) (v : Word) (d : Dev) : (tabPut t i v d).mrd = d.mrd := setTabs_mrd d _
@[simp] theorem tabPut_eths (t i : Nat) (v : Word) (d : Dev) : (tabPut t i v d).eths = d.eths := setTabs_eths d _
@[simp] theorem tabPut_rings (t i : Nat) (v : Word) (d : Dev) : (tabPut t i v d).rings = d.rings := setTabs_rings d _
@[simp] theorem tabPut_swc (t i : Nat) (v : Word) (d : Dev) : (tabPut t i v d).swc = d.swc := setTabs_swc d _
@[simp] theorem tabPut_cans (t i : Nat) (v : Word) (d : Dev) : (tabPut t i v d).cans = d.cans := setTabs_cans d _
@[simp] theorem tabPut_canObjs (t i : Nat) (v : Word) (d : Dev) : (tabPut t i v d).canObjs = d.canObjs := setTabs_canObjs d _
@[simp] theorem tabPut_canCa (t i : Nat) (v : Word) (d : Dev) : (tabPut t i v d).canCa = d.canCa := setTabs_canCa d _
@[simp] theorem tabPut_pios (t i : Nat) (v : Word) (d : Dev) : (tabPut t i v d).pios = d.pios := setTabs_pios d _
@[simp] theorem tabPut_pins (t i : Nat) (v : Word) (d : Dev) : (tabPut t i v d).pins = d.pins := setTabs_pins d _
@[simp] theorem tabPut_sds (t i : Nat) (v : Word) (d : Dev) : (tabPut t i v d).sds = d.sds := setTabs_sds d _
@[simp] theorem tabPut_ccs (t i : Nat) (v : Word) (d : Dev) : (tabPut t i v d).ccs = d.ccs := setTabs_ccs d _
@[simp] theorem tabPut_smpStart (t i : Nat) (v : Word) (d : Dev) : (tabPut t i v d).smpStart = d.smpStart := setTabs_smpStart d _
@[simp] theorem tabPut_loop (t i : Nat) (v : Word) (d : Dev) : (tabPut t i v d).loop = d.loop := setTabs_loop d _
@[simp] theorem tabPut_sec (t i : Nat) (v : Word) (d : Dev) : (tabPut t i v d).sec = d.sec := setTabs_sec d _
@[simp] theorem tabPut_vddio (t i : Nat) (v : Word) (d : Dev) : (tabPut t i v d).vddio = d.vddio := setTabs_vddio d _
@[simp] theorem tabPut_saf (t i : Nat) (v : Word) (d : Dev) : (tabPut t i v d).saf = d.saf := setTabs_saf d _
@[simp] theorem tabPut_hst (t i : Nat) (v : Word) (d : Dev) : (tabPut t i v d).hst = d.hst := setTabs_hst d _
@[simp] theorem tabPut_out (t i : Nat) (v : Word) (d : Dev) : (tabPut t i v d).out = d.out := setTabs_out d _
@[simp] theorem rd_tabPut (b : Nat) (t i : Nat) (v : Word) (d : Dev) : rd b (tabPut t i v d) = rd b d := by unfold rd; rw [tabPut_regs]
@[simp] theorem rf_tabPut (b h l : Nat) (t i : Nat) (v : Word) (d : Dev) : rf b h l (tabPut t i v d) = rf b h l d := by unfold rf; rw [rd_tabPut]
@[simp] theorem rb_tabPut (b q : Nat) (t i : Nat) (v : Word) (d : Dev) : rb b q (tabPut t i v d) = rb b q d := by unfold rb; rw [rd_tabPut]
@[simp] theorem getCtx_tabPut (q : Nat) (t i : Nat) (v : Word) (d : Dev) : getCtx q (tabPut t i v d) = getCtx q d := by unfold getCtx; rw [tabPut_ctxs]
@[simp] theorem getCore_tabPut (q : Nat) (t i : Nat) (v : Word) (d : Dev) : getCore q (tabPut t i v d) = getCore q d := by unfold getCore; rw [tabPut_cores]
@[simp] theorem memByte_tabPut (b : Nat) (t i : Nat) (v : Word) (d : Dev) : memByte b (tabPut t i v d) = memByte b d := by unfold memByte; rw [tabPut_mem]
@[simp] theorem tbGet_tabPut (q : Nat) (t i : Nat) (v : Word) (d : Dev) : tbGet q (tabPut t i v d) = tbGet q d := by unfold tbGet; rw [tabPut_ntm]

/-! ### putInd -/

@[simp] theorem putInd_now (a : Nat) (x : Ind) (d : Dev) : (putInd a x d).now = d.now := rfl
@[simp] theorem putInd_free (a : Nat) (x : Ind) (d : Dev) : (putInd a x d).free = d.free := rfl
@[simp] theorem putInd_regs (a : Nat) (x : Ind) (d : Dev) : (putInd a x d).regs = d.regs := rfl
@[simp] theorem putInd_wraps (a : Nat) (x : Ind) (d : Dev) : (putInd a x d).wraps = d.wraps := rfl
@[simp] theorem putInd_tabs (a : Nat) (x : Ind) (d : Dev) : (putInd a x d).tabs = d.tabs := rfl
@[simp] theorem putInd_mem (a : Nat) (x : Ind) (d : Dev) : (putInd a x d).mem = d.mem := rfl
@[simp] theorem putInd_rdata (a : Nat) (x : Ind) (d : Dev) : (putInd a x d).rdata = d.rdata := rfl
@[simp] theorem putInd_badPar (a : Nat) (x : Ind) (d : Dev) : (putInd a x d).badPar = d.badPar := rfl
@[simp] theorem putInd_badCfg (a : Nat) (x : Ind) (d : Dev) : (putInd a x d).badCfg = d.badCfg := rfl
@[simp] theorem putInd_viewBad (a : Nat) (x : Ind) (d : Dev) : (putInd a x d).viewBad = d.viewBad := rfl
@[simp] theorem putInd_scrub (a : Nat) (x : Ind) (d : Dev) : (putInd a x d).scrub = d.scrub := rfl
@[simp] theorem putInd_sys (a : Nat) (x : Ind) (d : Dev) : (putInd a x d).sys = d.sys := rfl
@[simp] theorem putInd_boot (a : Nat) (x : Ind) (d : Dev) : (putInd a x d).boot = d.boot := rfl
@[simp] theorem putInd_flashA (a : Nat) (x : Ind) (d : Dev) : (putInd a x d).flashA = d.flashA := rfl
@[simp] theorem putInd_flashB (a : Nat) (x : Ind) (d : Dev) : (putInd a x d).flashB = d.flashB := rfl
@[simp] theorem putInd_img (a : Nat) (x : Ind) (d : Dev) : (putInd a x d).img = d.img := rfl
@[simp] theorem putInd_ctxs (a : Nat) (x : Ind) (d : Dev) : (putInd a x d).ctxs = d.ctxs := rfl
@[simp] theorem putInd_cores (a : Nat) (x : Ind) (d : Dev) : (putInd a x d).cores = d.cores := rfl
@[simp] theorem putInd_dsp (a : Nat) (x : Ind) (d : Dev) : (putInd a x d).dsp = d.dsp := rfl
@[simp] theorem putInd_locks (a : Nat) (x : Ind) (d : Dev) : (putInd a x d).locks = d.locks := rfl
@[simp] theorem putInd_lockRel (a : Nat) (x : Ind) (d : Dev) : (putInd a x d).lockRel = d.lockRel := rfl
@[simp] theorem putInd_mbxLast (a : Nat) (x : Ind) (d : Dev) : (putInd a x d).mbxLast = d.mbxLast := rfl
@[simp] theorem putInd_ntm (a : Nat) (x : Ind) (d : Dev) : (putInd a x d).ntm = d.ntm := rfl
@[simp] theorem putInd_mrd (a : Nat) (x : Ind) (d : Dev) : (putInd a x d).mrd = d.mrd := rfl
@[simp] theorem putInd_eths (a : Nat) (x : Ind) (d : Dev) : (putInd a x d).eths = d.eths := rfl
@[simp] theorem putInd_rings (a : Nat) (x : Ind) (d : Dev) : (putInd a x d).rings = d.rings := rfl
@[simp] theorem putInd_swc (a : Nat) (x : Ind) (d : Dev) : (putInd a x d).swc = d.swc := rfl
@[simp] theorem putInd_cans (a : Nat) (x : Ind) (d : Dev) : (putInd a x d).cans = d.cans := rfl
@[simp] theorem putInd_canObjs (a : Nat) (x : Ind) (d : Dev) : (putInd a x d).canObjs = d.canObjs := rfl
@[simp] theorem putInd_canCa (a : Nat) (x : Ind) (d : Dev) : (putInd a x d).canCa = d.canCa := rfl
@[simp] theorem putInd_pios (a : Nat) (x : Ind) (d : Dev) : (putInd a x d).pios = d.pios := rfl
@[simp] theorem putInd_pins (a : Nat) (x : Ind) (d : Dev) : (putInd a x d).pins = d.pins := rfl
@[simp] theorem putInd_sds (a : Nat) (x : Ind) (d : Dev) : (putInd a x d).sds = d.sds := rfl
@[simp] theorem putInd_ccs (a : Nat) (x : Ind) (d : Dev) : (putInd a x d).ccs = d.ccs := rfl
@[simp] theorem putInd_smpStart (a : Nat) (x : Ind) (d : Dev) : (putInd a x d).smpStart = d.smpStart := rfl
@[simp] theorem putInd_loop (a : Nat) (x : Ind) (d : Dev) : (putInd a x d).loop = d.loop := rfl
@[simp] theorem putInd_sec (a : Nat) (x : Ind) (d : Dev) : (putInd a x d).sec = d.sec := rfl
@[simp] theorem putInd_vddio (a : Nat) (x : Ind) (d : Dev) : (putInd a x d).vddio = d.vddio := rfl
@[simp] theorem putInd_saf (a : Nat) (x : Ind) (d : Dev) : (putInd a x d).saf = d.saf := rfl
@[simp] theorem putInd_hst (a : Nat) (x : Ind) (d : Dev) : (putInd a x d).hst = d.hst := rfl
@[simp] theorem putInd_out (a : Nat) (x : Ind) (d : Dev) : (putInd a x d).out = d.out := rfl
@[simp] theorem rd_putInd (b : Nat) (a : Nat) (x : Ind) (d : Dev) : rd b (putInd a x d) = rd b d := rfl
@[simp] theorem rf_putInd (b h l : Nat) (a : Nat) (x : Ind) (d : Dev) : rf b h l (putInd a x d) = rf b h l d := rfl
@[simp] theorem rb_putInd (b q : Nat) (a : Nat) (x : Ind) (d : Dev) : rb b q (putInd a x d) = rb b q d := rfl
@[simp] theorem getCtx_putInd (q : Nat) (a : Nat) (x : Ind) (d : Dev) : getCtx q (putInd a x d) = getCtx q d := rfl
@[simp] theorem getCore_putInd (q : Nat) (a : Nat) (x : Ind) (d : Dev) : getCore q (putInd a x d) = getCore q d := rfl
@[simp] theorem memByte_putInd (b : Nat) (a : Nat) (x : Ind) (d : Dev) : memByte b (putInd a x d) = memByte b d := rfl
@[simp] theorem tbGet_putInd (q : Nat) (a : Nat) (x : Ind) (d : Dev) : tbGet q (putInd a x d) = tbGet q d := rfl

/-! ### What an update writes -/

/-- A register reads what was stored. -/
@[simp] theorem rd_wr_same (a : Nat) (v : Word) (d : Dev) : rd a (wr a v d) = v := tabGet_tabSet_same _ _ _ _
/-- Every other register keeps its word. -/
theorem rd_wr_ne {a b : Nat} (v : Word) (d : Dev) (h : b ≠ a) : rd b (wr a v d) = rd b d := tabGet_tabSet_ne _ _ _ h
/-- A register after a store, either way. -/
theorem rd_wr (a b : Nat) (v : Word) (d : Dev) : rd b (wr a v d) = if b = a then v else rd b d := tabGet_tabSet _ _ _ _ _
/-- A context reads what was put. -/
@[simp] theorem getCtx_putCtx_same (k : Nat) (x : Ctx) (d : Dev) : getCtx k (putCtx k x d) = x := tabGet_tabSet_same _ _ _ _
/-- Every other context is unchanged. -/
theorem getCtx_putCtx_ne {k j : Nat} (x : Ctx) (d : Dev) (h : j ≠ k) : getCtx j (putCtx k x d) = getCtx j d :=
  tabGet_tabSet_ne _ _ _ h
/-- An engine reads what was put. -/
@[simp] theorem getCore_modCore_same (c : Nat) (f : Core → Core) (d : Dev) :
    getCore c (modCore c f d) = f (getCore c d) := tabGet_tabSet_same _ _ _ _
/-- Every other engine is unchanged. -/
theorem getCore_modCore_ne {c j : Nat} (f : Core → Core) (d : Dev) (h : j ≠ c) :
    getCore j (modCore c f d) = getCore j d := tabGet_tabSet_ne _ _ _ h
/-- An event: the register's SQ bits are set and SEQ counts it (R107). -/
theorem rd_raiseBits_same (a m : Nat) (d : Dev) :
    rd a (raiseBits a m d) = setFld (rd a d ||| word m) 31 24 ((fld (rd a d) 31 24 + 1) % 256) := by
  exact rd_wr_same a _ d
/-- An event leaves every other register alone. -/
theorem rd_raiseBits_ne {a b : Nat} (m : Nat) (d : Dev) (h : b ≠ a) : rd b (raiseBits a m d) = rd b d := by
  exact rd_wr_ne _ d h
/-- A master reads the word given to it. -/
@[simp] theorem rdata_giveRead_same (m : Nat) (v : Word) (d : Dev) :
    tabGet zeroDefault (giveRead m v d).rdata m = v := tabGet_tabSet_same _ _ _ _
/-- A PIO engine reads what was put. -/
@[simp] theorem getPio_putPio_same (n : Nat) (x : Pio) (d : Dev) : getPio n (putPio n x d) = x := tabGet_tabSet_same _ _ _ _
/-- A Sampler channel reads what was put. -/
@[simp] theorem getSd_putSd_same (n : Nat) (x : Sd) (d : Dev) : getSd n (putSd n x d) = x := tabGet_tabSet_same _ _ _ _
/-- A capture/compare unit reads what was put. -/
@[simp] theorem getCc_putCc_same (n : Nat) (x : Cc) (d : Dev) : getCc n (putCc n x d) = x := tabGet_tabSet_same _ _ _ _
/-- A port reads what was put. -/
@[simp] theorem getEth_modEth_same (p : Nat) (f : Eth → Eth) (d : Dev) : getEth p (modEth p f d) = f (getEth p d) :=
  tabGet_tabSet_same _ _ _ _
/-- A CAN controller reads what was put. -/
@[simp] theorem getCan_modCan_same (n : Nat) (f : Can → Can) (d : Dev) : getCan n (modCan n f d) = f (getCan n d) :=
  tabGet_tabSet_same _ _ _ _
/-- A receive object reads what was put. -/
@[simp] theorem getObj_putObj_same (n o : Nat) (x : CanObj) (d : Dev) : getObj n o (putObj n o x d) = x :=
  tabGet_tabSet_same _ _ _ _
/-- An indirect pair reads what was put. -/
@[simp] theorem getInd_putInd_same (a : Nat) (x : Ind) (d : Dev) : getInd a (putInd a x d) = x := tabGet_tabSet_same _ _ _ _
/-- A trigger reads what was put. -/
@[simp] theorem getTrig_putTrig_same (k : Nat) (t : Trig) (d : Dev) : getTrig k (putTrig k t d) = t :=
  tabGet_tabSet_same _ _ _ _
/-- Dispatch after a change. -/
@[simp] theorem modDsp_dsp (f : Dsp → Dsp) (d : Dev) : (modDsp f d).dsp = f d.dsp := rfl
/-- The switch after a change. -/
@[simp] theorem modSwc_swc (f : Swc → Swc) (d : Dev) : (modSwc f d).swc = f d.swc := rfl
/-- Meridian after a change. -/
@[simp] theorem modMrd_mrd (f : Mrd → Mrd) (d : Dev) : (modMrd f d).mrd = f d.mrd := rfl

/-! ### A context's registers -/

@[simp] theorem dr_setD_same (x : Ctx) (i : Nat) (v : Word) : (x.setD i v).dr i = v := tabGet_tabSet_same _ _ _ _
theorem dr_setD_ne (x : Ctx) {i j : Nat} (v : Word) (h : j ≠ i) : (x.setD i v).dr j = x.dr j := tabGet_tabSet_ne _ _ _ h
@[simp] theorem ar_setA_same (x : Ctx) (i : Nat) (v : Word) : (x.setA i v).ar i = v := tabGet_tabSet_same _ _ _ _
theorem ar_setA_ne (x : Ctx) {i j : Nat} (v : Word) (h : j ≠ i) : (x.setA i v).ar j = x.ar j := tabGet_tabSet_ne _ _ _ h
@[simp] theorem ar_setD (x : Ctx) (i j : Nat) (v : Word) : (x.setD i v).ar j = x.ar j := rfl
@[simp] theorem dr_setA (x : Ctx) (i j : Nat) (v : Word) : (x.setA i v).dr j = x.dr j := rfl
@[simp] theorem sr_setD (x : Ctx) (i : Nat) (v : Word) : (x.setD i v).sr = x.sr := rfl
@[simp] theorem pc_setD (x : Ctx) (i : Nat) (v : Word) : (x.setD i v).pc = x.pc := rfl
@[simp] theorem sr_setA (x : Ctx) (i : Nat) (v : Word) : (x.setA i v).sr = x.sr := rfl
@[simp] theorem pc_setA (x : Ctx) (i : Nat) (v : Word) : (x.setA i v).pc = x.pc := rfl

end Sys2Proof.Machine
end

