-- ==== Sys2Proof/Laws/Engine.lean ====
section
/-! SUPPORT. Laws/Engine.lean: what the operations shared by every instruction do: the issue, its results, exceptions,
blocking and the choice of the next context. -/

namespace Sys2Proof.Machine

open Sys2Proof.Safety

/-- An instruction that issues runs on its context, with the engine's bookkeeping done. -/
theorem issue_of_issues {c key : Nat} {s : State} (f : Nat → Ctx → Dev → Dev) (h : Issues c key s) :
    issue c f s.dev = f key (getCtx key s.dev) (issued c key s.dev) := by
  obtain ⟨h1, h2, h3, h4, h5⟩ := h
  have hf : fetchBad c (getCtx key s.dev) (issued c key s.dev) = false := h4
  have hb : badIn (fetchAddr c (getCtx key s.dev)) 4 (issued c key s.dev) = none := h5
  unfold issue
  simp only [h1, h2, Bool.not_true, if_false, Bool.false_eq_true]
  by_cases hc : c = 16
  · simp only [hc, if_true] at *
    simp only [h3]
    simp only [issued] at hf hb ⊢
    simp only [hf, Bool.false_eq_true, if_false, hb]
  · simp only [hc, if_false]
    simp only [issued] at hf hb ⊢
    simp only [hf, Bool.false_eq_true, if_false, hb]

/-- The same for a command of an instruction. -/
theorem onDev_issue {c key : Nat} {s : State} (f : Nat → Ctx → Dev → Dev) (h : Issues c key s) :
    onDev (issue c f) s = .next { s with dev := f key (getCtx key s.dev) (issued c key s.dev) } := by
  rw [onDev, issue_of_issues f h]

/-- A two-operand instruction whose result does not trap. -/
theorem alu3_next {c key : Nat} {s : State} (op : Word → Word → Word → Res) (rd rs rt : Nat) (h : Issues c key s)
    (ht : (op ((getCtx key s.dev).dr rs) ((getCtx key s.dev).dr rt) (getCtx key s.dev).sr).trap = false) :
    onDev (alu3 op c rd rs rt) s = .next (onlyCtx c key
      (({ getCtx key s.dev with
          sr := (op ((getCtx key s.dev).dr rs) ((getCtx key s.dev).dr rt) (getCtx key s.dev).sr).sr }.setD rd
        (op ((getCtx key s.dev).dr rs) ((getCtx key s.dev).dr rt) (getCtx key s.dev).sr).val).advance) s) := by
  rw [alu3, onDev_issue _ h]
  simp only [putRes, ht, Bool.false_eq_true, if_false, retire, onlyCtx]

/-- A one-operand instruction whose result does not trap. -/
theorem alu2_next {c key : Nat} {s : State} (op : Word → Word → Res) (rd rs : Nat) (h : Issues c key s)
    (ht : (op ((getCtx key s.dev).dr rs) (getCtx key s.dev).sr).trap = false) :
    onDev (alu2 op c rd rs) s = .next (onlyCtx c key
      (({ getCtx key s.dev with sr := (op ((getCtx key s.dev).dr rs) (getCtx key s.dev).sr).sr }.setD rd
        (op ((getCtx key s.dev).dr rs) (getCtx key s.dev).sr).val).advance) s) := by
  rw [alu2, onDev_issue _ h]
  simp only [putRes, ht, Bool.false_eq_true, if_false, retire, onlyCtx]

/-- An immediate instruction whose result does not trap. -/
theorem aluImm_next {c key : Nat} {s : State} (op : Word → Word → Word → Res) (rd rs : Nat) (v : Word)
    (h : Issues c key s) (ht : (op ((getCtx key s.dev).dr rs) v (getCtx key s.dev).sr).trap = false) :
    onDev (aluImm op c rd rs v) s = .next (onlyCtx c key
      (({ getCtx key s.dev with sr := (op ((getCtx key s.dev).dr rs) v (getCtx key s.dev).sr).sr }.setD rd
        (op ((getCtx key s.dev).dr rs) v (getCtx key s.dev).sr).val).advance) s) := by
  rw [aluImm, onDev_issue _ h]
  simp only [putRes, ht, Bool.false_eq_true, if_false, retire, onlyCtx]

/-- What the choice of the next context can do (R152): nothing, or the chosen READY context starts to run. -/
theorem schedule_cases (c : Nat) (d : Dev) :
    schedule c d = d ∨ ∃ k, (getCtx k d).state = .ready ∧
      schedule c d = (d |> modCtx k (fun x => { x with state := .running, woken := none })
                        |> modCore c (fun e => { e with quantumStart := d.now })) := by
  unfold schedule
  split
  · exact .inl rfl
  · split
    · exact .inl rfl
    · rename_i k hk
      refine .inr ⟨k, ?_, rfl⟩
      unfold pickReady at hk
      dsimp only at hk
      cases hw : firstWoken ((ctxKeys c).filter fun k => (getCtx k d).state = .ready) d with
      | some k' =>
        rw [hw] at hk
        cases hk
        suffices ∀ (l : List Nat) (b : Option Nat), (∀ j, b = some j → (getCtx j d).state = .ready) →
            (∀ j ∈ l, (getCtx j d).state = .ready) →
            ∀ r, l.foldl (fun best k => match (getCtx k d).woken, best with
              | none, _ => best
              | some _, none => some k
              | some n, some b => if n < ((getCtx b d).woken.getD n) then some k else best) b = some r →
              (getCtx r d).state = .ready by
          refine this _ none (by simp) ?_ _ hw
          intro j hj
          simpa using (List.mem_filter.mp hj).2
        intro l
        induction l with
        | nil => intro b hb _ r hr; exact hb r hr
        | cons a l ih =>
          intro b hb hl r hr
          refine ih _ ?_ (fun j hj => hl j (List.mem_cons_of_mem _ hj)) r hr
          intro j hj
          have ha := hl a List.mem_cons_self
          dsimp only at hj
          split at hj
          · exact hb j hj
          · cases hj; exact ha
          · split at hj
            · cases hj; exact ha
            · exact hb j hj
      | none =>
        rw [hw] at hk
        dsimp only at hk
        split at hk
        · have := List.mem_of_mem_head? hk
          simpa using (List.mem_filter.mp this).2
        · have := List.find?_some hk
          simpa using (List.mem_filter.mp (of_decide_eq_true this)).2

/-- A context that is not READY is untouched by the choice of the next one. -/
theorem getCtx_schedule {c key : Nat} {d : Dev} (h : (getCtx key d).state ≠ .ready) :
    getCtx key (schedule c d) = getCtx key d := by
  rcases schedule_cases c d with h1 | ⟨k, hk, h1⟩
  · rw [h1]
  · rw [h1]
    have : key ≠ k := fun e => h (e ▸ hk)
    simp only [getCtx_modCore, modCtx, getCtx_putCtx_ne _ _ this]

/-- The choice of the next context changes no field but the contexts and the engines. -/
theorem schedule_frame (c : Nat) (d : Dev) :
    { schedule c d with ctxs := d.ctxs, cores := d.cores } = d := by
  rcases schedule_cases c d with h1 | ⟨k, _, h1⟩ <;> rw [h1] <;> rfl

@[simp] theorem schedule_mem (c : Nat) (d : Dev) : (schedule c d).mem = d.mem := by
  conv_rhs => rw [← schedule_frame c d]
@[simp] theorem schedule_regs (c : Nat) (d : Dev) : (schedule c d).regs = d.regs := by
  conv_rhs => rw [← schedule_frame c d]
@[simp] theorem rd_schedule (a c : Nat) (d : Dev) : rd a (schedule c d) = rd a d := by
  unfold rd; rw [schedule_regs]
@[simp] theorem memByte_schedule (a c : Nat) (d : Dev) : memByte a (schedule c d) = memByte a d := by
  unfold memByte; rw [schedule_mem]

/-- What the choice of the next context does to a context: nothing, or it starts to run (R152). -/
theorem getCtx_schedule_cases (c key : Nat) (d : Dev) :
    getCtx key (schedule c d) = getCtx key d ∨
    ((getCtx key d).state = .ready ∧
      getCtx key (schedule c d) = { getCtx key d with state := .running, woken := none }) := by
  rcases schedule_cases c d with h1 | ⟨k, hk, h1⟩
  · exact .inl (by rw [h1])
  · by_cases e : key = k
    · subst e
      exact .inr ⟨hk, by rw [h1]; simp only [getCtx_modCore, modCtx, getCtx_putCtx_same]⟩
    · exact .inl (by rw [h1]; simp only [getCtx_modCore, modCtx, getCtx_putCtx_ne _ _ e])

/-- A context that blocks keeps its registers, with the wait and the place of its instruction (R153). -/
theorem getCtx_block (key : Nat) (x : Ctx) (w : Wait) (d : Dev) :
    getCtx key (block key x w d) =
      { x with state := .blocked, wait := w } := by
  unfold block
  rw [getCtx_schedule] <;> simp

/-- A wait's end (R150): the context holds the results and is READY, or already RUNNING. -/
theorem getCtx_unblock (key : Nat) (x : Ctx) (d : Dev) :
    getCtx key (unblock key x d) = { x.advance with state := .ready, wait := .none } ∨
    getCtx key (unblock key x d) = { x.advance with state := .running, wait := .none, woken := none } := by
  unfold unblock
  rcases getCtx_schedule_cases (key / 16) key (putCtx key { x.advance with state := .ready, wait := .none } d) with h | h
  · exact .inl (by rw [h]; simp)
  · exact .inr (by rw [h.2]; simp)

@[simp] theorem block_mem (key : Nat) (x : Ctx) (w : Wait) (d : Dev) : (block key x w d).mem = d.mem := by simp [block]
@[simp] theorem block_regs (key : Nat) (x : Ctx) (w : Wait) (d : Dev) : (block key x w d).regs = d.regs := by simp [block]
@[simp] theorem unblock_mem (key : Nat) (x : Ctx) (d : Dev) : (unblock key x d).mem = d.mem := by simp [unblock]
@[simp] theorem unblock_regs (key : Nat) (x : Ctx) (d : Dev) : (unblock key x d).regs = d.regs := by simp [unblock]

end Sys2Proof.Machine
end

