-- ==== Sys2Proof/Laws/Memory.lean ====
section
/-! SUPPORT. Laws/Memory.lean: the laws of memory: what a byte reads as after each memory operation, and that every one
keeps the canonical form. -/

namespace Sys2Proof.Machine

theorem memByte_putList (bs : List Byte) (a x : Nat) (t : List Host.Cell) :
    tabGet memDefault ((bs.zipIdx a).foldl (fun t p => tabSet memDefault t p.2 p.1) t) x =
      if a ≤ x ∧ x < a + bs.length then bs.getD (x - a) 0 else tabGet memDefault t x := by
  induction bs generalizing a t with
  | nil =>
    rw [if_neg (by simp)]; rfl
  | cons b bs ih =>
    simp only [List.zipIdx_cons, List.foldl_cons, ih, List.length_cons]
    by_cases h : x = a
    · subst h
      rw [if_neg (by omega), if_pos (by omega)]
      simp
    · rw [tabGet_tabSet_ne _ _ _ h]
      by_cases g : a + 1 ≤ x ∧ x < a + 1 + bs.length
      · rw [if_pos g, if_pos (by omega)]
        obtain ⟨n, rfl⟩ : ∃ n, x = a + 1 + n := ⟨x - (a + 1), by omega⟩
        simp [show a + 1 + n - a = n + 1 by omega]
      · rw [if_neg g, if_neg (by omega)]

/-- A byte of memory after a write of bytes; the ROM, below 0x20000, has no bytes in the table. -/
theorem memByte_memPut (a x : Nat) (bs : List Byte) (d : Dev) (h : 0x20000 ≤ x) :
    memByte x (memPut a bs d) = if a ≤ x ∧ x < a + bs.length then bs.getD (x - a) 0 else memByte x d := by
  simp only [memByte, if_neg (Nat.not_lt.mpr h)]
  exact memByte_putList bs a x d.mem

theorem tabFind_filter (t : List Host.Cell) (p : Nat → Bool) (x : Nat) :
    tabFind (t.filter fun e => p e.1) x = if p x then tabFind t x else none := by
  induction t with
  | nil => simp [tabFind]
  | cons e t ih =>
    by_cases h : p e.1 <;> by_cases g : x = e.1
    · subst g; simp [h, tabFind]
    · simp [h, tabFind, ih, g]
    · subst g; simp [h, ih]
    · simp [h, tabFind, ih, g]

/-- A byte of memory after a range is filled with zeros. -/
theorem memByte_memZero (lo hi x : Nat) (d : Dev) (hx : 0x20000 ≤ x) :
    memByte x (memZero lo hi d) = if lo ≤ x ∧ x ≤ hi then 0 else memByte x d := by
  have hf := tabFind_filter d.mem (fun k => decide (k < lo ∨ hi < k)) x
  simp only [memByte, if_neg (Nat.not_lt.mpr hx), memZero, tabGet]
  rw [hf]
  by_cases h : lo ≤ x ∧ x ≤ hi
  · rw [if_pos h, if_neg (by simp; omega)]; rfl
  · rw [if_neg h, if_pos (by simp; omega)]

theorem wf_putList (bs : List Byte) (a : Nat) (t : List Host.Cell) (h : Memory.wf t = true) :
    Memory.wf ((bs.zipIdx a).foldl (fun t p => tabSet memDefault t p.2 p.1) t) = true := by
  induction bs generalizing a t with
  | nil => simpa
  | cons b bs ih => exact ih (a + 1) _ (tabWf_tabSet _ _ _ _ h)

/-- A write of bytes keeps memory canonical. -/
theorem wf_memPut (a : Nat) (bs : List Byte) (d : Dev) (h : Memory.wf d.mem = true) :
    Memory.wf (memPut a bs d).mem = true := wf_putList bs a d.mem h

/-- A zero fill keeps memory canonical. -/
theorem wf_memZero (lo hi : Nat) (d : Dev) (h : Memory.wf d.mem = true) : Memory.wf (memZero lo hi d).mem = true :=
  tabWf_filter memDefault _ _ h

/-- Memory at reset lists nothing. -/
theorem wf_reset : Memory.wf State.reset.dev.mem = true := rfl

end Sys2Proof.Machine
end

