-- ==== Sys2Proof/Laws/Registers.lean ====
section
/-! SUPPORT. Laws/Registers.lean: the laws of the stored register words, and that the configuration CRC sees only the
tables and the registers that hold RWL bits (R117). -/

namespace Sys2Proof.Machine

theorem rd_wf_ne {a b : Nat} (hi lo v : Nat) (d : Dev) (h : b ≠ a) : rd b (wf a hi lo v d) = rd b d := rd_wr_ne _ _ h
theorem rd_wb_ne {a b : Nat} (i : Nat) (c : Bool) (d : Dev) (h : b ≠ a) : rd b (wb a i c d) = rd b d := rd_wr_ne _ _ h

/-- A register write keeps the registers canonical. -/
theorem wf_wr (a : Nat) (v : Word) (d : Dev) (h : tabWf regReset d.regs = true) : tabWf regReset (wr a v d).regs = true :=
  tabWf_tabSet _ _ _ _ h

/-- Registers without RWL bits that start-up and commit write. -/
def crcFree : List Nat := [A.almCrcRef, A.almCrcCur, A.almCrcStat, A.almBootStat, A.mrdHash]

/-- The row at every place of a block whose address is in `crcFree` has no RWL bit. -/
def crcFreeIn (base : Nat) (rows : List Row) : Bool :=
  crcFree.all fun a => decide (a < base) || ((rowFind rows (4 * ((a - base) / 4))).all fun p => p.1.rwl == 0)

theorem crcFree_block : ∀ b < 32, ∀ r, blockRows b = some r → crcFreeIn (A.block b) (headerRows ++ r) = true := by
  have h : ∀ b < 32, (blockRows b).all (fun r => crcFreeIn (A.block b) (headerRows ++ r)) = true := by decide +kernel
  intro b hb r hr
  simpa [hr] using h b hb

theorem crcFree_pe : ∀ n < 16, crcFreeIn (A.peBlock n) (headerRows ++ peRows) = true := by decide +kernel

theorem blockWords_congr (base span : Nat) (rows : List Row) (d e : Dev) (hf : crcFreeIn base rows = true)
    (h : ∀ a, a ∉ crcFree → rd a d = rd a e) : blockWords base span rows d = blockWords base span rows e := by
  unfold blockWords
  apply List.filterMap_congr
  intro j _
  cases g : rowFind rows (4 * j) with
  | none => rfl
  | some p =>
    simp only [Option.map_some, Option.some.injEq]
    by_cases hm : base + 4 * j ∈ crcFree
    · have := List.all_eq_true.mp hf _ hm
      simp only [Bool.or_eq_true, decide_eq_true_eq] at this
      rcases this with h1 | h1
      · omega
      · rw [show 4 * ((base + 4 * j - base) / 4) = 4 * j by omega, g] at h1
        simp at h1
        simp [h1, word]
    · rw [h _ hm]

/-- The configuration CRC of two devices agrees where their tables and their registers outside `crcFree` do. -/
theorem configCrc_congr (d e : Dev) (ht : d.tabs = e.tabs) (h : ∀ a, a ∉ crcFree → rd a d = rd a e) :
    configCrc d = configCrc e := by
  have hb : ∀ b, blockTables b d = blockTables b e := fun b => by simp only [blockTables, cstWords, tableWords, tableSpan, ht]
  have h1 : ∀ b ∈ List.range 32, ∀ r, blockRows b = some r → ∀ n,
      blockWords (A.block b) n (headerRows ++ r) d = blockWords (A.block b) n (headerRows ++ r) e :=
    fun b hb r g n => blockWords_congr _ _ _ d e (crcFree_block b (by simpa using hb) r g) h
  have h2 : ∀ n ∈ List.range 16, blockWords (A.peBlock n) 0x10000 (headerRows ++ peRows) d =
      blockWords (A.peBlock n) 0x10000 (headerRows ++ peRows) e :=
    fun n hn => blockWords_congr _ _ _ d e (crcFree_pe n (by simpa using hn)) h
  have hs : sweepWords d = sweepWords e := by
    refine congrArg₂ (· ++ ·) (List.flatMap_congr fun b hb' => ?_) (List.flatMap_congr fun n hn => ?_)
    · cases g : blockRows b with
      | none => rfl
      | some r => exact congrArg₂ (· ++ ·) (h1 b hb' r g _) (hb b)
    · exact congrArg₂ (· ++ ·) (h2 n hn) (by simp only [tableWords, tableSpan, ht])
  unfold configCrc
  rw [hs]

/-- The configuration CRC does not see a register of `crcFree`. -/
theorem configCrc_wr (a : Nat) (v : Word) (d : Dev) (h : a ∈ crcFree) : configCrc (wr a v d) = configCrc d :=
  configCrc_congr _ _ rfl fun b hb => rd_wr_ne v d fun g => hb (g ▸ h)

end Sys2Proof.Machine
end

