-- ==== Sys2Proof/Tests/Slice0.lean ====
section
/-! SUPPORT. Tests/Slice0.lean: tests of one step each on small states, with expected values from the spec's examples,
and for every obligation with hypotheses a witness that concrete states and operands meet them. -/

namespace Sys2Proof.Tests

set_option Elab.async false

open Sys2Proof Sys2Proof.Machine Sys2Proof.Safety

/-! ## Small states -/

/-- A device in service after commit, with the changes f. -/
def svc (f : Dev → Dev) : State :=
  { State.reset with dev := f (wb A.almCrcStat 0 true { Dev.reset with
    sys := { Sys.reset with mode := .service, romLoop := false }, boot := { Dev.reset.boot with step := .done } }) }

/-- The device an outcome answers. -/
def dev (o : Host.Outcome State Fault Refusal) : Dev :=
  match o with
  | .next s => s.dev
  | _ => Dev.reset

/-- Engine 0 runs its context 0 with the changes x. -/
def pe0 (x : Ctx → Ctx) (d : Dev) : Dev := putCtx 0 (x { ctxZero with state := .running }) (wb (A.peCtrl 0) 0 true d)

/-- Bytes at an address. -/
def at_ (a : Nat) (bytes : List Byte) (d : Dev) : Dev := memPut a bytes d

/-- A device in start-up whose next phase is b. -/
def boot (b : BootStep) (f : Dev → Dev) : State :=
  { State.reset with dev := f { Dev.reset with boot := { Dev.reset.boot with step := b } } }

/-! ## Witnesses of the hypotheses -/

theorem witness_BurnedFusesStay : ∃ s s', FusesHold [7] s ∧ step s = .next s' :=
  ⟨{ State.reset with fuses := { State.reset.fuses with burned := [7] }, pending := [.nop 0] }, _, by
    unfold FusesHold; decide, rfl⟩

theorem witness_HaltedEnginesIssueNothing :
    (engineOf (.nop 3) = some 3 ∧ rb (A.peCtrl 3) 0 (svc id).dev = false) ∧
    (engineOf (.nop 16) = some 16 ∧ (svc fun d => { d with sys := { d.sys with romLoop := true } }).dev.sys.romLoop = true) := by
  decide +kernel

/-- TB_0 counts, its rate at the bound of R253. -/
def counts : State := svc fun d => wr (A.ntmTb 0 0x10) 10737418 { d with ntm := { d.ntm with counting := true } }

theorem witness_IdleTick :
    counts.pending = [] ∧ counts.dev.ntm.counting = true ∧ counts.dev.ntm.tb.length = 4 ∧
      (∀ j < 4, (tbGet j counts.dev).slew = 0) ∧
      (∀ j < 4, -10737418 ≤ (rd (A.ntmTb j 0x10) counts.dev).toInt ∧ (rd (A.ntmTb j 0x10) counts.dev).toInt ≤ 10737418) ∧
      counts.dev.ntm.trig = [] ∧ counts.dev.mrd.slots = [] ∧ counts.dev.swc.queues = [] ∧
      State.reset.dev.ntm.counting = false := by
  decide +kernel

/-- Trigger 3 skips. -/
def skips : State := svc fun d => wb (A.ntmTrig 3 12) 31 true
  { d with ntm := { d.ntm with counting := true, trig := [(3, { trigDefault 3 with skipping := true })] } }

theorem witness_IdleTick_skip :
    let t₀ := dev (step { skips with dev := { skips.dev with ntm := { skips.dev.ntm with trig := [] } } })
    let ahead := putTrig 3 { trigDefault 3 with skipping := true, target := 0x7FFFFFFF } t₀
    skips.dev.ntm.counting = true ∧ skips.dev.ntm.trig.map (·.1) = [3] ∧ (getTrig 3 skips.dev).skipping = true ∧
      rb (A.ntmTrig 3 12) 31 skips.dev = true ∧ stepDue 3 t₀ = false ∧
      0 ≤ trigDiff 3 (putTrig 3 { trigDefault 3 with skipping := true } t₀) ∧ trigDiff 3 ahead < 0 := by
  decide +kernel

/-- D1 = a, D2 = b and SR = sr in the running context of engine 0. -/
def ab (a b sr : Word) : State := svc (pe0 fun x => ({ x with sr := sr }.setD 1 a).setD 2 b)

theorem witness_WrappingArithmetic :
    let s := ab 0x7FFFFFFF 1 0x400
    let z := ab 0x80000000 1 0x400
    Issues 0 0 s ∧ Issues 0 0 z ∧ Issues 0 0 (ab 5 1 0) ∧
    ((getCtx 0 s.dev).dr 1).saddOverflow ((getCtx 0 s.dev).dr 2) = true ∧ ovTrap (getCtx 0 s.dev).sr = true ∧
    ((getCtx 0 z.dev).dr 1).ssubOverflow ((getCtx 0 z.dev).dr 2) = true ∧ (getCtx 0 z.dev).dr 1 = 0x80000000 ∧
    ovTrap (getCtx 0 (ab 5 1 0).dev).sr = false := by
  unfold Issues; decide +kernel

theorem witness_Issues_supervisor :
    let s := svc fun d => putCtx supKey { ctxZero with state := .running, pc := 0x01000000 } d
    Issues 16 supKey s := by
  unfold Issues; decide +kernel

theorem witness_SaturatingArithmetic : Issues 0 0 (ab 5 1 0) := witness_WrappingArithmetic.2.2.1

theorem witness_LogicAndMoves : Issues 0 0 (ab 5 1 0) := witness_WrappingArithmetic.2.2.1

theorem witness_ShiftsAndRotates : Issues 0 0 (ab 5 1 0) := witness_WrappingArithmetic.2.2.1

theorem witness_BitFields : Issues 0 0 (ab 5 1 0) := witness_WrappingArithmetic.2.2.1

theorem witness_ChecksumAndAddressRegisters : Issues 0 0 (ab 5 1 0) := witness_WrappingArithmetic.2.2.1

theorem witness_MultiplyAndAccumulate :
    let s := ab 0x7FFFFFFF 2 0x400
    Issues 0 0 s ∧ ((getCtx 0 s.dev).dr 1).smulOverflow ((getCtx 0 s.dev).dr 2) = true ∧
    ovTrap (getCtx 0 s.dev).sr = true ∧ (40 : BitVec 6).toNat ≤ 40 ∧ 40 < (41 : BitVec 6).toNat := by
  unfold Issues; decide +kernel

theorem witness_Divisions :
    let s := ab 0x80000000 0xFFFFFFFF 0x400
    let z := ab 5 0 0x200
    let w := svc fun d => modCore 0 (fun e => { e with divBusy := some 0 })
      (pe0 (fun x => { x with state := .blocked, wait := .division 2 7 1 0 }) d)
    Issues 0 0 s ∧ (getCtx 0 s.dev).dr 1 = 0x80000000 ∧ (getCtx 0 s.dev).dr 2 = 0xFFFFFFFF ∧
    ovTrap (getCtx 0 s.dev).sr = true ∧ Issues 0 0 z ∧ (getCtx 0 z.dev).dr 2 = 0 ∧ bit (getCtx 0 z.dev).sr 9 = true ∧
    Issues 0 0 (ab 7 2 0) ∧ (getCore 0 w.dev).divBusy = some 0 ∧ (getCtx 0 w.dev).wait = .division 2 7 1 0 := by
  unfold Issues; decide +kernel

theorem witness_CrcInstructions : Issues 0 0 (svc (pe0 id)) ∧ ∀ o ∈ [0, 4, 8, 12], A.peCrc 0 3 o ∉ (svc (pe0 id)).dev.badCfg := by
  unfold Issues; decide +kernel

/-- The running context stands in a delay slot whose target is 0x100 and whose branch is at 0x20. -/
def slotted (rfe : Bool) : State := svc (pe0 fun x => { x with pc := 0x24, slot := some (0x100, 0x20), rfe })

theorem witness_BranchesAndDelaySlot :
    Issues 0 0 (slotted false) ∧ Issues 0 0 (slotted true) ∧ (getCtx 0 (slotted true).dev).rfe = true ∧
    (getCtx 0 (slotted false).dev).slot = some (0x100, 0x20) ∧ (getCtx 0 (slotted false).dev).rfe = false ∧
    Issues 0 0 (svc (pe0 fun x => { x with sr := 0x80 })) ∧
    (getCtx 0 (svc (pe0 fun x => { x with sr := 0x80 })).dev).sys = true ∧
    (getCtx 0 (svc (pe0 id)).dev).slot = none ∧ (getCtx 0 (svc (pe0 id)).dev).sys = false := by
  unfold Issues; decide +kernel

theorem witness_ExceptionEntry :
    let s := svc (pe0 fun x => { x with sr := 0x800 })
    Issues 0 0 s ∧ bit (getCtx 0 s.dev).sr 11 = true ∧ Issues 0 0 (slotted false) ∧
    bit (getCtx 0 (slotted false).dev).sr 11 = false ∧ 0 / 16 = (0 : Fin 17).val ∧
    rb (A.peCtrl 0) 1 s.dev = false := by
  unfold Issues; decide +kernel

theorem witness_SpecialRegisters :
    let u := svc (pe0 id)
    let s := svc (pe0 fun x => { x with sr := 0x180 })
    Issues 0 0 u ∧ (getCtx 0 u.dev).sys = false ∧ bit (getCtx 0 u.dev).sr 8 = false ∧
    Issues 0 0 s ∧ (getCtx 0 s.dev).sys = true ∧ bit (getCtx 0 s.dev).sr 8 = true ∧
    (((getCtx 0 u.dev).dr 0 ^^^ (getCtx 0 u.dev).sr) &&& 0xF80) = 0 ∧
    (((getCtx 0 (ab 0x80 0 0).dev).dr 1 ^^^ (getCtx 0 (ab 0x80 0 0).dev).sr) &&& 0xF80) ≠ 0 ∧
    Issues 0 0 (ab 0x80 0 0) ∧ 0 = 16 * (0 : Fin 17).val + 0 % 16 := by
  unfold Issues; decide +kernel

theorem witness_EventsAndTime :
    let p := svc (pe0 fun x => { x with pend := 1 })
    let h := svc fun d => wb (A.peCtrl 0) 1 true (pe0 id d)
    let d := svc (pe0 fun x => { x with sr := 0x100 })
    let w := svc fun d => putCtx 1 { ctxZero with state := .blocked, wait := .wfe 4 15 } (pe0 id d)
    let t := svc (pe0 fun x => { x with state := .blocked, wait := .timeBase 0 0 })
    Issues 0 0 p ∧ (getCtx 0 p.dev).pend &&& (15 : BitVec 4).toNat ≠ 0 ∧ Issues 0 0 (svc (pe0 id)) ∧
    (getCtx 0 (svc (pe0 id)).dev).pend = 0 ∧ Issues 0 0 h ∧ rb (A.peCtrl 0) 1 h.dev = true ∧
    dbgAccGranted h.dev = true ∧ Issues 0 0 d ∧ (getCtx 0 d.dev).det = true ∧ (getCtx 0 p.dev).det = false ∧
    Issues 0 0 w ∧ ctxKey 0 1 ≠ 0 ∧ (getCtx (ctxKey 0 1) w.dev).state = .blocked ∧
    (getCtx (ctxKey 0 1) w.dev).wait = .wfe 4 15 ∧ (getCtx (ctxKey 0 1) w.dev).pend &&& 15 = 0 ∧
    coreRuns 0 t.dev = true ∧ (getCtx 0 t.dev).wait = .timeBase 0 0 ∧ (tbNs 0 t.dev - 0).msb = false := by
  unfold Issues; decide +kernel

theorem witness_EventsAndTime_quantum :
    let q := svc fun d => { wf (A.peQuantum 0) 15 0 100 (pe0 id d) with now := 100 }
    let r := svc fun d => { wf (A.peQuantum 0) 15 0 100 (putCtx 1 { ctxZero with state := .ready } (pe0 id d)) with now := 100 }
    let h := svc fun d => putCtx 3 { ctxZero with state := .halted } d
    coreRuns 0 q.dev = true ∧ running 0 q.dev = some 0 ∧ rf (A.peQuantum 0) 15 0 q.dev ≠ 0 ∧
    (getCore 0 q.dev).quantumStart + rf (A.peQuantum 0) 15 0 q.dev ≤ q.dev.now ∧
    (∀ k ∈ ctxKeys 0, (getCtx k q.dev).state ≠ .ready) ∧
    running 0 r.dev = some 0 ∧ 1 ∈ ctxKeys 0 ∧ (getCtx 1 r.dev).state = .ready ∧
    (getCtx (ctxKey 0 3) h.dev).state = .halted := by
  decide +kernel

/-- A1 points at address a. -/
def ptr (a : Word) : State := svc (pe0 fun x => x.setA 1 a)

theorem witness_OwnRamLoadsAndStores :
    let s := ptr 0x0801FFF8
    Issues 0 0 s ∧ region ((getCtx 0 s.dev).ringAdd 1 0).toNat = .dram 0 ∧
    ((getCtx 0 s.dev).ringAdd 1 0).toNat % 8 = 0 ∧ bankReady 42 s.dev = true ∧
    badIn ((getCtx 0 s.dev).ringAdd 1 0).toNat 8 s.dev = none := by
  unfold Issues; decide +kernel

theorem witness_SharedLoadsAndStores :
    let s := ptr 0x04000004
    let a := ((getCtx 0 s.dev).ringAdd 1 0).toNat
    let l := svc (pe0 fun x => { x with state := .blocked, wait := .load 3 4 false 0x04000004 [] 0 })
    let st : Store := { addr := 0x04000004, data := [1, 2, 3, 4], seq := 0, cycle := 0, det := false, flow := none, par := false }
    let w := svc (pe0 fun x => { x with stores := [st] })
    Issues 0 0 s ∧ region a = .sram ∧ a % 4 = 0 ∧ banksReady a s.dev = true ∧ committed s.dev = true ∧
    (a - 0x04000000) / 0x80000 ≠ poolBank s.dev ∧
    coreRuns 0 l.dev = true ∧ (getCtx 0 l.dev).state = .blocked ∧ (getCtx 0 l.dev).wait = .load 3 4 false 0x04000004 [] 0 ∧
    badIn 0x04000004 4 l.dev = none ∧ earlierAccess 0 0x04000004 0 l.dev = false ∧
    (getCtx 0 w.dev).stores[0]? = some st ∧ region st.addr = .sram ∧ banksReady st.addr w.dev = true ∧
    earlierAccess 0 st.addr st.seq w.dev = false := by
  unfold Issues; decide +kernel

theorem witness_BlockMoves :
    let s := svc (pe0 fun x => (x.setA 1 0x04000020).setA 2 0x08010040)
    let x := getCtx 0 s.dev
    Issues 0 0 s ∧ region (x.ringAdd 2 0).toNat = .dram 0 ∧ (x.ringAdd 2 0).toNat % 32 = 0 ∧ bankReady 42 s.dev = true ∧
    region (x.ringAdd 1 0).toNat = .sram ∧ (x.ringAdd 1 0).toNat % 32 = 0 ∧ banksReady (x.ringAdd 1 0).toNat s.dev = true ∧
    ((x.ringAdd 1 0).toNat - 0x04000000) / 0x80000 ≠ poolBank s.dev ∧ badIn (x.ringAdd 2 0).toNat 32 s.dev = none ∧
    ((getCtx 0 (ptr 0x04000004).dev).ringAdd 1 0).toNat % 32 ≠ 0 := by
  unfold Issues; decide +kernel

theorem witness_CustomInstructions :
    let e := tabKey 1 0
    let s := svc fun d => at_ 0x08020000 [0, 0, 0, 0, 0, 0x14, 1, 0x1C] { pe0 id d with tabs := [(e, 0x80000000)] }
    let n := svc fun d => at_ 0x08020000 [0, 0, 0, 0, 0, 0, 0, 0xFC] { pe0 id d with tabs := [(e, 0x80000000)] }
    let micro := leNat (memBytes 0x08020000 8 s.dev)
    Issues 0 0 s ∧ bit (tabGet zeroDefault s.dev.tabs e) 31 = true ∧ 2 ^ 32 + e ∉ s.dev.badCfg ∧
    badIn 0x08020000 8 s.dev = none ∧ micro / 2 ^ 58 = 7 ∧ micro / 2 ^ 53 % 32 = 0 ∧ micro / 2 ^ 48 % 32 = 1 ∧
    micro / 2 ^ 43 % 32 = 2 ∧ micro.testBit 42 = true ∧
    Issues 0 0 n ∧ leNat (memBytes 0x08020000 8 n.dev) / 2 ^ 58 = 0x3F ∧
    Issues 0 0 (svc (pe0 id)) ∧ bit (tabGet zeroDefault (svc (pe0 id)).dev.tabs e) 31 = false := by
  unfold Issues; decide +kernel

/-! ## Instruction words, written field by field from R191 to R206 and R416 to R418 -/

/-- A word of format R. -/
def wR (op : BitVec 6) (rd rs rt fn : BitVec 4) (x : BitVec 10) : Word := op ++ rd ++ rs ++ rt ++ fn ++ x

theorem test_words_register :
    engineCommand 3 (wR 0x00 1 2 3 2 0) = .sub 3 1 2 3 ∧ engineCommand 3 (wR 0x00 0 2 3 8 0) = .cmp 3 2 3 ∧
    engineCommand 3 (wR 0x01 1 2 0 10 7) = .asri 3 1 2 7 ∧ engineCommand 3 (wR 0x02 1 2 0 1 0b0011100101) = .bfxu 3 1 2 5 7 ∧
    engineCommand 3 (wR 0x03 1 2 3 5 0) = .divu 3 1 2 3 ∧ engineCommand 3 (wR 0x04 9 1 0 3 40) = .acx 3 9 1 40 ∧
    engineCommand 3 (wR 0x05 1 9 0 2 3) = .crch 3 1 9 3 ∧ engineCommand 3 (wR 0x06 7 9 0 2 0) = .adda 3 7 9 ∧
    engineCommand 3 (wR 0x07 0 9 0 1 6) = .mts 3 6 9 ∧ engineCommand 3 (wR 0x07 0 4 0 8 0) = .doneFinish 3 4 ∧
    engineCommand 3 (wR 0x12 1 2 0 1 2) = .bmovl 3 1 2 false true ∧ engineCommand 3 (wR 0x1A 0 5 0 1 0) = .callr 3 5 ∧
    engineCommand 3 (wR 0x3E 2 1 2 0 0b0100000000) = .customInstruction 3 2 1 2 0 2 0 := by
  refine ⟨rfl, rfl, rfl, rfl, rfl, rfl, rfl, rfl, rfl, rfl, rfl, rfl, rfl⟩

theorem test_words_other_formats :
    engineCommand 3 (0x08#6 ++ 1#4 ++ 2#4 ++ 0#2 ++ 0xFFFE#16) = .addi 3 1 2 0xFFFE ∧
    engineCommand 3 (0x0E#6 ++ 1#4 ++ 0#4 ++ 1#2 ++ 0x8000#16) = .movhi 3 1 0x8000 ∧
    engineCommand 3 (0x10#6 ++ 4#4 ++ 5#3 ++ 1#2 ++ 1#2 ++ 1#1 ++ 0#3 ++ 0x7FE#11) = .ldhs 3 4 5 true 0x7FE ∧
    engineCommand 3 (0x11#6 ++ 4#4 ++ 5#3 ++ 0#2 ++ 3#2 ++ 0#1 ++ 0#3 ++ 8#11) = .std 3 4 5 false 8 ∧
    engineCommand 3 (0x18#6 ++ 0#1 ++ 0xB#4 ++ 0x1FFFFF#21) = .bcc 3 0xB 0x1FFFFF ∧
    engineCommand 3 (0x19#6 ++ 0#5 ++ 0x10#21) = .call 3 0x10 := by
  refine ⟨rfl, rfl, rfl, rfl, rfl, rfl⟩

/-- Chapter 7: the word of X2 D1, D2, A2. -/
theorem test_word_custom : engineWord (.customInstruction 3 2 1 2 0 2 0) = some 0xF8848100 := by decide

/-- R192-R194: a class bit, a must-be-0 field, a reserved FN, AM and OP, and a reserved store. -/
theorem test_words_illegal :
    ∀ w ∈ [wR 0x06 8 0 0 0 0, wR 0x00 1 2 3 8 0, wR 0x00 1 2 3 15 0, 0x10#6 ++ 4#4 ++ 5#3 ++ 2#2 ++ 17#17, wR 0x3F 0 0 0 0 0,
      0x11#6 ++ 4#4 ++ 5#3 ++ 0#2 ++ 1#3 ++ 0#14, 0xFFFFFFFF], engineCommand 3 w = .illegalInstruction 3 := by
  intro w h
  fin_cases h <;> rfl

/-- Chapter 16: the program of the slave on a parallel bus. -/
theorem test_words_pio_program :
    [Instr.pioUntilc 8 29 false 31 0, .pioMatch 8, .pioLook 8 16 none, .pioEmitl 8 15 true true, .pioGoto 8 1 8,
      .pioMatchi 8 5, .pioGoto 8 2 9, .pioSend 8, .pioDrve 8 1, .pioUntil 8 61 true 0, .pioEmite 8 15 false, .pioDrve 8 0,
      .pioGoto 8 0 0].map pioWord =
    [0x7BBF, 0x9800, 0xA810, 0x286F, 0xC828, 0xA005, 0xC849, 0x5800, 0x1001, 0x70BD, 0x200F, 0x1000, 0xC800].map some := by
  decide +kernel

theorem test_words_pio_illegal : pioLegal 0xC900 = false ∧ pioLegal 0x0001 = false ∧ pioLegal 0xC8FF = true := by decide

theorem witness_InstructionWords :
    let s := svc fun d => at_ 0x08000000 [0x00, 0x81, 0x84, 0xF8] (pe0 id d)
    engineOf (.doneSubmit 0 4) = some 0 ∧ engineWord (.doneSubmit 0 4) = some (wR 0x07 0 4 0 8 0).toNat ∧
    engineOf (.nop 0) = some 0 ∧ engineWord (.nop 0) = some (wR 0x07 0 0 0 4 0).toNat ∧ pioLegal 0xF800 = true ∧
    Issues 0 0 s ∧ fetchedCommand 0 s.dev = some (.customInstruction 0 2 1 2 0 2 0) := by
  refine ⟨rfl, rfl, rfl, rfl, rfl, ?_, rfl⟩
  unfold Issues; decide +kernel

theorem witness_ImageWrites :
    let s := svc fun d => { d with tabs := [(5, 0x40030000)] }
    let e := producer 5 s.dev
    powered s.dev = true ∧ s.dev.badCfg = [] ∧ s.dev.badPar = [] ∧ banksReady (0x06000000 + 8 * 5) s.dev = true ∧ banksReady (0x06020000 + 8 * 5) s.dev = true ∧
    prodKind e = 4 ∧ fld e 27 16 = 3 ∧ (rd A.memImgCycle s.dev : Word) ≠ 7 ∧ prodKind (producer 6 s.dev) ≠ 4 := by
  decide +kernel

theorem witness_CycleBoundary :
    let s := svc fun d => wb A.memImgCtrl 0 true d
    let n := svc fun d => wb A.memImgCtrl 0 true { d with img := { d.img with due := 1 } }
    let r := svc fun d => wf A.sysStrap 5 4 1 (wb A.mrdCtrl 0 true (wb A.memImgCtrl 0 true { d with
      now := 1, ntm := { d.ntm with counting := true }, mrd := { d.mrd with node := .active } }))
    role s.dev = 0 ∧ imageOn s.dev = true ∧ s.dev.img.due ≤ s.dev.now ∧ imageOn n.dev = true ∧ role n.dev = 0 ∧
    n.dev.now < n.dev.img.due ∧
    let o := { r.dev with mrd := { r.dev.mrd with opened := true } }
    r.dev.mrd.opened = false ∧ imageOn (acceptHeld r.dev) = true ∧ o.mrd.opened = true ∧ holdsTimeline o = true ∧
    role o ≠ 0 ∧ imageOn { o with mrd := { o.mrd with opened := false } } = true ∧
    role r.dev ≠ 0 ∧ imageOn r.dev = true ∧ holdsTimeline r.dev = true ∧ nextBound r.dev ≤ instant r.dev ∧
    remoteResetDue r.dev = false := by
  decide +kernel

theorem witness_DeviceResets :
    let s := svc fun d => { d with now := 800, sys := { d.sys with resetDue := some 800, diagDue := some 800 } }
    let w := svc fun d => { d with now := swdogPeriod Dev.reset, saf := { d.saf with swdogOn := true, swdogStart := 0 } }
    let p := boot .pll fun d => { d with sys := { d.sys with resetRank := some 2 } }
    let q := boot .pll fun d => { d with sys := { d.sys with resetRank := some 1 } }
    let e := svc fun d => wb A.safStat 0 true { d with now := 40000, sys := { d.sys with mode := .twilight, twCode := 0x41 } }
    sameReset s.dev = none ∧ sameReset w.dev = none ∧ sameReset e.dev = none ∧ sameReset p.dev = some 2 ∧
    sameReset q.dev = some 1 ∧ s.dev.sys.resetDue = some 800 ∧ s.dev.sys.diagDue = some 800 ∧ 800 ≤ s.dev.now ∧
    powered w.dev = true ∧ w.dev.saf.swdogOn = true ∧ w.dev.saf.swdogStart + swdogPeriod w.dev ≤ w.dev.now ∧
    e.dev.sys.mode = .twilight ∧ rb A.safStat 0 e.dev = true ∧ rb A.safStat 1 e.dev = false ∧
    e.dev.saf.decided + 40000 ≤ e.dev.now ∧ e.dev.sys.twCode < 256 ∧
    powered State.reset.dev = true ∧ (0x0D3A0001 : Word).toNat / 65536 = 0x0D3A ∧ bit (0x0D3A0001 : Word) 0 = true ∧
    State.reset.dev.sys.resetDue = none ∧ (0x0A5D0000 : Word).toNat / 65536 = 0x0A5D := by
  decide +kernel

/-- The header of a standalone image of 512 bytes and two records, with GENERATION gen and HDR_CRC crc. -/
def header (gen : Byte) (crc : Nat) : List Byte :=
  [0x45, 0x4C, 0x56, 0x41, 1, 0, 0x40, 0, 0, 2, 0, 0, 0, 0, 0, 0] ++ [0, 0, 0, 0, 0, 0, 2, 0, gen] ++
    List.replicate 35 0 ++ leBytes 4 crc

/-- A header of generation 1. -/
def header1 : List Byte := header 1 102450808

/-- A header of generation 2. -/
def header2 : List Byte := header 2 1380879036

/-- Bytes 0x40 on of an image of 512 bytes: a commit record at 300 and a signature record at 312. -/
def imageTail : List Byte :=
  List.replicate 236 0 ++ [0x0E, 0, 0, 0, 4, 0, 0, 0, 0, 0, 0, 0, 0x0F, 0, 1, 0, 192] ++ List.replicate 195 0

theorem witness_StartupPhases :
    let f := boot .flash id
    let a := slotHeader f.dev.flashA header1
    let b := slotHeader f.dev.flashB header2
    let i := boot .image fun d => { d with boot := { d.boot with hdr := header1, second := true } }
    let whole (bytes : List Byte) : Bool := tailOk (memPut 0x04800000
      (slice (i.dev.boot.hdr ++ slotBody (flashSlot i.dev.boot.slot i.dev) bytes) 0 (imgLen i.dev.boot.hdr)) i.dev)
    f.dev.sys.mode = .startup ∧ f.dev.boot.step = .flash ∧ header1.length = 64 ∧ rb A.sysStrap 0 f.dev = false ∧
    slotBFirst a b f.dev = true ∧ headerCode b (slotKey f.dev.flashB []) f.dev = 0 ∧ whole imageTail = true ∧
    whole [] = false ∧ i.dev.boot.second = true ∧ (boot .pll id).dev.sys.escalated = false ∧
    (boot .fuses id).fuses.life = 0 ∧ (({ burned := [fuseLc 4] } : Fuses).life = 5) := by
  decide +kernel

/-- A slot in the apply phase whose next record, at 64, is the bytes given. -/
def applies (bytes : List Byte) (f : Dev → Dev) : State :=
  boot .apply fun d => f (at_ 0x04800040 bytes { d with boot := { d.boot with hdr := header1, cursor := 64, second := true } })

theorem witness_AlmanacRecords :
    let c := (applies ([4, 0, 0, 0, 64, 0, 0, 0, 12]) id).dev
    let l := (applies ([2, 0, 0, 0, 16, 0, 0, 0, 1, 0, 0, 0, 0, 0, 0, 4, 0, 0, 0, 0, 1, 2, 3, 4]) id).dev
    let w := applies ([1, 0, 0, 0, 12, 0, 0, 0, 0x44, 0, 0, 0x10, 0, 0, 0, 0, 0, 0, 0, 0]) id
    let a := A.memImgIndAddr
    let x := applies ([2, 0, 0, 0, 16, 0, 0, 0, 2, 0, 0, 0] ++ leBytes 4 a ++ [0, 0, 0, 0, 0, 0, 0, 0x40]) id
    let b := (applies ([5, 0, 0, 0, 0, 0, 0, 0]) id).dev
    (recKind c = .claim ∧ recHeadOk c = true ∧ recLen c = 64 ∧ (recClaim c).owner ≤ 12 ∧ recNat 0x32 14 c = 0) ∧
    (recKind l = .direct ∧ recHeadOk l = true ∧ recLen l = 16 ∧ recNat 1 3 l = 0 ∧ recNat 8 4 l = 0 ∧
      ∀ i < max 1 (16 - 12), region (recNat 4 4 l + i) = .sram ∧ recNat 4 4 l + i < 0x04800000 ∧
        banksReady (recNat 4 4 l + i) l = true) ∧
    (recKind w.dev = .regs ∧ recHeadOk w.dev = true ∧ recLen w.dev % 12 = 0 ∧
      ∀ e ∈ recEntries w.dev, e.1 % 4 = 0 ∧ inWindow e.1 = true) ∧
    (recKind x.dev = .indirect ∧ recHeadOk x.dev = true ∧ recNat 1 3 x.dev = 0 ∧ isIndAddr (recNat 4 4 x.dev) = true) ∧
    (recKind b = .bad ∧ b.boot.second = true) ∧
    (let f : Fuses := { burned := [fuseKeySet] }
     let e := (applies ([3, 0, 0, 0, 36, 0, 0, 0, 0, 0, 0, 0, 0, 0, 0, 0, 0, 0, 0, 0, 4]) (wf A.secLc 31 29 1)).dev
     recKind e = .enc ∧ recHeadOk e = true ∧ 32 < recLen e ∧ recNat 12 4 e = recLen e - 32 ∧ f.imageKey ≠ none ∧
       lifeState e ≠ 0 ∧ e.boot.second = true) := by
  decide +kernel

/-- A slot whose commit record comes next, but for the bytes of its image. -/
def commitBase : Dev :=
  { Dev.reset with
    boot := { Dev.reset.boot with step := .apply, hdr := header1, cursor := 300 }
    tabs := [(0, 0x70000000), (1, 0x70000000)] }

/-- Its commit record and the header of its signature record. -/
def commitBytes : List Byte := [0x0E, 0, 0, 0, 4, 0, 0, 0] ++ leBytes 4 (configCrc commitBase).toNat ++ [0x0F, 0, 1, 0]

/-- A slot whose commit record carries its configuration CRC. -/
def commits : State := { State.reset with dev := at_ 0x0480012C commitBytes commitBase }

theorem commits_byte (i : Nat) (h : i < 16) : memByte (0x0480012C + i) commits.dev = commitBytes.getD i 0 := by
  have hl : commitBytes.length = 16 := rfl
  rw [show commits.dev = memPut 0x0480012C commitBytes commitBase from rfl, memByte_memPut _ _ _ _ (by omega),
    if_pos (by omega), Nat.add_sub_cancel_left]

theorem commits_nat (i n : Nat) (h : i + n ≤ 16) :
    stagedNat (300 + i) n commits.dev = leNat ((List.range n).map fun j => commitBytes.getD (i + j) 0) := by
  unfold stagedNat staged memBytes staging
  congr 1
  apply List.map_congr_left
  intro j hj
  rw [← commits_byte (i + j) (by have := List.mem_range.mp hj; omega)]
  congr 1
  omega

theorem leNat_leBytes4 (n : Nat) : leNat (leBytes 4 n) = n % 2 ^ 32 := by
  simp only [leBytes, leNat, BitVec.toNat_ofNat]
  omega

theorem commits_producers (g : Nat) : entryBad g (enterPhase 7 "P7" .apply commits.dev) = false := by
  by_cases h : g < 2
  · exact (show ∀ g < 2, entryBad g (enterPhase 7 "P7" .apply commits.dev) = false by decide +kernel) g h
  · have e : producer g (enterPhase 7 "P7" .apply commits.dev) = 0 := by
      show tabGet zeroDefault [(0, 0x70000000), (1, 0x70000000)] g = 0
      simp [tabGet, tabFind, zeroDefault, show g ≠ 0 by omega, show g ≠ 1 by omega]
    have f : fld (0#32) 27 16 = 0 ∧ fld (0#32) 31 28 = 0 := by decide
    simp [entryBad, e, f.1, f.2, indexRange, h]

theorem witness_CommitRecord :
    commits.dev.sys.mode = .startup ∧ commits.dev.boot.step = .apply ∧ committed commits.dev = false ∧
    commits.dev.sys.armDue = none ∧ recKind commits.dev = .commit ∧ recHeadOk commits.dev = true ∧
    recLen commits.dev = 4 ∧ commitIndexOk commits.dev = true ∧
    wholeImageCode (enterPhase 7 "P7" .apply commits.dev) = 0 ∧
    configCrc commits.dev = word (recNat 0 4 commits.dev) := by
  have t : recType commits.dev = 14 := commits_nat 0 1 (by decide)
  have l : recLen commits.dev = 4 := commits_nat 4 4 (by decide)
  have r : stagedNat 301 1 commits.dev = 0 := commits_nat 1 1 (by decide)
  have n : stagedNat 302 2 commits.dev = 0 := commits_nat 2 2 (by decide)
  have s1 : stagedNat 313 1 commits.dev = 0 := commits_nat 13 1 (by decide)
  have s2 : stagedNat 314 2 commits.dev = 1 := commits_nat 14 2 (by decide)
  have c : recNat 0 4 commits.dev = (configCrc commitBase).toNat := by
    refine (commits_nat 8 4 (by decide)).trans ((leNat_leBytes4 _).trans ?_)
    have := (configCrc commitBase).isLt
    omega
  have lim : commitPlace commits.dev = 300 ∧ imgLen commits.dev.boot.hdr = 512 ∧ inSection commits.dev = false ∧
      commits.dev.boot.cursor = 300 ∧ commits.dev.boot.index = 0 ∧ hdrNat commits.dev.boot.hdr 0x16 2 = 2 := by
    decide +kernel
  obtain ⟨p, g, i, k, x, h⟩ := lim
  refine ⟨rfl, rfl, by decide +kernel, rfl, ?_, ?_, l, ?_, ?_, ?_⟩
  · simp [recKind, t, i, p, k]
  · simp [recHeadOk, r, n, l, recLimit, i, t, g, k, x]
  · simp [commitIndexOk, s1, s2, h, x, k]
  · have q : producerBad (enterPhase 7 "P7" .apply commits.dev) = false := by
      rw [producerBad, List.any_eq_false.mpr fun g _ => by simp [commits_producers g]]
      decide +kernel
    have o : claimBad (enterPhase 7 "P7" .apply commits.dev) = false ∧
        rackBad (enterPhase 7 "P7" .apply commits.dev) = false := by decide +kernel
    simp [wholeImageCode, q, o.1, o.2]
  · rw [c, word]
    have hr : commits.dev.regs = commitBase.regs := rfl
    have ht : commits.dev.tabs = commitBase.tabs := rfl
    refine (configCrc_congr commits.dev commitBase ht fun a _ => by rw [rd, rd, hr]).trans ?_
    simp

theorem witness_CommitRecord_phase : crcPhase commits.dev = 0 := by decide +kernel

theorem witness_AlmanacRecords_applied :
    let w := (applies ([1, 0, 0, 0, 12, 0, 0, 0, 0x44, 0, 0, 0x10, 0, 0, 0, 0, 0, 0, 0, 0]) id).dev
    let applied := (recEntries w).foldl (fun d e =>
      let m := e.2.1 &&& ~~~(liveBits e.1)
      let r := readReg 0 0 e.1 d
      writeReg 0 0 e.1 ((r.1 &&& ~~~m) ||| (e.2.2 &&& m)) ⟨[]⟩ r.2) w
    let x := (applies ([2, 0, 0, 0, 16, 0, 0, 0, 2, 0, 0, 0] ++ leBytes 4 A.memImgIndAddr ++ [0, 0, 0, 0, 0, 0, 0, 0x40]) id).dev
    let loaded := writeReg 0 0 (A.memImgIndAddr + 4) (word (recNat 12 4 x)) ⟨[]⟩ (indComplete A.memImgIndAddr
      (writeReg 0 0 A.memImgIndAddr (word (recNat 8 4 x)) ⟨[]⟩ x))
    (recEntries w).length = 1 ∧ applied.sys.mode = .startup ∧ applied.boot.step = .apply ∧
    rackLoad A.memImgIndAddr (recNat 8 4 x) (recBytes 12 4 x) x = x ∧ recLen x = 16 ∧
    loaded.sys.mode = .startup ∧ loaded.boot.step = .apply := by
  decide +kernel

theorem witness_CommitAndSweeps :
    let s := boot .pll id
    let a := boot .pll fun d => { d with now := 64, sys := { d.sys with armDue := some 64 } }
    let l := boot .pll fun d => { d with now := 65, sys := { d.sys with armDue := some 64 } }
    let p := svc (wf A.almCrcStat 5 4 2)
    let q := svc (wf A.almCrcStat 5 4 1)
    let r := svc fun d => wf A.secLc 31 29 2 { d with boot := { d.boot with hdr := List.replicate 12 0 ++ [64] } }
    powered s.dev = true ∧ committed s.dev = false ∧ s.dev.sys.armDue = none ∧
    ¬(s.dev.sys.mode = .startup ∧ s.dev.boot.step = .apply) ∧ (0x0E1A0002 : Word) ≠ 0x0E1A0001 ∧
    a.dev.sys.armDue = some 64 ∧ a.dev.now ≤ 64 ∧ committed a.dev = false ∧ powered a.dev = true ∧
    l.dev.sys.armDue = some 64 ∧ 64 < l.dev.now ∧ powered l.dev = true ∧ committed l.dev = false ∧
    ¬(l.dev.sys.mode = .startup ∧ l.dev.boot.step = .apply) ∧ crcPhase (svc (wf A.almCrcStat 5 4 3)).dev = 3 ∧
    crcPhase s.dev = 0 ∧ s.dev.sys.sweepForCommit = false ∧
    powered p.dev = true ∧ crcPhase p.dev = 2 ∧ rb A.almCrcCtrl 0 p.dev = false ∧ rb A.safStat 0 p.dev = false ∧
    powered q.dev = true ∧ crcPhase q.dev = 1 ∧
    inService r.dev = true ∧ lifeState r.dev = 2 ∧ r.fuses.rollback < hdrNat r.dev.boot.hdr 0x0C 2 ∧
    hdrNat r.dev.boot.hdr 0x0C 2 ≤ 64 := by
  decide +kernel

/-- A register that the sweep leaves out can hold the reference, or another value. -/
theorem sweep_finds (d : Dev) (n : Nat) (h : crcPhase d = n ∧ rb A.almCrcCtrl 0 d = false ∧ rb A.safStat 0 d = false) :
    ∃ v w, configCrc (wr A.almCrcRef v d) = rd A.almCrcRef (wr A.almCrcRef v d) ∧
      configCrc (wr A.almCrcRef w d) ≠ rd A.almCrcRef (wr A.almCrcRef w d) ∧
      ∀ x, crcPhase (wr A.almCrcRef x d) = n ∧ rb A.almCrcCtrl 0 (wr A.almCrcRef x d) = false ∧
        rb A.safStat 0 (wr A.almCrcRef x d) = false := by
  have m : A.almCrcRef ∈ crcFree := by decide
  refine ⟨configCrc d, configCrc d + 1, by rw [configCrc_wr _ _ _ m, rd_wr_same], ?_, fun x => ?_⟩
  · rw [configCrc_wr _ _ _ m, rd_wr_same]
    intro e
    have := congrArg (fun w => w - configCrc d) e
    simp at this
  · simp only [crcPhase, rf, rb, rd_wr_ne x d (show A.almCrcStat ≠ A.almCrcRef by decide),
      rd_wr_ne x d (show A.almCrcCtrl ≠ A.almCrcRef by decide), rd_wr_ne x d (show A.safStat ≠ A.almCrcRef by decide)]
    exact h

/-- A sweep finds the reference, or does not: in the test phase, and in the wake sequence from RETAIN. -/
theorem witness_Sweep :
    (∃ d e : Dev, configCrc d = rd A.almCrcRef d ∧ configCrc e ≠ rd A.almCrcRef e ∧ ∀ x, x = d ∨ x = e →
      powered x = true ∧ crcPhase x = 2 ∧ rb A.almCrcCtrl 0 x = false ∧ rb A.safStat 0 x = false) ∧
    (∃ d e : Dev, configCrc d = rd A.almCrcRef d ∧ configCrc e ≠ rd A.almCrcRef e ∧ ∀ x, x = d ∨ x = e →
      x.sys.mode = .retain ∧ crcPhase x = 3 ∧ rb A.safStat 0 x = false) := by
  constructor
  · obtain ⟨v, w, hv, hw, h⟩ := sweep_finds (svc (wf A.almCrcStat 5 4 2)).dev 2 (by decide +kernel)
    refine ⟨_, _, hv, hw, fun x hx => ?_⟩
    have k (y : Word) : powered (wr A.almCrcRef y (svc (wf A.almCrcStat 5 4 2)).dev) = true := by
      have : powered (svc (wf A.almCrcStat 5 4 2)).dev = true := by decide +kernel
      exact this
    rcases hx with rfl | rfl <;> exact ⟨k _, h _⟩
  · let d := (svc fun d => wf A.almCrcStat 5 4 3 { d with sys := { d.sys with mode := .retain } }).dev
    obtain ⟨v, w, hv, hw, h⟩ := sweep_finds d 3 (by decide +kernel)
    refine ⟨_, _, hv, hw, fun x hx => ?_⟩
    rcases hx with rfl | rfl <;> refine ⟨?_, (h _).1, (h _).2.2⟩ <;> simp only [wr_sys] <;> decide +kernel

/-- The responder in Twilight with the line or the command given. -/
def diag (line : List Char) (cmd : Option (List Char)) : State :=
  svc fun d => { d with sys := { d.sys with mode := .twilight, romLoop := true, diagLine := line, diagCmd := cmd } }

theorem witness_DiagWords :
    String.ofList ['I', 'D'] ∈ ["ID", "ST", "HS", "LOG", "IMG", "RD", "RST"] ∧
    String.ofList ['N', 'O'] ∉ ["ID", "ST", "HS", "LOG", "IMG", "RD", "RST"] ∧
    ∀ c ∈ ['I', 'D'], c ≠ ' ' :=
  ⟨by decide, by decide, by simp⟩

theorem witness_DiagResponder :
    let full := diag (List.replicate 64 'A') none
    (diag [] none).dev.sys.mode = .twilight ∧ (diag [] none).dev.sys.romLoop = true ∧ (65 : Byte) ≠ 13 ∧
    (diag (List.replicate 63 'A') none).dev.sys.diagLine.length < 64 ∧ 64 ≤ full.dev.sys.diagLine.length ∧
    (diag ['I', 'D'] none).dev.sys.diagLong = false ∧
    (diag [] (some ['I', 'D'])).dev.sys.diagCmd = some ['I', 'D'] ∧ hexParse ['F'] = some 15 ∧
    hexParse ['1', '0'] = some 16 ∧ hexParse ['3', 'F', 'F', 'F'] = some 16383 ∧
    hexParse ['4', '0', '0', '0'] = some 16384 ∧ hexParse ['g'] = none ∧ hexParse ['2'] = some 2 ∧
    lifeKnown (svc fun d => { d with boot := { d.boot with step := .done } }).dev = true ∧ lifeState (svc id).dev ≤ 1 ∧
    1 < lifeState (svc (wf A.secLc 31 29 2)).dev ∧ (diag [] none).dev.sys.diagDue = none ∧
    (diag [] none).dev.sys.mode = .twilight ∧ (svc id).dev.sys.mode ≠ .twilight := by
  decide +kernel

/-- A staged image of GENERATION 2 at SRC with the device's own image of generation gen. -/
def staged2 (gen : Byte) (crc : Nat) : State :=
  svc fun d => at_ 0x04000000 header2 (wr A.almUpdSrc 0x04000000 (wr A.almUpdLen 512
    { d with boot := { d.boot with hdr := header gen crc } }))

theorem witness_FieldUpdate :
    let d := (staged2 1 102450808).dev
    let h := memBytes 0x04000000 64 d
    let b (u : UpdStep) : State := svc fun d => { d with boot := { d.boot with upd := u } }
    (svc id).dev.boot.slot = false ∧ d.sys.mode = .service ∧ rb A.almUpdStat 0 d = false ∧ rd A.almUpdSrc d = 0x04000000 ∧ rd A.almUpdLen d = 512 ∧
    stagedOk 0x04000000 512 d = true ∧ hdrFormat h d = 0 ∧ imgLen h = 512 ∧ rollbackBad true h d = false ∧
    imageKeyOk h (memBytes (0x04000000 + 512 - 192) 96 d) d = true ∧ hdrNat d.boot.hdr 0x18 4 < hdrNat h 0x18 4 ∧
    hdrNat h 0x18 4 ≤ hdrNat (staged2 2 1380879036).dev.boot.hdr 0x18 4 ∧ stagedOk 0x04000002 512 d = false ∧
    (svc id).dev.boot.upd = .idle ∧ (b .erase).dev.boot.upd = .erase ∧ (b .program).dev.boot.upd = .program ∧
    (b .header).dev.boot.upd = .header ∧ rb A.almUpdStat 0 (svc (wb A.almUpdStat 0 true)).dev = true := by
  decide +kernel

theorem witness_PowerRequests :
    let t := svc (wb A.sysPwrStat 4 true)
    let z := svc (wf A.sysPwrStat 2 0 1)
    let e (v : Nat) : State := svc fun d => wb (A.ethCtrl 3) 12 (v == 1) (wb (A.ethCtrl 3) 15 true d)
    let r := svc fun d => wb A.memImgCtrl 0 true (wb A.mrdCtrl 0 true <| wf A.sysStrap 5 4 1 { d with mrd := { d.mrd with node := .active } })
    powered (svc id).dev = true ∧ rb A.safStat 0 (svc id).dev = false ∧ rb (A.ethCtrl 3) 15 (e 0).dev = true ∧
    ethRgmii 3 (e 0).dev = false ∧ rb (A.ethCtrl 3) 15 (e 1).dev = true ∧ ethRgmii 3 (e 1).dev = true ∧
    rb A.sysPwrStat 4 t.dev = true ∧ (5 : Fin 20).val ∉ [0, 17, 18] ∧ (17 : Fin 20).val ∈ [0, 17, 18] ∧
    (svc id).dev.sys.mode = .service ∧ rb A.sysPwrStat 4 (svc id).dev = false ∧ inDoze (svc id).dev = false ∧
    rf A.secLc 11 9 (svc id).dev < 2 ∧ inDoze z.dev = true ∧ rackBoundaries (svc id).dev = false ∧
    rackBoundaries r.dev = true ∧
    (0 : BitVec 7).toNat ||| ((1 : BitVec 7).toNat &&& (svc id).dev.sys.clkBad) = 0 ∧
    (1 : BitVec 7).toNat ||| ((0 : BitVec 7).toNat &&& (svc id).dev.sys.clkBad) ≠ 0 := by
  decide +kernel

theorem witness_RetainAndOff :
    let tr (off : Bool) : State := svc fun d => { d with sys := { d.sys with trans := some ⟨off, true, false, none⟩ } }
    let ret (m : Mode) (w : Option Nat) : State := svc fun d => wb A.sysWakeEn 2 true { d with sys := { d.sys with mode := m, retWake := w } }
    let tmr := svc fun d => wr A.sysWakeTmr 1 (wf A.sysPwrStat 2 0 1 { d with now := 400000 })
    (tr false).dev.sys.trans = some ⟨false, true, false, none⟩ ∧ (tr true).dev.sys.trans = some ⟨true, true, false, none⟩ ∧
    rb A.sysWakeEn 0 (svc id).dev = true ∧ rb A.sysWakeEn 0 (svc (wb A.sysWakeEn 0 false)).dev = false ∧
    inDoze (svc (wf A.sysPwrStat 2 0 1)).dev = true ∧ (svc id).dev.sys.trans = none ∧
    rb A.sysWakeEn 1 (svc (wb A.sysWakeEn 1 true)).dev = true ∧ rd A.sysWakeTmr tmr.dev ≠ 0 ∧ inDoze tmr.dev = true ∧
    tmr.dev.sys.entryTime + (rd A.sysWakeTmr tmr.dev).toNat * 400000 ≤ tmr.dev.now ∧
    rb A.sysWakeEn 2 (ret .retain none).dev = true ∧ (ret .retain none).dev.sys.retWake = none ∧
    (ret .off none).dev.sys.mode = .off ∧ (ret .retain (some 1)).dev.sys.mode = .retain ∧
    (ret .retain (some 1)).dev.sys.retWake = some 1 ∧ rb A.secTampLog 31 (ret .retain (some 1)).dev = false ∧
    (let d := wb A.secTampLog 31 true (ret .retain (some 1)).dev
     rb A.secTampLog 31 d = true ∧ d.sys.mode = .retain ∧ d.sys.retWake = some 1 ∧ crcPhase d ≠ 3) ∧
    sameReset (ret .off (some 1)).dev = none ∧
    crcPhase (ret .retain (some 1)).dev ≠ 3 ∧ (ret .off (some 1)).dev.sys.retWake = some 1 := by
  decide +kernel

theorem witness_BankPower :
    let e := svc fun d => wb (A.peCtrl 0) 0 true d
    let p := svc fun d => { d with sys := { d.sys with bankPend := [58] } }
    e.dev.sys.mode = .service ∧ State.reset.dev.sys.mode ≠ .service ∧ powered State.reset.dev = true ∧
    powered e.dev = true ∧ 16 * 2 + 10 < 59 ∧ rb (A.peCtrl 0) 0 e.dev = true ∧ rb (A.peCtrl 1) 0 e.dev = false ∧
    fld (0x00200000 : Word) (2 * 10 + 1) (2 * 10) = 2 ∧ fld (0x00100000 : Word) (2 * 10 + 1) (2 * 10) = 1 ∧
    fld (0x00300000 : Word) (2 * 10 + 1) (2 * 10) = 3 ∧ fld (0 : Word) (2 * 10 + 1) (2 * 10) = 0 ∧ 58 ∈ p.dev.sys.bankPend ∧
    rb (A.sysBankRdy 1) 10 e.dev = true := by
  decide +kernel

theorem witness_RegisterWrites :
    let u := svc (pe0 id)
    let s := svc (pe0 fun x => { x with sr := 0x80 })
    powered State.reset.dev = true ∧ 0x10000000 ≤ 0x10000001 ∧ 0x1000FFFF < 0x10010000 ∧ 0x1000FFFF % 4 ≠ 0 ∧
    (1 : Word).toNat / 2 = (rd A.sysPwrCfg State.reset.dev).toNat / 2 ∧
    (10 : Word).toNat / 65536 = (rd A.schStatWin State.reset.dev).toNat / 65536 ∧
    masterCore 1 = 0 ∧ keyOf 0 0 = 0 ∧ keyOf (masterCore 0) 5 = supKey ∧ running 0 u.dev = some 0 ∧
    (getCtx 0 u.dev).sys = false ∧ running 0 s.dev = some 0 ∧ (getCtx 0 s.dev).sys = true ∧ committed s.dev = true ∧
    committed State.reset.dev = false := by
  decide +kernel

theorem witness_IndirectTables :
    let b := svc fun d => { d with inds := [(A.memImgIndAddr, ⟨5, true⟩), (A.schFlowIndAddr, ⟨5, true⟩)] }
    let p := svc (wf A.pioPinIndAddr 13 0 128)
    powered b.dev = true ∧ (getInd A.memImgIndAddr b.dev).busy = true ∧ (getInd A.memImgIndAddr (svc id).dev).busy = false ∧
    (getInd A.schFlowIndAddr b.dev).busy = true ∧ (getInd A.schFlowIndAddr (svc id).dev).busy = false ∧
    b.dev.badCfg = [] ∧ tabFind b.dev.swc.held (tabKey 0 0) = none ∧ committed b.dev = true ∧
    committed State.reset.dev = false ∧ (getInd A.memImgIndAddr State.reset.dev).busy = false ∧
    (getInd A.pioPinIndAddr p.dev).busy = false ∧ 128 ≤ rf A.pioPinIndAddr 13 0 p.dev := by
  decide +kernel

theorem witness_ConfigurationGuards :
    powered (svc id).dev = true ∧ rb A.safStat 0 (svc id).dev = false ∧ (svc id).dev.badCfg = [] ∧
    (regAt A.sysWakeTmr).any (fun p => p.2.1.rw ≠ 0 ∨ p.2.1.rwl ≠ 0) = true ∧
    isIndData (A.memImgIndAddr + 4) = true ∧ (unitOf (A.memImgIndAddr + 4)).isSome = true ∧
    tableAt A.memImgIndAddr (16383 / 65536) (16383 % 16384) = some (0, 16383) ∧ tabRwl 0 16383 ≠ 0 ∧
    (svc id).dev.sys.mode = .service := by
  decide +kernel

theorem witness_ScrubberAndVault :
    let g := svc fun d => { d with sys := { d.sys with romLoop := true } }
    let w := svc (wb A.memVaultStat 0 true)
    powered g.dev = true ∧ scrubRows 31 0 ≠ 0 ∧ scrubRows 63 0 = 0 ∧ bankReady 31 g.dev = true ∧ g.dev.badPar = [] ∧
    rb A.safStat 0 g.dev = false ∧ rb A.memParLog0 31 g.dev = false ∧
    rb A.memParLog0 31 (svc (wb A.memParLog0 31 true)).dev = true ∧
    (0x0B7E0001 : Word).toNat / 65536 = 0x0B7E ∧ bit (0x0B7E0001 : Word) 0 = true ∧ secureMode g.dev = true ∧
    rb A.memVaultStat 0 g.dev = false ∧ rb A.memVaultStat 0 w.dev = true ∧ bankReady 40 w.dev = true ∧ scrubRows 40 0 ≠ 0 ∧
    bankReady 40 g.dev = true := by
  decide +kernel

/-- Mailbox n with CFG c and, where full, an unread word. -/
def mbx (n : Nat) (c : Word) (full : Bool) : State := svc fun d => wb (A.mbxFull (n / 32)) (n % 32) full (wr (A.mbxCfg n) c d)

/-- An item of flow 3 that became ready first. -/
def item3 : Item :=
  { src := 0, flow := 3, icyc := 0, bts := 0, fseq := 0, epoch := 0, arg := 0, token := false, entry := 5, hops := 0
    headLen := 0, len := 0, buf := 0, ts := 0, head := [], ready := 0, rank := 0, src0 := 0, link := 0 }

/-- Flow 3 is enabled for the engines of `group` with the word 1 given, and Dispatch with the queues q serves. -/
def flows (group w1 : Word) (q : Dsp → Dsp) (d : Dev) : Dev :=
  wb A.schCtrl 0 true { d with
    dsp := q d.dsp
    tabs := [(tabKey 17 12, 0x80000000 + group), (tabKey 17 13, w1)] }

/-- Item 3 in service of context 0 of engine 0, in the state given. -/
def serves (taken prefetched : Bool) (st : SvcState) : InSvc := ⟨item3, 0, 0, taken, prefetched, 0, st, 0, 0, 0⟩

theorem witness_MailboxesAndLocks :
    let open_ := mbx 0 0xF800 false
    let own := mbx 56 0 true
    let post := svc fun d => wb A.schCtrl 0 true (wr (A.mbxCfg 48) 0x8000F800 d)
    let held := svc fun d => { d with locks := [(7, ⟨1, 2⟩)] }
    let just := svc fun d => { d with lockRel := [(7, ⟨1, d.now⟩)] }
    (rf (A.mbxCfg 0) 15 11 open_.dev = 31 ∧ powered open_.dev = true) ∧
    (rf (A.mbxCfg 56) 15 11 own.dev = 0 ∧ rf (A.mbxCfg 56) 10 6 own.dev = 0 ∧ rb (A.mbxFull 1) 24 own.dev = true) ∧
    rb (A.mbxFull 1) 24 (mbx 56 0 false).dev = false ∧
    (rf (A.mbxCfg 3) 15 11 (mbx 3 0x8800 false).dev = 17 ∧ rf (A.mbxCfg 3) 10 6 (mbx 3 0x8800 false).dev = 0) ∧
    (rb (A.mbxCfg 48) 31 post.dev = true ∧ rf (A.mbxCfg 48) 15 11 post.dev = 31 ∧ post.dev.sys.mode = .service ∧
      rb A.schCtrl 0 post.dev = true ∧ post.dev.dsp.arrival.length < 16 ∧ post.dev.dsp.waiting = []) ∧
    (rb (A.mbxCfg 55) 31 (mbx 55 0xF800 false).dev = false ∧ rf (A.mbxCfg 55) 15 11 (mbx 55 0xF800 false).dev = 31) ∧
    (lockOwner 7 held.dev = some ⟨1, 2⟩ ∧ lockOwner 7 just.dev = none ∧ justReleased 7 just.dev ≠ none ∧
      lockOwner 7 (svc id).dev = none ∧ justReleased 7 (svc id).dev = none ∧ fld (0x102 : Word) 12 8 = 1 ∧
      fld (0x102 : Word) 3 0 = 2) := by
  decide +kernel

theorem witness_MailboxesAndLocks_engine :
    let u := svc (pe0 id)
    let s := svc (pe0 fun x => { x with sr := 0x80 })
    let d := svc (pe0 fun x => { x with sr := 0x180 })
    keyOf (masterCore 1) 0 = 0 ∧ running (1 - 1) u.dev = some 0 ∧ running (masterCore 1) u.dev = some 0 ∧
    (getCtx 0 u.dev).sys = false ∧ (getCtx 0 s.dev).sys = true ∧ (getCtx 0 s.dev).det = false ∧
    running (masterCore 1) d.dev = some 0 ∧ (getCtx 0 d.dev).sys = true ∧ (getCtx 0 d.dev).det = true := by
  decide +kernel

theorem witness_EngineControl :
    let s := svc fun d => wr (A.peCtrl 4) 0x1000 d
    let e := svc fun d => wr (A.peCtrl 4) 0x3001 d
    let x := svc fun d => { pe0 id (wf (A.peWdog 0) 8 0 10 d) with now := 4000 }
    bit (rd (A.peCtrl 4) s.dev) 0 = false ∧ bit (rd (A.peCtrl 4) s.dev) 12 = true ∧ committed s.dev = true ∧
    bit (rd (A.peCtrl 4) e.dev) 0 = true ∧ (0x0C7A0003 : Word).toNat / 65536 = 0x0C7A ∧
    (0x0A7D0000 : Word).toNat / 65536 = 0x0A7D ∧ (5 : Fin 20).val = (4 : Fin 16).val + 1 ∧
    coreRuns 0 x.dev = true ∧ committed x.dev = true ∧ rb A.safStat 0 x.dev = false ∧ rf (A.peWdog 0) 8 0 x.dev = 10 ∧
    (getCore 0 x.dev).wdogStart + 400 * rf (A.peWdog 0) 8 0 x.dev ≤ x.dev.now := by
  decide +kernel

theorem witness_GetDoneMbwait :
    let h (taken prefetched : Bool) : State :=
      svc fun d => pe0 id { d with dsp := { d.dsp with insvc := [serves taken prefetched .serving] } }
    let w := mbx 9 0 true
    let b := svc fun d => pe0 (fun x => { x with state := .blocked, wait := .mbTest 4 9 true }) d
    let b' := { w with dev := pe0 (fun x => { x with state := .blocked, wait := .mbTest 4 9 true }) w.dev }
    Issues 0 0 (svc (pe0 id)) ∧ heldItem 0 0 (svc (pe0 id)).dev = none ∧
    Issues 0 0 (h true true) ∧ heldItem 0 0 (h true true).dev = some (serves true true .serving) ∧
    Issues 0 0 (h false false) ∧ heldItem 0 0 (h false false).dev = some (serves false false .serving) ∧
    Issues 0 0 (h false true) ∧ heldItem 0 0 (h false true).dev = some (serves false true .serving) ∧
    fld ((getCtx 0 (h true true).dev).dr 1) 31 30 ≠ 3 ∧
    Issues 0 0 (ab 56 0 0) ∧ ((getCtx 0 (ab 56 0 0).dev).dr 1).toNat % 64 = 56 ∧
    coreRuns 0 b.dev = true ∧ (getCtx 0 b.dev).state = .blocked ∧ (getCtx 0 b.dev).wait = .mbTest 4 9 true ∧
    (getCtx 0 b.dev).stores = [] ∧ mbxFullBit 9 b.dev = false ∧ mbxFullBit 0 b.dev = false ∧
    coreRuns 0 b'.dev = true ∧ mbxFullBit 9 b'.dev = true := by
  unfold Issues; decide +kernel

theorem witness_ArrivalReadinessAndAssignment :
    let s := svc (flows 1 0 id)
    let off := svc id
    let full := svc (flows 1 0 fun q => { q with arrival := List.replicate 16 item3 })
    let wait := svc (flows 1 0 fun q => { q with waiting := [item3], arrival := List.replicate 15 item3 })
    let arr := svc (flows 1 1 fun q => { q with arrival := [item3] })
    let over_ := svc (flows 1 1 fun q => { q with arrival := [item3], ready := [item3] })
    let pool := svc (flows 1 1 fun q => { q with arrival := [item3], used := List.range 4096 })
    let cand := svc fun d => wr (A.schCtxEn 0) 1 (pe0 id (flows 1 0 (fun q => { q with ready := [item3] }) d))
    (rb A.schCtrl 0 s.dev = true ∧ s.dev.dsp.arrival.length < 16 ∧ s.dev.dsp.waiting = []) ∧
    (rb A.schCtrl 0 off.dev = false ∧ rb A.schTraceCtrl 31 off.dev = false) ∧ full.dev.dsp.arrival.length = 16 ∧
    (wait.dev.dsp.waiting = [item3] ∧ wait.dev.dsp.arrival.length < 16 ∧ item3.link = 0) ∧
    (dspOn arr.dev = true ∧ item3.token = false ∧ item3.src0 = 0 ∧ arr.dev.dsp.used.length ≠ 4096 ∧
      flowEn 3 arr.dev = true ∧ flowWaiting 3 arr.dev + 1 ≤ flowQmax 3 arr.dev ∧ 5 ∉ arr.dev.dsp.used ∧
      banksReady (poolAddr 5 arr.dev) arr.dev = true) ∧
    (dropsAt item3 over_.dev = true ∧ over_.dev.dsp.used.length ≠ 4096 ∧ dspOn over_.dev = true) ∧
    (pool.dev.dsp.used.length = 4096 ∧ dspOn pool.dev = true) ∧
    (dspOn cand.dev = true ∧ inDoze cand.dev = false ∧ rb A.schTraceCtrl 31 cand.dev = false ∧
      item3 ∈ cand.dev.dsp.ready ∧ eligible item3 cand.dev = true ∧ (flowGroup 3 cand.dev).testBit 0 = true ∧
      ctxFree 0 0 cand.dev = true) ∧
    (let one := { cand.dev with dsp := { cand.dev.dsp with assignedAt := cand.dev.now + 1 } }
     cand.dev.dsp.assignedAt ≠ cand.dev.now + 1 ∧ one.dsp.assignedAt = one.now + 1) ∧
    (let sys := svc fun d => pe0 (fun x => { x with sr := 0x80 }) (flows 1 0 id d)
     let stop := svc fun d => { d with dsp := { d.dsp with waiting := [item3] } }
     (getCtx (keyOf (masterCore 1) 0) sys.dev).sys = true ∧ (getCtx (keyOf (masterCore 1) 0) sys.dev).stores = [] ∧
       earlierAccess 0 A.schPost (getCore 0 sys.dev).storeSeq sys.dev = false ∧
       stop.dev.dsp.waiting = [item3] ∧ rb A.schCtrl 0 stop.dev = false ∧ rb A.schTraceCtrl 31 stop.dev = false) ∧
    dspOn off.dev = false := by
  decide +kernel

theorem witness_SlotsAndRelease :
    let w (st : SvcState) (f : Dev → Dev) : State := svc fun d =>
      f (pe0 (fun x => { x with state := .blocked, wait := .get 4 })
        (flows 1 0x00010000 (fun q => { q with insvc := [serves true false st] }) d))
    let late := w .serving fun d => { d with now := 40 }
    let st1 : Store := { addr := 0x04000004, data := [1], seq := 0, cycle := 0, det := false, flow := none, par := false }
    let busy := w .revoked fun d => modCtx 0 (fun x => { x with stores := [{ st1 with seq := 0 }] }) d
    let fresh := svc fun d => pe0 id (flows 1 0x00010000 (fun q => { q with insvc := [serves false false .serving] })
      { d with now := 40 })
    let token := svc fun d => pe0 id (flows 1 0 (fun q =>
      { q with insvc := [{ serves false false .serving with item := { item3 with token := true } }] }) d)
    rb A.schTraceCtrl 31 (w .serving id).dev = false ∧
    (let d := fresh.dev
     heldItem 0 0 d = some (serves false false .serving) ∧ d.sys.mode = .service ∧ bankReady 42 d = true ∧
       (∀ r ∈ [0, 32, 64], banksReady (poolAddr 5 d + r) d = true) ∧ badIn (poolAddr 5 d) 96 d = none ∧
       dspOn d = true ∧ inDoze d = false ∧ flowTmo 3 d = 40 ∧ 0 + 0 + flowTmo 3 d ≤ d.now / 40 * 40 ∧
       flowWaiting 3 d + 1 ≤ flowQmax 3 d) ∧
    ((heldItem 0 0 token.dev).any (fun i => i.item.token && !i.prefetched) = true ∧ bankReady 42 token.dev = true) ∧
    ((getCtx (ctxKey 0 0) (w .serving id).dev).state = .blocked ∧ (getCtx (ctxKey 0 0) (w .serving id).dev).wait = .get 4) ∧
    (∀ act < 2, let d := (w (.done act 3) id).dev
      d.dsp.insvc.find? (fun i => releasable 0 0 i d) = some (serves true false (.done act 3)) ∧ d.sys.mode = .service) ∧
    (w .serving id).dev.dsp.insvc.find? (fun i => releasable 0 0 i (w .serving id).dev) = none ∧
    flowEn 3 (w (.done 1 3) id).dev = true ∧ flowWaiting 3 (w (.done 1 3) id).dev + 1 ≤ flowQmax 3 (w (.done 1 3) id).dev ∧
    item3.hops < 15 ∧ item3.src0 = 0 ∧
    dspOn late.dev = true ∧ inDoze late.dev = false ∧ flowTmo 3 late.dev = 40 ∧ 0 + 0 + flowTmo 3 late.dev ≤ late.dev.now / 40 * 40 ∧
    heldItem 0 0 late.dev = some (serves true false .serving) ∧ late.dev.dsp.orphans.length < 64 ∧
    (w .revoked id).dev.dsp.insvc.find? (fun i => i.core = 0 && i.ctx = 0 && i.state = .revoked) =
      some (serves true false .revoked) ∧ storesDone 0 0 0 (w .revoked id).dev = true ∧
    storesDone 0 0 1 busy.dev = false := by
  decide +kernel

theorem witness_OrphansAndObservation :
    let o : Orphan := ⟨1, 0, 0, false, 5⟩
    let s := svc (flows 1 0 fun q => { q with orphans := [o], orphaned := [item3] })
    let l := svc fun d => { d with now := statWindow d }
    powered s.dev = true ∧ s.dev.dsp.orphans = [o] ∧ (svc id).dev.dsp.orphans = [] ∧ s.dev.dsp.orphaned = [item3] ∧
    item3.token = false ∧ item3.entry = 5 ∧ item3.src0 = 0 ∧ flowWaiting 3 s.dev + 1 ≤ flowQmax 3 s.dev ∧
    (svc id).dev.now < (svc id).dev.dsp.winStart + statWindow (svc id).dev ∧
    l.dev.dsp.winStart + statWindow l.dev ≤ l.dev.now := by
  decide +kernel

theorem witness_TimeBaseAdjustment :
    let w := svc fun d => wf A.sysStrap 5 4 1 d
    let sl := svc fun d => wb (A.ntmTb 1 0x38) 0 true d
    let c : StepCmd := { op := 1, sec := 5, ns := 7, ofs := 0, due := 4 }
    let st (now op : Nat) : State := svc fun d =>
      { d with now := now, ntm := { d.ntm with tb := ⟨0, 0, 0, 0, 0, [{ c with op := op }]⟩ :: d.ntm.tb.tail } }
    role w.dev = 1 ∧ w.dev.ntm.tb.length = 4 ∧ powered w.dev = true ∧ role (svc id).dev = 0 ∧
    rb (A.ntmTb 1 0x38) 0 sl.dev = true ∧ (tbGet 1 sl.dev).slew = 0 ∧ (tbGet 1 sl.dev).step = [] ∧
    rb (A.ntmTb 1 0x38) 0 (svc id).dev = false ∧
    (tbGet 0 (st 3 1).dev).step = [c] ∧ (st 3 1).dev.now < c.due ∧ (st 4 1).dev.ntm.tb.length = 4 ∧
    c.due ≤ (st 4 1).dev.now ∧ (tbGet 0 (st 4 2).dev).step = [{ c with op := 2 }] ∧ (tbGet 0 (st 4 2).dev).frac < 2 ^ 32 := by
  decide +kernel

/-- Trigger 2 armed with PERIOD 100 and the configuration given, TB_0 counting. -/
def trig (cfg : Word) (tgt : DWord) : State := svc fun d =>
  wr (A.ntmTrig 2 12) (cfg ||| 0x80000000) (wr (A.ntmTrig 2 8) 100 { d with
    ntm := { d.ntm with counting := true, trig := [(2, ⟨tgt, false, false, 0⟩)] } })

/-- A frame of 60 bytes from port 1. -/
def frame1 : Frame :=
  { id := 1, bytes := List.replicate 60 0, good := true, port := 1, arrival := 0, stamp := ⟨0, 0, 0, 0⟩, ts0 := 0
    ts0Epoch := 0, tcTime := 0, tcEpoch := 0, pcp := 0, vid := 1, untag := 0x3FFF, direct := false
    tsreq := true, tsid := 9, onestep := false, ptpoff := 0, launch := some 0, trig := false, sample := false
    trap := false, planned := true, mask := 4, cls := 3, started := 0
    upset := false }

/-- A copy of it that waits on port 2 in class 3 with the launch time given. -/
def copy1 (launch : Option DWord) : Copy :=
  { frame := frame1, port := 2, cls := 3, launch := launch, trigHeld := false, started := false, cut := false, cells := 1
    line := [], frags := 0, sent := 0, since := 0, paused := false }

/-- The switch runs, port 2's link is up and the copies given wait. -/
def switch (l : List Copy) (f : Dev → Dev) : State := svc fun d =>
  f (wb A.swcCtrl 0 true { d with swc := { d.swc with queues := l }, eths := [(2, ⟨.up, true, 2, 0, 0, 0, 0, 0, 0, 0, 0, 0⟩)] })

theorem witness_TriggersAndTimedFrames :
    let c := copy1 (some 0)
    let l := switch [c] fun d => wr (A.ntmPtp 2 0x10) 0 { d with
      ntm := { d.ntm with tb := ⟨0, 1, 0, 0, 0, []⟩ :: d.ntm.tb.tail } }
    trigFires 2 (trig 0 0).dev = true ∧ trigFires 2 (trig 0 1).dev = false ∧ trigAct 2 (trig 0 0).dev = 0 ∧
    trigAct 2 (trig 0x02000005 0).dev = 1 ∧ trigAct 2 (trig 0x04000005 0).dev = 2 ∧ trigAct 2 (trig 0x06000005 0).dev = 3 ∧
    headOf 0 5 (trig 0x06000005 0).dev = none ∧ trigFires 2 (trig 0x06000005 0).dev = true ∧
    headOf 2 3 (switch [c] id).dev = some c ∧ launchDue 2 0 (switch [c] id).dev = true ∧ swcOn (switch [c] id).dev = true ∧
    (getEth 2 (switch [c] id).dev).link = .up ∧ mayStart c (switch [c] id).dev = true ∧ neverFits c (switch [c] id).dev = false ∧
    (editTags c.frame 2).length + 4 ≤ maxLen 2 (switch [c] id).dev ∧
    (∃ bs upd ign, lineBytes c (startAt c (switch [c] id).dev) (switch [c] id).dev = .bytes bs upd ign) ∧
    launchDue 2 1 (switch [copy1 (some 1)] id).dev = false ∧ isLate c (switch [c] id).dev = false ∧
    isLate c l.dev = true ∧ swcOn l.dev = true ∧ (getEth 2 l.dev).link ≠ .hold ∧ (tsqOf 2 l.dev).length < 32 := by
  refine ⟨?_, ?_, ?_, ?_, ?_, ?_, ?_, ?_, ?_, ?_, ?_, ?_, ?_, ?_, ?_, ⟨_, _, _, rfl⟩, ?_⟩ <;> decide +kernel

/-- Constellation 0 of the spec's example (chapter 11). -/
def cstExample : List (Nat × Word) :=
  let e (i : Nat) (l : List Word) : List (Nat × Word) := l.zipIdx.map fun p => (tabKey 18 (16 + 4 * i + p.2), p.1)
  [(tabKey 18 0, 0x828001F4), (tabKey 18 1, 0x260001D0), (tabKey 18 2, 7), (tabKey 18 3, 3)] ++
    e 0 [0x00000020, 0x83810000] ++ e 1 [0x00040040, 0x87830000, 1] ++ e 2 [0x000C0040, 0x8B830000, 2] ++
    e 3 [0x00140020, 0x8F010000, 3] ++ e 9 [0x002C0070, 0x83060000, 9] ++ [(tabKey 19 9, 0x40000300)]

/-- Node `own` with the role and the cycle counter given runs it; the boundary was `now` CORE cycles ago. -/
def node (role own cc now : Nat) (f : Mrd → Mrd) : State := svc fun d =>
  wf A.sysStrap 5 4 role (wf A.mrdCycle 31 26 cc (wf A.mrdCtrl 15 11 own (wf A.mrdCtrl 2 0 7 { d with
    now := now, tabs := cstExample, mrd := f { d.mrd with node := .active } })))

/-- The frame of worker 3 in slot 3 with CC 37 (chapter 11). -/
def frame3 : List Byte := frameBytes 3 0 3 37 0 false false false false false 0 0 (List.replicate 16 0)

/-- Worker 1's sync frame in slot 1. -/
def syncFrame : List Byte := frameBytes 1 0 1 37 0 true false false false false 0 0 (List.replicate 48 0)

/-- A copy of those bytes that waits. -/
def waits (bs : List Byte) : Mrd → Mrd := fun m =>
  { m with slots := [⟨3, true, false, some ⟨0, 0, 0, 0, bs⟩, none, false, false, false⟩] }

/-- Eclipse's copy of the example's words. -/
def eclExample (own : Nat) (m : Mrd) : Mrd := { m with ecl := eclipseCopy [] (node 2 own 37 4000 id).dev }

theorem witness_MeridianFrames :
    let t := node 2 3 37 4000 (eclExample 3)
    let b := node 2 3 37 4000 fun m => { m with ecl := [⟨0, 1, 0⟩] }
    let r := node 2 0 37 4000 id
    let h := node 2 0 37 4000 (waits frame3)
    let x3 := slotRx 3 r.dev
    let w := node 1 2 37 4000 id
    let p := node 2 0 37 4000 fun m => { m with confirm := true }
    let q := svc fun d => wf A.mrdStat 15 13 1 (wf A.sysStrap 5 4 2 { d with tabs := cstExample })
    let k := node 1 3 37 4000 fun m => { m with
      devs := [⟨0, 24⟩, ⟨1, 23⟩, ⟨2, 120⟩], even := [⟨0, 22⟩, ⟨1, 22⟩, ⟨2, 32⟩], tbBest := some ⟨0, 5, none⟩, evenOfs := some 3 }
    (∃ x, slotOf 0 3 t.dev = some x ∧ x.owner = ownNode t.dev ∧ x.active (mrdCc t.dev) = true ∧ x.sync = false ∧
      3 ∉ t.dev.mrd.sent ∧ x.start + cstAp 0 t.dev ≤ macrotick t.dev) ∧ curCst t.dev = 0 ∧ mrdRuns t.dev = true ∧
    mrdSends t.dev = true ∧ eclBad t.dev = false ∧ eclBad b.dev = true ∧ (ownWindow 3 t.dev).isSome = true ∧
    t.dev.mrd.node = .active ∧ t.dev.mrd.silent = none ∧
    (∃ x, slotOf 0 3 r.dev = some x ∧ x.owner ≠ ownNode r.dev ∧ x.active (mrdCc r.dev) = true ∧
      hdrOk x (rxHdr frame3) r.dev = true ∧ x.start + x.len ≤ macrotick r.dev + 1 ∧
      endsInSlot x 0 (frame3.length + 2) r.dev = true) ∧ rxCrcOk frame3 = true ∧
    lineDecode (lineBits frame3) = some frame3 ∧ lineDecode [] = none ∧
    lineDecode (lineBits (frame3.take 25)) = some (frame3.take 25) ∧
    (rxHdr frame3).sync = false ∧ (rxHdr frame3).null = false ∧ rxCrcOk (frame3.take 25) = false ∧
    holdsTimeline r.dev = true ∧ chanOn 0 r.dev = true ∧ x3.ended = false ∧ x3.accepted = none ∧ x3.held = none ∧
    r.dev.mrd.slots = [] ∧ (slotRx 3 h.dev).held = some ⟨0, 0, 0, 0, frame3⟩ ∧ h.dev.mrd.slots = [slotRx 3 h.dev] ∧
    (∃ x, slotOf 0 1 w.dev = some x ∧ x.owner ≠ ownNode w.dev ∧ hdrOk x (rxHdr syncFrame) w.dev = true) ∧
    rxCrcOk syncFrame = true ∧ (rxHdr syncFrame).sync = true ∧ role w.dev = 1 ∧ w.dev.mrd.tbBest = none ∧
    w.dev.ntm.tb.length = 4 ∧ (carriedTime syncFrame).ns < 1000000000 ∧ (carriedTime syncFrame).epoch = (tbGet 0 w.dev).epoch ∧
    (role q.dev = 2 ∧ 0 ≠ curCst q.dev ∧ cstValid 0 q.dev = true ∧ cstValid 2 q.dev = false ∧ powered q.dev = true) ∧
    (role p.dev = 2 ∧ curCst p.dev = 0 ∧ p.dev.mrd.confirm = true ∧ r.dev.mrd.confirm = false ∧
      confirmSent { p.dev with mrd := { p.dev.mrd with sent := [0] } } = true) ∧
    (holdsTimeline k.dev = true ∧ k.dev.mrd.node ≠ .dawn ∧ mrdCc k.dev % 2 = 1 ∧ k.dev.mrd.corrected = false ∧
      cstNit (curCst k.dev) k.dev ≤ macrotick k.dev ∧ k.dev.mrd.devs.length = 3 ∧ pairDiffs k.dev.mrd ≠ [] ∧
      k.dev.mrd.slots = [] ∧ role k.dev = 1 ∧ k.dev.mrd.evenOfs = some 3) := by
  refine ⟨⟨_, rfl, ?_⟩, ?_, ?_, ?_, ?_, ?_, ?_, ?_, ?_, ⟨_, rfl, ?_⟩, ?_, ?_, ?_, ?_, ?_, ?_, ?_, ?_, ?_, ?_, ?_, ?_, ?_, ?_, ?_,
    ⟨_, rfl, ?_⟩, ?_⟩ <;> decide +kernel

theorem witness_MeridianRoles :
    let li := node 1 1 0 0 fun m => { m with node := .listen }
    let ls := node 1 1 0 40000 fun m => { m with node := .listen }
    let da := node 1 1 63 4000 fun m => { m with node := .dawn }
    let co := node 1 1 63 4000 fun m => { m with node := .dawn, dawnSent := true }
    let bo := node 1 1 63 4000 fun m => { m with node := .backoff, backoffEnd := 0 }
    let up (own : Nat) : State := node 1 own 63 4000 fun m => { m with node := .dawn, dawnCycles := 64 }
    let slot0 := cstEntry 0 0 co.dev
    let ac := node 1 1 0 0 fun m => { m with tx := [(0, ⟨0, [true], 100, 200⟩)] }
    mrdSends ls.dev = true ∧ eclBad da.dev = false ∧
    eclBad { da.dev with mrd := { da.dev.mrd with ecl := [⟨0, 1, 0⟩] } } = true ∧
    lineDecode (lineBits syncFrame) = some syncFrame ∧ (mrdRuns ac.dev = true ∧ ac.dev.mrd.node = .active ∧
      (ac.dev.mrd.tx.any fun p => p.2.trips (instant ac.dev)) = true) ∧ mrdRuns (svc id).dev = false ∧
    (eclipseCopy [(0, 1)] ls.dev).map (fun x => (x.idx, x.word)) ≠ eclipseWords ls.dev ∧
    mrdRuns ls.dev = true ∧ ls.dev.mrd.node = .listen ∧ cstCold 0 1 ls.dev = true ∧ startCst ls.dev = 0 ∧
    ls.dev.mrd.listenStart * tickUnit + listenLto ls.dev * cstCycle 0 ls.dev * mtUnit ls.dev ≤ instant ls.dev ∧
    instant li.dev < li.dev.mrd.listenStart * tickUnit + listenLto li.dev * cstCycle 0 li.dev * mtUnit li.dev ∧
    listenOk syncFrame ls.dev = true ∧ listenOk frame3 ls.dev = false ∧ chanOn 1 ls.dev = true ∧
    da.dev.mrd.node = .dawn ∧ da.dev.mrd.dawnSent = false ∧ slot0.start + cstAp 0 da.dev ≤ macrotick da.dev ∧
    mrdRuns da.dev = true ∧ co.dev.mrd.dawnSent = true ∧ co.dev.mrd.dawnBack = false ∧
    slot0.start + slot0.len ≤ macrotick co.dev + 1 ∧ mrdRuns bo.dev = true ∧ bo.dev.mrd.node = .backoff ∧
    bo.dev.mrd.backoffEnd ≤ instant bo.dev ∧ dawnDcyc (up 1).dev ≤ (up 1).dev.mrd.dawnCycles ∧ ownNode (up 1).dev = 1 ∧
    ownNode (up 0).dev = 0 ∧ mrdRuns (up 0).dev = true ∧ (383 : Fin 1024).val < 384 ∧ 416 < (417 : Fin 1024).val ∧
    (node 1 1 0 0 fun m => { m with rcBad := true }).dev.mrd.rcBad = true ∧
    (0x0A1E0001 : Word).toNat / 65536 = 0x0A1E ∧ (0x0B5A0003 : Word).toNat / 65536 = 0x0B5A ∧
    (0x0B5A0003 : Word).toNat % 32 ≠ 0 ∧ powered ls.dev = true ∧ role (node 2 0 0 0 id).dev = 2 := by
  decide +kernel

/-- Port 0 has the link state given. -/
def port (l : Link) (lane : Bool) (f : Dev → Dev) : State :=
  svc fun d => f { d with eths := [(0, ⟨l, lane, 2, 0, 0, 0, 0, 0, 0, 0, 5, 0⟩)] }

/-- A frame of n bytes with the type field given. -/
def etherFrame (n : Nat) (t : List Byte) : List Byte := List.replicate 12 1 ++ t ++ List.replicate (n - 14) 0

theorem witness_EthernetPorts :
    let up := port .up true id
    let q := port .up true fun d => wb A.schCtrl 0 true (wr (A.ethRxq 0 2 4) 0x04100000 (wr (A.ethRxq 0 2 0) 0x88080040
      (wr (A.ethDefault 0) 0x22000000 d)))
    let none_ := port .up true fun d => { (wr (A.ethRxq 0 2 0) 0x80002000 d) with rings := [(2, ⟨1, [], false⟩)] }
    let bad := port .up true fun d => { d with rings := [(2, ⟨0, [], true⟩)] }
    let ver := port .up true fun d => wf (A.ethMmStat 0) 2 0 1 d
    let c : Copy := { copy1 none with port := 0, started := true }
    let tx := port .up true fun d => { d with swc := { d.swc with queues := [c] } }
    (rb (A.ethCtrl 0) 15 up.dev = false ∧ rb (A.ethCtrl 0) 15 (port .up true (wb (A.ethCtrl 0) 15 true)).dev = true) ∧
    ((getEth 0 (port .down true id).dev).link = .down ∧ (getEth 0 (port .down true id).dev).lane = true ∧
      (port .down true id).dev.swc.queues = []) ∧
    ((getEth 0 up.dev).link = .up ∧ rf (A.ethHold 0) 15 0 up.dev = 0 ∧
      rf (A.ethHold 0) 15 0 (port .up true (wr (A.ethHold 0) 7)).dev ≠ 0 ∧ underWay 0 up.dev = []) ∧
    ((getEth 0 (port .hold true fun d => { d with now := 5 }).dev).link = .hold ∧
      (getEth 0 (port .hold true fun d => { d with now := 5 }).dev).holdEnd ≤ 5) ∧
    (rf (A.ethMmStat 0) 2 0 ver.dev = 1 ∧ (getEth 0 ver.dev).verify = 0) ∧
    cutFrame 0 up.dev = none ∧ (59 + 4 < 64 ∧ ¬(60 + 4 < 64) ∧ maxLen 0 up.dev < (maxLen 0 up.dev - 3) + 4 ∧
      ¬(maxLen 0 up.dev < (maxLen 0 up.dev - 4) + 4)) ∧
    verdict 0 (etherFrame 60 [0x88, 0x08]) up.dev = .control ∧ verdict 0 (etherFrame 60 [0x08, 0]) up.dev = .action true none ∧
    verdict 0 (etherFrame 60 [0x08, 0]) (port .up true (wr (A.ethDefault 0) 0x60000000)).dev = .drop ∧
    verdict 0 ([0x01, 0x80, 0xC2, 0, 0, 0x0E] ++ etherFrame 54 [8, 0]) (port .up true (wb (A.ntmPtp 0 0) 9 true)).dev = .trap ∧
    (verdict 0 (etherFrame 60 [0x08, 0]) q.dev = .action false (some 2) ∧ ringEn 2 q.dev = true ∧
      (getRing 2 q.dev).failed = false ∧ (takeBuf 2 q.dev).map (·.1) = some 0 ∧ bufAddr 2 0 q.dev = 0x04100000 ∧
      60 + 16 ≤ ringSize 2 q.dev ∧ macWriteFail 0x04100000 76 q.dev = none ∧ rb A.schCtrl 0 q.dev = true) ∧
    (ringEn 2 none_.dev = true ∧ (getRing 2 none_.dev).failed = false ∧ (takeBuf 2 none_.dev).isNone = true) ∧
    ((getRing 2 bad.dev).failed = true ∧ ringEn 2 up.dev = false) ∧
    (onLine 0 up.dev = none ∧ tx.dev.swc.queues = [c] ∧ c.port = 0 ∧ c.started = true ∧ c.cut = false ∧
      c.paused = false ∧ (onLine 0 (port .up true fun d => { d with swc := { d.swc with queues := [{ c with cut := true }] } }).dev).map
        (·.cut) = some true) ∧ cutFrame 0 (port .down true id).dev = none ∧ ethRgmii 0 up.dev = false := by
  decide +kernel

theorem witness_SwitchCore :
    let f : Frame := { frame1 with mask := 2 ^ 10 }
    let inb (g : Frame) (x : Dev → Dev) : State := switch [] fun d => x { d with swc := { d.swc with inbound := [g] } }
    let shut := inb frame1 (wf (A.swcPort 1 0) 31 30 0)
    let epShut := inb f (wf (A.swcPort 10 0) 31 30 0)
    let ep := inb f fun d => wr (A.swcEp 0 0) 0x80020000 (wf (A.swcPort 10 0) 31 30 3 d)
    let age := switch [] fun d => { d with now := 400000000 }
    let g (x : Gate) : State := svc fun d => { d with swc := { d.swc with gates := [(3, x)] } }
    let c : Copy := { copy1 none with port := 10 }
    let old := switch [copy1 none] fun d => wr (A.swcPort 2 0x24) 0x00010000 { d with now := 800 }
    let dl := switch [c] fun d => wb A.schCtrl 0 true (wr (A.swcEp 0 4) 0x04100000 (wr (A.swcEp 0 0) 0x88080040 d))
    let sub := switch [] fun d => at_ 0x04000000 [60, 0, 0, 0x80] (wr (A.swcEp 0 0) 0x80000000 { d with
      swc := { d.swc with submits := [(0, [⟨0x04000000, none, 1, 0⟩])] } })
    let user := svc (pe0 id)
    (running (masterCore 1) user.dev = some 0 ∧ (getCtx 0 user.dev).sys = false) ∧ c.frame.upset = false ∧
    ({ frame1 with planned := false }.trap = false ∧ frame1.direct = false ∧ ¬10 ≤ frame1.port) ∧
    ((getGate 3 (svc id).dev).taken = 0 ∧ rb (A.swcGate 3 0) 23 (svc id).dev = false ∧
      (getGate 3 (svc (wb (A.swcGate 3 0) 23 true)).dev).begun = false) ∧
    (swcOn shut.dev = true ∧ shut.dev.swc.inbound = [frame1] ∧ swcOn (svc id).dev = false ∧
      portState 1 shut.dev < 2 ∧ rf (A.swcPort 1 0x10) 31 16 shut.dev = 0) ∧
    (f.planned = true ∧ f.started = 0 ∧ portState 10 epShut.dev = 0 ∧ portState 10 ep.dev ≠ 0 ∧
      rb (A.swcEp 0 0) 31 ep.dev = true ∧ copyFits 10 ((60 + 4 + 255) / 256) true [] ep.dev = true) ∧
    (swcOn age.dev = true ∧ age.dev.swc.lastAge + 400000000 ≤ age.dev.now) ∧
    ((getGate 3 (svc id).dev).change = none ∧ (getGate 3 (svc id).dev).taken ≠ (svc id).dev.now + 1 ∧
      (getGate 3 (g ⟨0, 0, false, none, 1⟩).dev).taken = (g ⟨0, 0, false, none, 1⟩).dev.now + 1 ∧
      portNs 3 (g ⟨0, 0, false, some 1, 0⟩).dev < 1 ∧ 0 ≤ portNs 3 (g ⟨0, 0, false, some 0, 0⟩).dev ∧
      rb (A.swcGate 3 0) 23 (svc (wb (A.swcGate 3 0) 23 true)).dev = true) ∧
    (epHead 0 dl.dev = some c ∧ swcOn dl.dev = true ∧ (getRing 160 dl.dev).failed = false ∧
      (takeBuf 160 dl.dev).map (·.1) = some 0 ∧ bufAddr 160 0 dl.dev = 0x04100000 ∧
      (editTags c.frame c.port).length + 16 ≤ ringSize 160 dl.dev ∧ macWriteFail 0x04100000 76 dl.dev = none) ∧
    (submitsOf 0 sub.dev = [⟨0x04000000, none, 1, 0⟩] ∧ swcOn sub.dev = true ∧ rb (A.swcEp 0 0) 31 sub.dev = true ∧
      banksReady 0x04000000 sub.dev = true ∧ dmaRead 0x04000000 16 sub.dev = (memBytes 0x04000000 16 sub.dev, sub.dev) ∧
      submitBad 0x04000000 0 true (memBytes 0x04000000 16 sub.dev) = false ∧
      submitBad 0x04000000 0 true (memBytes 0x04000000 16 (svc id).dev) = true) ∧
    (headOf 2 3 old.dev = some (copy1 none) ∧ (copy1 none).frame.tsreq = true ∧ ageLimit 2 3 old.dev ≠ 0 ∧ 0 + ageLimit 2 3 old.dev < old.dev.now / 400 ∧ (copy1 none).frame.arrival = 0) := by
  decide +kernel

/-- The cut-through clauses of SwitchCore. -/
theorem witness_SwitchCore_cutThrough :
    let on := svc fun d => wr (A.swcPort 0 12) 2 (wb (A.swcPort 0 0) 29 false (wb A.swcCtrl 0 true { d with eths := [(0, ⟨.up, true, 2, 0, 0, 0, 0, 0, 0, 0, 0, 0⟩)] }))
    let off := svc fun d => wr (A.swcPort 0 12) 2 (wf (A.swcPort 0 0) 31 30 1 (wb A.swcCtrl 0 true { d with eths := [(0, ⟨.up, true, 2, 0, 0, 0, 0, 0, 0, 0, 0, 0⟩)] }))
    (swcOn on.dev = true ∧ (getEth 0 on.dev).link = .up ∧ verdict 0 (etherFrame 64 [8, 0]) on.dev = .action true none ∧
      cutFrame 0 on.dev = none ∧ portState 0 on.dev = 3 ∧ rb (A.swcPort 0 0) 28 on.dev = false ∧
      rb (A.swcPort 0 0) 29 on.dev = false ∧ frameVid 0 (etherFrame 64 [8, 0]) on.dev ≠ 4095 ∧
      isTagged (etherFrame 64 [8, 0]) = false ∧ rf (A.swcPort 0 12) 9 0 on.dev ≠ 0 ∧ rf (A.swcPort 0 12) 9 0 off.dev ≠ 0 ∧ portState 0 off.dev < 2 ∧
      (∀ q < 10, q ≠ 0 → (getEth q on.dev).link ≠ .up) ∧
      (∀ e < 512, bit (streamWord e 2 on.dev) 31 = false)) := by
  decide +kernel

/-- CAN_1 with candidate 0 of the spec's example (chapter 15), in the state given. -/
def can (st : Nat) (x : Can → Can) (f : Dev → Dev) : State := svc fun d =>
  f (wf (A.canStat 1) 23 21 st { d with
    tabs := [(tabKey 36 0, 0x80000123), (tabKey 40 0, 0x8F3E1E09), (tabKey 40 1, 0x8008A400)]
    cans := [(1, x (canDefault 0))] })

theorem witness_CanControllers :
    let off := can 0 id id
    let det := can 0 id (wf (A.canCtrl 1) 14 13 2)
    let tx : CanTx := ⟨[0x123, 0x00010000], 0⟩
    let on := can 2 (fun c => { c with fifo := [tx, ⟨[0x124, 0x00020000], 0⟩], latch := ⟨0, 0, 0, 0x00800000⟩ }) id
    let full := can 2 (fun c => { c with fifo := List.replicate 32 tx }) id
    let ca := can 2 (fun c => { c with ca := [0] }) (wb (A.canCaCfg 1) 31 true)
    let dw := can 5 id fun d => { d with now := canDwell 1 d }
    let last := can 5 id fun d => wf (A.canDet 1) 3 0 1 { d with now := canDwell 1 d }
    let f : CanFrame := ⟨false, false, false, 0x123, false, false, 8, List.replicate 8 0⟩
    (rb (A.canCtrl 1) 15 off.dev = false ∧ powered off.dev = true ∧ canMode 1 off.dev ≠ 2 ∧ candOk 1 0 off.dev = true ∧
      candOk 1 0 (svc id).dev = false ∧ canMode 1 det.dev = 2 ∧ (usable 1 det.dev).head? = some 0 ∧
      usable 1 (svc id).dev = []) ∧
    (rb (A.canCtrl 1) 15 (can 2 id (wb (A.canCtrl 1) 15 true)).dev = true) ∧
    (pushBad 1 ((List.range 18).map fun k => stageWord 1 3 k on.dev) on.dev = false ∧ (getCan 1 on.dev).fifo.length < 32 ∧
      32 ≤ (getCan 1 full.dev).fifo.length ∧
      pushBad 1 ((List.range 18).map fun k => stageWord 1 3 k (svc fun d => { d with tabs := [(tabKey 51 97, 0x80)] }).dev)
        (svc fun d => { d with tabs := [(tabKey 51 97, 0x80)] }).dev = true) ∧
    ((getCan 1 on.dev).events.length + (getCan 1 on.dev).fifo.length ≤ 32 ∧ tx.tag = 1 ∧ canOnBus 1 on.dev = true ∧
      canOnBus 1 off.dev = false ∧ canSends 1 on.dev = true ∧ canListen 1 on.dev = false ∧
      canListen 1 (can 2 id (wf (A.canCtrl 1) 14 13 1)).dev = true) ∧
    ((getCan 1 ca.dev).ca = [0] ∧ rb (A.canCaCfg 1) 30 ca.dev = false) ∧
    (canState 1 (can 1 id id).dev = .integrating ∧ canState 1 (can 4 id id).dev = .busOff ∧ canState 1 dw.dev = .detecting ∧
      (getCan 1 dw.dev).trialStart + canDwell 1 dw.dev ≤ dw.dev.now ∧
      (usable 1 last.dev).find? (fun k => (getCan 1 last.dev).trial < k) = none ∧ rf (A.canDet 1) 3 0 last.dev ≠ 0 ∧
      rf (A.canDet 1) 3 0 last.dev ≤ (getCan 1 last.dev).rounds + 1 ∧
      (usable 1 { dw.dev with tabs := dw.dev.tabs ++ [(tabKey 40 2, 0x8F3E1E09)] }).find? (fun k => 0 < k) = some 1) ∧
    (canSends 1 (can 2 id (wf (A.canCtrl 1) 14 13 1)).dev = false ∧ (1 : Fin 3) ≠ 0 ∧ (getCan 1 dw.dev).trial < 8) ∧
    objPostWaits 1 0 (can 2 id fun d => { d with dsp := { d.dsp with waiting := [{ item3 with src0 := 3, arg := 16384 }] } }).dev = true ∧
    (objMatch 1 f on.dev = some 0 ∧ objMatch 1 { f with id := 0x124 } on.dev = none ∧
      bit (candWord 1 (canAcand 1 on.dev) 1 on.dev) 31 = true ∧ rb (A.canCaCfg 1) 31 on.dev = false ∧
      rb (A.canCaCfg 1) 31 ca.dev = true ∧ 1 ∉ (getCan 1 ca.dev).ca ∧ (∀ i < 1, i ∈ (getCan 1 ca.dev).ca)) := by
  decide +kernel

/-- PIO engine 3 in the state given at a tick. -/
def pio (x : Pio → Pio) (f : Dev → Dev) : State := svc fun d =>
  f { d with pios := [(3, x { pioDefault 0 with state := .running, step := 256, pc := 2 })] }

theorem witness_PioInstructions :
    tickDue 3 (pio id id).dev = true ∧ (getPio 3 (pio id id).dev).state = .running ∧
    A.pio 3 (0x100 + 4 * 2) ∉ (pio id id).dev.badCfg ∧
    tabAddr 3 (((getPio 3 (pio id id).dev).sr >>> 31).toNat % 256) ∉ (pio id id).dev.badPar ∧
    tickDue 3 (pio (fun x => { x with last := some 0 }) id).dev = false ∧
    rb A.safStat 0 (pio id id).dev = false ∧ (getPio 3 (pio (fun x => { x with m := true }) id).dev).m = true ∧ (pio id id).dev.pins.val.getLsbD 127 = false := by
  decide +kernel

/-- Both FIFOs of engine 3 have 16 entries. -/
def wideFifos (d : Dev) : Dev := wf (A.pio 3 0x40) 24 23 2 (wf (A.pio 3 0x40) 22 21 2 d)

theorem witness_PioWaitsAndFifos :
    let tx := pio (fun x => { x with tx := [5] }) id
    let d16 := pio id fun d => wf (A.pio 3 0x40) 24 23 2 (wf (A.pio 3 0x40) 22 21 2 d)
    let full := pio (fun x => { x with rx := List.replicate 16 (.word 0 0), openCount := 15 }) wideFifos
    let w := pio (fun x => { x with state := .waiting, wait := .pause 1 }) id
    let st (wt : PioWait) : State := pio (fun x => { x with state := .stalled, wait := wt, tx := [5] }) id
    let fe := pio id fun d => wr (A.pio 3 0x60) 0x04000000 (wf (A.pio 3 0x64) 27 16 3 d)
    let bad := pio id fun d => wr (A.pio 3 0x60) 0x0E000000 (wf (A.pio 3 0x64) 27 16 3 d)
    let dr (dst : Nat) (l : List PioRx) (f : Dev → Dev) : State :=
      pio (fun x => { x with rx := l }) fun d => f (wb A.schCtrl 0 true (wf (A.pio 3 0x40) 20 19 dst d))
    let ring := dr 2 [.word 7 0] fun d => wr (A.pio 3 0x68) 0x04000000 (wf (A.pio 3 0x6C) 27 16 5 d)
    let rfull := dr 2 [.word 7 0] fun d => wf (A.pio 3 0x6C) 27 16 1 d
    let img := dr 1 [.word 0x00020007 0] fun d => { d with tabs := [(0, 0x40030000)] }
    let it : Item := { item3 with src := 4 }
    let sw := pio (fun x => { x with refill := true }) id
    (getPio 3 tx.dev).tx = [5] ∧ txDepth 3 tx.dev ≠ 16 ∧ txDepth 3 d16.dev = 16 ∧ rxDepth 3 d16.dev = 16 ∧
    rxLevel (getPio 3 full.dev).rx = rxDepth 3 full.dev ∧ rxLevel (getPio 3 tx.dev).rx < rxDepth 3 tx.dev ∧
    itemHeld 3 tx.dev = false ∧ rxDst 3 tx.dev = 0 ∧ (getPio 3 full.dev).openCount = 15 ∧
    tickDue 3 w.dev = true ∧ (getPio 3 w.dev).state = .waiting ∧
    (waitDone 3 (.pause 0) 0 (getPio 3 w.dev) w.dev).isSome = true ∧ (waitDone 3 (.pause 1) 0 (getPio 3 w.dev) w.dev).isSome = false ∧
    tickDue 3 (st .load).dev = true ∧
    (getPio 3 (st .load).dev).wait = .load ∧ (getPio 3 (st (.send false)).dev).wait = .send false ∧
    (getPio 3 fe.dev).tx.length < txDepth 3 fe.dev ∧ 0 ≠ pioFld 3 0x64 27 16 fe.dev % txWords 3 fe.dev ∧
    accessFail 22 false false 0x04000000 fe.dev = none ∧ badIn 0x04000000 4 fe.dev = none ∧
    (accessFail 22 false false 0x0E000000 bad.dev).isSome = true ∧
    (getPio 3 ring.dev).rx = [.word 7 0] ∧ rxDst 3 ring.dev = 2 ∧ ringFull 3 ring.dev = false ∧
    accessFail 22 true false 0x04000000 ring.dev = none ∧ ringFull 3 rfull.dev = true ∧ rxDst 3 rfull.dev = 2 ∧
    rxDst 3 img.dev = 1 ∧ banksReady 0x06000000 img.dev = true ∧ fld (producer 0 img.dev) 31 16 = 0x4003 ∧
    (0 : Word) = rd A.memImgCycle img.dev ∧
    (getPio 3 (dr 0 [.word 7 0, .close it] id).dev).rx = [.word 7 0, .close it] ∧ it.src = 4 ∧
    rb A.schCtrl 0 (dr 0 [.evt it] id).dev = true ∧ (getPio 3 sw.dev).refill = true ∧
    (∀ i < 3, (getPio i sw.dev).refill = false) ∧ sw.dev.badPar = [] ∧ committed sw.dev = true := by
  decide +kernel

/-- Sampler channel 0 is enabled with a running modulator clock, and has the changes given. -/
def sampler (x : Sd → Sd) (f : Dev → Dev) : State := svc fun d =>
  f (wb (A.smpSd 0 0) 31 true (wb (A.smpMclk 0) 31 true { d with sds := [(0, x (sdDefault 0))] }))

theorem witness_SamplerAndComparators :
    let stuck := sampler (fun x => { x with stuck := true }) id
    let late := sampler id fun d => { d with now := 4000000 }
    let cmp := sampler id fun d => wr (A.smpSd 0 0x10) 0x7F7F0000 (wb (A.smpSd 0 0xC) 31 true d)
    let calm := sampler id fun d => wr (A.smpSd 0 0x10) 0x807F0000 (wb (A.smpSd 0 0xC) 31 true d)
    let held := sampler id fun d => wb A.smpTrip 0 true (wb (A.smpSd 0 0xC) 31 true d)
    let lat := sampler id fun d => wb (A.smpSd 0 0) 25 true { d with
      now := 4000000, img := { d.img with begun := true, openNow := 0 }, tabs := [(0, 0x30000000)] }
    let idle := sampler id (wb (A.smpSd 0 0) 25 true)
    let prev := sampler id fun d => wr A.memImgCycle 7 { d with img := { d.img with begun := true, openNow := 400000 } }
    powered lat.dev = true ∧ inService lat.dev = true ∧ committed lat.dev = true ∧
    rb (A.smpMclk (sdClock 0 lat.dev)) 31 lat.dev = true ∧ rb (A.smpSd 0 0) 31 lat.dev = true ∧
    rb (A.smpSd 0 0) 31 (svc id).dev = false ∧ (getSd 0 stuck.dev).stuck = true ∧ (getSd 0 lat.dev).stuck = false ∧
    sdOrd 0 late.dev * (sdLen 0 late.dev - 1) * mclkDiv (sdClock 0 late.dev) late.dev ≤ 5 * (late.dev.now - late.dev.smpStart) ∧
    rb (A.smpSd 0 0x14) 3 late.dev = false ∧ ¬(sdOrd 0 idle.dev * (sdLen 0 idle.dev - 1) * mclkDiv (sdClock 0 idle.dev) idle.dev ≤
      5 * (idle.dev.now - idle.dev.smpStart)) ∧
    rb (A.smpSd 0 0xC) 31 cmp.dev = true ∧ tripped 0 cmp.dev = false ∧ tripped 0 held.dev = true ∧
    cmpTrips 0 (([] ++ [].drop 0 : List Bool).take 766) cmp.dev = true ∧
    cmpTrips 0 (([] ++ [].drop 0 : List Bool).take 766) calm.dev = false ∧
    lat.dev.img.begun = true ∧ (getSd 0 lat.dev).latched ≠ some (rd A.memImgCycle lat.dev) ∧
    lat.dev.img.openNow + (rd (A.smpSd 0 4) lat.dev).toNat ≤ lat.dev.now ∧ rf (A.smpSd 0 8) 13 0 lat.dev = 0 ∧
    banksReady 0x06000000 lat.dev = true ∧ fld (producer 0 lat.dev) 31 16 = 0x3000 ∧ rb (A.smpSd 0 0) 24 lat.dev = false ∧
    (prev.dev.img.begun = true ∧ rd A.memImgCycle prev.dev ≠ 0 ∧
      (getSd 0 prev.dev).latched = none ∧ prev.dev.img.prevNow + (rd (A.smpSd 0 4) prev.dev).toNat < prev.dev.img.openNow) ∧
    idle.dev.img.begun = false ∧ (8 : Nat) ≤ 8 ∧ 0 + 1 < 2 * 8 - 1 ∧ 21 + 1 = 3 * 8 - 2 := by
  decide +kernel

/-- CC unit 0 is enabled in the mode given. -/
def cc (mode : Nat) (x : Cc → Cc) (f : Dev → Dev) : State := svc fun d =>
  f { wf (A.smpCc 0 0) 30 29 mode (wb (A.smpCc 0 0) 31 true d) with ccs := [(0, x (ccDefault 0))] }

theorem witness_CaptureOutputsAndLoops :
    let cap := cc 0 id (wf (A.smpCc 0 0) 28 27 1)
    let full := cc 0 (fun x => { x with fifo := List.replicate 4 stampZero, seen := some (0, false, false) }) id
    let lat := cc 0 id fun d => wb (A.smpCc 0 0) 22 true { d with
      now := 4000000, img := { d.img with begun := true, openNow := 0 }, tabs := [(0, 0x60000000)] }
    let pwm := cc 1 (fun x => { x with next := some 16, sync := some 24, dnew := some (8, 5) }) fun d =>
      wb (A.smpCc 0 0) 23 true { d with now := 2 }
    let duty := cc 1 (fun x => { x with next := some 16 }) fun d => { d with now := 2 }
    let fault := svc (wb A.safStat 0 true)
    let pin := svc fun d => { d with
      now := 808, pins := { d.pins with en := 1 }, tabs := [(tabKey 43 0, 4)] }
    let out := cc 1 (fun x => { x with active := true, duty := 4 }) (wb (A.smpCc 0 0) 17 true)
    let par (t : Nat) (h : Bool) : LoopPar := ⟨t, 0, h, 1, 1, 0, 0, 0, 0, 5⟩
    let zero : LoopState := ⟨0, 0, 0, 0, 0⟩
    (inService cap.dev = true ∧ committed cap.dev = true ∧ rb (A.smpCc 0 0) 31 cap.dev = true ∧ ccMode 0 cap.dev = 0 ∧
      ccMode 0 pwm.dev = 1 ∧ rf (A.smpCc 0 0) 28 27 cap.dev = 1 ∧ (getCc 0 cap.dev).seen = none ∧
      (getCc 0 full.dev).fifo.length = 4 ∧ rf (A.smpCc 0 0) 28 27 full.dev = 3 ∧ rb (A.smpCc 0 0) 31 (svc id).dev = false) ∧
    (lat.dev.img.begun = true ∧ rb (A.smpCc 0 0) 22 lat.dev = true ∧ (getCc 0 lat.dev).latched = none ∧
      lat.dev.img.openNow + (rd (A.smpCc 0 0x14) lat.dev).toNat ≤ lat.dev.now ∧ banksReady 0x06000000 lat.dev = true ∧
      fld (producer 0 lat.dev) 31 16 = 0x6000 ∧ rb (A.smpCc 0 0) 22 cap.dev = false) ∧
    ((getCc 0 pwm.dev).next = some 16 ∧ (getCc 0 pwm.dev).sync = some 24 ∧ 16 / 8 ≤ pwm.dev.now ∧
      (getCc 0 pwm.dev).dnew = some (8, 5) ∧ rb (A.smpCc 0 0) 23 pwm.dev = true ∧ (getCc 0 duty.dev).sync = none ∧
      rb (A.smpCc 0 0) 23 duty.dev = false ∧ ccTripped 0 duty.dev = false ∧ outputsHeld duty.dev = false ∧ 6 ∉ duty.dev.vddio ∧
      (getCc 0 cap.dev).next = none ∧ (getCc 0 cap.dev).sync = none) ∧
    (bit (pinWord 0 pin.dev) 2 = true ∧ pin.dev.pins.en.getLsbD 0 = true ∧
      tabGet (fun _ => 0) pin.dev.pins.changed 0 + 808 ≤ pin.dev.now ∧ rb A.safStat 0 pin.dev = false ∧
      rb A.safStat 0 fault.dev = true ∧ rb (A.smpCc 0 0) 17 out.dev = true ∧ (ccOut 0 out.dev).isSome = true ∧
      bit (pinWord 0 (svc id).dev) 2 = false ∧ rb (A.smpCc 15 0) 17 (svc id).dev = false) ∧
    (par 3 true).hold = true ∧ (par 0 false).hold = false ∧ (par 0 false).umin.toInt ≤ (par 0 false).umax.toInt ∧
    bit (loopStep (par 0 false) zero 0 0).2.1 28 = false ∧ bit (loopStep (par 0 false) { zero with s0 := 2 ^ 62 } 0 5).2.1 28 = true ∧
    (par 3 false).c0.msb = false := by
  decide +kernel

/-- The reports given wait for the decision. -/
def reports (l : List Report) (f : Dev → Dev) : State := svc fun d => f { d with saf := { d.saf with reports := l } }

theorem witness_SafetyDecisionAndMonitors :
    let two := reports [⟨0x4C, 0xFF, 0, 0⟩, ⟨0x45, 0xFF, 0, 0⟩] id
    let tw (c : Nat) : State := reports [⟨c, 0xFF, 0, 0⟩] fun d => { d with sys := { d.sys with mode := .twilight } }
    let conf := svc fun d => wb A.safStat 0 true { d with now := 40000, sys := { d.sys with mode := .twilight } }
    let warm := svc fun d => { d with saf := { d.saf with tempBad := true } }
    two.dev.saf.reports = [⟨0x4C, 0xFF, 0, 0⟩] ++ ⟨0x45, 0xFF, 0, 0⟩ :: [] ∧ rb A.safStat 0 two.dev = false ∧
    (∀ q ∈ [(⟨0x4C, 0xFF, 0, 0⟩ : Report)], 0x45 < q.code) ∧
    (∀ q ∈ two.dev.saf.reports, 0x40 ≤ q.code ∧ q.code ≤ 0x4C ∧ q.unit < 256) ∧ (svc id).dev.saf.reports = [] ∧
    (tw 0x40).dev.sys.mode = .twilight ∧ (tw 0x45).dev.saf.reports = [] ++ ⟨0x45, 0xFF, 0, 0⟩ :: [] ∧
    rb A.safStat 0 (tw 0x40).dev = false ∧ conf.dev.sys.mode = .twilight ∧ rb A.safStat 0 conf.dev = true ∧
    sameReset (tw 0x40).dev = none ∧ sameReset conf.dev = none ∧ rb A.safStat 1 conf.dev = false ∧ conf.dev.now ≤ conf.dev.saf.decided + 40000 ∧ powered two.dev = true ∧
    powered (svc fun d => { d with sys := { d.sys with mode := .off } }).dev = false ∧
    monitored (svc fun d => { d with sys := { d.sys with mode := .off } }).dev = false ∧
    crcPhase (svc fun d => wf A.almCrcStat 5 4 3 { d with sys := { d.sys with mode := .retain } }).dev = 3 ∧
    (740 ≤ (740#16).toNat ∧ ¬ 740 ≤ (739#16).toNat ∧ (860#16).toNat ≤ 860 ∧ ¬ (861#16).toNat ≤ 860) ∧
    (¬ (-188#16 : BitVec 16).toInt < -188 ∧ (-189#16 : BitVec 16).toInt < -188 ∧ ¬ 528 < (528#16).toInt ∧ 528 < (529#16).toInt) ∧
    warm.dev.saf.tempBad = true ∧ (0x0C5F0000 : Word).toNat / 65536 = 0x0C5F ∧ (0 : Word).toNat / 65536 ≠ 0x0C5F := by
  decide +kernel

theorem witness_FusesAndSecurityCommands :
    let rom := svc fun d => { d with sys := { d.sys with romLoop := true } }
    let key : Fuses := ⟨[fuseProg 0]⟩
    let test := svc fun d => wf A.secLc 31 29 1 { d with boot := { d.boot with step := .done }, sys := { d.sys with romLoop := true } }
    let run (op a : Nat) (f : Dev → Dev) : State := svc fun d => f { d with sec := { d.sec with cmd := some (op, a) } }
    let wipe := run 3 0 (wb A.memVaultStat 0 true)
    let watch (md : Mode) : State := svc fun d => wb (A.secTampCfg 6) 31 true { d with sys := { d.sys with mode := md } }
    let doze := svc fun d => wb A.sysPwrStat 0 true (wb A.sysWakeEn 3 true (wf (A.secTampCfg 6) 29 28 0 (wb (A.secTampCfg 6) 31 true d)))
    powered rom.dev = true ∧ secureMode rom.dev = true ∧ secureMode (svc id).dev = false ∧ rb A.secStat 0 rom.dev = false ∧
    rb A.secStat 0 (svc (wb A.secStat 0 true)).dev = true ∧
    (lifeKnown test.dev = true ∧ rb A.secLc 25 test.dev = false ∧ lifeState test.dev = 1 ∧ lifeState rom.dev = 0) ∧
    (key.has (fuseProg 0) = true ∧ key.has (fuseRev 0) = false ∧ key.has fuseKeySet = false ∧ key.has (fuseProg 1) = false ∧
      key.has (fuseRev 1) = false) ∧ (∀ i < 384, key.has (fuseHash 1 i) = false) ∧
    rf A.secLc 11 9 (svc (wf A.secLc 11 9 3)).dev = 3 ∧ rf A.secLc 11 9 (svc (wf A.secLc 11 9 2)).dev = 2 ∧
    (run 6 0 id).dev.sec.cmd = some (6, 0) ∧ rom.dev.sec.cmd = none ∧ wipe.dev.sec.cmd = some (3, 0) ∧
    rb A.memVaultStat 0 wipe.dev = true ∧ rb A.memVaultStat 0 (run 3 0 id).dev = false ∧
    (rb A.sysWakeEn 3 doze.dev = true ∧ inDoze doze.dev = true ∧ doze.dev.sys.trans = none ∧ tamperAct 6 doze.dev = 0) ∧
    rb (A.secTampCfg 6) 31 (watch .service).dev = true ∧ (watch .off).dev.sys.mode = .off ∧ powered (watch .off).dev = false ∧
    rb (A.secTampCfg 5) 31 (svc (wb (A.secTampCfg 5) 31 false)).dev = false ∧ rb A.sysWakeEn 3 (watch .off).dev = false ∧
    tamperAct 6 (svc (wf (A.secTampCfg 6) 29 28 2)).dev = 2 := by
  decide +kernel

/-- The Supervisor is about to fetch at gate g. -/
def supGate (g : Nat) (x : Ctx → Ctx) (f : Dev → Dev) : State := svc fun d =>
  f (putCtx supKey (x { ctxZero with state := .running, pc := word (0x100 + 0x20 * g) }) d)

theorem witness_GatesTapAndDebug :
    let g2 := supGate 2 id id
    let out := supGate 0 (fun x => x.setD 2 0x80000) id
    let adv (w : Word) (f : Dev → Dev) : State := supGate 3 (fun x => x.setD 2 w) fun d => f { d with boot := { d.boot with step := .done } }
    let dbg (v : Nat) : State := svc fun d => wf A.secLc 11 9 v { d with boot := { d.boot with step := .done } }
    let wake (md : Mode) : State := svc fun d => wb A.sysWakeEn 4 true (wf A.secLc 31 29 1 { d with sys := { d.sys with mode := md } })
    let ask (t : Nat) (r : Option (List Byte)) : State := svc fun d => { d with
      now := t, boot := { d.boot with step := .done }, sec := { d.sec with challenge := some ([], 0), response := r } }
    atGate 0 (supGate 0 id id).dev = true ∧ atGate 1 (supGate 1 id id).dev = true ∧ atGate 2 g2.dev = true ∧
    atGate 3 (supGate 3 id id).dev = true ∧ atGate 0 g2.dev = false ∧ atGate 3 g2.dev = false ∧
    (((getCtx supKey g2.dev).dr 2).toNat = 0 ∧ rb A.memVaultStat 0 g2.dev = false ∧ bankReady 40 g2.dev = true ∧
      bankReady 41 g2.dev = true ∧ badIn 0x07000000 4 g2.dev = none ∧ 0x80000 ≤ ((getCtx supKey out.dev).dr 2).toNat) ∧
    (fld (0x0E5C8000 : Word) 31 16 = 0x0E5C ∧ fld (0x0E5C8000 : Word) 15 12 = 8 ∧
      commandOk 0 8 0 ⟨[]⟩ (adv 0x0E5C8000 id).dev = true ∧ commandOk 0 3 0 ⟨[]⟩ (adv 0x0E5C3000 id).dev = true ∧
      rb A.secStat 0 (adv 0x0E5C3000 id).dev = false ∧ rb A.secStat 0 (adv 0 (wb A.secStat 0 true)).dev = true ∧
      commandOk 0 6 0 ⟨[]⟩ (adv 0x0E5C6000 id).dev = true ∧ (stagingAt 0x04000000 (adv 0 id).dev).isSome = true) ∧
    (powered g2.dev = true ∧ (wake .twilight).dev.sys.mode = .twilight ∧ powered (wake .off).dev = false ∧
      rf A.secLc 11 9 (dbg 1).dev = 1 ∧ rf A.secLc 11 9 (dbg 2).dev = 2 ∧ rf A.secLc 11 9 (dbg 0).dev = 0 ∧
      lifeKnown (dbg 0).dev = true ∧ rb A.secLc 25 (dbg 0).dev = false ∧ lifeState (dbg 0).dev = 0 ∧ lifeState (wake .off).dev = 1 ∧
      rb A.secLc 25 (svc (wb A.secLc 25 true)).dev = true ∧ region A.safStat = .reg ∧ region 0x04000000 = .sram ∧
      committed State.reset.dev = false ∧ (regAt A.safStat).isSome = true ∧ banksReady 0 (dbg 1).dev = true ∧
      badIn 0x20000 4 (dbg 1).dev = none) ∧
    (rb A.sysWakeEn 4 (wake .off).dev = true ∧ (wake .retain).dev.sys.mode = .retain ∧ (wake .off).dev.sys.trans = none ∧
      (wake .off).dev.sys.retWake = none) ∧
    ((ask 4000000000 none).dev.sec.challenge = some ([], 0) ∧ (ask 4000000000 none).dev.now ≤ 0 + 4000000000 ∧
      0 + 4000000000 < (ask 4000000001 none).dev.now ∧ (ask 0 none).dev.sec.response = none ∧
      (ask 0 (some [])).dev.sec.response = some [] ∧ lifeKnown (ask 0 none).dev = true ∧
      (List.replicate 196 (0 : Byte)).length = 196 ∧ (svc id).dev.sec.challenge = none) := by
  decide +kernel

/-- The PCI Express link is up. -/
def linked (md : Mode) (f : Dev → Dev) : State := svc fun d =>
  f (wb A.hstPcieStat 0 true { d with sys := { d.sys with mode := md }, boot := { d.boot with step := .done } })

theorem witness_HostPortsAndInterrupts :
    let up := linked .service id
    let away := linked .service fun d => wr (A.sysBankRdy 0) 0 (wr (A.sysBankRdy 1) 0 d)
    let part := svc fun d => { d with hst := { d.hst with rAddr := some 0x10000000 } }
    let sysm := svc (pe0 fun x => { x with sr := 0x80 })
    let strobe := svc fun d => { d with hst := { d.hst with lhpStrobe := true } }
    let beat (n : Nat) : State := svc fun d => { d with now := n, sys := { d.sys with mode := .twilight, romLoop := true } }
    (powered (svc fun d => { d with boot := { d.boot with step := .done } }).dev = true ∧
      (svc fun d => { d with boot := { d.boot with step := .done } }).dev.boot.step ≠ .pll ∧ (svc id).dev.hst.perst = false ∧
      rb A.hstPcieStat 0 (svc id).dev = false ∧ rb A.hstPcieStat 0 up.dev = true) ∧
    ((linked .startup id).dev.sys.mode = .startup ∧ up.dev.sys.mode = .service ∧ (1 ≤ [0xF#4].length) ∧
      (0#22).toNat / 1024 = ((0#22).toNat + [0xF#4].length - 1) / 1024 ∧
      ¬ (1023#22).toNat / 1024 = ((1023#22).toNat + [0xF#4, 0xF#4].length - 1) / 1024 ∧
      (accessFail 17 false false (barAddr true 0 up.dev) up.dev = none ∧ badRead (barAddr true 0 up.dev) 4 up.dev = none) ∧
      (accessFail 17 false false (barAddr true 0 away.dev) away.dev).isSome = true ∧
      accessFail 17 true false (barAddr true 0 up.dev) up.dev = none ∧ region (barAddr true 0 up.dev) = .sram ∧
      region (barAddr true 0x3F0000 (linked .service (wb A.hstPcieCfg 0 true)).dev) ≠ .sram ∧
      accessFail 17 true false (barAddr true 0x3F0000 (linked .service (wb A.hstPcieCfg 0 true)).dev)
        (linked .service (wb A.hstPcieCfg 0 true)).dev = none ∧ 0 < 0x100000) ∧
    (up.dev.hst.lhpStrobe = false ∧ 3 ∉ up.dev.vddio ∧ 0x40000 ≤ 0x40000 ∧ banksReady 0x06000000 up.dev = true ∧
      badRead 0x06000000 1 up.dev = none ∧ (0x2F0000 - 0x100000) / 0x10000 = 31 ∧
      rb A.hstLhpBlk 0 (svc (wb A.hstLhpBlk 0 true)).dev = true ∧ part.dev.hst.rAddr = some 0x10000000 ∧
      accessFail 18 false false 0x10000000 up.dev = none ∧ accessFail 18 true false 0x10000000 up.dev = none ∧
      strobe.dev.hst.lhpStrobe = true) ∧
    ((0x0B4D0000 : Word).toNat / 65536 = 0x0B4D ∧ (0 : Word).toNat / 65536 ≠ 0x0B4D ∧
      (getCtx (ctxKey 0 0) sysm.dev).sys = true ∧ (getCtx (ctxKey 0 0) (svc id).dev).sys = false ∧
      rb (A.msixTable 18 12) 0 (svc (wb (A.msixTable 18 12) 0 true)).dev = true ∧
      rb (A.msixTable 18 12) 0 (svc (wb (A.msixTable 18 12) 0 false)).dev = false ∧
      rb (A.msixPba 0) 18 (svc (wb (A.msixPba 0) 18 true)).dev = true ∧ (svc id).dev.hst.fnMask = false) ∧
    ((beat 400000).dev.sys.mode = .twilight ∧ (beat 400000).dev.sys.romLoop = true ∧
      (beat 400000).dev.sys.twTime + 400000 ≤ (beat 400000).dev.now ∧
      ¬ (beat 399999).dev.sys.twTime + 400000 ≤ (beat 399999).dev.now) := by
  decide +kernel

/-! ## The spec's worked examples -/

/-- Chapter 4: a status clear with an old sequence count clears nothing and sets STALE_CLR; the right count clears. -/
theorem test_status_clear :
    let s := svc (wr A.memImgStat 0x18000006)
    let stale := dev (exec (.statusClear 0 (word A.memImgStat) 0x17000006) s)
    let good := dev (exec (.statusClear 0 (word A.memImgStat) 0x18000006) s)
    rd A.memImgStat stale = 0x18000006 ∧ rb (A.block 4 + 4) 0 stale = true ∧ rd A.memImgStat good = 0x18000000 := by
  decide +kernel

/-- Chapter 7: the micro-words of the telegram check, decode entry 2, and one execution of X2 D1, D2, A2. -/
def telegram : State := svc fun d =>
  let words : List Nat := [0xC083000200000000, 0xE069000000000004, 0x1C84080000000000, 0x3C21480000000005,
    0x8C04000000000000, 0x0C004C0000000001]
  wb (A.peCtrl 6) 0 true (putCtx (ctxKey 6 0)
    (((({ ctxZero with state := .running, ac0 := 0xFFFF } : Ctx).setD 1 1).setD 2 0x80000001).setA 2 0x08190040)
    (at_ 0x08190040 [0x78, 0x56, 0x34, 0x12] (at_ 0x081A0200 (words.flatMap fun w => leBytes 8 w)
      { d with tabs := [(tabKey (1 + 6) 2, 0x80000540)] })))

theorem test_custom_instruction :
    let x := getCtx (ctxKey 6 0) (dev (exec (.customInstruction 6 2 1 2 0 2 0) telegram))
    x.dr 1 = 0 ∧ x.dr 2 = 0x00000030 ∧ x.ar 2 = 0x08190044 ∧ x.sr = 5 ∧ x.ac0 = 0x056E := by
  decide +kernel

/-- Chapter 11: the example's entries 4-8, its whole table, and the frame header of worker 3. -/
theorem test_constellation :
    let e (i : Nat) : List (Nat × Word) := [(tabKey 18 (16 + 4 * i), word ((160 + 32 * (i - 3)) * 2 ^ 13 + 32)),
      (tabKey 18 (17 + 4 * i), word (0x83010000 + i * 2 ^ 26)), (tabKey 18 (18 + 4 * i), word i)]
    let t := cstExample ++ [4, 5, 6, 7, 8].flatMap e
    let d := (svc fun d => { d with tabs := t.foldl (fun l p => tabSet zeroDefault l p.1 p.2) [] }).dev
    cstOk 0 d = true ∧ cstCycle 0 d = 500 ∧ frame3.take 6 = [0x18, 0x03, 0x94, 0x10, 0, 0] := by
  decide +kernel

/-- Chapter 11: the midpoints of the corrections, in units of 0.25 ns. -/
theorem test_midpoint : midpoint [23, 24, 120] = 24 ∧ midpoint [2, 1, 88] = 2 := by decide +kernel

/-- Chapter 13: rule 3 of ETH_1 sends the example's frame to queue 2. -/
theorem test_ethernet_rule :
    let d := (port .up true fun d => wr (A.ethRxq 1 2 0) 0x90080040 (wr (A.ethRxq 1 2 4) 0x04100000 { d with
      tabs := [(tabKey 22 12, 0xA2B70000), (tabKey 22 13, 0x00640FFF), (tabKey 22 14, 0x88A4FFFF)] })).dev
    let f (tci : List Byte) : List Byte := List.replicate 12 1 ++ [0x81, 0] ++ tci ++ [0x88, 0xA4] ++ List.replicate 106 0
    verdict 1 (f [0xC0, 0x64]) d = .action false (some 2) ∧ verdict 1 (f [0xA0, 0x64]) d ≠ .action false (some 2) ∧
    bufAddr 18 5 d = 0x04102800 := by
  decide +kernel

/-- Chapter 14: the gate list of ETH_4: class 7 alone for 20 us, then classes 0-6. -/
theorem test_gate_list :
    let d := (svc fun d => wr (A.swcGate 4 0) 0xFF800002 (wr (A.swcGate 4 0x14) 0x00024000 { d with
      ntm := { d.ntm with tb := ⟨2000, 238000, 0, 0, 0, []⟩ :: d.ntm.tb.tail }
      tabs := [(tabKey 34 (1024 + 128), 0x800009C4), (tabKey 34 (1024 + 129), 0x7F00704E)]
      swc := { d.swc with gates := [(4, ⟨2000000000000, 250000, true, none, 0⟩)] } })).dev
    gateStates 4 2000000000000 d = 0x80 ∧ gateStates 4 2000000019999 d = 0x80 ∧ gateStates 4 2000000020000 d = 0x7F ∧
    gateStates 4 2000000249999 d = 0x7F ∧ gateStates 4 2000000250000 d = 0x80 ∧ gateStates 4 1999999999999 d = 0xFF ∧
    gateFits 4 3 (8 + 1518) d = false := by
  decide +kernel

/-- Chapter 15: candidate 0 of CAN_1 has 80 quanta and 2 us. -/
theorem test_can_candidate : nomBit 0x8F3E1E09 = (80, 800) ∧ fld (0x8F3E1E09 : Word) 30 24 + 1 = 16 := by decide

/-- Chapter 16: MATCH of the example's address, LOOK of entry 3, and the data of LOOK. -/
theorem test_pio_match_look :
    let s := pio (fun x => { x with sr := 0x55030000 }) fun d =>
      wr (A.pio 3 0x50) 0x15000000 (wr (A.pio 3 0x54) 0x1F000000 (wr (tabAddr 3 3) 0xBEEF d))
    (getPio 3 (dev (exec (.pioMatch 3) s))).m = true ∧ (getPio 3 (dev (exec (.pioLook 3 16 none) s))).ol = 0xBEEF ∧
    (getPio 3 (dev (exec (.pioMatchi 3 5) s))).m = false := by
  decide +kernel

/-- Chapter 17: LOOP_0 of the drive controller, and the DUTY that its output gives. -/
theorem test_loop_pid :
    let p : LoopPar := ⟨0, 0, false, 0x60000000, 0x0147AE14, 0, 0, 0, 0, 0x73333333⟩
    let r := loopStep p ⟨0x1800000000000000, 0, 0, 0, 0⟩ 0x1C000000 0x20000000
    r.1 = 0x330A3D70 ∧ r.2.1 = 0 ∧ r.2.2.s0 = 0x18051EB850000000 ∧ 0x330A3D70 * 80000 / 2 ^ 31 = 31899 := by
  decide +kernel

theorem test_pwm_duty :
    let s := cc 1 (fun x => { x with next := some 0, dval := 0x330A3D70 }) fun d =>
      wr (A.smpCc 0 4) 0x2710 (wb (A.smpCc 0 0) 23 true d)
    (getCc 0 (dev (exec (.pwmPeriodStart 0) s))).duty = 31899 := by
  decide +kernel

/-- Chapter 18: an upset of C0 of loop 5. -/
theorem test_config_parity :
    let w := exec (.configParityWalk (word A.loopIndData) (some 0x53) true) (svc id)
    let d := dev (exec .safetyDecision { State.reset with dev := dev w })
    rd A.safFault d = 0x421E0000 ∧ rd A.safFaultAddr d = 0x101E0104 ∧ rd A.safFaultIdx d = 0x53 ∧ d.sys.mode = .twilight := by
  decide +kernel

/-- Chapter 19: the challenge in SEALED with USABLE 0b0001. -/
theorem test_challenge :
    let d := (svc fun d => wf A.secLc 31 29 2 (wf A.secLc 22 19 1 { d with sec := { d.sec with purpose := 1 } })).dev
    let c := challengeBytes ⟨[fuseProg 0, fuseProg 2, fuseRev 2]⟩ d
    (c.take 4 = [0x60, 0x41, 0xA1, 0x01] ∧ c.length = 48) ∧ c.getD 12 0 = 2 ∧ c.getD 13 0 = 1 := by
  refine ⟨⟨rfl, rfl⟩, ?_, ?_⟩ <;> decide +kernel

/-- Chapter 20: the halves of MBX_40 on the parallel port; the first read clears FULL once. -/
theorem test_lhp_mailbox :
    let s := svc fun d => wb A.hstLhpCfg 0 true (wb A.hstLhpBlk 5 true (wb (A.mbxFull 1) 8 true
      (wr (A.mbxData 40) 0x12345678 (wr (A.mbxCfg 40) 0x0480 d))))
    let a := dev (exec (.lhpRead 0x1501A0) s)
    let b := dev (exec (.lhpRead 0x1501A2) { s with dev := dev (exec (.lhpStrobeRise false) { s with dev := a }) })
    a.hst.lhpDrive = some 0x5678 ∧ rb (A.mbxFull 1) 8 a = false ∧ b.hst.lhpDrive = some 0x1234 := by
  decide +kernel

/-- Chapter 8: the orphan of A2. -/
theorem test_orphan_word :
    let it : Item := { item3 with flow := 0x40, entry := 0x2B }
    let s := svc fun d => wb A.schCtrl 0 true { d with
      now := 960, tabs := [(tabKey 17 0x100, 0x8D000004), (tabKey 17 0x101, 0x00140000)]
      dsp := { d.dsp with insvc := [⟨it, 2, 2, true, true, 121, .serving, 0, 0, 0⟩] } }
    let t := exec (.flowTimeout 2 2) s
    tabGet zeroDefault (dev (exec (.orphanPop 0) { s with dev := dev t })).rdata 0 = 0x9220002B := by
  decide +kernel

/-- Chapter 10: a step by offset of -950,000,000 ns at TB_0 = 1,700.400 000 000. -/
theorem test_step_by_offset :
    let s := svc fun d => wr (A.ntmTb 0 0x2C) 0xC7602680 (wr (A.ntmTb 0 0x30) 0xFFFFFFFF d)
    let d := dev (exec (.stepByOffset 0 0) { s with dev := { s.dev with
      ntm := { s.dev.ntm with tb := ⟨1700, 400000000, 0, 7, 0, []⟩ :: s.dev.ntm.tb.tail } } })
    let t := tbGet 0 (dev (exec (.stepTakesEffect 0) { s with dev := { d with now := d.now + 4 } }))
    t.sec = 1699 ∧ t.ns = 450000000 ∧ t.epoch = 8 := by
  decide +kernel

/-! ## Commands that their carrier cannot deliver -/

theorem test_wf_can_frame : (Instr.canFrameReceived 0 false false false 0x123 false false 8 (List.replicate 9 0) 0).wf = false ∧
    (Instr.canFrameReceived 0 true true false 0x123 false false 0 [] 0).wf = false ∧
    (Instr.canFrameReceived 0 false true false 0x123 false false 1 [0] 0).wf = false ∧
    (Instr.canFrameReceived 0 false false false 0x800 false false 0 [] 0).wf = false ∧
    (Instr.canFrameReceived 0 false false true 0x800 false false 8 (List.replicate 8 0) 0).wf = true := by decide

theorem test_wf_flash_header :
    let f (a ka b kb : Nat) := (Instr.flashDiscovery true false (List.replicate a 0) (List.replicate ka 0)
      (List.replicate b 0) (List.replicate kb 0)).wf
    f 63 96 64 96 = false ∧ f 64 96 65 96 = false ∧ f 64 95 64 96 = false ∧ f 64 96 64 97 = false ∧ f 64 96 64 96 = true := by
  decide

theorem test_wf_image (l : List Byte) (h : l.length = 8388545) : (Instr.imageRead l false).wf = false := by simp [Instr.wf, h]

theorem test_wf_meridian (l m : List Bool) (h : l.length = 2671) (g : m.length = 2670) :
    (Instr.frameCopyReceived 0 0 l 0).wf = false ∧ (Instr.listenFrameAccept 0 l 0).wf = false ∧
    (Instr.frameCopyReceived 0 0 m 0).wf = true := by simp [Instr.wf, h, g]

theorem test_wf_host : (Instr.dbgAuthResponse []).wf = false ∧ (Instr.pcieMemoryWrite false 0 []).wf = false ∧
    (Instr.pcieMemoryWrite false 0 [some 0]).wf = false ∧ (Instr.pcieMemoryRead false 0 []).wf = false ∧
    (Instr.pcieMemoryWrite false 0 (List.replicate 260 none)).wf = false ∧
    (Instr.pcieMemoryRead true 0 (List.replicate 1025 0)).wf = false ∧ (Instr.pcieMemoryRead true 0 [15]).wf = true := by
  decide +kernel

end Sys2Proof.Tests
end

section
/-! Words, events and interrupts: what a field, a bit and an event read as, and what a Supervisor interrupt leaves alone. -/

namespace Sys2Proof.Machine

/-! ### Fields of words -/

/-- A bit of a word with a field replaced. -/
theorem bit_setFld (w : Word) (hi lo v : Nat) {i : Nat} (h : i < 32) :
    bit (setFld w hi lo v) i = if lo ≤ i ∧ i ≤ hi then v.testBit (i - lo) else bit w i := by
  simp only [bit, setFld, BitVec.testBit_toNat, BitVec.getLsbD_or, BitVec.getLsbD_and, BitVec.getLsbD_not,
    BitVec.getLsbD_ofNat, Nat.testBit_shiftLeft, Nat.testBit_two_pow_sub_one, h, decide_true, Bool.true_and]
  by_cases hl : lo ≤ i <;> by_cases hh : i ≤ hi
  · simp [hl, hh, show i - lo < hi + 1 - lo by omega]
  · simp [hl, hh, show ¬ i - lo < hi + 1 - lo by omega]
  · simp [hl]
  · simp [hl]

/-- A bit of a number's bit vector in a union. -/
theorem bit_or_word (w : Word) (n : Nat) {i : Nat} (h : i < 32) : bit (w ||| word n) i = (bit w i || n.testBit i) := by
  simp only [bit, word, BitVec.testBit_toNat, BitVec.getLsbD_or, BitVec.getLsbD_ofNat, h, decide_true, Bool.true_and]

/-- Bit j of a field is a bit of the word. -/
theorem testBit_fld (w : Word) (hi lo j : Nat) :
    (fld w hi lo).testBit j = (decide (j < hi + 1 - lo) && bit w (lo + j)) := by
  simp [fld, nfld, bit, Nat.testBit_mod_two_pow, Nat.testBit_shiftRight]

/-- A field is settled by its bits. -/
theorem fld_congr {w u : Word} {hi lo : Nat} (h : ∀ i, lo ≤ i → i ≤ hi → bit w i = bit u i) : fld w hi lo = fld u hi lo := by
  refine Nat.eq_of_testBit_eq fun j => ?_
  rw [testBit_fld, testBit_fld]
  by_cases hj : j < hi + 1 - lo
  · rw [h (lo + j) (by omega) (by omega)]
  · simp [hj]

/-- A bit outside SEQ after an event (R107). -/
theorem rb_raise_same (a : Nat) {i j : Nat} (d : Dev) (h : j < 24) :
    rb a j (raise a i d) = (rb a j d || decide (i = j)) := by
  rw [rb, raise, rd_raiseBits_same, bit_setFld _ _ _ _ (by omega), if_neg (by omega), bit_or_word _ _ (by omega),
    Nat.testBit_two_pow, rb]

/-! ### What an interrupt leaves alone -/

/-- A wait's end changes no field but the contexts and the engines. -/
theorem unblock_frame (key : Nat) (x : Ctx) (d : Dev) : { unblock key x d with ctxs := d.ctxs, cores := d.cores } = d := by
  have h := schedule_frame (key / 16) (putCtx key { x.advance with state := .ready, wait := .none } d)
  unfold unblock
  generalize schedule _ _ = e at h ⊢
  calc { e with ctxs := d.ctxs, cores := d.cores }
      = { ({ e with ctxs := (putCtx key { x.advance with state := .ready, wait := .none } d).ctxs
                    cores := d.cores } : Dev) with ctxs := d.ctxs } := rfl
    _ = d := by rw [show d.cores = (putCtx key { x.advance with state := .ready, wait := .none } d).cores from rfl, h]; rfl

/-- A pending event changes no field but the contexts and the engines. -/
theorem pendEvent_frame (key mask : Nat) (d : Dev) :
    { pendEvent key mask d with ctxs := d.ctxs, cores := d.cores } = d := by
  unfold pendEvent
  dsimp only
  split
  · split
    · exact unblock_frame _ _ _
    · rfl
  · rfl

/-- A Supervisor interrupt changes no field but the contexts and the engines. -/
theorem irqIf_frame (c : Bool) (d : Dev) : { irqIf c d with ctxs := d.ctxs, cores := d.cores } = d := by
  cases c
  · rfl
  · exact pendEvent_frame supKey 8 d

@[simp] theorem irqIf_regs (c : Bool) (d : Dev) : (irqIf c d).regs = d.regs := by conv_rhs => rw [← irqIf_frame c d]
@[simp] theorem irqIf_img (c : Bool) (d : Dev) : (irqIf c d).img = d.img := by conv_rhs => rw [← irqIf_frame c d]
@[simp] theorem irqIf_mem (c : Bool) (d : Dev) : (irqIf c d).mem = d.mem := by conv_rhs => rw [← irqIf_frame c d]
@[simp] theorem rb_irqIf (a i : Nat) (c : Bool) (d : Dev) : rb a i (irqIf c d) = rb a i d := by simp [rb, rd]

@[simp] theorem raise_img (a i : Nat) (d : Dev) : (raise a i d).img = d.img := rfl
@[simp] theorem raise_mem (a i : Nat) (d : Dev) : (raise a i d).mem = d.mem := rfl
@[simp] theorem raiseIf_img (c : Bool) (a i : Nat) (d : Dev) : (raiseIf c a i d).img = d.img := by cases c <;> rfl
end Sys2Proof.Machine
end

section
/-! The process image: the copies of a granule, a write to an open copy, and the header that the flip commits. -/

namespace Sys2Proof.Machine

/-! ### The copies of a granule -/

theorem selPage_le (g : Nat) (d : Dev) : selPage g d ≤ 1 := Bool.toNat_le _

/-- The copies of different granules, or of one granule on different pages, are different entries. -/
theorem pageGran_setPageGran {p q g h : Nat} (mask : BitVec 8) (v : DWord) (d : Dev) (hg : g < 16384) (hh : h < 16384) :
    pageGran q h (setPageGran p g mask v d) = if q = p ∧ h = g then v else pageGran q h d := by
  have hk : 16384 * q + h = 16384 * p + g ↔ q = p ∧ h = g := by omega
  simp only [pageGran, setPageGran, tabGet_tabSet, hk]

/-- Bytes little-endian, bit by bit. -/
theorem testBit_leNat (bs : List Byte) (j : Nat) : (leNat bs).testBit j = (bs.getD (j / 8) 0).getLsbD (j % 8) := by
  induction bs generalizing j with
  | nil => simp [leNat]
  | cons b bs ih =>
    rw [leNat, Nat.add_comm, show (256 : Nat) = 2 ^ 8 from rfl, Nat.testBit_two_pow_mul_add _ b.isLt]
    split
    next h => simp [Nat.div_eq_of_lt h, Nat.mod_eq_of_lt h, BitVec.testBit_toNat]
    next h =>
      rw [ih, show j / 8 = (j - 8) / 8 + 1 by omega, show j % 8 = (j - 8) % 8 by omega]
      rfl

/-- A byte of a merge is the new one where the mask has a bit, else the old one (R20). -/
theorem mergeBytes_byte (mask : BitVec 8) (old v : DWord) {i : Nat} (hi : i < 8) :
    (mergeBytes mask old v).extractLsb' (8 * i) 8 =
      if mask.getLsbD i then v.extractLsb' (8 * i) 8 else old.extractLsb' (8 * i) 8 := by
  ext j hj
  have hm : ((List.range 8).map fun i => if mask.getLsbD i then (0xFF : Byte) else 0).getD ((8 * i + j) / 8) 0 =
      if mask.getLsbD i then 0xFF else 0 := by
    rw [show (8 * i + j) / 8 = i by omega, List.getD_eq_getElem _ _ (by simpa using hi)]
    simp
  have h64 : 8 * i + j < 64 := by omega
  simp only [mergeBytes, BitVec.getElem_extractLsb', BitVec.getLsbD_or, BitVec.getLsbD_and, BitVec.getLsbD_not,
    BitVec.getLsbD_ofNat, testBit_leNat, hm, h64, decide_true, Bool.true_and]
  have hff : ∀ k, k < 8 → (0xFF : Byte).getLsbD k = true := by decide
  cases mask.getLsbD i with
  | false => simp [h64]
  | true =>
    rw [if_pos rfl, if_pos rfl, hff _ (Nat.mod_lt _ (by decide))]
    simp

/-- A merge of all bytes is the new value. -/
theorem mergeBytes_all (old v : DWord) : mergeBytes 0xFF old v = v := by
  have h : BitVec.ofNat 64 (leNat ((List.range 8).map fun i => if (0xFF : BitVec 8).getLsbD i then (0xFF : Byte) else 0)) =
      BitVec.allOnes 64 := by decide
  unfold mergeBytes
  rw [h]
  show (old &&& ~~~BitVec.allOnes 64) ||| (v &&& BitVec.allOnes 64) = v
  rw [BitVec.not_allOnes, BitVec.and_zero, BitVec.zero_or, BitVec.and_allOnes]

/-! ### A write to an open copy -/

/-- What a write of the cycle leaves in the bytes that it does not write: the committed copy's on the first one (R20). -/
def openBase (g : Nat) (d : Dev) : DWord := if d.img.written.getLsbD g then openGran g d else committedGran g d

/-- The open copy of granule g takes a value and counts as written. -/
def putOpen (g : Nat) (mask : BitVec 8) (v : DWord) (d : Dev) : Dev :=
  let d := setPageGran (1 - selPage g d) g mask v d
  { d with img := { d.img with written := d.img.written ||| (1#16384 <<< g) } }

/-- The first write of a cycle is filled from the committed copy where the bytes it needs have good parity (R20, R132). -/
theorem fillGran_of_good (m g : Nat) (mask : BitVec 8) (d : Dev)
    (h : ∀ i < 8, mask.getLsbD i = false → badIn (twinAddr (selPage g d) g + i) 1 d = none) :
    fillGran m g mask d = (committedGran g d, d) := by
  have hnone : (List.range 8).find? (fun i => !mask.getLsbD i && (badIn (twinAddr (selPage g d) g + i) 1 d).isSome) = none := by
    rw [List.find?_eq_none]
    intro i hi
    cases hm : mask.getLsbD i
    · simp [h i (List.mem_range.mp hi) hm]
    · simp
  unfold fillGran
  simp only [hnone]

/-- A write of a producer: its bytes over those of `openBase`. -/
theorem openWrite_eq_putOpen (m g : Nat) (mask : BitVec 8) (v : DWord) (d : Dev)
    (h : d.img.written.getLsbD g = true ∨
      ∀ i < 8, mask.getLsbD i = false → badIn (twinAddr (selPage g d) g + i) 1 d = none) :
    ∃ w, openWrite m g mask v d = putOpen g w (mergeBytes mask (openBase g d) v) d := by
  cases hw : d.img.written.getLsbD g with
  | true => exact ⟨mask, by simp [openWrite, putOpen, openBase, hw]⟩
  | false =>
    have hf := fillGran_of_good m g mask d (h.resolve_left (by simp [hw]))
    exact ⟨0xFF, by simp [openWrite, putOpen, openBase, hw, hf]⟩

/-- A write of a whole granule needs no fill. -/
theorem openWrite_all (m g : Nat) (v : DWord) (d : Dev) : ∃ w, openWrite m g 0xFF v d = putOpen g w v d := by
  obtain ⟨w, hw⟩ := openWrite_eq_putOpen m g 0xFF v d (.inr fun i hi hm => by
    exact absurd hm (by have : ∀ i < 8, (0xFF : BitVec 8).getLsbD i ≠ false := by decide
                        exact this i hi))
  exact ⟨w, by rw [hw, mergeBytes_all]⟩

@[simp] theorem putOpen_sel (g : Nat) (w : BitVec 8) (v : DWord) (d : Dev) : (putOpen g w v d).img.sel = d.img.sel := rfl
@[simp] theorem putOpen_nondet (g : Nat) (w : BitVec 8) (v : DWord) (d : Dev) :
    (putOpen g w v d).img.nondet = d.img.nondet := rfl
@[simp] theorem putOpen_mem (g : Nat) (w : BitVec 8) (v : DWord) (d : Dev) : (putOpen g w v d).mem = d.mem := rfl
@[simp] theorem putOpen_regs (g : Nat) (w : BitVec 8) (v : DWord) (d : Dev) : (putOpen g w v d).regs = d.regs := rfl
@[simp] theorem selPage_putOpen (h g : Nat) (w : BitVec 8) (v : DWord) (d : Dev) :
    selPage h (putOpen g w v d) = selPage h d := rfl

/-- The written vector after a write. -/
theorem written_putOpen {g h : Nat} (w : BitVec 8) (v : DWord) (d : Dev) (hh : h < 16384) :
    (putOpen g w v d).img.written.getLsbD h = (d.img.written.getLsbD h || decide (h = g)) := by
  simp only [putOpen, setPageGran, BitVec.getLsbD_or, BitVec.getLsbD_shiftLeft, BitVec.getLsbD_one, hh]
  by_cases e : h = g
  · simp [e]
  · simp [e]
    omega

/-- A write leaves every committed copy alone (R17). -/
theorem committedGran_putOpen {g h : Nat} (w : BitVec 8) (v : DWord) (d : Dev) (hg : g < 16384) (hh : h < 16384) :
    committedGran h (putOpen g w v d) = committedGran h d := by
  have hp : ¬(selPage h d = 1 - selPage g d ∧ h = g) := by
    rintro ⟨hs, rfl⟩
    have := selPage_le h d
    omega
  exact (pageGran_setPageGran w v d hg hh).trans (if_neg hp)

/-- The written open copy holds the value; every other one is unchanged. -/
theorem openGran_putOpen {g h : Nat} (w : BitVec 8) (v : DWord) (d : Dev) (hg : g < 16384) (hh : h < 16384) :
    openGran h (putOpen g w v d) = if h = g then v else openGran h d := by
  refine (pageGran_setPageGran w v d hg hh).trans (ite_congr (propext ⟨And.right, ?_⟩) (fun _ => rfl) (fun _ => rfl))
  rintro rfl
  exact ⟨rfl, rfl⟩

/-! ### The header of the result -/

/-- A committed copy is settled by the pages and the select vector (R17). -/
theorem committedGran_congr {d e : Dev} (g : Nat) (hp : e.img.pages = d.img.pages) (hs : e.img.sel = d.img.sel) :
    committedGran g e = committedGran g d := by
  simp only [committedGran, pageGran, selPage, hp, hs]

theorem selPage_flipSel {g : Nat} {d : Dev} (h : d.img.written.getLsbD g = true) :
    selPage g (flipSel d) = 1 - selPage g d := by
  simp only [selPage, flipSel, BitVec.getLsbD_xor, h]
  cases d.img.sel.getLsbD g <;> rfl

/-- The flip commits the open copy of a written granule (R17, R21). -/
theorem committedGran_flipSel {g : Nat} {d : Dev} (h : d.img.written.getLsbD g = true) :
    committedGran g (flipSel d) = openGran g d := by
  rw [committedGran, selPage_flipSel h]
  rfl

/-- Granule 0 of the result is the header of the cycle that ends (R30). -/
theorem committedGran_zero_flip (d : Dev) : committedGran 0 (flip d) = headerGran (missCount d) d := by
  obtain ⟨w, hw⟩ := openWrite_all 0 0 (headerGran (missCount d) d) d
  obtain ⟨u, hu⟩ := openWrite_all 0 1 (rackGran d) (putOpen 0 w (headerGran (missCount d) d) d)
  have hwritten : (putOpen 1 u (rackGran d) (putOpen 0 w (headerGran (missCount d) d) d)).img.written.getLsbD 0 = true := by
    rw [written_putOpen _ _ _ (by decide), written_putOpen _ _ _ (by decide)]
    simp
  calc committedGran 0 (flip d)
      = committedGran 0 (flipSel (putOpen 1 u (rackGran d) (putOpen 0 w (headerGran (missCount d) d) d))) :=
        committedGran_congr 0 (by simp only [flip, hw, hu, irqIf_img, raiseIf_img])
          (by simp only [flip, hw, hu, irqIf_img, raiseIf_img])
    _ = headerGran (missCount d) d := by
        rw [committedGran_flipSel hwritten, openGran_putOpen _ _ _ (by decide) (by decide), if_neg (by decide),
          openGran_putOpen _ _ _ (by decide) (by decide), if_pos rfl]

/-- The low bits of the header: LATE, NPW and MISSCNT (R30). -/
theorem headerGran_low (m : Nat) (d : Dev) : ∃ h, headerGran m d =
    BitVec.ofNat 64 (1024 * h + 512 * d.img.late.toNat + 256 * d.img.npw.toNat + min 255 (m + d.img.lateCnt)) := by
  refine ⟨4194304 * (rd A.memImgCycle d).toNat + 65536 * headerMcc d +
    (if role d ≠ 0 then 8192 * curCst d + 1024 * cstDepth (curCst d) d else 0) + 32 * (resultBroken m d).toNat +
    16 * d.img.cfg.toNat + 8 * d.img.nondet.toNat + 4 * d.img.unord.toNat + 2 * (decide (m ≠ 0)).toNat +
    (rackBroken d).toNat, congrArg (BitVec.ofNat 64) ?_⟩
  by_cases hr : role d ≠ 0
  · simp only [if_pos hr, atBit, Nat.shiftLeft_eq]
    omega
  · simp only [if_neg hr, atBit, Nat.shiftLeft_eq]
    omega

/-- LATE of the header (R30). -/
theorem getLsbD_headerGran_late (m : Nat) (d : Dev) : (headerGran m d).getLsbD 9 = d.img.late := by
  obtain ⟨h, hh⟩ := headerGran_low m d
  rw [hh, BitVec.getLsbD_ofNat, Nat.testBit_eq_decide_div_mod_eq]
  cases d.img.late <;> cases d.img.npw <;> simp <;> omega

/-- NPW of the header (R30). -/
theorem getLsbD_headerGran_npw (m : Nat) (d : Dev) : (headerGran m d).getLsbD 8 = d.img.npw := by
  obtain ⟨h, hh⟩ := headerGran_low m d
  rw [hh, BitVec.getLsbD_ofNat, Nat.testBit_eq_decide_div_mod_eq]
  cases d.img.late <;> cases d.img.npw <;> simp <;> omega

end Sys2Proof.Machine
end

section
/-! O25: writes to the two windows of Twin (R27, R28). -/

namespace Sys2Proof.Machine

/-! ### Image writes (R27, R28) -/

theorem coreMaster_masterCore {m : Nat} (h : m ≤ 16) : coreMaster (masterCore m) = m := by
  unfold coreMaster masterCore
  split <;> split <;> omega

/-- A window of Twin: an address of the image or of the shadow window (R124). -/
def inTwin (a : Nat) : Prop := 0x06000000 ≤ a ∧ a < 0x06040000

theorem region_twin {a : Nat} (h : inTwin a) : region a = .image ∨ region a = .shadow := by
  unfold inTwin at h
  unfold region
  rw [if_neg (by omega), if_neg (by omega), if_neg (by omega)]
  by_cases hw : a < 0x06020000
  · exact .inl (if_pos ⟨h.1, hw⟩)
  · exact .inr ((if_neg (by omega)).trans (if_pos (by omega)))

/-- An access of an engine or of the Supervisor to an accessible quarter of Twin passes (R127, R128). -/
theorem accessFail_twin {m a : Nat} {secure : Bool} {d : Dev} (hm : m ≤ 16) (ha : inTwin a)
    (hb : banksReady a d = true) : accessFail m true secure a d = none := by
  have hmbx : mbxDenied m a = false := by
    have : ¬A.mbxData 56 ≤ a := by
      unfold inTwin at ha
      simp only [A.mbxData]
      omega
    simp [mbxDenied, this]
  rcases region_twin ha with hr | hr <;>
    simp [accessFail, permitted, poolDenied, hr, hmbx, hb, show m ≤ 18 by omega]

/-- A window write of any master to an accessible, word-aligned place of Twin is carried out (R128, R167). -/
theorem windowWrite_of_ready {m a : Nat} {f : Dev → Dev} {d : Dev} (ha : inTwin a) (h4 : a % 4 = 0)
    (hb : banksReady a d = true) : windowWrite m a f d = f d := by
  have hreg : inWindow a = false ∧ inPeRegs a = false := by
    unfold inTwin at ha
    simp [inWindow, inPeRegs]
    omega
  have hfault (hm : m ≤ 16) (x : Ctx) : accessFault (masterCore m) 4 a true x d = none := by
    simp [accessFault, guardedReg, isReg, hreg, h4, coreMaster_masterCore hm, accessFail_twin hm ha hb]
  unfold windowWrite byMaster
  split
  · simp [hb]
  · have hm : m ≤ 16 := by omega
    dsimp only
    split
    · simp [accessFail_twin hm ha hb, hb]
    · simp [hfault hm, hb]

/-- A use of a table word with good parity has no effect (R116). -/
theorem useTab_of_good {unit a idx t i : Nat} {d : Dev} (h : 2 ^ 32 + tabKey t i ∉ d.badCfg) : useTab unit a idx t i d = d :=
  if_neg h

section
variable {m g : Nat} {party : Option (Nat × Nat)} {mask : BitVec 8} {v : DWord} {tag : Word} {det : Bool} {d : Dev}

/-- A write of any party but the producer (R27). -/
theorem imgWrite_nonProducer (hc : 2 ^ 32 + tabKey 0 g ∉ d.badCfg)
    (h : prodKind (producer g d) = 0 ∨ prodKind (producer g d) = 7 ∨
      party ≠ some (prodKind (producer g d), fld (producer g d) 27 16)) :
    imgWrite m party g mask v tag det d = nonProducer d := by
  simp only [imgWrite, useTab_of_good hc, if_pos h]

/-- A producer's write with the tag of another cycle (R28). -/
theorem imgWrite_late (hc : 2 ^ 32 + tabKey 0 g ∉ d.badCfg) (h0 : prodKind (producer g d) ≠ 0)
    (h7 : prodKind (producer g d) ≠ 7) (hp : party = some (prodKind (producer g d), fld (producer g d) 27 16))
    (ht : tag ≠ rd A.memImgCycle d) : imgWrite m party g mask v tag det d = lateWrite d := by
  simp only [imgWrite, useTab_of_good hc, if_neg (not_or.mpr ⟨h0, not_or.mpr ⟨h7, not_not.mpr hp⟩⟩), if_pos ht]

/-- A producer's write with the tag of the open cycle (R18, R166). -/
theorem imgWrite_open (hc : 2 ^ 32 + tabKey 0 g ∉ d.badCfg) (h0 : prodKind (producer g d) ≠ 0)
    (h7 : prodKind (producer g d) ≠ 7) (hp : party = some (prodKind (producer g d), fld (producer g d) 27 16))
    (ht : tag = rd A.memImgCycle d) :
    imgWrite m party g mask v tag det d =
      if det then openWrite m g mask v d
      else { openWrite m g mask v d with img := { (openWrite m g mask v d).img with nondet := true } } := by
  simp only [imgWrite, useTab_of_good hc, if_neg (not_or.mpr ⟨h0, not_or.mpr ⟨h7, not_not.mpr hp⟩⟩),
    if_neg (not_not.mpr ht)]

end

/-- A discarded write changes no copy, no vector and no memory (R27, R28). -/
def Discarded (d e : Dev) : Prop := e.img.pages = d.img.pages ∧ e.img.sel = d.img.sel ∧
  e.img.written = d.img.written ∧ e.mem = d.mem ∧ e.img.nondet = d.img.nondet

/-- What a non-producer write shows (R27). -/
theorem nonProducer_effect (d : Dev) :
    Discarded d (nonProducer d) ∧ (nonProducer d).img.npw = true ∧ rb A.memImgStat 1 (nonProducer d) = true ∧
    (committedGran 0 (flip (nonProducer d))).getLsbD 8 = true ∧ (nonProducer d).img.late = d.img.late ∧
    (nonProducer d).img.lateCnt = d.img.lateCnt := by
  have hstat : rb A.memImgStat 1 (nonProducer d) = true := by
    rw [nonProducer, rb_irqIf, rb_raise_same _ _ (by decide)]
    simp
  refine ⟨⟨?_, ?_, ?_, ?_, ?_⟩, ?_, hstat, ?_, ?_, ?_⟩
  case refine_7 => 
    rw [committedGran_zero_flip, getLsbD_headerGran_npw]; simp [nonProducer]
  all_goals simp [nonProducer]

/-- What a late write shows (R28). -/
theorem lateWrite_effect (d : Dev) :
    Discarded d (lateWrite d) ∧ (lateWrite d).img.late = true ∧ (lateWrite d).img.lateCnt = d.img.lateCnt + 1 ∧
    rb A.memImgStat 2 (lateWrite d) = true ∧ (committedGran 0 (flip (lateWrite d))).getLsbD 9 = true ∧
    (lateWrite d).img.npw = d.img.npw := by
  have hstat : rb A.memImgStat 2 (lateWrite d) = true := by
    rw [lateWrite, rb_irqIf, rb_raise_same _ _ (by decide)]
    simp
  refine ⟨⟨?_, ?_, ?_, ?_, ?_⟩, ?_, ?_, hstat, ?_, ?_⟩
  case refine_8 => 
    rw [committedGran_zero_flip, getLsbD_headerGran_late]; simp [lateWrite]
  all_goals simp [lateWrite]

/-- A window write to an accessible granule is carried out as the producer rules say. -/
theorem exec_imageWindowWrite {m : Fin 28} {kind : Fin 16} {index : Fin 4096} {g : Fin 16384} {mask : BitVec 8} {data : DWord}
    {tag : Word} {det : Bool} {s : State} (hp : powered s.dev = true)
    (hb : banksReady (0x06000000 + 8 * g.val) s.dev = true) :
    exec (.imageWindowWrite m kind index g mask data tag det) s = .next { s with
      dev := imgWrite m (if kind.val = 0 then none else some (kind.val, index.val)) g mask data tag
        (det || decide (kind.val ≠ 1)) s.dev } := by
  show execImageWindowWrite m kind index g mask data tag det s = _
  have ha : inTwin (0x06000000 + 8 * g.val) := by unfold inTwin; omega
  simp only [execImageWindowWrite, onDev, when, hp, if_true, windowWrite_of_ready ha (by omega) hb]

/-- A shadow-window write to an accessible granule is a non-producer write. -/
theorem exec_shadowWindowWrite {m : Fin 28} {g : Fin 16384} {s : State} (hp : powered s.dev = true)
    (hb : banksReady (0x06020000 + 8 * g.val) s.dev = true) :
    exec (.shadowWindowWrite m g) s = .next { s with dev := nonProducer s.dev } := by
  show execShadowWindowWrite m g s = _
  have ha : inTwin (0x06020000 + 8 * g.val) := by unfold inTwin; omega
  simp only [execShadowWindowWrite, onDev, when, hp, if_true, windowWrite_of_ready ha (by omega) hb]

/-- What a producer's write with the open cycle's tag does (R18, R20, R166). -/
theorem openWrite_effect {m g : Nat} {mask : BitVec 8} {v : DWord} {d : Dev} (hg : g < 16384)
    (h : d.img.written.getLsbD g = true ∨ ∀ i < 8, badIn (twinAddr (selPage g d) g + i) 1 d = none) :
    let e := openWrite m g mask v d
    (∀ i < 8, (openGran g e).extractLsb' (8 * i) 8 =
      if mask.getLsbD i then v.extractLsb' (8 * i) 8
      else if d.img.written.getLsbD g then (openGran g d).extractLsb' (8 * i) 8
      else (committedGran g d).extractLsb' (8 * i) 8) ∧
    (∀ h : Fin 16384, committedGran h e = committedGran h d) ∧
    (∀ h : Fin 16384, h.val ≠ g → openGran h e = openGran h d) ∧
    (∀ h : Fin 16384, e.img.written.getLsbD h = (d.img.written.getLsbD h || decide (h.val = g))) ∧
    e.img.nondet = d.img.nondet ∧ e.mem = d.mem ∧ e.regs = d.regs := by
  obtain ⟨w, hw⟩ := openWrite_eq_putOpen m g mask v d (h.imp_right fun h i hi _ => h i hi)
  dsimp only
  rw [hw]
  refine ⟨fun i hi => ?_, fun h => committedGran_putOpen _ _ _ hg h.isLt, fun h hne => ?_,
    fun h => written_putOpen _ _ _ h.isLt, rfl, rfl, rfl⟩
  · rw [openGran_putOpen _ _ _ hg hg, if_pos rfl, mergeBytes_byte _ _ _ hi, openBase, apply_ite (BitVec.extractLsb' (8 * i) 8)]
  · rw [openGran_putOpen _ _ _ hg h.isLt, if_neg hne]

/-- The party of a window write is the granule's producer exactly where the kinds and the indices agree and the kind names a
producer (R25, R27). -/
theorem party_eq_producer_iff (e : Word) (kind : Fin 16) (index : Fin 4096) :
    (prodKind e ≠ 0 ∧ prodKind e ≠ 7 ∧
      (if kind.val = 0 then none else some (kind.val, index.val)) = some (prodKind e, fld e 27 16)) ↔
    (decide (prodKind e = kind.val) && fld e 27 16 = index.val && kind ≠ 0 && kind ≠ 7) = true := by
  have h0 : kind = 0 ↔ kind.val = 0 := Fin.ext_iff
  have h7 : kind = 7 ↔ kind.val = 7 := Fin.ext_iff
  simp only [Bool.and_eq_true, decide_eq_true_eq, ne_eq, h0, h7]
  by_cases hk : kind.val = 0
  · simp [hk]
  · simp only [hk, if_false, Option.some.injEq, Prod.mk.injEq]
    constructor
    · rintro ⟨-, h, hkind, hidx⟩
      exact ⟨⟨⟨hkind.symm, hidx.symm⟩, not_false⟩, hkind ▸ h⟩
    · rintro ⟨⟨⟨hkind, hidx⟩, -⟩, h⟩
      exact ⟨hkind ▸ hk, hkind ▸ h, hkind.symm, hidx.symm⟩

/-- Settles O25: an accessible window write is `imgWrite` or `nonProducer`, and each of their outcomes has its own lemma. -/
theorem imageWrites : Obligations.ImageWrites := by
  unfold Obligations.ImageWrites
  intro m kind index g mask data tag det s hpow hcfg
  have hparty := party_eq_producer_iff (producer g s.dev) kind index
  refine ⟨fun hb => ⟨fun howner htag hgood => ?_, fun howner htag => ?_, fun howner => ?_⟩, fun hb => ?_⟩
  · obtain ⟨h0, h7, hp⟩ := hparty.mpr howner
    obtain ⟨hbytes, hcommitted, hopen, hwritten, hnondet, hmem, hregs⟩ :=
      openWrite_effect (m := m) (mask := mask) (v := data) g.isLt hgood
    have hne (h : Fin 16384) : h ≠ g → h.val ≠ g.val := mt Fin.ext
    refine ⟨_, exec_imageWindowWrite hpow hb, ?_⟩
    rw [imgWrite_open hcfg h0 h7 hp htag]
    have hbeq (h : Fin 16384) : (h == g) = decide (h.val = g.val) := by simp [Fin.ext_iff, beq_eq_decide]
    have hclears : (kind == 1 && !det) = !(det || decide (kind.val ≠ 1)) := by simp [Fin.ext_iff, beq_eq_decide, Bool.and_comm]
    simp only [hbeq, hclears]
    split
    next hdet =>
      exact ⟨hbytes, hcommitted, fun h hh => hopen h (hne h hh), hwritten, by simp only [hnondet, hdet, Bool.not_true, Bool.or_false],
        hmem, hregs⟩
    next hdet =>
      exact ⟨hbytes, hcommitted, fun h hh => hopen h (hne h hh), hwritten,
        by simp only [Bool.not_eq_true _ ▸ hdet, Bool.not_false, Bool.or_true], hmem, hregs⟩
  · obtain ⟨h0, h7, hp⟩ := hparty.mpr howner
    refine ⟨_, exec_imageWindowWrite hpow hb, ?_⟩
    rw [imgWrite_late hcfg h0 h7 hp htag]
    exact lateWrite_effect s.dev
  · refine ⟨_, exec_imageWindowWrite hpow hb, ?_⟩
    rw [imgWrite_nonProducer hcfg (by
      have := mt hparty.mp (by simpa using howner)
      tauto)]
    exact nonProducer_effect s.dev
  · exact ⟨_, exec_shadowWindowWrite hpow hb, nonProducer_effect s.dev⟩

end Sys2Proof.Machine
end

section
/-! O26: the statement is refuted. On a rack node the boundary that commits the last flip before RETAIN or OFF leaves Meridian
sending; only the next one stops it (R92). -/

namespace Sys2Proof.Machine

/-- An ACTIVE worker in service whose boundary is due, with a RETAIN entry begun: its next flip is the last one (R92, step 1). -/
def lastFlipNode : State :=
  let d := { Dev.reset with
    now := 1
    sys := { Sys.reset with mode := .service, flipStop := true, trans := some ⟨false, false, false, none⟩ }
    ntm := { Ntm.reset with counting := true }
    mrd := { Mrd.reset with node := .active } }
  { State.reset with
    dev := d |> wb A.almCrcStat 0 true |> wb A.memImgCtrl 0 true |> wb A.mrdCtrl 0 true |> wf A.sysStrap 5 4 1 }

/-- The last flip holds the outputs, and the node may still send in the cycle that this flip opened (R92, steps 2 and 3). -/
theorem trans_rackBoundary_lastFlipNode :
    (rackBoundary 0 lastFlipNode.dev).sys.trans = some ⟨false, true, false, none⟩ := by
  decide +kernel

/-- On a rack node the boundary is `rackBoundary`. -/
theorem exec_cycleBoundary_of_rack {grants : Nat} {s : State} (h : role s.dev ≠ 0) :
    exec (.cycleBoundary grants) s = .next { s with dev := rackBoundary grants s.dev } := by
  show execCycleBoundary grants s = _
  simp only [execCycleBoundary, onDev, if_neg h]

/-- A device that stops sending as soon as its outputs are held never holds them while it may send. -/
theorem mrdEnd_of_stop_when_held (d : Dev) (t : Trans)
    (h : (if outputsHeld d then mrdStop d else d).sys.trans = some t) (held : t.lastFlip = true) : t.mrdEnd = true := by
  split at h
  next =>
    obtain ⟨u, -, rfl⟩ := Option.map_eq_some_iff.mp (show d.sys.trans.map _ = some t from h)
    rfl
  next free => simp [outputsHeld, h, held] at free

/-- Refutes O26: the statement has Meridian stop at the very boundary that holds the outputs. In `lastFlipNode` the model holds
them and leaves the node sending: it stops at the boundary that ends the cycle which the last flip opened (R92, step 3). -/
theorem not_cycleBoundary : ¬ Obligations.CycleBoundary := by
  unfold Obligations.CycleBoundary
  intro h
  have hrole : role lastFlipNode.dev ≠ 0 := by decide +kernel
  obtain ⟨-, hrack, -⟩ := h.1 0 lastFlipNode
  obtain ⟨hdue, -⟩ := hrack hrole (by decide +kernel) (by decide +kernel)
  have hstate := (exec_cycleBoundary_of_rack hrole).symm.trans (hdue (by decide +kernel) (by decide +kernel) (by decide +kernel))
  have htrans := trans_rackBoundary_lastFlipNode
  simp only [Host.Outcome.next.injEq, State.mk.injEq, true_and] at hstate
  rw [hstate] at htrans
  exact absurd (mrdEnd_of_stop_when_held _ _ htrans rfl) (by decide)

end Sys2Proof.Machine
end

section
/-! What commit and the return from RETAIN leave standing: neither of them touches the configuration phase, the number of the
open cycle, the mode or the start-up step once it has set them. One lemma per operation, each for any device reached so far. -/

namespace Sys2Proof.Machine

/-- An address of neither of the two registers that the frame below watches. -/
abbrev Apart (a : Nat) : Prop := a ≠ A.almCrcStat ∧ a ≠ A.memImgCycle

/-- Nothing between d and e has touched ALM_CRC_STAT, MEM_IMG_CYCLE, the mode and the start-up step. -/
structure Keeps (d e : Dev) : Prop where
  stat : rd A.almCrcStat e = rd A.almCrcStat d
  cycle : rd A.memImgCycle e = rd A.memImgCycle d
  mode : e.sys.mode = d.sys.mode
  step : e.boot.step = d.boot.step

namespace Keeps

theorem refl (d : Dev) : Keeps d d := ⟨rfl, rfl, rfl, rfl⟩

theorem trans {d e f : Dev} (h : Keeps d e) (g : Keeps e f) : Keeps d f :=
  ⟨g.stat.trans h.stat, g.cycle.trans h.cycle, g.mode.trans h.mode, g.step.trans h.step⟩

variable {d e f : Dev}

/-- An update outside the registers, the mode and the step. -/
theorem upd (h : Keeps d e) (hr : f.regs = e.regs) (hm : f.sys.mode = e.sys.mode) (hb : f.boot.step = e.boot.step) :
    Keeps d f :=
  h.trans ⟨by simp only [rd, hr], by simp only [rd, hr], hm, hb⟩

/-- A fold of operations each of which keeps. -/
theorem foldl {α : Type} {l : List α} {op : Dev → α → Dev} (h : Keeps d e) (hop : ∀ x ∈ l, ∀ d, Keeps d (op d x)) :
    Keeps d (l.foldl op e) := by
  induction l generalizing e with
  | nil => exact h
  | cons x l ih =>
    exact ih (h.trans (hop x List.mem_cons_self e)) fun y hy => hop y (List.mem_cons_of_mem _ hy)

/-- An operation that is done only where a condition holds. -/
theorem whenever {c : Bool} {op : Dev → Dev} (h : Keeps d e) (hop : ∀ d, Keeps d (op d)) : Keeps d (when c op e) := by
  unfold when
  split
  · exact h.trans (hop e)
  · exact h

/-! ### Registers -/

theorem wr {a : Nat} (h : Keeps d e) (v : Word) (ha : Apart a) : Keeps d (wr a v e) :=
  h.trans ⟨rd_wr_ne v e (Ne.symm ha.1), rd_wr_ne v e (Ne.symm ha.2), rfl, rfl⟩

theorem wf {a : Nat} (h : Keeps d e) (hi lo v : Nat) (ha : Apart a) : Keeps d (wf a hi lo v e) := h.wr _ ha
theorem wb {a : Nat} (h : Keeps d e) (i : Nat) (b : Bool) (ha : Apart a) : Keeps d (wb a i b e) := h.wr _ ha
theorem incr {a : Nat} (h : Keeps d e) (hi lo : Nat) (ha : Apart a) : Keeps d (incr a hi lo e) := h.wr _ ha
theorem incrSat {a : Nat} (h : Keeps d e) (hi lo : Nat) (ha : Apart a) : Keeps d (incrSat a hi lo e) := h.wr _ ha
theorem raise {a : Nat} (h : Keeps d e) (i : Nat) (ha : Apart a) : Keeps d (raise a i e) := (h.wr _ ha).upd rfl rfl rfl

theorem raiseIf {a : Nat} (h : Keeps d e) (c : Bool) (i : Nat) (ha : Apart a) : Keeps d (raiseIf c a i e) := by
  cases c
  · exact h
  · exact h.raise i ha

theorem apart_ntmTb (j o : Nat) : Apart (A.ntmTb j o) := by unfold Apart A.ntmTb A.almCrcStat A.memImgCycle; omega
theorem apart_ntmPtp (p o : Nat) : Apart (A.ntmPtp p o) := by unfold Apart A.ntmPtp A.almCrcStat A.memImgCycle; omega
theorem apart_ethCnt (p o : Nat) : Apart (A.ethCnt p o) := by unfold Apart A.ethCnt A.almCrcStat A.memImgCycle; omega
theorem apart_canStat (n : Nat) : Apart (A.canStat n) := by unfold Apart A.canStat A.almCrcStat A.memImgCycle; omega
theorem apart_swcPort (p o : Nat) : Apart (A.swcPort p o) := by unfold Apart A.swcPort A.almCrcStat A.memImgCycle; omega
theorem apart_swcGate (p o : Nat) : Apart (A.swcGate p o) := by unfold Apart A.swcGate A.almCrcStat A.memImgCycle; omega
theorem apart_swcCnt (p o : Nat) : Apart (A.swcCnt p o) := by unfold Apart A.swcCnt A.almCrcStat A.memImgCycle; omega
theorem apart_smpSd (n o : Nat) : Apart (A.smpSd n o) := by unfold Apart A.smpSd A.almCrcStat A.memImgCycle; omega
theorem apart_smpCc (u o : Nat) : Apart (A.smpCc u o) := by unfold Apart A.smpCc A.almCrcStat A.memImgCycle; omega
theorem apart_ringLvl (r : Nat) : Apart (ringLvl r) := by
  unfold Apart ringLvl A.ethRxq A.swcEp A.almCrcStat A.memImgCycle
  split <;> omega

/-! ### Contexts, reports and debug sessions -/

theorem schedule (h : Keeps d e) (c : Nat) : Keeps d (schedule c e) := by
  have hf := schedule_frame c e
  exact h.upd (schedule_regs c e) (congrArg (·.sys.mode) hf) (congrArg (·.boot.step) hf)

theorem modCtx (h : Keeps d e) (k : Nat) (op : Ctx → Ctx) : Keeps d (modCtx k op e) := h.upd rfl rfl rfl

theorem startEngine (h : Keeps d e) (n : Nat) : Keeps d (startEngine n e) := by
  refine ((h.upd (f := modCore n _ e) rfl rfl rfl).foldl fun k _ d => ?_).schedule n
  split
  · exact (refl d).modCtx _ _
  · exact refl d

theorem faultLog (h : Keeps d e) (code : Nat) : Keeps d (faultLog code e) := h.upd rfl rfl rfl

theorem report (h : Keeps d e) (code unit addr idx : Nat) : Keeps d (report code unit addr idx e) := by
  have hcfg : Keeps d (if (code = 0x42 ∨ code = 0x43) ∧ e.sys.mode = .service then
      { e with img := { e.img with cfg := true } } else e) := by
    split
    · exact h.upd rfl rfl rfl
    · exact h
  unfold Machine.report
  generalize (if (code = 0x42 ∨ code = 0x43) ∧ e.sys.mode = .service then
      { e with img := { e.img with cfg := true } } else e) = e' at hcfg ⊢
  dsimp only
  split
  · exact ((hcfg.wr _ (by decide)).raise 2 (by decide)).faultLog code
  · exact hcfg.upd rfl rfl rfl

theorem resumeHeld (h : Keeps d e) : Keeps d (resumeHeld e) :=
  h.foldl fun c _ d => (refl d).foldl fun k _ d => by
    dsimp only
    split
    · exact ((refl d).modCtx _ _).schedule c
    · exact refl d

theorem endSession (h : Keeps d e) : Keeps d (endSession e) := by
  unfold Machine.endSession
  dsimp only
  split
  · exact (h.wf 11 9 _ (by decide)).resumeHeld
  · exact h

theorem enterDoze (h : Keeps d e) : Keeps d (enterDoze e) :=
  (h.wf (a := A.sysPwrStat) 2 0 1 (by decide)).endSession.upd rfl rfl rfl

/-! ### Time bases -/

theorem showSlew (h : Keeps d e) (j : Nat) : Keeps d (showSlew j e) := h.wr (ha := apart_ntmTb j 0x18) _

theorem tbPut (h : Keeps d e) (j : Nat) (t : TimeBase) : Keeps d (tbPut j t e) := h.upd rfl rfl rfl

theorem stepTb (h : Keeps d e) (j : Nat) (t : TimeBase) : Keeps d (stepTb j t e) := by
  unfold Machine.stepTb
  refine .raise (.showSlew (.wb (.tbPut ?_ j t) (ha := apart_ntmTb j 0x38) 0 false) j) (ha := apart_ntmTb j 0x38) 1
  exact h.upd rfl rfl rfl

theorem tsqPut (h : Keeps d e) (p : Nat) (l : List Stamp) : Keeps d (tsqPut p l e) :=
  Keeps.wf (h.upd (f := { e with ntm := { e.ntm with tsq := tabSet (fun _ => []) e.ntm.tsq p l } }) rfl rfl rfl)
    (ha := apart_ntmPtp p 0x18) 12 7 _

theorem tsqPush (h : Keeps d e) (p : Nat) (x : Stamp) : Keeps d (tsqPush p x e) := by
  unfold Machine.tsqPush
  split
  · exact h.tsqPut p _
  · exact (h.raise (ha := apart_ntmPtp p 0x18) 0).incr (ha := apart_ntmPtp p 0x1C) 15 0

/-! ### The switch -/

theorem modSwc (h : Keeps d e) (op : Swc → Swc) : Keeps d (modSwc op e) := h.upd rfl rfl rfl
theorem countEth (h : Keeps d e) (p o : Nat) : Keeps d (countEth p o e) := h.incr (ha := apart_ethCnt p o) 31 0
theorem countSwc (h : Keeps d e) (p o : Nat) : Keeps d (countSwc p o e) := h.incr (ha := apart_swcCnt p o) 31 0

theorem showSwc (h : Keeps d e) : Keeps d (showSwc e) :=
  ((h.wf 13 0 _ (by decide)).whenever fun d => (refl d).wf 29 16 _ (by decide)).foldl fun q _ d =>
    ((refl d).wf (ha := apart_swcPort q 0x14) 13 0 _).whenever fun d => (refl d).wf (ha := apart_swcPort q 0x14) 29 16 _

theorem putQueues (h : Keeps d e) (l : List Copy) : Keeps d (putQueues l e) := (h.modSwc _).showSwc
theorem updateCopy (h : Keeps d e) (c : Copy) : Keeps d (updateCopy c e) := h.putQueues _

theorem discardCopy (h : Keeps d e) (c : Copy) : Keeps d (discardCopy c e) := by
  unfold Machine.discardCopy discRecord
  split
  · exact (h.putQueues _).tsqPush _ _
  · exact h.putQueues _

theorem showGate (h : Keeps d e) (p : Nat) : Keeps d (showGate p e) := h.wr (ha := apart_swcGate p 0x18) _

theorem swbLog (h : Keeps d e) (m : Option Nat) (place : Option (Nat × Nat × Nat)) : Keeps d (swbLog m place e) := by
  unfold Machine.swbLog
  split
  · exact h
  · split
    · exact ((h.wr _ (by decide)).wf 31 27 _ (by decide)).wf 19 16 _ (by decide)
    · exact (((h.upd (f := (freeWord e).2) rfl rfl rfl).wr _ (by decide)).wf 31 27 _ (by decide)).wf 19 16 _ (by decide)

theorem swbParity (h : Keeps d e) (m : Option Nat) (place : Option (Nat × Nat × Nat)) : Keeps d (swbParity m place e) :=
  (((h.swbLog m place).incr 15 0 (by decide)).modSwc _).whenever fun d => (refl d).report _ _ _ _

theorem startCopy (h : Keeps d e) (c : Copy) : Keeps d (startCopy c e) := by
  have hc := h.countSwc c.port (0x10 * c.cls)
  unfold Machine.startCopy
  dsimp only
  split
  · exact (hc.swbParity none none).discardCopy c
  · split
    · exact (hc.countEth _ _).discardCopy c
    · split
      · exact ((hc.incrSat (ha := apart_ntmPtp _ _) 15 0).raise (ha := apart_ntmPtp _ _) 3).discardCopy c
      · exact (((hc.whenever fun d => (refl d).incr (ha := apart_ntmPtp _ _) 31 16).raiseIf (ha := apart_ntmPtp _ _) _ 4
          ).whenever fun d => (refl d).tsqPush _ _).updateCopy _

theorem splitCopy (h : Keeps d e) (x : Copy) : Keeps d (splitCopy x e) :=
  ((h.updateCopy _).countEth _ _).upd rfl rfl rfl

theorem preempt (h : Keeps d e) (q : Nat) : Keeps d (preempt q e) := by
  unfold Machine.preempt
  split
  · exact h.splitCopy _
  · exact h

theorem resumeCopy (h : Keeps d e) (q : Nat) : Keeps d (resumeCopy q e) := by
  unfold Machine.resumeCopy
  split
  · exact h.updateCopy _
  · exact h

theorem holdCopy (h : Keeps d e) (q : Nat) : Keeps d (holdCopy q e) := by
  unfold Machine.holdCopy
  split
  · exact h.whenever fun d => (refl d).splitCopy _
  · exact h

theorem discardBad (h : Keeps d e) (c : Copy) (why : Nat) : Keeps d (discardBad c why e) := by
  have hc := h.discardCopy c
  unfold Machine.discardBad
  split
  · exact (hc.incrSat (ha := apart_ntmPtp _ _) 15 0).raise (ha := apart_ntmPtp _ _) 1
  · exact (hc.incrSat (ha := apart_ntmPtp _ _) 31 16).raise (ha := apart_ntmPtp _ _) 2
  · exact hc.countSwc _ _

theorem serveN (h : Keeps d e) (n q : Nat) : Keeps d (serveN n q e) := by
  induction n generalizing e with
  | zero => exact h
  | succ n ih =>
    unfold Machine.serveN
    split
    · exact ih (h.discardBad _ _)
    · split
      · exact h
      · split
        · exact (h.holdCopy q).resumeCopy q
        · exact ih ((h.preempt q).startCopy _)

theorem serve (h : Keeps d e) (q : Nat) : Keeps d (serve q e) := by
  unfold Machine.serve
  split
  · exact h.serveN _ q
  · exact h

theorem stepBase (h : Keeps d e) (j : Nat) (t : TimeBase) : Keeps d (stepBase j t e) := by
  refine (h.stepTb j t).foldl fun p _ d => ?_
  dsimp only
  split
  · exact refl d
  · refine (Keeps.showGate ?_ p).serve p
    split
    · exact (refl d).modSwc _
    · exact refl d

theorem showRing (h : Keeps d e) (r : Nat) : Keeps d (showRing r e) :=
  (h.wf (ha := apart_ringLvl r) 28 16 _).whenever fun d => (refl d).wf (ha := apart_ringLvl r) 15 0 _

/-! ### CAN -/

theorem modCan (h : Keeps d e) (n : Nat) (op : Can → Can) : Keeps d (modCan n op e) := h.upd rfl rfl rfl
theorem setCan (h : Keeps d e) (n : Nat) (s : CanState) : Keeps d (setCan n s e) := h.wf (ha := apart_canStat n) 23 21 _

theorem activate (h : Keeps d e) (n c : Nat) : Keeps d (activate n c e) :=
  (h.wf (ha := apart_canStat n) 20 18 c).raiseIf (ha := apart_canStat n) _ 9

theorem canStart (h : Keeps d e) (n : Nat) : Keeps d (canStart n e) := by
  unfold Machine.canStart
  extract_lets bad cand e'
  have h' : Keeps d e' := by
    unfold e'
    split
    · exact h.modCan n _
    · exact h
  split
  · have ht := (h'.modCan n (fun x => { x with listen := true, rounds := 0 })).raiseIf (ha := apart_canStat n) bad 9
    split
    · exact (ht.modCan n _).setCan n _
    · exact (((ht.raise (ha := apart_canStat n) 12).modCan n _).activate n _).setCan n _
  · split
    · exact ((h'.modCan n _).activate n cand).setCan n _
    · exact h'.raise (ha := apart_canStat n) 9

/-! ### Pins, PIO engines and the Sampler -/

theorem putPio (h : Keeps d e) (n : Nat) (x : Pio) : Keeps d (putPio n x e) := h.upd rfl rfl rfl
theorem idlePins (h : Keeps d e) (n : Nat) : Keeps d (idlePins n e) := h.upd rfl rfl rfl
theorem safePins (h : Keeps d e) : Keeps d (safePins e) := h.upd rfl rfl rfl

theorem pioCommit (h : Keeps d e) : Keeps d (pioCommit e) := by
  refine .foldl (h.upd rfl rfl rfl) fun n _ d => ?_
  split
  · exact ((refl d).putPio n _).idlePins n
  · exact (refl d).idlePins n

theorem putCc (h : Keeps d e) (u : Nat) (x : Cc) : Keeps d (putCc u x e) :=
  Keeps.wr (h.upd (f := { e with ccs := tabSet ccDefault e.ccs u x }) rfl rfl rfl) (ha := apart_smpCc u 0x1C) _

theorem smpCommit (h : Keeps d e) : Keeps d (smpCommit e) := by
  refine .foldl (h.upd rfl rfl rfl) fun u _ d => ?_
  split
  · exact (refl d).putCc u _
  · exact refl d

theorem smpWake (h : Keeps d e) : Keeps d (smpWake e) := by
  unfold Machine.smpWake
  refine .foldl (.wr (.foldl ?_ fun n _ d => ?_) 0 (by decide)) fun u _ d => ?_
  · exact h.upd rfl rfl rfl
  · exact ((refl d).wb (ha := apart_smpSd n 0x14) 3 false).upd rfl rfl rfl
  · exact ((refl d).wb (ha := apart_smpCc u 0x18) 4 false).putCc u _

/-! ### Meridian -/

theorem modMrd (h : Keeps d e) (op : Mrd → Mrd) : Keeps d (modMrd op e) := h.upd rfl rfl rfl
theorem showPend (h : Keeps d e) : Keeps d (showPend e) := h.wb 9 _ (by decide)

theorem refNow (h : Keeps d e) : Keeps d (refNow e) := by
  unfold Machine.refNow showRef
  split
  · exact ((h.wf 23 19 _ (by decide)).wb 18 true (by decide)).wr _ (by decide)
  · exact ((h.wf 23 19 0 (by decide)).wb 18 false (by decide)).wr 0 (by decide)

theorem lastFlip (h : Keeps d e) : Keeps d (lastFlip e) := by
  unfold Machine.lastFlip
  split
  · exact h
  · refine .safePins (.wb (a := A.memImgStat) ?_ 0 false (by decide))
    exact h.upd rfl rfl rfl

theorem timelineLost (h : Keeps d e) : Keeps d (timelineLost e) :=
  h.whenever fun d => (refl d).lastFlip.upd rfl rfl rfl

theorem enterListen (h : Keeps d e) : Keeps d (enterListen e) :=
  ((h.modMrd _).wr 0 (by decide)).showPend.refNow.timelineLost

theorem mrdStart (h : Keeps d e) : Keeps d (mrdStart e) := by
  unfold Machine.mrdStart
  split
  · exact ((h.wf 15 13 _ (by decide)).wf 12 10 _ (by decide)).enterListen
  · exact h.refNow

/-! ### Banks and firmware -/

theorem bankZero (h : Keeps d e) (b : Nat) : Keeps d (bankZero b e) := by
  unfold Machine.bankZero
  split
  · exact h.upd rfl rfl rfl
  · split
    · exact h
    · exact h.upd rfl rfl rfl

theorem stagingOff (h : Keeps d e) : Keeps d (stagingOff e) :=
  h.foldl fun j hj d => by
    have hb : Apart (A.sysBankRdy ((16 + j) / 32)) := by
      have := List.mem_range.mp hj
      unfold Apart A.sysBankRdy A.almCrcStat A.memImgCycle
      omega
    exact (((refl d).bankZero (16 + j)).wb (ha := hb) _ false).upd rfl rfl rfl

theorem startFirmware (h : Keeps d e) : Keeps d (startFirmware e) := by
  unfold Machine.startFirmware
  split
  · exact h.upd rfl rfl rfl
  · exact h

theorem startEngines (h : Keeps d e) :
    Keeps d ((List.range 16).foldl (fun d n => if rb (A.peCtrl n) 0 d then Machine.startEngine n d else d) e) :=
  h.foldl fun n _ d => by
    split
    · exact (refl d).startEngine n
    · exact refl d

/-! ### The return from RETAIN -/

theorem locksFree (h : Keeps d e) : Keeps d (locksFree e) :=
  Keeps.wr (Keeps.wr (h.upd (f := { e with locks := [] }) rfl rfl rfl) (a := A.memLockHeld 0) 0 (by decide))
    (a := A.memLockHeld 1) 0 (by decide)

theorem contextsRestart (h : Keeps d e) : Keeps d (contextsRestart e) :=
  Keeps.upd (Keeps.startEngines (h.upd (f := { e with ctxs := [], cores := [] }) rfl rfl rfl)) rfl rfl rfl

theorem basesResume (h : Keeps d e) : Keeps d (basesResume e) := by
  unfold Machine.basesResume
  exact .foldl (h.upd rfl rfl rfl) fun j _ d => (refl d).stepBase j _

theorem switchWake (h : Keeps d e) : Keeps d (switchWake e) := by
  unfold Machine.switchWake
  refine .foldl (.foldl (h.upd rfl rfl rfl) fun r _ d => (refl d).showRing r) fun a _ d => ?_
  split
  · exact refl d
  · exact (refl d).foldl fun w _ d => (refl d).upd rfl rfl rfl

theorem canStarts (h : Keeps d e) :
    Keeps d ((List.range 4).foldl (fun d n => if rb (A.canCtrl n) 31 d then Machine.canStart n d else d) e) :=
  h.foldl fun n _ d => by
    split
    · exact (refl d).canStart n
    · exact refl d

end Keeps

/-- The return from RETAIN sets the mode and the configuration phase, and nothing after that changes them (R93). -/
theorem keeps_retainDone (d : Dev) :
    Keeps (wf A.almCrcStat 5 4 1 { d with sys := { d.sys with mode := .service, retWake := none } }) (retainDone d) := by
  have hwake := (Keeps.refl (wf A.almCrcStat 5 4 1 { d with
    sys := { d.sys with mode := .service, retWake := none } })).locksFree.contextsRestart.basesResume.switchWake.canStarts
    |>.mrdStart.pioCommit.smpWake
  unfold retainDone
  dsimp only
  generalize smpWake _ = e at hwake ⊢
  refine .whenever (.raise (a := A.sysPwrStat) (.wf (a := A.sysPwrStat) ?_ 14 12 _ (by decide)) 5 (by decide)) fun d =>
    (Keeps.refl d).enterDoze
  exact hwake.upd rfl rfl rfl

end Sys2Proof.Machine
end

section
/-! The configuration CRC, the arm and reference of a commit, sweeps and rollback fuses: one lemma per outcome of each operation
(R65, R69, R119, R120). -/

namespace Sys2Proof.Machine

/-! ### Fields of registers -/

/-- A field reads what was set in it. -/
theorem fld_setFld_same (w : Word) (hi lo v : Nat) (h : hi < 32) : fld (setFld w hi lo v) hi lo = v % 2 ^ (hi + 1 - lo) := by
  refine Nat.eq_of_testBit_eq fun j => ?_
  rw [testBit_fld, Nat.testBit_mod_two_pow]
  by_cases hj : j < hi + 1 - lo
  · rw [bit_setFld _ _ _ _ (by omega), if_pos (by omega), Nat.add_sub_cancel_left]
  · simp [hj]

theorem rf_wf_same (a hi lo v : Nat) (d : Dev) (h : hi < 32) : rf a hi lo (wf a hi lo v d) = v % 2 ^ (hi + 1 - lo) := by
  rw [rf, wf, rd_wr_same, fld_setFld_same _ _ _ _ h]

theorem rb_wf_same {a hi lo i : Nat} (v : Nat) (d : Dev) (h : i < 32) (ho : i < lo ∨ hi < i) :
    rb a i (wf a hi lo v d) = rb a i d := by
  rw [rb, wf, rd_wr_same, bit_setFld _ _ _ _ h, if_neg (by omega), rb]

theorem rb_wb_same (a i : Nat) (b : Bool) (d : Dev) (h : i < 32) : rb a i (wb a i b d) = b := by
  rw [rb, wb, rd_wr_same, setBit, bit_setFld _ _ _ _ h, if_pos (by omega), Nat.sub_self]
  cases b <;> rfl

/-- An event leaves the fields below SEQ alone that its bit is not in (R107). -/
theorem rf_raise_same {a hi lo i : Nat} (d : Dev) (h : hi < 24) (hi' : i < lo ∨ hi < i) :
    rf a hi lo (raise a i d) = rf a hi lo d := by
  refine fld_congr fun j hl hh => ?_
  have := rb_raise_same a (i := i) (j := j) d (by omega)
  rw [rb, rb] at this
  rw [this, decide_eq_false (by omega), Bool.or_false]

theorem rd_raise_ne {a b : Nat} (i : Nat) (d : Dev) (h : b ≠ a) : rd b (raise a i d) = rd b d := rd_raiseBits_ne _ d h

@[simp] theorem raise_sys (a i : Nat) (d : Dev) : (raise a i d).sys = d.sys := rfl
@[simp] theorem raise_boot (a i : Nat) (d : Dev) : (raise a i d).boot = d.boot := rfl
@[simp] theorem raise_tabs (a i : Nat) (d : Dev) : (raise a i d).tabs = d.tabs := rfl
@[simp] theorem raise_saf (a i : Nat) (d : Dev) : (raise a i d).saf = d.saf := rfl

/-! ### The general register write -/

/-- A register error touches only the header of its unit (R101). -/
theorem rd_errIf_ne {b base : Nat} (c : Bool) (m k a : Nat) (d : Dev) (h4 : b ≠ base + 4) (h8 : b ≠ base + 8) :
    rd b (errIf c base m k a d) = rd b d := by
  cases c
  · rfl
  · exact (rd_wr_ne _ _ h8).trans (rd_raise_ne k d h4)

@[simp] theorem errIf_mem (c : Bool) (base m k a : Nat) (d : Dev) : (errIf c base m k a d).mem = d.mem := by cases c <;> rfl

/-- A write of ALM_CRC_CTRL reaches only that register and the header of ALM (R101, R106). -/
theorem storeReg_almCrcCtrl (m : Nat) (v : Word) (d : Dev) :
    rd A.almCrcStat (storeReg m A.almCrcCtrl v d) = rd A.almCrcStat d ∧ (storeReg m A.almCrcCtrl v d).mem = d.mem := by
  have hreg : regAt A.almCrcCtrl = some (⟨A.block 1, 1, almRows⟩,
      ⟨0x20c, 1, 0x1, 1, 0x1, 0x1, 0, 0, 0, 0xfffffffe, 0, 0, 0, []⟩, 0) := rfl
  simp only [storeReg, hreg, writeRow, ne_eq, not_true_eq_false, if_false]
  refine ⟨?_, by simp⟩
  rw [rd_errIf_ne _ _ _ _ _ (by decide) (by decide), rd_errIf_ne _ _ _ _ _ (by decide) (by decide),
    rd_errIf_ne _ _ _ _ _ (by decide) (by decide), rd_wr_ne _ _ (by decide)]

/-- TEST = 1 enters TEST from SERVICE; in any other phase it changes no phase (R119). -/
theorem crcPhase_writeCrcCtrl_one (m : Nat) (d : Dev) :
    (writeCrcCtrl m 1 d).mem = d.mem ∧ (crcPhase d = 1 → crcPhase (writeCrcCtrl m 1 d) = 2) ∧
    (crcPhase d ≠ 1 → crcPhase (writeCrcCtrl m 1 d) = crcPhase d) := by
  have hone : bit 1 0 = true := by decide
  by_cases hp : crcPhase d = 1
  · have heq : writeCrcCtrl m 1 d = wf A.almCrcStat 5 4 2 (storeReg m A.almCrcCtrl 1 d) := by
      simp only [writeCrcCtrl, when, hone, hp, ne_eq, not_true_eq_false, decide_false, decide_true, Bool.and_true, Bool.and_false,
        Bool.false_eq_true, if_false, if_true]
    rw [heq]
    exact ⟨(storeReg_almCrcCtrl m 1 d).2, fun _ => rf_wf_same _ _ _ _ _ (by decide), fun h => absurd hp h⟩
  · have heq : writeCrcCtrl m 1 d = storeReg m A.almCrcCtrl (setBit 1 0 (rb A.almCrcCtrl 0 d)) d := by
      simp only [writeCrcCtrl, hone, hp, ne_eq, not_false_eq_true, decide_true, Bool.and_true, if_true]
    obtain ⟨hstat, hmem⟩ := storeReg_almCrcCtrl m (setBit 1 0 (rb A.almCrcCtrl 0 d)) d
    rw [heq]
    exact ⟨hmem, fun h => absurd h hp, fun _ => by rw [crcPhase, rf, hstat]; rfl⟩

/-! ### The arm and the reference (R120) -/

theorem writeAlmCommit_key {d : Dev} (hc : committed d = false) (ha : d.sys.armDue = none) :
    writeAlmCommit 0 0x0E1A0001 d = { d with sys := { d.sys with armDue := some (d.now + 64) } } := by
  simp [writeAlmCommit, hc, ha]

theorem writeAlmCommit_not_key {v : Word} {d : Dev} (hc : committed d = false) (ha : d.sys.armDue = none)
    (hv : v ≠ 0x0E1A0001) : writeAlmCommit 0 v d = commitRefuse d := by
  simp only [writeAlmCommit, hc, ha, if_neg hv, Bool.false_eq_true, ne_eq, not_true_eq_false, if_false]

theorem writeAlmCommit_other_first {m : Nat} {v : Word} {d : Dev} (hc : committed d = false) (ha : d.sys.armDue = none)
    (hm : m ≠ 0) : writeAlmCommit m v d = d := by
  simp [writeAlmCommit, hc, ha, hm]

theorem writeAlmCommit_reference {due : Nat} {v : Word} {d : Dev} (hc : committed d = false) (ha : d.sys.armDue = some due)
    (hn : d.now ≤ due) :
    writeAlmCommit 0 v d = wr A.almCrcRef v { d with sys := { d.sys with armDue := none, sweepForCommit := true } } := by
  simp [writeAlmCommit, hc, ha, hn]

theorem writeAlmCommit_bad_reference {m due : Nat} {v : Word} {d : Dev} (hc : committed d = false)
    (ha : d.sys.armDue = some due) (hb : m ≠ 0 ∨ due < d.now) : writeAlmCommit m v d = commitRefuse d := by
  simp only [writeAlmCommit, hc, ha, if_pos hb, Bool.false_eq_true, if_false]

/-- The commit record of an image is next. -/
def Loading (d : Dev) : Prop := d.sys.mode = .startup ∧ d.boot.step = .apply

/-- A refusal outside the apply phase: REFUSED, nothing locked, no key pending (R120). -/
theorem commitRefuse_effect {d : Dev} (hc : committed d = false) (hl : ¬Loading d) :
    rb A.almCrcStat 2 (commitRefuse d) = true ∧ (commitRefuse d).sys.armDue = none ∧
    rb A.almCrcStat 0 (commitRefuse d) = false ∧ (commitRefuse d).mem = d.mem := by
  have heq : commitRefuse d = raise A.almCrcStat 2 { d with sys := { d.sys with armDue := none, sweepForCommit := false } } := by
    unfold commitRefuse when
    exact if_neg fun h => hl ((Bool.and_eq_true_iff.mp h).imp of_decide_eq_true of_decide_eq_true)
  rw [heq, rb_raise_same _ _ (by decide), rb_raise_same _ _ (by decide)]
  exact ⟨Bool.or_true _, rfl, (Bool.or_false _).trans hc, rfl⟩

/-! ### Sweeps (R119) -/

@[simp] theorem sweepResult_sys (d : Dev) : (sweepResult d).sys = d.sys := by
  rw [sweepResult, raise_sys, wr_sys]
@[simp] theorem sweepResult_boot (d : Dev) : (sweepResult d).boot = d.boot := by
  rw [sweepResult, raise_boot, wr_boot]
@[simp] theorem sweepResult_saf (d : Dev) : (sweepResult d).saf = d.saf := by
  rw [sweepResult, raise_saf, wr_saf]

@[simp] theorem sweepResult_tabs (d : Dev) : (sweepResult d).tabs = d.tabs := by
  rw [sweepResult, raise_tabs, wr_tabs]

theorem rd_almCrcCur_sweepResult (d : Dev) : rd A.almCrcCur (sweepResult d) = configCrc d := by
  rw [sweepResult, rd_raise_ne _ _ (by decide), rd_wr_same]

theorem rd_sweepResult_ne {a : Nat} (d : Dev) (hc : a ≠ A.almCrcCur) (hs : a ≠ A.almCrcStat) :
    rd a (sweepResult d) = rd a d := by
  rw [sweepResult, rd_raise_ne _ _ hs, rd_wr_ne _ _ hc]

theorem rb_almCrcStat_sweepResult {j : Nat} (d : Dev) (h : j < 24) :
    rb A.almCrcStat j (sweepResult d) = (rb A.almCrcStat j d || decide (1 = j)) := by
  rw [sweepResult, rb_raise_same _ _ h, rb, rd_wr_ne _ _ (by decide), rb]

theorem crcPhase_sweepResult (d : Dev) : crcPhase (sweepResult d) = crcPhase d := by
  rw [crcPhase, sweepResult, rf_raise_same _ (by decide) (by decide), rf, rd_wr_ne _ _ (by decide), crcPhase, rf]

/-- A sweep's result shows in registers that the CRC does not see (R117). -/
theorem configCrc_sweepResult (d : Dev) : configCrc (sweepResult d) = configCrc d :=
  configCrc_congr _ _ (sweepResult_tabs d) fun a ha =>
    rd_sweepResult_ne d (fun h => ha (by simp [h, crcFree])) fun h => ha (by simp [h, crcFree])

end Sys2Proof.Machine
end

section
/-! What a finished sweep, a commit and the return from RETAIN do: one lemma per outcome, from the sweep to the commit record
(R67, R68, R93, R119). -/

namespace Sys2Proof.Machine

theorem crcPhase_wf {p : Nat} (d : Dev) (hp : p < 4) : crcPhase (wf A.almCrcStat 5 4 p d) = p :=
  (rf_wf_same _ _ _ _ _ (by decide)).trans (Nat.mod_eq_of_lt hp)

theorem sweepDone_service {d : Dev} (hp : crcPhase d = 1) : sweepDone d = d := if_pos hp

theorem sweepDone_start {d : Dev} (hp : crcPhase d = 0) (hn : d.sys.sweepForCommit = false) :
    sweepDone d = sweepResult d := by
  simp [sweepDone, hp, hn]

theorem sweepDone_commit {d : Dev} (hp : crcPhase d = 0) (hn : d.sys.sweepForCommit = true) (hm : d.sys.mode = .startup)
    (hok : configCrc d = rd A.almCrcRef d) : sweepDone d = commitNow (sweepResult d) := by
  simp [sweepDone, hp, hn, hm, hok]

theorem sweepDone_recovery_match {d : Dev} (hp : crcPhase d = 3) (hok : configCrc d = rd A.almCrcRef d) :
    sweepDone d = if d.sys.mode = .retain then retainDone (sweepResult d) else wf A.almCrcStat 5 4 1 (sweepResult d) := by
  simp [sweepDone, hp, hok]

theorem sweepDone_recovery_mismatch {d : Dev} (hp : crcPhase d = 3) (hbad : configCrc d ≠ rd A.almCrcRef d) :
    sweepDone d = report 0x43 1 0 0 (sweepResult d) := by
  simp [sweepDone, hp, hbad]

theorem sweepDone_test_match {d : Dev} (hp : crcPhase d = 2) (ht : rb A.almCrcCtrl 0 d = false)
    (hok : configCrc d = rd A.almCrcRef d) : sweepDone d = wf A.almCrcStat 5 4 1 (sweepResult d) := by
  have ht' : rb A.almCrcCtrl 0 (sweepResult d) = false := by
    rw [rb, rd_sweepResult_ne d (by decide) (by decide)]
    exact ht
  simp [sweepDone, hp, hok, ht']

/-- A report before the decision joins the list of this RC cycle and touches no register (R461). -/
theorem report_undecided {code unit addr idx : Nat} {d : Dev} (h : rb A.safStat 0 d = false) :
    ∃ i, report code unit addr idx d =
      { d with img := i, saf := { d.saf with reports := d.saf.reports ++ [⟨code, unit, addr, idx⟩] } } := by
  unfold report
  split
  · exact ⟨{ d.img with cfg := true }, if_neg (ne_true_of_eq_false h)⟩
  · exact ⟨d.img, if_neg (ne_true_of_eq_false h)⟩

/-- A mismatch is code 0x43 (R119). -/
theorem report_sweepResult {d : Dev} (hu : rb A.safStat 0 d = false) :
    (∀ a, rd a (report 0x43 1 0 0 (sweepResult d)) = rd a (sweepResult d)) ∧
    (report 0x43 1 0 0 (sweepResult d)).saf.reports = d.saf.reports ++ [⟨0x43, 1, 0, 0⟩] := by
  have hu' : rb A.safStat 0 (sweepResult d) = false := by
    rw [rb, rd_sweepResult_ne d (by decide) (by decide)]
    exact hu
  have hsaf := sweepResult_saf d
  generalize sweepResult d = e at hu' hsaf ⊢
  obtain ⟨i, hi⟩ := report_undecided (code := 0x43) (unit := 1) (addr := 0) (idx := 0) hu'
  rw [hi, ← hsaf]
  exact ⟨fun _ => by simp only [rd], rfl⟩

theorem sweepDone_test_mismatch {d : Dev} (hp : crcPhase d = 2) (ht : rb A.almCrcCtrl 0 d = false)
    (hu : rb A.safStat 0 d = false) (hbad : configCrc d ≠ rd A.almCrcRef d) :
    sweepDone d = wf A.almCrcStat 5 4 1 (report 0x43 1 0 0 (sweepResult d)) := by
  have ht' : rb A.almCrcCtrl 0 (report 0x43 1 0 0 (sweepResult d)) = false := by
    rw [rb, (report_sweepResult hu).1, rd_sweepResult_ne d (by decide) (by decide)]
    exact ht
  simp [sweepDone, hp, hbad, ht']

/-! ### The commit (R68, R69, R120) -/

/-- What commit marks before it starts the units: service, COMMITTED and the SERVICE phase, the number of the cycle that opens. -/
def commitMarks (d : Dev) : Dev :=
  { d with
    sys := { d.sys with mode := .service, armDue := none, sweepForCommit := false, retWake := none }
    boot := { d.boot with step := .done }
    img := { d.img with openTb := tbNs 0 d, openNow := d.now, due := d.now + 40000 }
    dsp := { d.dsp with winStart := d.now }
    swc := { d.swc with lastAge := d.now }
    saf := { d.saf with swdogOn := true, swdogStart := d.now } }
  |> wb A.almCrcStat 0 true |> wf A.almCrcStat 5 4 1 |> wb A.almBootStat 31 true
  |> wr A.almBootTime (word ((d.boot.release + d.now) / 400)) |> wr A.memImgCycle 0xFFFFFFFF

theorem commitEffects_eq (d : Dev) : commitEffects d = diagOut "RUN" (mrdStart (smpCommit (pioCommit (startFirmware
    ((List.range 16).foldl (fun d n => if rb (A.peCtrl n) 0 d then startEngine n d else d) (stagingOff (commitMarks d))))))) :=
  rfl

/-- The rest of a commit starts units and keeps the marks. -/
theorem keeps_commitNow (d : Dev) : Keeps (commitMarks d) (commitNow d) := by
  have hrun := (Keeps.refl (commitMarks d)).stagingOff.startEngines.startFirmware.pioCommit.smpCommit.mrdStart
  unfold commitNow
  rw [commitEffects_eq]
  generalize mrdStart _ = e at hrun ⊢
  exact .whenever (hrun.upd rfl rfl rfl) fun d => (Keeps.refl d).enterDoze

/-- What shows after a commit (R14, R15, R68). -/
theorem commitNow_effect (d : Dev) :
    (commitNow d).sys.mode = .service ∧ (commitNow d).boot.step = .done ∧ rb A.almCrcStat 0 (commitNow d) = true ∧
    crcPhase (commitNow d) = 1 ∧ rd A.memImgCycle (commitNow d) = 0xFFFFFFFF := by
  obtain ⟨hstat, hcycle, hmode, hstep⟩ := keeps_commitNow d
  refine ⟨hmode, hstep, ?_, ?_, hcycle.trans (rd_wr_same _ _ _)⟩
  · rw [rb, hstat, commitMarks, rd_wr_ne _ _ (by decide), rd_wr_ne _ _ (by decide), rd_wb_ne _ _ _ (by decide), ← rb,
      rb_wf_same _ _ (by decide) (by decide), rb_wb_same _ _ _ _ (by decide)]
  · rw [crcPhase, rf, hstat, commitMarks, rd_wr_ne _ _ (by decide), rd_wr_ne _ _ (by decide), rd_wb_ne _ _ _ (by decide), ← rf]
    exact crcPhase_wf _ (by decide)

/-- The key, the reference and the sweep that matches it commit a device whose image is checked (R68, R120). -/
theorem commits_of_checked {e : Dev} {ref : Word} (hl : Loading e) (hc : committed e = false) (ha : e.sys.armDue = none)
    (hp : crcPhase e = 0) (hr : configCrc e = ref) :
    let d := atStep .apply (writeAlmCommit 0 ref) (writeAlmCommit 0 0x0E1A0001 e)
    ∃ f, when d.sys.sweepForCommit sweepDone d = commitNow f := by
  obtain ⟨hm, hs⟩ := hl
  let a : Dev := { e with sys := { e.sys with armDue := some (e.now + 64) } }
  let b : Dev := wr A.almCrcRef ref { a with sys := { a.sys with armDue := none, sweepForCommit := true } }
  have hd : atStep .apply (writeAlmCommit 0 ref) (writeAlmCommit 0 0x0E1A0001 e) = b := by
    have ha' : a.sys.mode = .startup ∧ a.boot.step = .apply := ⟨hm, hs⟩
    rw [writeAlmCommit_key hc ha, atStep, when, if_pos (Bool.and_eq_true_iff.mpr ⟨decide_eq_true ha'.1, decide_eq_true ha'.2⟩)]
    exact writeAlmCommit_reference (d := a) hc rfl (Nat.le_add_right _ _)
  have hpb : crcPhase b = 0 := by
    rw [← hp, crcPhase, crcPhase, rf, rf, rd_wr_ne ref _ (by decide)]
    simp only [rd, a]
  have hrb : configCrc b = rd A.almCrcRef b := by
    rw [configCrc_wr _ _ _ (by decide), rd_wr_same, ← hr]
    exact configCrc_congr _ _ rfl fun _ _ => rfl
  dsimp only
  rw [hd]
  exact ⟨sweepResult b, (if_pos rfl).trans (sweepDone_commit hpb rfl hm hrb)⟩

/-- Phase 7 shows the image's CRC and leaves what the commit needs (R67). -/
theorem checked_image {d : Dev} (x : Word) (hl : Loading d) (hc : committed d = false) (hp : crcPhase d = 0) :
    let e := sweepResult (wr A.mrdHash x (enterPhase 7 "P7" .apply d))
    Loading e ∧ committed e = false ∧ e.sys.armDue = d.sys.armDue ∧ crcPhase e = 0 ∧ configCrc e = configCrc d := by
  have hrd (a : Nat) (h1 : a ≠ A.mrdHash) (h2 : a ≠ A.almBootStat) :
      rd a (wr A.mrdHash x (enterPhase 7 "P7" .apply d)) = rd a d :=
    (rd_wr_ne _ _ h1).trans (rd_wf_ne _ _ _ _ h2)
  refine ⟨⟨?_, ?_⟩, ?_, ?_, ?_, ?_⟩
  · rw [sweepResult_sys]; exact hl.1
  · rw [sweepResult_boot]; rfl
  · rw [committed, rb_almCrcStat_sweepResult _ (by decide), rb, hrd _ (by decide) (by decide)]
    exact (Bool.or_false _).trans hc
  · rw [sweepResult_sys]; rfl
  · rw [crcPhase_sweepResult, crcPhase, rf, hrd _ (by decide) (by decide)]
    exact hp
  · rw [configCrc_sweepResult]
    exact configCrc_congr _ _ rfl fun a ha => hrd a (fun h => ha (by simp [h, crcFree])) fun h => ha (by simp [h, crcFree])

/-- A checked image whose configuration CRC is its reference commits (R67, R68). -/
theorem finishImage_commits {d : Dev} {ref : Word} (hl : Loading d) (hc : committed d = false) (ha : d.sys.armDue = none)
    (hp : crcPhase d = 0) (hw : wholeImageCode (enterPhase 7 "P7" .apply d) = 0) (hr : configCrc d = ref) :
    ∃ f, finishImage ref d = commitNow f := by
  obtain ⟨hl', hc', ha', hp', hr'⟩ := checked_image (word (rackHash (enterPhase 7 "P7" .apply d))) hl hc hp
  have hcommits := commits_of_checked hl' hc' (ha'.trans ha) hp' (hr'.trans hr)
  simp only [finishImage, hw, ne_eq, not_true_eq_false, if_false, hr'.trans hr]
  exact hcommits

/-- The next record is applied where it is of the kind and in order (R57, R58). -/
theorem onRecord_of_next {k : RecKind} {f : Dev → Dev} {d : Dev} (hl : Loading d) (hk : recKind d = k) (hb : k ≠ .bad)
    (hh : recHeadOk d = true) : onRecord k f d = f d := by
  subst hk
  simp only [onRecord, atStep, when, hl.1, hl.2, decide_true, Bool.and_true, if_true, if_neg hb, ne_eq, not_true_eq_false,
    if_false, hh, Bool.not_true, Bool.false_eq_true]

/-- The commit record of a checked image commits (R68). -/
theorem applyCommit_commits {d : Dev} (hl : Loading d) (hc : committed d = false) (ha : d.sys.armDue = none)
    (hp : crcPhase d = 0) (hn : recLen d = 4) (hi : commitIndexOk d = true)
    (hw : wholeImageCode (enterPhase 7 "P7" .apply d) = 0) (hr : configCrc d = word (recNat 0 4 d)) :
    ∃ f, applyCommit d = commitNow f := by
  simp only [applyCommit, hn, hi, ne_eq, not_true_eq_false, Bool.true_eq_false, or_self, if_false]
  exact finishImage_commits hl hc ha hp hw hr

/-- The return from RETAIN ends in service (R93). -/
theorem retainDone_effect (d : Dev) : (retainDone d).sys.mode = .service ∧ crcPhase (retainDone d) = 1 := by
  obtain ⟨hstat, -, hmode, -⟩ := keeps_retainDone d
  refine ⟨hmode, ?_⟩
  rw [crcPhase, rf, hstat]
  exact crcPhase_wf _ (by decide)

end Sys2Proof.Machine
end

section
/-! Rollback fuses: burning fuses that were not burned adds their number to the count (R65, R488). -/

namespace Sys2Proof.Machine

/-- The 64 rollback fuses. -/
def rollbackFuses : List Nat := (List.range 64).map fuseRollback

theorem rollbackFuses_nodup : rollbackFuses.Nodup :=
  List.nodup_range.map fun _ _ h => Nat.add_left_cancel h

theorem has_burn (f : Fuses) (l : List Nat) (i : Nat) : (f.burn l).has i = (f.has i || l.contains i) := by
  rw [Bool.eq_iff_iff]
  by_cases h : i ∈ f.burned <;> simp [Fuses.burn, Fuses.has, h]

theorem rollback_eq (f : Fuses) : f.rollback = (rollbackFuses.filter f.has).length := by
  rw [rollbackFuses, List.filter_map, List.length_map]
  rfl

/-- Rollback fuses burned for the first time add to the count. -/
theorem rollback_burn (f : Fuses) {l : List Nat} (hd : l.Nodup) (hl : ∀ i ∈ l, i ∈ rollbackFuses ∧ f.has i = false) :
    (f.burn l).rollback = f.rollback + l.length := by
  have hdisj : List.Disjoint (rollbackFuses.filter f.has) l := fun i hi hil =>
    absurd (List.mem_filter.mp hi).2 (ne_true_of_eq_false (hl i hil).2)
  have hperm : (rollbackFuses.filter (f.burn l).has).Perm (rollbackFuses.filter f.has ++ l) :=
    (List.perm_ext_iff_of_nodup (rollbackFuses_nodup.filter _)
      (List.Nodup.append (rollbackFuses_nodup.filter _) hd hdisj)).mpr fun i => by
      have := hl i
      simp only [List.mem_filter, List.mem_append, has_burn, Bool.or_eq_true, List.contains_iff_mem]
      tauto
  rw [rollback_eq, rollback_eq, hperm.length_eq, List.length_append]

/-- The fuses that ROLLBACK_FUSE_BURN burns make up the difference to the reference. -/
theorem rollback_burn_rollbackList {f : Fuses} {d : Dev} (hlt : f.rollback < hdrNat d.boot.hdr 0x0C 2)
    (hle : hdrNat d.boot.hdr 0x0C 2 ≤ 64) : (f.burn (rollbackList f d)).rollback = hdrNat d.boot.hdr 0x0C 2 := by
  have hsub : (rollbackList f d).Sublist (rollbackFuses.filter fun i => !f.has i) := List.take_sublist _ _
  have hfree : 64 = (rollbackFuses.filter f.has).length + (rollbackFuses.filter fun i => !f.has i).length :=
    List.length_eq_length_filter_add (l := rollbackFuses) f.has
  have hlen : (rollbackList f d).length = hdrNat d.boot.hdr 0x0C 2 - f.rollback := by
    refine List.length_take.trans (Nat.min_eq_left ?_)
    rw [← rollback_eq] at hfree
    change _ ≤ (rollbackFuses.filter fun i => !f.has i).length
    omega
  rw [rollback_burn f (hsub.nodup (rollbackFuses_nodup.filter _)), hlen]
  · omega
  · intro i hi
    obtain ⟨hmem, hnot⟩ := List.mem_filter.mp (hsub.subset hi)
    exact ⟨hmem, by simpa using hnot⟩

theorem fuseTable_mem (f : Fuses) (d : Dev) : (fuseTable f d).mem = d.mem := by
  have hslots (k : Nat) (e : Dev) (h : Nat → Word) : ((List.range 12).foldl (fun d w =>
      { d with tabs := tabSet tabsDefault d.tabs (tabKey 45 (12 * k + w)) (h w) }) e).mem = e.mem :=
    List.foldlRecOn (motive := fun x : Dev => x.mem = e.mem) _ _ rfl fun _ hx _ _ => hx
  refine List.foldlRecOn (motive := fun x : Dev => x.mem = d.mem) _ _ ?_ fun _ hx _ _ => hx
  exact List.foldlRecOn (motive := fun x : Dev => x.mem = d.mem) _ _ rfl fun _ hx k _ => (hslots k _ _).trans hx

theorem showFuses_mem (f : Fuses) (d : Dev) : (showFuses f d).mem = d.mem := fuseTable_mem f _

end Sys2Proof.Machine
end

section
/-! The commands of the commit, of the sweeps and of the rollback fuses, and the obligation about them (R65, R68, R69, R119,
R120). -/

namespace Sys2Proof.Machine

/-! ### What each command runs -/

theorem onDev_eq_next {f : Dev → Dev} {s : State} {e : Dev} (h : f s.dev = e) : onDev f s = .next { s with dev := e } := by
  rw [onDev, h]

theorem exec_commitRecord (s : State) : exec .commitRecord s = onDev (onRecord .commit applyCommit) s := rfl

theorem exec_almCommitArm {m : Fin 20} {v : Word} {s : State} (hp : powered s.dev = true) (ha : s.dev.sys.armDue = none) :
    exec (.almCommitArm m v) s = .next { s with dev := writeAlmCommit m v s.dev } :=
  onDev_eq_next (if_pos (by rw [hp, ha]; rfl))

theorem exec_almCommitReference {m : Fin 20} {v : Word} {due : Nat} {s : State} (hp : powered s.dev = true)
    (ha : s.dev.sys.armDue = some due) :
    exec (.almCommitReference m v) s = .next { s with dev := writeAlmCommit m v s.dev } :=
  onDev_eq_next (if_pos (by rw [hp, ha]; rfl))

theorem exec_commitArmTimeout {due : Nat} {s : State} (ha : s.dev.sys.armDue = some due) (hl : due < s.dev.now) :
    exec .commitArmTimeout s = .next { s with dev := commitRefuse s.dev } := by
  change execCommitArmTimeout s = _
  refine onDev_eq_next ?_
  simp only [ha, when, decide_eq_true hl, if_true]

theorem exec_configCrcSweepDone {s : State} (h : powered s.dev = true ∨ crcPhase s.dev = 3) :
    exec .configCrcSweepDone s = .next { s with dev := sweepDone s.dev } :=
  onDev_eq_next (if_pos (by simpa using h))

theorem exec_crcTestControl {m : Fin 20} {v : Word} {s : State} (hp : powered s.dev = true) :
    exec (.crcTestControl m v) s = .next { s with dev := writeCrcCtrl m v s.dev } :=
  onDev_eq_next (if_pos hp)

theorem exec_rollbackFuseBurn {s : State} (hs : inService s.dev = true) (hl : lifeState s.dev = 2 ∨ lifeState s.dev = 3) :
    exec .rollbackFuseBurn s =
      .next { s with
        fuses := s.fuses.burn (rollbackList s.fuses s.dev)
        dev := showFuses (s.fuses.burn (rollbackList s.fuses s.dev)) s.dev } :=
  if_pos ⟨hs, hl⟩

/-! ### The obligation's clauses -/

/-- A refused commit: REFUSED, nothing locked, no key pending (R120). -/
def CommitRefused (s t : State) : Prop :=
  rb A.almCrcStat 2 t.dev = true ∧ t.dev.sys.armDue = none ∧ rb A.almCrcStat 0 t.dev = false ∧ t.dev.mem = s.dev.mem

theorem commitRefused_commitRefuse {s : State} (hc : committed s.dev = false) (hl : ¬Loading s.dev) :
    CommitRefused s { s with dev := commitRefuse s.dev } := commitRefuse_effect hc hl

theorem commitRecord_commits (s : State) (hl : Loading s.dev) (hc : committed s.dev = false) (ha : s.dev.sys.armDue = none)
    (hp : crcPhase s.dev = 0) (hk : recKind s.dev = .commit) (hh : recHeadOk s.dev = true) (hn : recLen s.dev = 4)
    (hi : commitIndexOk s.dev = true) (hw : wholeImageCode (enterPhase 7 "P7" .apply s.dev) = 0)
    (hr : configCrc s.dev = word (recNat 0 4 s.dev)) :
    ∃ t, exec .commitRecord s = .next t ∧ t.dev.sys.mode = .service ∧ t.dev.boot.step = .done ∧
      rb A.almCrcStat 0 t.dev = true ∧ crcPhase t.dev = 1 ∧ rd A.memImgCycle t.dev = 0xFFFFFFFF ∧ t.fuses = s.fuses := by
  obtain ⟨f, hf⟩ := applyCommit_commits hl hc ha hp hn hi hw hr
  obtain ⟨hmode, hstep, hcom, hphase, hcycle⟩ := commitNow_effect f
  refine ⟨{ s with dev := commitNow f }, ?_, hmode, hstep, hcom, hphase, hcycle, rfl⟩
  rw [exec_commitRecord, onDev, onRecord_of_next hl hk (by decide) hh, hf]

theorem almCommitArm_effect (s : State) (v : Word) (m : Fin 20) (hp : powered s.dev = true) (hc : committed s.dev = false)
    (ha : s.dev.sys.armDue = none) :
    (∃ t, exec (.almCommitArm 0 0x0E1A0001) s = .next t ∧ t.dev.sys.armDue = some (s.dev.now + 64) ∧
      t.dev.regs = s.dev.regs ∧ t.dev.mem = s.dev.mem) ∧
    (v ≠ 0x0E1A0001 → ¬Loading s.dev → ∃ t, exec (.almCommitArm 0 v) s = .next t ∧ CommitRefused s t) ∧
    (m ≠ 0 → exec (.almCommitArm m v) s = .next s) := by
  refine ⟨⟨_, exec_almCommitArm hp ha, ?_⟩, fun hv hl => ⟨_, exec_almCommitArm hp ha, ?_⟩, fun hm => ?_⟩
  · have hkey := writeAlmCommit_key hc ha
    exact ⟨congrArg (·.sys.armDue) hkey, congrArg (·.regs) hkey, congrArg (·.mem) hkey⟩
  · have hrefuse := writeAlmCommit_not_key hc ha hv
    exact hrefuse ▸ commitRefused_commitRefuse hc hl
  · rw [exec_almCommitArm hp ha, writeAlmCommit_other_first hc ha (fun h => hm (Fin.ext h))]

theorem almCommitReference_effect (s : State) (v : Word) (m : Fin 20) (due : Nat) (hp : powered s.dev = true)
    (hc : committed s.dev = false) (ha : s.dev.sys.armDue = some due) :
    (s.dev.now ≤ due → ∃ t, exec (.almCommitReference 0 v) s = .next t ∧ rd A.almCrcRef t.dev = v ∧
      t.dev.sys.sweepForCommit = true ∧ t.dev.sys.armDue = none ∧ ∀ a, a ≠ A.almCrcRef → rd a t.dev = rd a s.dev) ∧
    (¬Loading s.dev → m ≠ 0 ∨ due < s.dev.now → ∃ t, exec (.almCommitReference m v) s = .next t ∧ CommitRefused s t) ∧
    (¬Loading s.dev → due < s.dev.now → ∃ t, exec .commitArmTimeout s = .next t ∧ CommitRefused s t) := by
  refine ⟨fun hn => ⟨_, exec_almCommitReference hp ha, ?_⟩, fun hl hb => ⟨_, exec_almCommitReference hp ha, ?_⟩,
    fun hl hd => ⟨_, exec_commitArmTimeout ha hd, commitRefused_commitRefuse hc hl⟩⟩
  · have href := writeAlmCommit_reference (v := v) hc ha hn
    refine ⟨(congrArg (rd A.almCrcRef) href).trans (rd_wr_same _ _ _), congrArg (·.sys.sweepForCommit) href,
      congrArg (·.sys.armDue) href, fun a h => (congrArg (rd a) href).trans ?_⟩
    rw [rd_wr_ne _ _ h]
    simp only [rd]
  · have hrefuse := writeAlmCommit_bad_reference (m := m) (v := v) hc ha (hb.imp_left fun h h' => h (Fin.ext h'))
    exact hrefuse ▸ commitRefused_commitRefuse hc hl

theorem sweep_test (s : State) (hw : powered s.dev = true) (hp : crcPhase s.dev = 2) (ht : rb A.almCrcCtrl 0 s.dev = false) :
    (configCrc s.dev = rd A.almCrcRef s.dev → ∃ t, exec .configCrcSweepDone s = .next t ∧
      rd A.almCrcCur t.dev = configCrc s.dev ∧ rb A.almCrcStat 1 t.dev = true ∧ crcPhase t.dev = 1 ∧ t.dev.saf = s.dev.saf) ∧
    (configCrc s.dev ≠ rd A.almCrcRef s.dev → rb A.safStat 0 s.dev = false → ∃ t, exec .configCrcSweepDone s = .next t ∧
      rd A.almCrcCur t.dev = configCrc s.dev ∧ t.dev.saf.reports = s.dev.saf.reports ++ [⟨0x43, 1, 0, 0⟩]) := by
  constructor
  · intro hok
    refine ⟨_, exec_configCrcSweepDone (.inl hw), ?_⟩
    rw [sweepDone_test_match hp ht hok]
    refine ⟨(rd_wf_ne _ _ _ _ (by decide)).trans (rd_almCrcCur_sweepResult _), ?_, crcPhase_wf _ (by decide), ?_⟩
    · rw [rb_wf_same _ _ (by decide) (by decide), rb_almCrcStat_sweepResult _ (by decide)]
      exact Bool.or_true _
    · rw [wf, wr_saf, sweepResult_saf]
  · intro hbad hu
    obtain ⟨hregs, hreports⟩ := report_sweepResult hu
    refine ⟨_, exec_configCrcSweepDone (.inl hw), ?_⟩
    rw [sweepDone_test_mismatch hp ht hu hbad]
    refine ⟨(rd_wf_ne _ _ _ _ (by decide)).trans ((hregs _).trans (rd_almCrcCur_sweepResult _)), ?_⟩
    rw [wf, wr_saf, hreports]

theorem sweep_recovery_match (s : State) (hp : crcPhase s.dev = 3) (hok : configCrc s.dev = rd A.almCrcRef s.dev) :
    ∃ t, exec .configCrcSweepDone s = .next t ∧ crcPhase t.dev = 1 ∧
      t.dev.sys.mode = (if s.dev.sys.mode = .retain then .service else s.dev.sys.mode) := by
  refine ⟨_, exec_configCrcSweepDone (.inr hp), ?_⟩
  rw [sweepDone_recovery_match hp hok]
  split
  · obtain ⟨hmode, hphase⟩ := retainDone_effect (sweepResult s.dev)
    exact ⟨hphase, hmode⟩
  · refine ⟨crcPhase_wf _ (by decide), ?_⟩
    rw [wf, wr_sys, sweepResult_sys]

theorem sweep_recovery_mismatch (s : State) (hp : crcPhase s.dev = 3) (hbad : configCrc s.dev ≠ rd A.almCrcRef s.dev)
    (hu : rb A.safStat 0 s.dev = false) :
    ∃ t, exec .configCrcSweepDone s = .next t ∧ rd A.almCrcCur t.dev = configCrc s.dev ∧
      t.dev.saf.reports = s.dev.saf.reports ++ [⟨0x43, 1, 0, 0⟩] := by
  obtain ⟨hregs, hreports⟩ := report_sweepResult hu
  refine ⟨_, exec_configCrcSweepDone (.inr hp), ?_⟩
  rw [sweepDone_recovery_mismatch hp hbad]
  exact ⟨(hregs _).trans (rd_almCrcCur_sweepResult _), hreports⟩

theorem sweep_start (s : State) (hw : powered s.dev = true) (hp : crcPhase s.dev = 0) (hn : s.dev.sys.sweepForCommit = false) :
    ∃ t, exec .configCrcSweepDone s = .next t ∧ rd A.almCrcCur t.dev = configCrc s.dev ∧
      ∀ a, a ≠ A.almCrcCur → a ≠ A.almCrcStat → rd a t.dev = rd a s.dev := by
  refine ⟨_, exec_configCrcSweepDone (.inl hw), ?_⟩
  rw [sweepDone_start hp hn]
  exact ⟨rd_almCrcCur_sweepResult _, fun a hc hs => rd_sweepResult_ne _ hc hs⟩

theorem sweep_service (s : State) (hp : crcPhase s.dev = 1) : exec .configCrcSweepDone s = .next s := by
  have hsame (c : Bool) : when c sweepDone s.dev = s.dev := by
    cases c
    · rfl
    · exact sweepDone_service hp
  exact onDev_eq_next (hsame _)

theorem rollbackFuseBurn_effect (s : State) (hs : inService s.dev = true) (hl : lifeState s.dev = 2 ∨ lifeState s.dev = 3)
    (hlt : s.fuses.rollback < hdrNat s.dev.boot.hdr 0x0C 2) (hle : hdrNat s.dev.boot.hdr 0x0C 2 ≤ 64) :
    ∃ t, exec .rollbackFuseBurn s = .next t ∧ t.fuses.rollback = hdrNat s.dev.boot.hdr 0x0C 2 ∧
      (∀ i, s.fuses.has i = true → t.fuses.has i = true) ∧ t.dev.mem = s.dev.mem :=
  ⟨_, exec_rollbackFuseBurn hs hl, rollback_burn_rollbackList hlt hle, fun i hi => by rw [has_burn, hi, Bool.true_or],
    showFuses_mem _ _⟩

theorem rollbackFuseBurn_elsewhere (s : State)
    (h : inService s.dev = false ∨ (lifeState s.dev ≠ 2 ∧ lifeState s.dev ≠ 3)) : exec .rollbackFuseBurn s = .next s := by
  refine if_neg fun ⟨hs, hl⟩ => ?_
  obtain h | ⟨h2, h3⟩ := h
  · exact ne_true_of_eq_false h hs
  · exact hl.elim h2 h3

/-- Settles O30, one lemma per clause: the commit record runs through key, reference and sweep to the commit, which later
operations leave standing; each arm, reference and sweep ends in one branch of its command; the fuses burned are new ones. -/
theorem commitAndSweeps : Obligations.CommitAndSweeps := by
  unfold Obligations.CommitAndSweeps
  intro s v m
  refine ⟨commitRecord_commits s, almCommitArm_effect s v m, almCommitReference_effect s v m, sweep_test s,
    sweep_recovery_match s, sweep_recovery_mismatch s, sweep_start s, sweep_service s, fun hw => ?_,
    rollbackFuseBurn_effect s, rollbackFuseBurn_elsewhere s⟩
  obtain ⟨hmem, hserv, helse⟩ := crcPhase_writeCrcCtrl_one m s.dev
  exact ⟨_, exec_crcTestControl hw, hmem, hserv, helse⟩

end Sys2Proof.Machine
end

section
/-! Exceptions: what entry and the double fault leave of the registers, the context and the memory, and the obligation about
ILLEGAL_INSTRUCTION and BRK (R167-R169, R171, R194). -/

namespace Sys2Proof.Machine

open Sys2Proof.Safety

/-! ### The context that issues -/

/-- A RUNNING context of an engine is in state RUNNING (R150). -/
theorem state_of_running {c key : Nat} {d : Dev} (h : running c d = some key) : (getCtx key d).state = .running :=
  of_decide_eq_true (List.find?_some (p := fun k => decide ((getCtx k d).state = .running)) h)

theorem getCtx_issued (c key k : Nat) (d : Dev) : getCtx k (issued c key d) = getCtx k d := getCtx_modCore _ _ _ _
theorem rd_issued (c key a : Nat) (d : Dev) : rd a (issued c key d) = rd a d := rd_modCore _ _ _ _

/-! ### Interrupts of the Supervisor -/

theorem irqOther_frame (d : Dev) : { irqOther d with ctxs := d.ctxs, cores := d.cores } = d := pendEvent_frame supKey 8 d

theorem irqOther_mem (d : Dev) : (irqOther d).mem = d.mem := by conv_rhs => rw [← irqOther_frame d]
theorem rd_irqOther (a : Nat) (d : Dev) : rd a (irqOther d) = rd a d := by
  unfold rd
  conv_rhs => rw [← irqOther_frame d]

/-- A Supervisor interrupt leaves a halted context of an engine alone. -/
theorem getCtx_irqOther_of_halted {key : Nat} {d : Dev} (hk : key ≠ supKey) (hs : (getCtx key d).state = .halted) :
    getCtx key (irqOther d) = getCtx key d := by
  have hput (x : Ctx) : getCtx key (putCtx supKey x d) = getCtx key d := getCtx_putCtx_ne x d hk
  unfold irqOther pendEvent
  dsimp only
  split
  · split
    · rw [unblock, getCtx_schedule] <;> simp [hput, hs]
    · exact hput _
  · exact hput _

/-! ### The double fault -/

/-- PE_STAT and the Supervisor's interrupt at a double fault of an engine (R169). -/
def showDoubleFault (c key cause : Nat) (d : Dev) : Dev :=
  d |> raise (A.peStat c) 1 |> wf (A.peStat c) 15 12 (key % 16) |> wf (A.peStat c) 23 16 cause |> irqOther

theorem showDoubleFault_mem (c key cause : Nat) (d : Dev) : (showDoubleFault c key cause d).mem = d.mem :=
  irqOther_mem _

theorem rd_showDoubleFault_ne {a c : Nat} (key cause : Nat) (d : Dev) (h : a ≠ A.peStat c) :
    rd a (showDoubleFault c key cause d) = rd a d := by
  rw [showDoubleFault, rd_irqOther, rd_wf_ne _ _ _ _ h, rd_wf_ne _ _ _ _ h, rd_raise_ne _ _ h]

theorem getCtx_showDoubleFault {c key k : Nat} (cause : Nat) {d : Dev} (hk : k ≠ supKey)
    (hs : (getCtx k d).state = .halted) : getCtx k (showDoubleFault c key cause d) = getCtx k d :=
  getCtx_irqOther_of_halted hk hs

/-- A field keeps its value where another field of its register is stored. -/
theorem rf_wf_other {a hi lo hi' lo' : Nat} (v : Nat) (d : Dev) (hw : hi < 32) (h : hi < lo' ∨ hi' < lo) :
    rf a hi lo (wf a hi' lo' v d) = rf a hi lo d := by
  refine fld_congr fun i hl hh => ?_
  rw [wf, rd_wr_same, bit_setFld _ _ _ _ (by omega), if_neg (by omega)]

/-- PE_STAT shows the context and the cause of a double fault (R169). -/
theorem peStat_showDoubleFault (c key cause : Nat) (d : Dev) (hc : cause < 256) :
    rb (A.peStat c) 1 (showDoubleFault c key cause d) = true ∧
    rf (A.peStat c) 15 12 (showDoubleFault c key cause d) = key % 16 ∧
    rf (A.peStat c) 23 16 (showDoubleFault c key cause d) = cause := by
  refine ⟨?_, ?_, ?_⟩
  · rw [rb, showDoubleFault, rd_irqOther, ← rb, rb_wf_same _ _ (by decide) (by decide),
      rb_wf_same _ _ (by decide) (by decide), rb_raise_same _ _ (by decide)]
    simp
  · rw [rf, showDoubleFault, rd_irqOther, ← rf, rf_wf_other _ _ (by decide) (by decide), rf_wf_same _ _ _ _ _ (by decide)]
    exact Nat.mod_mod _ _
  · rw [rf, showDoubleFault, rd_irqOther, ← rf, rf_wf_same _ _ _ _ _ (by decide)]
    exact Nat.mod_eq_of_lt hc

/-- With EXL = 1 the context halts (R169). -/
theorem takeExc_double {key : Nat} {d : Dev} (e : Exc) (h : bit (getCtx key d).sr 11 = true) :
    takeExc key e d =
      let halted := putCtx key { getCtx key d with state := .halted, wait := .none, hold := false } d
      schedule (key / 16) (if key / 16 = 16 then halted else showDoubleFault (key / 16) key e.cause halted) := by
  unfold takeExc
  exact if_pos h

/-- What EPC keeps (R168, R169): the instruction, or the branch whose delay slot it stands in. -/
def returnPc (x : Ctx) : Word := match x.slot with | some (_, b) => word b | none => x.pc

/-- The context of an exception entry (R168, R169). -/
def entered (key : Nat) (e : Exc) (x : Ctx) : Ctx :=
  { x with
    epc := returnPc x
    esr := e.esr x.sys x.slot.isSome
    ebad := match e.ebad with | some a => word a | none => x.ebad
    sr := setBit (setBit x.sr 7 true) 11 true
    pc := word (vector (key / 16) e.cause)
    slot := none, rfe := false, wait := .none, state := if x.state = .blocked then .ready else x.state }

/-- With EXL = 0 the context enters the vector and PE_STAT shows the exception (R169). -/
theorem takeExc_entry {key : Nat} {d : Dev} (e : Exc) (h : bit (getCtx key d).sr 11 = false) :
    takeExc key e d =
      let d' := putCtx key (entered key e (getCtx key d)) d
      schedule (key / 16) (if key / 16 = 16 then d' else raise (A.peStat (key / 16)) 2 d') := by
  unfold takeExc
  exact if_neg (ne_true_of_eq_false h)

/-- An exception changes no memory. -/
theorem takeExc_mem (key : Nat) (e : Exc) (d : Dev) : (takeExc key e d).mem = d.mem := by
  cases h : bit (getCtx key d).sr 11
  · rw [takeExc_entry e h, schedule_mem]
    split <;> rfl
  · rw [takeExc_double e h, schedule_mem]
    split
    · rfl
    · exact showDoubleFault_mem _ _ _ _

/-- An exception changes no register but PE_STAT of its engine. -/
theorem rd_takeExc_ne {key a : Nat} (e : Exc) (d : Dev) (ha : a ≠ A.peStat (key / 16)) :
    rd a (takeExc key e d) = rd a d := by
  cases h : bit (getCtx key d).sr 11
  · rw [takeExc_entry e h, rd_schedule]
    split
    · rfl
    · exact rd_raise_ne _ _ ha
  · rw [takeExc_double e h, rd_schedule]
    split
    · rfl
    · exact rd_showDoubleFault_ne _ _ _ ha

/-- The context after a double fault, and what PE_STAT of an engine shows (R169). -/
theorem takeExc_double_effect {key : Nat} {d : Dev} (e : Exc) (h : bit (getCtx key d).sr 11 = true)
    (hc : e.cause < 256) :
    getCtx key (takeExc key e d) = { getCtx key d with state := .halted, wait := .none, hold := false } ∧
    (key / 16 ≠ 16 → rb (A.peStat (key / 16)) 1 (takeExc key e d) = true ∧
      rf (A.peStat (key / 16)) 15 12 (takeExc key e d) = key % 16 ∧
      rf (A.peStat (key / 16)) 23 16 (takeExc key e d) = e.cause) := by
  rw [takeExc_double e h]
  dsimp only
  by_cases h16 : key / 16 = 16
  · rw [if_pos h16, getCtx_schedule (by simp), getCtx_putCtx_same]
    exact ⟨rfl, fun hn => absurd h16 hn⟩
  · have hk : key ≠ supKey := fun hk => h16 (by rw [hk]; rfl)
    rw [if_neg h16]
    refine ⟨?_, fun _ => ?_⟩
    · have hctx := getCtx_showDoubleFault (c := key / 16) (key := key) e.cause hk
        (d := putCtx key { getCtx key d with state := .halted, wait := .none, hold := false } d) (by simp)
      rw [getCtx_schedule (by rw [hctx]; simp), hctx, getCtx_putCtx_same]
    · simp only [rb, rf, rd_schedule]
      exact peStat_showDoubleFault _ _ _ _ hc

/-- The context of a running instruction that takes its exception, and what PE_STAT of an engine shows (R169). -/
theorem takeExc_entry_effect {key : Nat} {d : Dev} (e : Exc) (h : bit (getCtx key d).sr 11 = false)
    (hr : (getCtx key d).state = .running) :
    getCtx key (takeExc key e d) = entered key e (getCtx key d) ∧
    (key / 16 ≠ 16 → rb (A.peStat (key / 16)) 2 (takeExc key e d) = true) := by
  have hx : (entered key e (getCtx key d)).state ≠ .ready := by simp [entered, hr]
  rw [takeExc_entry e h]
  dsimp only
  split
  next h16 =>
    rw [getCtx_schedule (by simpa using hx), getCtx_putCtx_same]
    exact ⟨rfl, fun hn => absurd h16 hn⟩
  next =>
    have hctx : getCtx key (raise (A.peStat (key / 16)) 2 (putCtx key (entered key e (getCtx key d)) d)) =
        entered key e (getCtx key d) := getCtx_putCtx_same _ _ _
    refine ⟨by rw [getCtx_schedule (by rw [hctx]; exact hx), hctx], fun _ => ?_⟩
    rw [rb, rd_schedule, ← rb, rb_raise_same _ _ (by decide)]
    simp

/-! ### The two instructions -/

theorem exec_illegalInstruction {c : Fin 17} {key : Nat} {s : State} (h : Issues c key s) :
    exec (.illegalInstruction c) s = .next (raises c key { cause := 1 } s) := onDev_issue _ h

theorem exec_brk {c : Fin 17} {key : Nat} {s : State} (code : BitVec 10) (h : Issues c key s)
    (hh : c ≠ 16 → rb (A.peCtrl c) 1 s.dev = true → dbgAccGranted s.dev = false) :
    exec (.brk c code) s = .next (raises c key { cause := 8 } s) := by
  refine (onDev_issue _ h).trans ?_
  rw [if_neg, raises]
  rintro ⟨hc, hb, hg⟩
  have hg' : dbgAccGranted s.dev = true := hg
  exact absurd hg' (ne_true_of_eq_false (hh (fun e => hc (by rw [e]; rfl)) hb))

/-- A word is settled by its bits. -/
theorem word_ext {w u : Word} (h : ∀ i < 32, bit w i = bit u i) : w = u :=
  BitVec.eq_of_getLsbD_eq fun i hi => by simpa [bit, BitVec.testBit_toNat] using h i hi

/-- SR with SYS and EXL set (R169). -/
theorem setBit_sys_exl (w : Word) : setBit (setBit w 7 true) 11 true = w ||| 0x880 := by
  have hclear : ∀ i < 32, i ≠ 7 → i ≠ 11 → Nat.testBit 0x880 i = false := by decide
  refine word_ext fun i hi => ?_
  rw [setBit, setBit, bit_setFld _ _ _ _ hi, bit_setFld _ _ _ _ hi, show (0x880 : Word) = word 0x880 from rfl,
    bit_or_word _ _ hi]
  by_cases h7 : i = 7
  · subst h7; exact (Bool.or_true _).symm
  · by_cases h11 : i = 11
    · subst h11; exact (Bool.or_true _).symm
    · rw [if_neg (by omega), if_neg (by omega), hclear i hi h7 h11, Bool.or_false]

/-- ESR of an exception whose instruction itself is at fault (R168). -/
theorem esr_of_cause (cause : Nat) (psys bd : Bool) :
    ({ cause } : Exc).esr psys bd = word (cause + 16384 * bd.toNat + 32768 * psys.toNat) := by
  refine congrArg word ?_
  simp only [atBit, Nat.shiftLeft_eq, Bool.toNat_false]
  omega

theorem vector_fin (c : Fin 17) (cause : Nat) :
    vector c cause = (if c = 16 then 0x01000000 else 0) + cause * 0x20 := by
  rw [vector]
  by_cases h : c = 16
  · rw [if_pos h, if_pos (by rw [h]; rfl)]
  · have h' : c.val ≠ 16 := fun he => h (Fin.ext he)
    rw [if_neg h, if_neg h']

/-- The entry of a running context into an exception that names no address (R168, R169). -/
theorem entered_of_cause {c : Fin 17} {key : Nat} (cause : Nat) {x : Ctx} (hk : key / 16 = c) (hr : x.state = .running) :
    entered key { cause } x = { x with
      epc := returnPc x
      esr := word (cause + 16384 * x.slot.isSome.toNat + 32768 * x.sys.toNat)
      sr := x.sr ||| 0x880
      pc := word ((if c = 16 then 0x01000000 else 0) + cause * 0x20)
      slot := none, rfe := false, wait := .none } := by
  rw [entered, esr_of_cause, setBit_sys_exl, hk, vector_fin, if_neg (by rw [hr]; decide)]

/-- What either of the two instructions leaves (R167-R169). -/
theorem raises_effect {c : Fin 17} {key cause : Nat} {s : State} (h : Issues c key s) (hk : key / 16 = c) (hc : cause < 256) :
    let x := getCtx key s.dev
    let t := raises c key { cause } s
    t.dev.mem = s.dev.mem ∧ (∀ a, a ≠ A.peStat c → rd a t.dev = rd a s.dev) ∧
    (bit x.sr 11 = false →
      getCtx key t.dev = { x with
        epc := returnPc x
        esr := word (cause + 16384 * x.slot.isSome.toNat + 32768 * x.sys.toNat)
        sr := x.sr ||| 0x880
        pc := word ((if c = 16 then 0x01000000 else 0) + cause * 0x20)
        slot := none, rfe := false, wait := .none } ∧
      (c ≠ 16 → rb (A.peStat c) 2 t.dev = true)) ∧
    (bit x.sr 11 = true →
      getCtx key t.dev = { x with state := .halted, wait := .none, hold := false } ∧
      (c ≠ 16 → rb (A.peStat c) 1 t.dev = true ∧ rf (A.peStat c) 15 12 t.dev = key % 16 ∧
        rf (A.peStat c) 23 16 t.dev = cause)) := by
  have hx := getCtx_issued c key key s.dev
  have hr : (getCtx key s.dev).state = .running := state_of_running h.2.1
  have h16 : c ≠ 16 → c.val ≠ 16 := fun hc he => hc (Fin.ext he)
  refine ⟨takeExc_mem _ _ _, fun a ha => ?_, fun hl => ?_, fun hl => ?_⟩
  · exact (rd_takeExc_ne _ _ (by rwa [hk])).trans (rd_issued _ _ _ _)
  · obtain ⟨hctx, hstat⟩ := takeExc_entry_effect (key := key) (d := issued c key s.dev) { cause } (by rwa [hx]) (by rwa [hx])
    rw [hk] at hstat
    exact ⟨by rw [raises, hctx, hx, entered_of_cause cause hk hr], fun hc => hstat (h16 hc)⟩
  · obtain ⟨hctx, hstat⟩ := takeExc_double_effect (key := key) (d := issued c key s.dev) { cause } (by rwa [hx]) hc
    rw [hk] at hstat
    exact ⟨by rw [raises, hctx, hx], fun hc => hstat (h16 hc)⟩

/-- Settles O17: both instructions take exceptions without an address, and exception entry has one lemma for EXL = 0 and one
for EXL = 1. -/
theorem exceptionEntry : Obligations.ExceptionEntry := by
  unfold Obligations.ExceptionEntry
  intro c key code s h hk x p hp hbrk
  rcases List.mem_pair.mp hp with rfl | rfl
  · exact ⟨_, exec_illegalInstruction h, raises_effect h hk (by decide)⟩
  · exact ⟨_, exec_brk code h (hbrk rfl), raises_effect h hk (by decide)⟩

end Sys2Proof.Machine
end

section
/-! The general register write: it touches registers and their wrap marks only, and a command register keeps nothing of what is
written to it (R11, R106). -/

namespace Sys2Proof.Machine

/-- Two devices that differ in registers and wrap marks only. -/
def SameButRegs (d e : Dev) : Prop := { e with regs := d.regs, wraps := d.wraps } = d

theorem SameButRegs.trans {d e f : Dev} (h : SameButRegs d e) (g : SameButRegs e f) : SameButRegs d f := by
  unfold SameButRegs at *
  rw [← h, ← g]

theorem sameButRegs_wr (a : Nat) (v : Word) (d : Dev) : SameButRegs d (wr a v d) := by
  unfold SameButRegs
  rfl

theorem sameButRegs_raise (a i : Nat) (d : Dev) : SameButRegs d (raise a i d) := by
  unfold SameButRegs
  rfl

theorem sameButRegs_raiseIf (c : Bool) (a i : Nat) (d : Dev) : SameButRegs d (raiseIf c a i d) := by
  cases c
  · rfl
  · exact sameButRegs_raise _ _ _

theorem sameButRegs_errAt (base m k a : Nat) (d : Dev) : SameButRegs d (errAt base m k a d) :=
  (sameButRegs_raise _ _ _).trans (sameButRegs_wr _ _ _)

theorem sameButRegs_errIf (c : Bool) (base m k a : Nat) (d : Dev) : SameButRegs d (errIf c base m k a d) := by
  cases c
  · rfl
  · exact sameButRegs_errAt _ _ _ _ _

theorem sameButRegs_clearStatus (base m a sq : Nat) (v : Word) (d : Dev) :
    SameButRegs d (clearStatus base m a sq v d) := by
  unfold clearStatus
  dsimp only
  split
  · exact sameButRegs_wr _ _ _
  · exact sameButRegs_errAt _ _ _ _ _

theorem sameButRegs_writeRow (u : RegUnit) (r : Row) (m a : Nat) (v : Word) (d : Dev) :
    SameButRegs d (writeRow u r m a v d) := by
  have hstored : SameButRegs d (if r.sq ≠ 0 then clearStatus u.base m a r.sq v d
      else wr a (writtenWord r.rw r.rwl r.mbz (committed d) (rd a d) v) d) := by
    split
    · exact sameButRegs_clearStatus _ _ _ _ _ _
    · exact sameButRegs_wr _ _ _
  exact ((hstored.trans (sameButRegs_errIf _ _ _ _ _ _)).trans (sameButRegs_errIf _ _ _ _ _ _)).trans
    (sameButRegs_errIf _ _ _ _ _ _)

/-- The general register write touches registers and wrap marks only. -/
theorem sameButRegs_storeReg (m a : Nat) (v : Word) (d : Dev) : SameButRegs d (storeReg m a v d) := by
  unfold storeReg
  split
  · exact sameButRegs_writeRow _ _ _ _ _ _
  · unfold unmappedReg
    split <;> exact sameButRegs_errAt _ _ _ _ _

namespace SameButRegs

variable {d e : Dev}

theorem now (h : SameButRegs d e) : e.now = d.now := congrArg (·.now) h
theorem mem (h : SameButRegs d e) : e.mem = d.mem := congrArg (·.mem) h
theorem sys (h : SameButRegs d e) : e.sys = d.sys := congrArg (·.sys) h
theorem boot (h : SameButRegs d e) : e.boot = d.boot := congrArg (·.boot) h
theorem flashA (h : SameButRegs d e) : e.flashA = d.flashA := congrArg (·.flashA) h
theorem flashB (h : SameButRegs d e) : e.flashB = d.flashB := congrArg (·.flashB) h
theorem img (h : SameButRegs d e) : e.img = d.img := congrArg (·.img) h
theorem dsp (h : SameButRegs d e) : e.dsp = d.dsp := congrArg (·.dsp) h
theorem saf (h : SameButRegs d e) : e.saf = d.saf := congrArg (·.saf) h
theorem hst (h : SameButRegs d e) : e.hst = d.hst := congrArg (·.hst) h

end SameButRegs

@[simp] theorem storeReg_now (m a : Nat) (v : Word) (d : Dev) : (storeReg m a v d).now = d.now :=
  (sameButRegs_storeReg m a v d).now
@[simp] theorem storeReg_mem (m a : Nat) (v : Word) (d : Dev) : (storeReg m a v d).mem = d.mem :=
  (sameButRegs_storeReg m a v d).mem
@[simp] theorem storeReg_sys (m a : Nat) (v : Word) (d : Dev) : (storeReg m a v d).sys = d.sys :=
  (sameButRegs_storeReg m a v d).sys

/-- A row of a command register: no bit of it is stored (R11: all are WO). -/
structure Row.WriteOnly (r : Row) : Prop where
  rw : r.rw = 0
  rwl : r.rwl = 0
  sq : r.sq = 0
  live : r.live = 0
  enc : r.enc = []

theorem writtenWord_writeOnly (mbz : Nat) (lock : Bool) (cur v : Word) : writtenWord 0 0 mbz lock cur v = cur := by
  have hm : word ((0 ||| if lock then 0 else 0) &&& (mbz ^^^ 0xFFFFFFFF)) = 0 := by
    cases lock <;> simp [word]
  rw [writtenWord, hm]
  show (cur &&& ~~~0#32) ||| (v &&& 0#32) = cur
  rw [BitVec.not_zero, BitVec.and_allOnes, BitVec.and_zero, BitVec.or_zero]

/-- A command with no must-be-0 bit set stores the word that its register holds (R106, R115). -/
theorem storeReg_of_writeOnly {m a i : Nat} {v : Word} {u : RegUnit} {r : Row} (d : Dev)
    (hreg : regAt a = some (u, r, i)) (hr : r.WriteOnly) (hv : v &&& word r.mbz = 0) :
    storeReg m a v d = wr a (rd a d) d := by
  obtain ⟨hrw, hrwl, hsq, hlive, henc⟩ := hr
  have h0 (x : Word) : x &&& word 0 = 0 := BitVec.and_zero
  simp [storeReg, hreg, writeRow, hrw, hrwl, hsq, hlive, henc, hv, h0, writtenWord_writeOnly, errIf]

/-- Storing the word that a register holds changes no register. -/
@[simp] theorem rd_wr_held (a b : Nat) (d : Dev) : rd b (wr a (rd a d) d) = rd b d := by
  rw [rd_wr]
  split
  next h => rw [h]
  next => rfl

end Sys2Proof.Machine
end

section
/-! Device resets, their delays and the Supervisor watchdog, and the obligation about them (R77, R86, R88, R463, R467, R470). -/

namespace Sys2Proof.Machine

/-! ### The reset -/

/-- Start-up begins again at phase 1: what is kept, what SYS_RST_CAUSE records, and every other register at reset (R86, R88). -/
def Began (s t : State) (cause esc count : Nat) : Prop :=
  t.dev.sys.mode = .startup ∧ t.dev.boot.step = .pll ∧ t.dev.sys.log = s.dev.sys.log ∧ t.fuses = s.fuses ∧
  rf A.sysRstCause 7 0 t.dev = cause ∧ rf A.sysRstCause 15 8 t.dev = esc ∧ rf A.sysRstCause 31 16 t.dev = count ∧
  (∀ a, a ≠ A.sysRstCause → a ≠ A.secTampLog → a ≠ A.safStat → rd a t.dev = regReset a)

/-- SYS_RST_CAUSE of a reset. -/
def causeWord (n esc cause : Nat) : Word := word (atBit n 16 + atBit esc 8 + cause)

theorem fld_causeWord {n esc cause : Nat} (hn : n < 65536) (he : esc < 256) (hc : cause < 256) :
    fld (causeWord n esc cause) 7 0 = cause ∧ fld (causeWord n esc cause) 15 8 = esc ∧
    fld (causeWord n esc cause) 31 16 = n := by
  simp only [fld, nfld, causeWord, word, atBit, Nat.shiftLeft_eq, Nat.shiftRight_eq_div_pow, BitVec.toNat_ofNat]
  omega

theorem fld_lt (w : Word) (hi lo : Nat) : fld w hi lo < 2 ^ (hi + 1 - lo) := Nat.mod_lt _ (by positivity)

/-- COUNT after a reset (R88): it rises up to 0xFFFF, but not where it is the reset of this CORE cycle. -/
def resetCount (d : Dev) : Nat :=
  if (sameReset d).isSome then rf A.sysRstCause 31 16 d else satInc 0xFFFF (rf A.sysRstCause 31 16 d)

theorem resetCount_lt (d : Dev) : resetCount d < 65536 := by
  have h : rf A.sysRstCause 31 16 d < 65536 := fld_lt _ _ _
  unfold resetCount satInc
  split
  · exact h
  · split <;> omega

/-- The device that a reset leaves before its cause is recorded: everything at reset but the fault log (R86). -/
def resetKeepingLog (cause : Nat) (d : Dev) : Dev :=
  { resetAll d with sys := { Sys.reset with log := d.sys.log, logNext := d.sys.logNext, escalated := decide (cause = 5)
                                            resetRank := some (resetOrder cause) } }

theorem deviceReset_of_later {cause : Nat} (esc : Nat) {d : Dev} (h : (sameReset d).any (· ≤ resetOrder cause) = true) :
    deviceReset cause esc d = d := if_pos h

theorem deviceReset_of_first {cause : Nat} (esc : Nat) {d : Dev} (h : (sameReset d).any (· ≤ resetOrder cause) = false) :
    deviceReset cause esc d = (resetKeepingLog cause d
      |> wr A.sysRstCause (causeWord (resetCount d) esc cause)
      |> wr A.secTampLog (if cause = 1 then setBit (rd A.secTampLog d) 31 false else rd A.secTampLog d)
      |> wb A.safStat 4 (decide (cause = 5))) := by
  unfold deviceReset
  exact if_neg (ne_true_of_eq_false h)

/-- A reset that is not the same as one before it begins start-up (R86, R88). -/
theorem began_deviceReset {s : State} {cause esc : Nat} (hc : cause < 256) (he : esc < 256)
    (h : (sameReset s.dev).any (· ≤ resetOrder cause) = false) :
    Began s { s with dev := deviceReset cause esc s.dev } cause esc (resetCount s.dev) := by
  rw [deviceReset_of_first esc h]
  obtain ⟨hcause, hesc, hcount⟩ := fld_causeWord (resetCount_lt s.dev) he hc
  refine ⟨rfl, rfl, rfl, rfl, ?_, ?_, ?_, fun a h1 h2 h3 => ?_⟩
  · rw [rf, rd_wb_ne _ _ _ (by decide), rd_wr_ne _ _ (by decide), rd_wr_same, hcause]
  · rw [rf, rd_wb_ne _ _ _ (by decide), rd_wr_ne _ _ (by decide), rd_wr_same, hesc]
  · rw [rf, rd_wb_ne _ _ _ (by decide), rd_wr_ne _ _ (by decide), rd_wr_same, hcount]
  · rw [rd_wb_ne _ _ _ h3, rd_wr_ne _ _ h2, rd_wr_ne _ _ h1]
    rfl

/-- COUNT where no reset took effect in this CORE cycle. -/
theorem resetCount_of_none {d : Dev} (h : sameReset d = none) :
    resetCount d = min 0xFFFF (rf A.sysRstCause 31 16 d + 1) := by
  have hlt : rf A.sysRstCause 31 16 d < 65536 := fld_lt _ _ _
  unfold resetCount satInc
  rw [h]
  split
  · contradiction
  · split <;> omega

theorem began_deviceReset_first {s : State} {cause esc : Nat} (hc : cause < 256) (he : esc < 256)
    (h : sameReset s.dev = none) :
    Began s { s with dev := deviceReset cause esc s.dev } cause esc (min 0xFFFF (rf A.sysRstCause 31 16 s.dev + 1)) := by
  rw [← resetCount_of_none h]
  exact began_deviceReset hc he (by rw [h]; rfl)

/-! ### The commands -/

theorem exec_powerUp (s : State) : exec .powerUp s = .next { s with dev := powerUp s.dev } := rfl
theorem exec_porstNReset (s : State) : exec .porstNReset s = .next { s with dev := deviceReset 1 0 s.dev } := rfl

theorem exec_softwareReset {s : State} {u : Nat} (h : s.dev.sys.resetDue = some u) (hu : u ≤ s.dev.now) :
    exec .softwareReset s = .next { s with dev := deviceReset 3 0 s.dev } := by
  change execSoftwareReset s = _
  refine onDev_eq_next ?_
  simp only [h, when, decide_eq_true hu, if_true]

theorem exec_diagResetDelay {s : State} {u : Nat} (h : s.dev.sys.diagDue = some u) (hu : u ≤ s.dev.now) :
    exec .diagResetDelay s = .next { s with dev := deviceReset 3 0 s.dev } := by
  change execDiagResetDelay s = _
  refine onDev_eq_next ?_
  simp only [h, when, decide_eq_true hu, if_true]

theorem exec_supervisorWatchdogExpiry {s : State} (hp : powered s.dev = true) (hon : s.dev.saf.swdogOn = true)
    (hd : s.dev.saf.swdogStart + swdogPeriod s.dev ≤ s.dev.now) :
    exec .supervisorWatchdogExpiry s = .next { s with dev := deviceReset 2 0 s.dev } :=
  onDev_eq_next (if_pos (by rw [hp, hon, decide_eq_true hd]; rfl))

theorem exec_safetyEscalationReset {s : State} (hm : s.dev.sys.mode = .twilight) (hdec : rb A.safStat 0 s.dev = true)
    (hcon : rb A.safStat 1 s.dev = false) (hd : s.dev.saf.decided + 40000 ≤ s.dev.now) :
    exec .safetyEscalationReset s = .next { s with dev := deviceReset 5 s.dev.sys.twCode s.dev } := by
  change execSafetyEscalationReset s = _
  refine onDev_eq_next ?_
  simp only [when, hm, hdec, hcon, hd, decide_true, Bool.not_false, Bool.and_true, if_true, escalate]

theorem exec_swrst {m : Fin 20} {v : Word} {s : State} (hp : powered s.dev = true) :
    exec (.swrst m v) s = .next { s with dev := writeRstCmd m v s.dev } := onDev_eq_next (if_pos hp)

theorem exec_supervisorWatchdogService {m : Fin 20} {v : Word} {s : State} (hp : powered s.dev = true) :
    exec (.supervisorWatchdogService m v) s = .next { s with dev := writeSwdogSvc m v s.dev } := onDev_eq_next (if_pos hp)

/-- The key of a command stands in its upper half. -/
theorem fld_key (v : Word) : fld v 31 16 = v.toNat / 65536 := by
  have := v.isLt
  simp only [fld, nfld, Nat.shiftRight_eq_div_pow]
  omega

/-- A software reset takes effect 800 CORE cycles after its key (R88). -/
theorem writeRstCmd_key {m : Nat} {v : Word} {d : Dev} (hm : m ∈ [0, 17, 18]) (hk : v.toNat / 65536 = 0x0D3A)
    (hb : bit v 0 = true) (hd : d.sys.resetDue = none) :
    (writeRstCmd m v d).sys.resetDue = some (d.now + 800) ∧ (writeRstCmd m v d).mem = d.mem := by
  have hguard : ¬((m ≠ 0 ∧ m ≠ 17 ∧ m ≠ 18) ∨ fld v 31 16 ≠ 0x0D3A) := by
    simp only [List.mem_cons, List.not_mem_nil, or_false] at hm
    rw [fld_key, hk]
    tauto
  simp [writeRstCmd, if_neg hguard, hb, hd]

theorem writeRstCmd_refused {m : Nat} {v : Word} {d : Dev} (h : m ∉ [0, 17, 18] ∨ v.toNat / 65536 ≠ 0x0D3A) :
    writeRstCmd m v d = d := by
  refine if_pos ?_
  simpa [fld_key] using h

/-- The Supervisor's key restarts the watchdog's period (R467). -/
theorem writeSwdogSvc_key {v : Word} {d : Dev} (hk : v.toNat / 65536 = 0x0A5D) :
    writeSwdogSvc 0 v d = serveSwdog (storeReg 0 A.safSwdogSvc v d) := by
  simp [writeSwdogSvc, fld_key, hk]

theorem writeSwdogSvc_not_key {v : Word} {d : Dev} (hk : v.toNat / 65536 ≠ 0x0A5D) : writeSwdogSvc 0 v d = d := by
  simp [writeSwdogSvc, fld_key, hk]

theorem writeSwdogSvc_denied {m : Nat} (v : Word) (d : Dev) (hm : m ≠ 0) : writeSwdogSvc m v d = raise A.safStat 5 d :=
  if_pos hm

/-! ### The obligation's clauses -/

theorem powerUp_effect (s : State) :
    ∃ t, exec .powerUp s = .next t ∧ t.dev.sys.mode = .startup ∧ t.dev.boot.step = .pll ∧ t.dev.sys.log = [] ∧
      (∀ a, rd a t.dev = regReset a) ∧ t.dev.mem = [] ∧ t.fuses = s.fuses :=
  ⟨_, exec_powerUp s, rfl, rfl, rfl, fun _ => rfl, rfl, rfl⟩

/-- PORST_N stands right behind power-up in the order of R88. -/
theorem porstNReset_in_cycle (s : State) (n : Nat) (h : sameReset s.dev = some n) :
    (n ≤ 1 → exec .porstNReset s = .next s) ∧
    (1 < n → ∃ t, exec .porstNReset s = .next t ∧ Began s t 1 0 (rf A.sysRstCause 31 16 s.dev)) := by
  have hany : (sameReset s.dev).any (· ≤ resetOrder 1) = decide (n ≤ 1) := by rw [h]; rfl
  refine ⟨fun hn => ?_, fun hn => ⟨_, exec_porstNReset s, ?_⟩⟩
  · rw [exec_porstNReset, deviceReset_of_later 0 (hany.trans (decide_eq_true hn))]
  · have hcount : resetCount s.dev = rf A.sysRstCause 31 16 s.dev := by rw [resetCount, h]; rfl
    rw [← hcount]
    exact began_deviceReset (by decide) (by decide) (hany.trans (decide_eq_false (by omega)))

/-- A service by another master sets DENY and serves nothing (R467). -/
theorem supervisorWatchdogService_denied (s : State) (m : Fin 20) (v : Word) (hp : powered s.dev = true) (hm : m ≠ 0) :
    ∃ t, exec (.supervisorWatchdogService m v) s = .next t ∧ rb A.safStat 5 t.dev = true ∧ t.dev.saf = s.dev.saf ∧
      ∀ a, a ≠ A.safStat → rd a t.dev = rd a s.dev := by
  refine ⟨_, exec_supervisorWatchdogService hp, ?_⟩
  rw [writeSwdogSvc_denied v s.dev fun h => hm (Fin.ext h)]
  exact ⟨by rw [rb_raise_same _ _ (by decide)]; simp, rfl, fun a ha => rd_raise_ne _ _ ha⟩

/-- Settles O27: every source runs `deviceReset`, which keeps the log and records the cause, unless a reset of the same cycle
stands before it. -/
theorem deviceResets : Obligations.DeviceResets := by
  unfold Obligations.DeviceResets
  intro s m v
  refine ⟨powerUp_effect s, fun h => ⟨?_, fun u h1 h2 => ?_, fun u h1 h2 => ?_, fun h1 h2 h3 => ?_,
    fun h1 h2 h3 h4 h5 => ?_⟩, porstNReset_in_cycle s, fun hp => ⟨fun hm hk hb hd => ?_, fun hr => ?_, fun hk => ?_,
    fun hk => ?_, supervisorWatchdogService_denied s m v hp⟩⟩
  · exact ⟨_, exec_porstNReset s, began_deviceReset_first (by decide) (by decide) h⟩
  · exact ⟨_, exec_softwareReset h1 h2, began_deviceReset_first (by decide) (by decide) h⟩
  · exact ⟨_, exec_diagResetDelay h1 h2, began_deviceReset_first (by decide) (by decide) h⟩
  · exact ⟨_, exec_supervisorWatchdogExpiry h1 h2 h3, began_deviceReset_first (by decide) (by decide) h⟩
  · exact ⟨_, exec_safetyEscalationReset h1 h2 h3 h4, began_deviceReset_first (by decide) h5 h⟩
  · exact ⟨_, exec_swrst hp, writeRstCmd_key hm hk hb hd⟩
  · rw [exec_swrst hp, writeRstCmd_refused hr]
  · refine ⟨_, exec_supervisorWatchdogService hp, ?_⟩
    rw [show ((0 : Fin 20) : Nat) = 0 from rfl, writeSwdogSvc_key hk]
    exact ⟨storeReg_now _ _ _ _, storeReg_mem _ _ _ _⟩
  · rw [exec_supervisorWatchdogService hp, show ((0 : Fin 20) : Nat) = 0 from rfl, writeSwdogSvc_not_key hk]

end Sys2Proof.Machine
end

section
/-! The field-update service: what a failure, a step and the slots leave, and the obligation about its commands (R71-R74,
R121). -/

namespace Sys2Proof.Machine

/-! ### The flash slots -/

theorem flashSlot_setFlashSlot_same (b : Bool) (x : FlashSlot) (d : Dev) : flashSlot b (setFlashSlot b x d) = x := by
  cases b <;> rfl

theorem flashSlot_setFlashSlot_not (b : Bool) (x : FlashSlot) (d : Dev) :
    flashSlot b (setFlashSlot (!b) x d) = flashSlot b d := by
  cases b <;> rfl

theorem SameButRegs.flashSlot {d e : Dev} (h : SameButRegs d e) (b : Bool) : flashSlot b e = flashSlot b d :=
  match b with
  | false => h.flashA
  | true => h.flashB

/-- Programming a slot changes that slot only. -/
theorem setFlashSlot_frame (b : Bool) (x : FlashSlot) (d : Dev) :
    { setFlashSlot b x d with flashA := d.flashA, flashB := d.flashB } = d := by
  cases b <;> rfl

@[simp] theorem setFlashSlot_mem (b : Bool) (x : FlashSlot) (d : Dev) : (setFlashSlot b x d).mem = d.mem :=
  congrArg (·.mem) (setFlashSlot_frame b x d)
@[simp] theorem setFlashSlot_img (b : Bool) (x : FlashSlot) (d : Dev) : (setFlashSlot b x d).img = d.img :=
  congrArg (·.img) (setFlashSlot_frame b x d)
@[simp] theorem setFlashSlot_sys (b : Bool) (x : FlashSlot) (d : Dev) : (setFlashSlot b x d).sys = d.sys :=
  congrArg (·.sys) (setFlashSlot_frame b x d)
@[simp] theorem setFlashSlot_boot (b : Bool) (x : FlashSlot) (d : Dev) : (setFlashSlot b x d).boot = d.boot :=
  congrArg (·.boot) (setFlashSlot_frame b x d)
@[simp] theorem rd_setFlashSlot (a : Nat) (b : Bool) (x : FlashSlot) (d : Dev) : rd a (setFlashSlot b x d) = rd a d :=
  congrArg (tabGet regReset · a) (congrArg (·.regs) (setFlashSlot_frame b x d))

/-! ### What an update leaves alone -/

/-- Every command of an update leaves the fuses, the memory, the image, the running slot and every other register alone. -/
def UpdOthers (s t : State) : Prop :=
  t.fuses = s.fuses ∧ t.dev.mem = s.dev.mem ∧ t.dev.img = s.dev.img ∧ t.dev.sys = s.dev.sys ∧
  flashSlot s.dev.boot.slot t.dev = flashSlot s.dev.boot.slot s.dev ∧
  ∀ a, a ≠ A.almUpdStat → rd a t.dev = rd a s.dev

/-- The slot that the update does not run from. -/
def updSpare (s t : State) : FlashSlot := flashSlot (!s.dev.boot.slot) t.dev

/-- The update stands at b with its status word and its slot as they were. -/
def UpdOn (s t : State) (b : Boot) : Prop :=
  UpdOthers s t ∧ t.dev.boot = b ∧ updSpare s t = updSpare s s ∧ rd A.almUpdStat t.dev = rd A.almUpdStat s.dev

/-- The update ended with a code (R72, R74). -/
def UpdFailed (s t : State) (c : Nat) (b : Boot) : Prop :=
  UpdOthers s t ∧ updSpare s t = updSpare s s ∧ t.dev.boot = { b with upd := .idle, updAbort := false } ∧
  rf A.almUpdStat 23 16 t.dev = c ∧ rb A.almUpdStat 2 t.dev = true ∧ rb A.almUpdStat 0 t.dev = false

theorem updOn_refl (s : State) : UpdOn s s s.dev.boot := ⟨⟨rfl, rfl, rfl, rfl, rfl, fun _ _ => rfl⟩, rfl, rfl, rfl⟩

/-- The loader's data are not what an update leaves alone. -/
theorem UpdOn.withBoot {s : State} {e : Dev} {b : Boot} (h : UpdOn s { s with dev := e } b) (b' : Boot) :
    UpdOn s { s with dev := { e with boot := b' } } b' := by
  obtain ⟨hothers, -, hspare, hstat⟩ := h
  exact ⟨hothers, rfl, hspare, hstat⟩

/-- A failed update shows ERR and FAIL, not BUSY, and changes no slot (R72, R74). -/
theorem UpdOn.failed {s : State} {e : Dev} {b : Boot} {c : Nat} (h : UpdOn s { s with dev := e } b) (hc : c < 256) :
    UpdFailed s { s with dev := updateFail c e } c b := by
  obtain ⟨⟨hfuses, hmem, himg, hsys, hslot, hregs⟩, hboot, hspare, -⟩ := h
  refine ⟨⟨hfuses, hmem, himg, hsys, hslot, fun a ha => ?_⟩, hspare, ?_, ?_, ?_, ?_⟩
  · rw [updateFail, rd_raise_ne _ _ ha, rd_wf_ne _ _ _ _ ha, rd_wb_ne _ _ _ ha]
    exact hregs a ha
  · rw [← hboot]
    rfl
  · rw [updateFail, rf_raise_same _ (by decide) (by decide), rf_wf_same _ _ _ _ _ (by decide)]
    exact Nat.mod_eq_of_lt hc
  · rw [updateFail, rb_raise_same _ _ (by decide)]
    simp
  · rw [updateFail, rb_raise_same _ _ (by decide), rb_wf_same _ _ (by decide) (by decide),
      rb_wb_same _ _ _ _ (by decide)]
    rfl

/-! ### ALM_UPD_CMD -/

/-- The device after the write of a key to ALM_UPD_CMD: no bit of it is stored (R73). -/
def updKeyed (d : Dev) : Dev := wr A.almUpdCmd (rd A.almUpdCmd d) d

theorem storeReg_almUpdCmd {m : Nat} {v : Word} (d : Dev) (hv : v &&& word 0xFFFC = 0) :
    storeReg m A.almUpdCmd v d = updKeyed d := by
  have hreg : regAt A.almUpdCmd = some (⟨A.block 1, 1, almRows⟩,
      ⟨0x128, 1, 0x1, 1, 0x1, 0, 0, 0, 0, 0, 0xfffc, 0, 0, []⟩, 0) := rfl
  exact storeReg_of_writeOnly d hreg ⟨rfl, rfl, rfl, rfl, rfl⟩ hv

@[simp] theorem rd_updKeyed (a : Nat) (d : Dev) : rd a (updKeyed d) = rd a d := rd_wr_held _ _ _
@[simp] theorem updKeyed_boot (d : Dev) : (updKeyed d).boot = d.boot := rfl
@[simp] theorem updKeyed_tabs (d : Dev) : (updKeyed d).tabs = d.tabs := rfl
@[simp] theorem memBytes_updKeyed (a n : Nat) (d : Dev) : memBytes a n (updKeyed d) = memBytes a n d := rfl

theorem updOn_updKeyed (s : State) : UpdOn s { s with dev := updKeyed s.dev } s.dev.boot :=
  ⟨⟨rfl, rfl, rfl, rfl, rfl, fun a _ => rd_updKeyed a _⟩, rfl, rfl, rd_updKeyed _ _⟩

theorem powered_of_service {d : Dev} (h : d.sys.mode = .service) : powered d = true := by
  rw [powered, h]
  rfl

theorem inService_of_service {d : Dev} (h : d.sys.mode = .service) : inService d = true := decide_eq_true h

theorem exec_updateStart {m : Fin 20} {s : State} (h : s.dev.sys.mode = .service) :
    exec (.updateStart m) s = .next { s with dev := updateStart (updKeyed s.dev) } := by
  change execUpdateStart m s = _
  refine onDev_eq_next ((if_pos (powered_of_service h)).trans ?_)
  rw [← storeReg_almUpdCmd (m := m) (v := 0x0A1C0001) s.dev (by decide)]
  exact if_neg (by decide)

theorem exec_updateAbort {m : Fin 20} {s : State} (h : s.dev.sys.mode = .service) :
    exec (.updateAbort m) s = .next { s with dev := updateAbort (updKeyed s.dev) } := by
  change execUpdateAbort m s = _
  refine onDev_eq_next ((if_pos (powered_of_service h)).trans ?_)
  rw [← storeReg_almUpdCmd (m := m) (v := 0x0A1C0002) s.dev (by decide)]
  exact if_neg (by decide)

/-! ### The checks of a start -/

/-- The checks of a header see SYS_STRAP and nothing else of the device (R67). -/
theorem hdrFormat_congr {d e : Dev} (h : List Byte) (hs : rd A.sysStrap e = rd A.sysStrap d) :
    hdrFormat h e = hdrFormat h d := by
  have hrole : role e = role d := by rw [role, rf, hs, ← rf, ← role]
  rw [hdrFormat, hdrFormat, hrole]

/-- The rollback check sees SEC_LC (R65). -/
theorem rollbackBad_congr {d e : Dev} (always : Bool) (h : List Byte) (hl : rd A.secLc e = rd A.secLc d) :
    rollbackBad always h e = rollbackBad always h d := by
  unfold rollbackBad lifeState rf
  rw [hl]

/-- The key check sees SEC_LC and the fuse table (R64). -/
theorem imageKeyOk_congr {d e : Dev} (h key : List Byte) (hl : rd A.secLc e = rd A.secLc d) (ht : e.tabs = d.tabs) :
    imageKeyOk h key e = imageKeyOk h key d := by
  unfold imageKeyOk keySlotOk slotHash lifeState rf rb
  rw [hl, ht]

theorem stagedOk_updKeyed (src len : Nat) (d : Dev) : stagedOk src len (updKeyed d) = stagedOk src len d := by
  have hbank (b : Nat) : bankReady b (updKeyed d) = bankReady b d := by rw [bankReady, rb, rd_updKeyed, ← rb, ← bankReady]
  simp only [stagedOk, hbank]

/-- The checks of a start see no more of the registers than their words. -/
theorem updateCode_updKeyed (src len : Nat) (d : Dev) : updateCode src len (updKeyed d) = updateCode src len d := by
  unfold updateCode
  dsimp only
  rw [stagedOk_updKeyed, memBytes_updKeyed, memBytes_updKeyed, memBytes_updKeyed, memBytes_updKeyed, updKeyed_boot,
    hdrFormat_congr _ (rd_updKeyed _ d), rollbackBad_congr _ _ (rd_updKeyed _ d),
    imageKeyOk_congr _ _ (rd_updKeyed _ d) (updKeyed_tabs d)]

theorem hdrFormat_lt (h : List Byte) (d : Dev) : hdrFormat h d < 256 := by
  unfold hdrFormat
  split_ifs <;> decide

/-- Every code of a start fits the FAIL field. -/
theorem updateCode_lt (src len : Nat) (d : Dev) : updateCode src len d < 256 := by
  have hfmt := hdrFormat_lt (memBytes src 64 d) d
  unfold updateCode
  dsimp only
  split_ifs <;> omega

theorem updateStart_busy {d : Dev} (h : rb A.almUpdStat 0 d = true) : updateStart d = d :=
  if_pos (by rw [h, Bool.or_true])

theorem updateStart_fails {d : Dev} {c : Nat} (hs : inService d = true) (hb : rb A.almUpdStat 0 d = false)
    (hcode : updateCode (rd A.almUpdSrc d).toNat (rd A.almUpdLen d).toNat d = c) (hc : c ≠ 0) :
    updateStart d = updateFail c d := by
  simp [updateStart, hs, hb, hcode, hc]

/-- The loader's data once the erase has begun (R72). -/
def updErasing (d : Dev) : Boot :=
  { d.boot with
    upd := .erase, updAbort := false, updHdr := memBytes (rd A.almUpdSrc d).toNat 64 d, updBack := []
    updHash := Config.sha384 (memBytes (rd A.almUpdSrc d).toNat ((rd A.almUpdLen d).toNat - 200) d) }

theorem updateStart_begins {d : Dev} (hs : inService d = true) (hb : rb A.almUpdStat 0 d = false)
    (hcode : updateCode (rd A.almUpdSrc d).toNat (rd A.almUpdLen d).toNat d = 0) :
    updateStart d =
      wb A.almUpdStat 0 true (setFlashSlot (!d.boot.slot) .headerless { d with boot := updErasing d }) := by
  simp [updateStart, hs, hb, hcode, updErasing]

/-! ### The obligation's clauses -/

theorem updateStart_failed {m : Fin 20} {s : State} {c : Nat} (hs : s.dev.sys.mode = .service)
    (hb : rb A.almUpdStat 0 s.dev = false)
    (hcode : updateCode (rd A.almUpdSrc s.dev).toNat (rd A.almUpdLen s.dev).toNat s.dev = c) (hc : c ≠ 0)
    (hlt : c < 256) : ∃ t, exec (.updateStart m) s = .next t ∧ UpdFailed s t c s.dev.boot := by
  refine ⟨_, exec_updateStart hs, ?_⟩
  have hb' : rb A.almUpdStat 0 (updKeyed s.dev) = false := by rwa [rb, rd_updKeyed]
  have hcode' : updateCode (rd A.almUpdSrc (updKeyed s.dev)).toNat (rd A.almUpdLen (updKeyed s.dev)).toNat
      (updKeyed s.dev) = c := by rw [updateCode_updKeyed, rd_updKeyed, rd_updKeyed, hcode]
  rw [updateStart_fails (d := updKeyed s.dev) (inService_of_service hs) hb' hcode' hc]
  exact (updOn_updKeyed s).failed hlt

theorem updateStart_begun {m : Fin 20} {s : State} (hs : s.dev.sys.mode = .service)
    (hb : rb A.almUpdStat 0 s.dev = false)
    (hcode : updateCode (rd A.almUpdSrc s.dev).toNat (rd A.almUpdLen s.dev).toNat s.dev = 0) :
    ∃ t, exec (.updateStart m) s = .next t ∧ UpdOthers s t ∧ updSpare s t = .headerless ∧
      t.dev.boot = updErasing s.dev ∧ rb A.almUpdStat 0 t.dev = true ∧
      rf A.almUpdStat 23 1 t.dev = rf A.almUpdStat 23 1 s.dev := by
  refine ⟨_, exec_updateStart hs, ?_⟩
  have hb' : rb A.almUpdStat 0 (updKeyed s.dev) = false := by rwa [rb, rd_updKeyed]
  have hcode' : updateCode (rd A.almUpdSrc (updKeyed s.dev)).toNat (rd A.almUpdLen (updKeyed s.dev)).toNat
      (updKeyed s.dev) = 0 := by rw [updateCode_updKeyed, rd_updKeyed, rd_updKeyed, hcode]
  have hboot : updErasing (updKeyed s.dev) = updErasing s.dev := by
    simp only [updErasing, rd_updKeyed, updKeyed_boot, memBytes_updKeyed]
  rw [updateStart_begins (d := updKeyed s.dev) (inService_of_service hs) hb' hcode', hboot, updKeyed_boot]
  refine ⟨⟨rfl, ?_, ?_, ?_, ?_, fun a ha => ?_⟩, ?_, ?_, rb_wb_same _ _ _ _ (by decide), ?_⟩
  · exact setFlashSlot_mem _ _ _
  · exact setFlashSlot_img _ _ _
  · exact setFlashSlot_sys _ _ _
  · exact flashSlot_setFlashSlot_not _ _ _
  · rw [rd_wb_ne _ _ _ ha, rd_setFlashSlot]
    exact rd_updKeyed a _
  · exact flashSlot_setFlashSlot_same _ _ _
  · exact setFlashSlot_boot _ _ _
  · refine (rf_wf_other (Bool.toNat true) _ (by decide) (by decide)).trans ?_
    rw [rf, rd_setFlashSlot]
    exact congrArg (fld · 23 1) (rd_updKeyed _ _)

theorem updateStart_ignored {m : Fin 20} {s : State} (hs : s.dev.sys.mode = .service)
    (hb : rb A.almUpdStat 0 s.dev = true) : ∃ t, exec (.updateStart m) s = .next t ∧ UpdOn s t s.dev.boot := by
  refine ⟨_, exec_updateStart hs, ?_⟩
  rw [updateStart_busy (by rwa [rb, rd_updKeyed])]
  exact updOn_updKeyed s

theorem updateAbort_idle {m : Fin 20} {s : State} (hs : s.dev.sys.mode = .service) (hu : s.dev.boot.upd = .idle) :
    ∃ t, exec (.updateAbort m) s = .next t ∧ UpdOn s t s.dev.boot := by
  refine ⟨_, exec_updateAbort hs, ?_⟩
  rw [show updateAbort (updKeyed s.dev) = updKeyed s.dev by simp only [updateAbort, updKeyed_boot, hu]]
  exact updOn_updKeyed s

/-- An abort before header programming ends the update (R74). -/
theorem updateAbort_failed {m : Fin 20} {s : State} (hs : s.dev.sys.mode = .service)
    (hu : s.dev.boot.upd = .erase ∨ s.dev.boot.upd = .program) :
    ∃ t, exec (.updateAbort m) s = .next t ∧ UpdFailed s t 0x24 s.dev.boot := by
  refine ⟨_, exec_updateAbort hs, ?_⟩
  have habort : updateAbort (updKeyed s.dev) = updateFail 0x24 (updKeyed s.dev) := by
    obtain hu | hu := hu <;> simp only [updateAbort, updKeyed_boot, hu]
  rw [habort]
  exact (updOn_updKeyed s).failed (by decide)

theorem updateAbort_late {m : Fin 20} {s : State} (hs : s.dev.sys.mode = .service) (hu : s.dev.boot.upd = .header) :
    ∃ t, exec (.updateAbort m) s = .next t ∧ UpdOn s t { s.dev.boot with updAbort := true } := by
  refine ⟨_, exec_updateAbort hs, ?_⟩
  rw [show updateAbort (updKeyed s.dev) = { updKeyed s.dev with boot := { s.dev.boot with updAbort := true } } by
    simp only [updateAbort, updKeyed_boot, hu]]
  exact (updOn_updKeyed s).withBoot _

/-- A step that is due goes on, or ends the update with its code. -/
theorem updateStep_due {at_ next : UpdStep} {c : Nat} {d : Dev} (hs : inService d = true) (hu : d.boot.upd = at_) :
    updateStep at_ next c d = if c ≠ 0 then updateFail c d else { d with boot := { d.boot with upd := next } } :=
  if_neg (by simp [hs, hu])

theorem updateEraseDone_effect {s : State} (hs : s.dev.sys.mode = .service) (hu : s.dev.boot.upd = .erase) :
    (∃ t, exec (.updateEraseDone true) s = .next t ∧ UpdOn s t { s.dev.boot with upd := .program }) ∧
    ∃ t, exec (.updateEraseDone false) s = .next t ∧ UpdFailed s t 0x22 s.dev.boot :=
  ⟨⟨_, onDev_eq_next (updateStep_due (c := 0) (inService_of_service hs) hu), (updOn_refl s).withBoot _⟩,
    ⟨_, onDev_eq_next (updateStep_due (c := 0x22) (inService_of_service hs) hu),
      (updOn_refl s).failed (c := 0x22) (by decide)⟩⟩

/-- The end of programming: the next step, or the code of a flash error or of a mismatch (R72). -/
theorem exec_updateProgramDone {s : State} {c : Nat} (ok : Bool) (back : List Byte) (hs : s.dev.sys.mode = .service)
    (hu : s.dev.boot.upd = .program) (hc : (if !ok then 0x22 else if readBackOk back s.dev then 0 else 0x21) = c) :
    exec (.updateProgramDone ok back) s = .next { s with dev :=
      (if c ≠ 0 then updateFail c { s.dev with boot := { s.dev.boot with updBack := back } }
        else { s.dev with boot := { s.dev.boot with updBack := back, upd := .header } }) } := by
  refine onDev_eq_next ?_
  rw [updateProgrammed, if_pos hu, hc]
  exact updateStep_due (d := { s.dev with boot := { s.dev.boot with updBack := back } }) (inService_of_service hs) hu

theorem updateProgramDone_effect {s : State} (back : List Byte) (hs : s.dev.sys.mode = .service)
    (hu : s.dev.boot.upd = .program) :
    let b := { s.dev.boot with updBack := back }
    (readBackOk back s.dev = true →
      ∃ t, exec (.updateProgramDone true back) s = .next t ∧ UpdOn s t { b with upd := .header }) ∧
    (readBackOk back s.dev = false →
      ∃ t, exec (.updateProgramDone true back) s = .next t ∧ UpdFailed s t 0x21 b) ∧
    ∃ t, exec (.updateProgramDone false back) s = .next t ∧ UpdFailed s t 0x22 b := by
  have hback := (updOn_refl s).withBoot { s.dev.boot with updBack := back }
  refine ⟨fun hok => ⟨_, exec_updateProgramDone (c := 0) true back hs hu (by rw [hok]; rfl), hback.withBoot _⟩,
    fun hok => ⟨_, exec_updateProgramDone (c := 0x21) true back hs hu (by rw [hok]; rfl), hback.failed (by decide)⟩,
    ⟨_, exec_updateProgramDone (c := 0x22) false back hs hu rfl, hback.failed (by decide)⟩⟩

/-- The registers once the header is programmed (R72, R74). -/
theorem almUpdStat_done (late : Bool) (d : Dev) :
    let e := raiseIf late A.almUpdStat 3 (raise A.almUpdStat 1 (wb A.almUpdStat 0 false d))
    rb A.almUpdStat 0 e = false ∧ rb A.almUpdStat 1 e = true ∧
    rb A.almUpdStat 3 e = (rb A.almUpdStat 3 d || late) ∧ rf A.almUpdStat 23 16 e = rf A.almUpdStat 23 16 d ∧
    ∀ a, a ≠ A.almUpdStat → rd a e = rd a d := by
  have hstat (j : Nat) (hj : j < 24) : rb A.almUpdStat j (raise A.almUpdStat 1 (wb A.almUpdStat 0 false d)) =
      (rb A.almUpdStat j (wb A.almUpdStat 0 false d) || decide (1 = j)) := rb_raise_same _ _ hj
  have hother (j : Nat) (hj : 0 < j) (hlt : j < 32) :
      rb A.almUpdStat j (wb A.almUpdStat 0 false d) = rb A.almUpdStat j d := rb_wf_same _ _ hlt (.inr hj)
  have hlate (e : Dev) (j : Nat) (hj : j < 24) :
      rb A.almUpdStat j (raiseIf late A.almUpdStat 3 e) = (rb A.almUpdStat j e || (late && decide (3 = j))) := by
    cases late
    · exact (Bool.or_false _).symm
    · exact rb_raise_same _ _ hj
  have hfield (e : Dev) : rf A.almUpdStat 23 16 (raiseIf late A.almUpdStat 3 e) = rf A.almUpdStat 23 16 e := by
    cases late
    · rfl
    · exact rf_raise_same _ (by decide) (by decide)
  have hregs (e : Dev) (a : Nat) (ha : a ≠ A.almUpdStat) : rd a (raiseIf late A.almUpdStat 3 e) = rd a e := by
    cases late
    · rfl
    · exact rd_raise_ne _ _ ha
  refine ⟨?_, ?_, ?_, ?_, fun a ha => ?_⟩
  · rw [hlate _ _ (by decide), hstat _ (by decide), rb_wb_same _ _ _ _ (by decide)]
    simp
  · rw [hlate _ _ (by decide), hstat _ (by decide)]
    simp
  · rw [hlate _ _ (by decide), hstat _ (by decide), hother _ (by decide) (by decide)]
    simp
  · rw [hfield, rf_raise_same _ (by decide) (by decide)]
    exact rf_wf_other _ _ (by decide) (by decide)
  · rw [hregs _ _ ha, rd_raise_ne _ _ ha, rd_wb_ne _ _ _ ha]

theorem sameButRegs_updStatDone (late : Bool) (d : Dev) :
    SameButRegs d (raiseIf late A.almUpdStat 3 (raise A.almUpdStat 1 (wb A.almUpdStat 0 false d))) :=
  ((sameButRegs_wr _ _ _).trans (sameButRegs_raise _ _ _)).trans (sameButRegs_raiseIf _ _ _ _)

/-- The device once the header is programmed, before its status shows. -/
def updInstalled (d : Dev) : Dev :=
  setFlashSlot (!d.boot.slot) (.image (d.boot.updHdr ++ d.boot.updBack))
    { d with boot := { d.boot with upd := .idle, updAbort := false } }

/-- The header's end gives the spare slot the image (R72, R74). -/
theorem updateHeaderDone_effect {s : State} (hs : s.dev.sys.mode = .service) (hu : s.dev.boot.upd = .header) :
    (∃ t, exec (.updateHeaderDone false) s = .next t ∧ UpdFailed s t 0x22 s.dev.boot) ∧
    ∃ t, exec (.updateHeaderDone true) s = .next t ∧ UpdOthers s t ∧
      updSpare s t = .image (s.dev.boot.updHdr ++ s.dev.boot.updBack) ∧
      t.dev.boot = { s.dev.boot with upd := .idle, updAbort := false } ∧ rb A.almUpdStat 0 t.dev = false ∧
      rb A.almUpdStat 1 t.dev = true ∧
      rb A.almUpdStat 3 t.dev = (rb A.almUpdStat 3 s.dev || s.dev.boot.updAbort) ∧
      rf A.almUpdStat 23 16 t.dev = rf A.almUpdStat 23 16 s.dev := by
  have hdue : ¬((!inService s.dev || decide (s.dev.boot.upd ≠ .header)) = true) := by simp [inService_of_service hs, hu]
  have hfail : updateDone false s.dev = updateFail 0x22 s.dev := if_neg hdue
  have hdone : updateDone true s.dev = raiseIf s.dev.boot.updAbort A.almUpdStat 3
      (raise A.almUpdStat 1 (wb A.almUpdStat 0 false (updInstalled s.dev))) := if_neg hdue
  refine ⟨⟨_, onDev_eq_next hfail, (updOn_refl s).failed (by decide)⟩, ⟨_, onDev_eq_next hdone, ?_⟩⟩
  obtain ⟨hbusy, hfin, hlate, hcode, hregs⟩ := almUpdStat_done s.dev.boot.updAbort (updInstalled s.dev)
  have hrd (a : Nat) : rd a (updInstalled s.dev) = rd a s.dev := rd_setFlashSlot _ _ _ _
  have hlate' : rb A.almUpdStat 3 (updInstalled s.dev) = rb A.almUpdStat 3 s.dev := congrArg (bit · 3) (hrd _)
  have hcode' : rf A.almUpdStat 23 16 (updInstalled s.dev) = rf A.almUpdStat 23 16 s.dev := congrArg (fld · 23 16) (hrd _)
  have hframe := sameButRegs_updStatDone s.dev.boot.updAbort (updInstalled s.dev)
  refine ⟨⟨rfl, ?_, ?_, ?_, ?_, fun a ha => (hregs a ha).trans (hrd a)⟩, ?_, ?_, hbusy, hfin, hlate.trans (by rw [hlate']),
    hcode.trans hcode'⟩
  · exact hframe.mem.trans (setFlashSlot_mem _ _ _)
  · exact hframe.img.trans (setFlashSlot_img _ _ _)
  · exact hframe.sys.trans (setFlashSlot_sys _ _ _)
  · exact (hframe.flashSlot _).trans (flashSlot_setFlashSlot_not _ _ _)
  · exact (hframe.flashSlot _).trans (flashSlot_setFlashSlot_same _ _ _)
  · exact hframe.boot.trans (setFlashSlot_boot _ _ _)

/-- Settles O32, one lemma per clause: each command runs one step of the update, and a step either goes on or fails by
`updateFail`. -/
theorem fieldUpdate : Obligations.FieldUpdate := by
  unfold Obligations.FieldUpdate
  intro m s hs d others spare on failed src len h key hash code
  have hcode : updateCode src len d = code := by
    simp only [updateCode, signatureOk, Bool.not_eq_true', code]
    rfl
  refine ⟨fun hb => ⟨fun hc => ?_, fun hc => ?_⟩, updateStart_ignored hs, updateAbort_idle hs, updateAbort_failed hs,
    updateAbort_late hs, updateEraseDone_effect hs, fun hu back => ?_, updateHeaderDone_effect hs⟩
  · exact updateStart_failed hs hb hcode hc (hcode ▸ updateCode_lt _ _ _)
  · exact updateStart_begun hs hb (hcode.trans hc)
  · obtain ⟨hsame, hdiff, hflash⟩ := updateProgramDone_effect back hs hu
    exact ⟨fun h => hsame (decide_eq_true h), fun h => hdiff (decide_eq_false h), hflash⟩

end Sys2Proof.Machine
end

section
/-! What a debug read answers does not depend on the command that waits at the DIAG responder: the responder clears it before it
reads a register (R78, R105). One lemma per group of computed registers. -/

namespace Sys2Proof.Machine

/-- The device with no DIAG command waiting. -/
def diagIdle (d : Dev) : Dev := { d with sys := { d.sys with diagCmd := none } }

theorem stateWord_diagIdle (code : Nat) (d : Dev) : (stateWord code (diagIdle d)).1 = (stateWord code d).1 := by
  simp only [stateWord, apply_ite Prod.fst]
  rfl

theorem lockRead_diagIdle (m ctx n : Nat) (d : Dev) : (lockRead m ctx n (diagIdle d)).1 = (lockRead m ctx n d).1 := by
  unfold lockRead
  rw [show lockOwner n (diagIdle d) = lockOwner n d from rfl]
  cases lockOwner n d
  · simp only [apply_ite Prod.fst]
  · rfl

theorem readOrph_diagIdle (m : Nat) (d : Dev) : (readOrph m (diagIdle d)).1 = (readOrph m d).1 := by
  unfold readOrph
  rw [show (diagIdle d).dsp.orphans = d.dsp.orphans from rfl]
  cases d.dsp.orphans
  · rfl
  · simp only [apply_ite Prod.fst]

theorem tsqRead_diagIdle (m p i : Nat) (d : Dev) : (tsqRead m p i (diagIdle d)).1 = (tsqRead m p i d).1 := by
  simp only [tsqRead, apply_ite Prod.fst]
  rfl

theorem readSystem_diagIdle (code o : Nat) (d : Dev) :
    (readSystem code o 19 0 (diagIdle d)).map Prod.fst = (readSystem code o 19 0 d).map Prod.fst := by
  simp only [readSystem, apply_ite (Option.map (Prod.fst : Word × Dev → Word)), Option.map_some, Option.map_none,
    lockRead_diagIdle, readOrph_diagIdle]
  cases elem o 0x400 0x40 10 with
  | none => rfl
  | some x =>
    simp only [apply_ite (Option.map (Prod.fst : Word × Dev → Word)), Option.map_some, Option.map_none, tsqRead_diagIdle]
    rfl

theorem ethCntRead_diagIdle (m p o : Nat) (d : Dev) : (ethCntRead m p o (diagIdle d)).1 = (ethCntRead m p o d).1 := by
  simp only [ethCntRead, apply_ite Prod.fst]
  rfl

theorem txevRead_diagIdle (m n i : Nat) (d : Dev) : (txevRead m n i (diagIdle d)).1 = (txevRead m n i d).1 := by
  simp only [txevRead, apply_ite Prod.fst]
  rfl

theorem capRead_diagIdle (m u i : Nat) (d : Dev) : (capRead m u i (diagIdle d)).1 = (capRead m u i d).1 := by
  simp only [capRead, apply_ite Prod.fst]
  rfl

theorem rd_when_showRing_diagIdle (a r : Nat) (d : Dev) :
    rd a (when (committed (diagIdle d)) (showRing r) (diagIdle d)) = rd a (when (committed d) (showRing r) d) := by
  rw [show committed (diagIdle d) = committed d from rfl]
  cases committed d
  · rfl
  · simp only [when, if_true, showRing, apply_ite (rd a)]
    rfl

theorem readNetwork_diagIdle (code o m : Nat) (d : Dev) :
    (readNetwork code o m (diagIdle d)).map Prod.fst = (readNetwork code o m d).map Prod.fst := by
  simp only [readNetwork, apply_ite (Option.map (Prod.fst : Word × Dev → Word)), Option.map_some, Option.map_none,
    ethCntRead_diagIdle, txevRead_diagIdle]
  refine ite_congr rfl (fun _ => ?switch) fun _ => ite_congr rfl (fun _ => ite_congr rfl (fun _ => rfl) fun _ =>
    ite_congr rfl (fun _ => rfl) fun _ => ?queue) fun _ => rfl
  all_goals
    split
    · simp only [rd_when_showRing_diagIdle, Option.map_some]
    · rfl

theorem readControl_diagIdle (code o m : Nat) (d : Dev) :
    (readControl code o m (diagIdle d)).map Prod.fst = (readControl code o m d).map Prod.fst := by
  simp only [readControl, apply_ite (Option.map (Prod.fst : Word × Dev → Word)), Option.map_some, Option.map_none]
  refine ite_congr rfl (fun _ => rfl) fun _ => ite_congr rfl (fun _ => ?_) fun _ => rfl
  split
  · rfl
  · simp only [apply_ite (Option.map (Prod.fst : Word × Dev → Word)), Option.map_some, Option.map_none, capRead_diagIdle]
    rfl
  · rfl

theorem readBlock_diagIdle (m a : Nat) (d : Dev) :
    (readBlock m a (diagIdle d)).map Prod.fst = (readBlock m a d).map Prod.fst := by
  have hhost (i : Nat) : (hostBlockRead m i (diagIdle d)).1 = (hostBlockRead m i d).1 := by
    simp only [hostBlockRead, apply_ite Prod.fst]
    rfl
  simp only [readBlock, apply_ite (Option.map (Prod.fst : Word × Dev → Word)), Option.map_some, Option.map_none, hhost]
  refine ite_congr rfl (fun _ => rfl) fun _ => ite_congr rfl (fun _ => rfl) fun _ => ite_congr rfl (fun _ => ?_) fun _ => rfl
  split <;> rfl

/-- A fault report does not see the command that waits. -/
theorem report_diagIdle (code unit addr idx : Nat) (d : Dev) :
    report code unit addr idx (diagIdle d) = diagIdle (report code unit addr idx d) := by
  have hcfg : (if (code = 0x42 ∨ code = 0x43) ∧ (diagIdle d).sys.mode = .service then
      { diagIdle d with img := { (diagIdle d).img with cfg := true } } else diagIdle d) =
      diagIdle (if (code = 0x42 ∨ code = 0x43) ∧ d.sys.mode = .service then
        { d with img := { d.img with cfg := true } } else d) := by
    refine Eq.symm ((apply_ite diagIdle _ _ _).trans ?_)
    rfl
  unfold report
  rw [hcfg]
  generalize (if (code = 0x42 ∨ code = 0x43) ∧ d.sys.mode = .service then
        { d with img := { d.img with cfg := true } } else d) = e
  refine Eq.symm ((apply_ite diagIdle _ _ _).trans ?_)
  rfl

theorem useCfg_diagIdle (unit a idx : Nat) (d : Dev) : useCfg unit a idx (diagIdle d) = diagIdle (useCfg unit a idx d) := by
  unfold useCfg
  rw [apply_ite diagIdle, ← report_diagIdle]
  rfl

theorem tabParity_diagIdle (a sel i t j : Nat) (d : Dev) :
    tabParity a sel i t j (diagIdle d) = diagIdle (tabParity a sel i t j d) := by
  unfold tabParity useTab
  cases unitOf a
  · rfl
  · dsimp only
    rw [apply_ite diagIdle, ← report_diagIdle]
    rfl

/-- The end of a fetch does not see the command that waits (R112). -/
theorem indComplete_diagIdle (a : Nat) (d : Dev) : indComplete a (diagIdle d) = diagIdle (indComplete a d) := by
  unfold indComplete
  rw [apply_ite diagIdle]
  refine ite_congr rfl (fun _ => rfl) fun _ => ?_
  dsimp only
  rw [show tableAt a (indSel a (rd a (diagIdle d))) (indIndex a (diagIdle d)) =
    tableAt a (indSel a (rd a d)) (indIndex a d) from rfl]
  cases tableAt a (indSel a (rd a d)) (indIndex a d)
  · rfl
  · exact tabParity_diagIdle _ _ _ _ _ (putInd _ _ d)

/-- The word of the first answer among three is settled by the words of the answers. -/
theorem fst_firstAnswer {x x' y y' z z' : Option (Word × Dev)} {p p' : Word × Dev} (hx : x'.map Prod.fst = x.map Prod.fst)
    (hy : y'.map Prod.fst = y.map Prod.fst) (hz : z'.map Prod.fst = z.map Prod.fst) (hp : p'.1 = p.1) :
    ((x'.orElse fun _ => y'.orElse fun _ => z').getD p').1 = ((x.orElse fun _ => y.orElse fun _ => z).getD p).1 := by
  have hmap (u v : Option (Word × Dev)) :
      (u.orElse fun _ => v).map Prod.fst = (u.map Prod.fst).orElse fun _ => v.map Prod.fst := by cases u <;> rfl
  rw [← Option.getD_map Prod.fst, ← Option.getD_map Prod.fst, hmap, hmap, hmap, hmap, hx, hy, hz, hp]

/-- What debug reads of a register does not depend on the command that waits (R105). -/
theorem readReg_diagIdle (a : Nat) (d : Dev) : (readReg 19 0 a (diagIdle d)).1 = (readReg 19 0 a d).1 := by
  unfold readReg
  simp only [apply_ite Prod.fst]
  refine ite_congr rfl (fun _ => rfl) fun _ => ?_
  have hb := readBlock_diagIdle 19 a d
  cases h : readBlock 19 a d with
  | some r =>
    rw [h] at hb
    obtain ⟨r', hr', hw⟩ := Option.map_eq_some_iff.mp hb
    rw [hr']
    exact hw
  | none =>
    rw [h] at hb
    rw [Option.map_eq_none_iff.mp hb]
    cases regAt a with
    | none => rfl
    | some p =>
      obtain ⟨u, r, i⟩ := p
      simp only [apply_ite Prod.fst, readIndData, indComplete_diagIdle, useCfg_diagIdle, stateWord_diagIdle]
      generalize useCfg u.code a 0 d = e
      rw [fst_firstAnswer (p := (rd a e, e)) (p' := (rd a (diagIdle e), diagIdle e)) (readSystem_diagIdle _ _ e)
        (readNetwork_diagIdle _ _ _ e) (readControl_diagIdle _ _ _ e) rfl]
      rfl

end Sys2Proof.Machine
end

section
/-! The ROM's service loop: what serving the watchdog and the heartbeat and freeing an orphan leave alone (R70, R76, R233). -/

namespace Sys2Proof.Machine

/-- The orphan queue, the safety controller and the host ports are as they were. -/
structure KeepsOrphans (d e : Dev) : Prop where
  orphans : e.dsp.orphans = d.dsp.orphans
  saf : e.saf = d.saf
  hst : e.hst = d.hst

namespace KeepsOrphans

variable {d e f : Dev}

theorem refl (d : Dev) : KeepsOrphans d d := ⟨rfl, rfl, rfl⟩

theorem trans (h : KeepsOrphans d e) (g : KeepsOrphans e f) : KeepsOrphans d f :=
  ⟨g.orphans.trans h.orphans, g.saf.trans h.saf, g.hst.trans h.hst⟩

theorem ofRegs (h : SameButRegs d e) : KeepsOrphans d e := ⟨congrArg (·.orphans) h.dsp, h.saf, h.hst⟩

theorem wr (h : KeepsOrphans d e) (a : Nat) (v : Word) : KeepsOrphans d (wr a v e) := h.trans ⟨rfl, rfl, rfl⟩

theorem wf (h : KeepsOrphans d e) (a hi lo v : Nat) : KeepsOrphans d (wf a hi lo v e) := h.trans ⟨rfl, rfl, rfl⟩

theorem raise (h : KeepsOrphans d e) (a i : Nat) : KeepsOrphans d (raise a i e) := h.trans ⟨rfl, rfl, rfl⟩

theorem whenever {c : Bool} {op : Dev → Dev} (h : KeepsOrphans d e) (hop : ∀ d, KeepsOrphans d (op d)) :
    KeepsOrphans d (when c op e) := by
  cases c
  · exact h
  · exact h.trans (hop e)

theorem freeEntry (it : Item) (d : Dev) : KeepsOrphans d (freeEntry it d) := by
  have hused : KeepsOrphans d (modDsp (fun q => { q with used := dropIf (· = it.entry) q.used }) d) := ⟨rfl, rfl, rfl⟩
  unfold Machine.freeEntry
  split
  · exact refl d
  · exact (hused.wf _ _ _ _).whenever fun d => (refl d).wf _ _ _ _

theorem putRing (r : Nat) (x : Ring) (d : Dev) : KeepsOrphans d (putRing r x d) := by
  have hring : KeepsOrphans d { d with rings := tabSet ringDefault d.rings r x } := ⟨rfl, rfl, rfl⟩
  exact (hring.wf _ _ _ _).whenever fun d => (refl d).wf _ _ _ _

theorem returnBuf (it : Item) (d : Dev) : KeepsOrphans d (returnBuf it d) := by
  unfold Machine.returnBuf
  split
  · split
    · exact ⟨rfl, rfl, rfl⟩
    · exact refl d
  · exact putRing _ _ d

theorem traceRecord (evt : Nat) (it : Item) (ctx wait : Nat) (d : Dev) : KeepsOrphans d (traceRecord evt it ctx wait d) := by
  unfold Machine.traceRecord
  generalize (let z := rf A.schTraceCtrl 7 4 d; 256 * 2 ^ (if z < 8 then z else 7)) = size
  dsimp only
  split
  · exact refl d
  · split
    · exact ((refl d).wf _ _ _ _).raise _ _
    · split
      · exact (((((refl d).raise _ _).wr _ _).wr _ _).wf _ _ _ _).raise _ _
      · exact (refl d).trans ⟨rfl, rfl, rfl⟩

theorem dropItem (it : Item) (d : Dev) : KeepsOrphans d (dropItem it d) := by
  have hcount : KeepsOrphans d (countDrop it.flow d) := ⟨rfl, rfl, rfl⟩
  have hnotice (d : Dev) : KeepsOrphans d (dropNotice it d) := by
    unfold dropNotice
    split
    · exact ⟨rfl, rfl, rfl⟩
    · exact refl d
  exact ((hcount.trans (traceRecord _ _ _ _ _)).trans (hnotice _)).trans (returnBuf _ _)

theorem requeueItem (it : Item) (d : Dev) : KeepsOrphans d (requeueItem it d) := by
  have hready : KeepsOrphans d (restoreReady it d) := ⟨rfl, rfl, rfl⟩
  unfold Machine.requeueItem requeueToken
  split
  · split
    · exact dropItem it d
    · exact hready
  · split
    · exact (freeEntry it d).trans (dropItem it _)
    · exact hready

theorem trackDepth (d : Dev) : KeepsOrphans d (trackDepth d) := by
  refine List.foldlRecOn (motive := KeepsOrphans d) _ _ (refl d) fun e h c _ => ?_
  dsimp only
  split
  · exact h.trans ⟨rfl, rfl, rfl⟩
  · exact h

theorem modOrphaned (h : KeepsOrphans d e) (l : List Item) : KeepsOrphans d (modDsp (fun q => { q with orphaned := l }) e) :=
  h.trans ⟨rfl, rfl, rfl⟩

/-- SCH_ORPH_CMD adds no orphan to the queue (R233). -/
theorem writeOrphCmd (m : Nat) (v : Word) (d : Dev) : KeepsOrphans d (writeOrphCmd m v d) := by
  have hstore := ofRegs (sameButRegs_storeReg m A.schOrphCmd v d)
  unfold Machine.writeOrphCmd
  generalize storeReg m A.schOrphCmd v d = e at hstore
  split
  · exact refl d
  · dsimp only
    split
    · exact hstore
    · split
      · exact (hstore.modOrphaned _).trans ((freeEntry _ _).trans (returnBuf _ _))
      · split
        · exact (hstore.modOrphaned _).trans ((requeueItem _ _).trans (trackDepth _))
        · exact hstore

end KeepsOrphans

/-- The loop takes every orphan that waits (R70). -/
theorem freeOrphans_effect (n : Nat) (d : Dev) (hn : d.dsp.orphans.length ≤ n) :
    (freeOrphans n d).dsp.orphans = [] ∧ (freeOrphans n d).saf = d.saf ∧ (freeOrphans n d).hst = d.hst := by
  induction n generalizing d with
  | zero => exact ⟨List.length_eq_zero_iff.mp (Nat.le_zero.mp hn), rfl, rfl⟩
  | succ n ih =>
    cases ho : d.dsp.orphans with
    | nil => simp [freeOrphans, ho]
    | cons o rest =>
      have hpop : (readOrph 0 d).2 = modDsp (fun q => { q with orphans := rest }) d := by simp [readOrph, ho]
      have hstep : freeOrphans (n + 1) d = freeOrphans n (writeOrphCmd 0
          (word (0x0F1D4000 + atBit o.token.toNat 13 + o.item)) (modDsp (fun q => { q with orphans := rest }) d)) := by
        simp only [freeOrphans, ho, hpop]
      obtain ⟨horph, hsaf, hhst⟩ := KeepsOrphans.writeOrphCmd 0 (word (0x0F1D4000 + atBit o.token.toNat 13 + o.item))
        (modDsp (fun q => { q with orphans := rest }) d)
      rw [hstep]
      obtain ⟨hnone, hsaf', hhst'⟩ := ih _ (by rw [horph]; rw [ho] at hn; exact Nat.le_of_succ_le_succ hn)
      exact ⟨hnone, hsaf'.trans hsaf, hhst'.trans hhst⟩

end Sys2Proof.Machine
end

section
/-! The DIAG responder in Twilight and the ROM's service loop (R43, R44, R70, R76, R78). -/

namespace Sys2Proof.Machine

/-! ### The words of a line -/

theorem diagWord_bare {w : List Char} (hw : ∀ c ∈ w, c ≠ ' ') : diagWord w = w :=
  List.takeWhile_eq_self_iff.mpr fun c hc => decide_eq_true (hw c hc)

theorem diagArg_bare {w : List Char} (hw : ∀ c ∈ w, c ≠ ' ') : diagArg w = none := by
  have hnil : (w.dropWhile fun c => c ≠ spaceChar) = [] := List.dropWhile_eq_nil_iff.mpr fun c hc => decide_eq_true (hw c hc)
  rw [diagArg, hnil]

theorem diagWord_append {w : List Char} (hw : ∀ c ∈ w, c ≠ ' ') (h : List Char) : diagWord (w ++ ' ' :: h) = w := by
  have hpos : ∀ c ∈ w, decide (c ≠ spaceChar) = true := fun c hc => decide_eq_true (hw c hc)
  rw [diagWord, List.takeWhile_append_of_pos hpos]
  simp [spaceChar]

theorem diagArg_append {w : List Char} (hw : ∀ c ∈ w, c ≠ ' ') (h : List Char) : diagArg (w ++ ' ' :: h) = some h := by
  have hpos : ∀ c ∈ w, decide (c ≠ spaceChar) = true := fun c hc => decide_eq_true (hw c hc)
  rw [diagArg, List.dropWhile_append_of_pos hpos]
  simp [spaceChar]

theorem diagCommand_bare {w : List Char} (hw : ∀ c ∈ w, c ≠ ' ') :
    diagCommand w = if String.ofList w ∈ ["ID", "ST", "HS", "LOG", "IMG", "RD", "RST"] then some (String.ofList w) else none := by
  simp only [diagCommand, diagWord_bare hw, diagArg_bare hw, Option.isNone_none, and_true, List.mem_cons, List.not_mem_nil, or_false]
  split_ifs <;> tauto

theorem diagCommand_append {w : List Char} (hw : ∀ c ∈ w, c ≠ ' ') (h : List Char)
    (hc : String.ofList w ∈ ["LOG", "IMG", "RD", "RST"]) : diagCommand (w ++ ' ' :: h) = some (String.ofList w) := by
  simp only [List.mem_cons, List.not_mem_nil, or_false] at hc
  simp only [diagCommand, diagWord_append hw, diagArg_append hw, hc, Option.isNone_some, Bool.false_eq_true, and_false, if_false, if_true]

theorem hexVal_lt {c : Char} {v : Nat} (h : hexVal c = some v) : v < 16 := by
  simp only [hexVal] at h
  split_ifs at h <;> simp only [Option.some.injEq] at h <;> omega

/-- One digit more of a hexadecimal number. -/
def hexStep (a : Option Nat) (c : Char) : Option Nat :=
  match a, hexVal c with
  | some x, some v => some (16 * x + v)
  | _, _ => none

theorem hexFold_lt {cs : List Char} {a : Option Nat} {n k : Nat} (ha : ∀ x, a = some x → x < 16 ^ k) (h : cs.foldl hexStep a = some n) :
    n < 16 ^ (k + cs.length) := by
  induction cs generalizing a k with
  | nil => exact ha n h
  | cons c cs ih =>
    rw [List.length_cons, show k + (cs.length + 1) = k + 1 + cs.length by omega]
    refine ih (fun y hy => ?_) h
    cases a with
    | none => simp [hexStep] at hy
    | some x =>
      cases hv : hexVal c with
      | none => simp [hexStep, hv] at hy
      | some v =>
        have hx := ha x rfl
        have hlt := hexVal_lt hv
        simp only [hexStep, hv, Option.some.injEq] at hy
        rw [pow_succ]
        omega

/-- A hexadecimal number of at most eight digits fits a word (R78). -/
theorem hexParse_lt {cs : List Char} {n : Nat} (h : hexParse cs = some n) : n < 2 ^ 32 := by
  unfold hexParse at h
  split at h
  · cases h
  next hlen =>
    have hfold : cs.foldl hexStep (some 0) = some n := h
    have hn := hexFold_lt (k := 0) (fun x hx => by cases hx; decide) hfold
    calc n < 16 ^ (0 + cs.length) := hn
      _ ≤ 16 ^ 8 := Nat.pow_le_pow_right (by decide) (by omega)
      _ = 2 ^ 32 := by decide

theorem diagNum_none {l : List Char} {b : Nat} (h : diagArg l = none) : diagNum l b = none := by
  simp only [diagNum, h, Option.bind_none]

theorem diagNum_some {l h : List Char} {b n : Nat} (ha : diagArg l = some h) (hp : hexParse h = some n) (hn : n < b) :
    diagNum l b = some n := by
  simp only [diagNum, ha, Option.bind_some, hp, hn, if_true]

theorem diagNum_outside {l h : List Char} {b : Nat} (ha : diagArg l = some h) (hp : ∀ n, hexParse h = some n → b ≤ n) :
    diagNum l b = none := by
  simp only [diagNum, ha, Option.bind_some]
  cases hh : hexParse h with
  | none => rfl
  | some n => exact if_neg (Nat.not_lt.mpr (hp n hh))

/-! ### A command's answer -/

/-- The answer to command c of line l, no command waiting any more. -/
def diagAnswerOf (c : String) (l : List Char) (d : Dev) : Dev :=
  if c = "ID" then diagOut diagIdReply d
  else if c = "ST" then diagOut (diagStReply d) d
  else if c = "LOG" then diagOut (diagLogReply l d) d
  else if c = "HS" then diagOut (diagHsReply d) d
  else if c = "IMG" then diagOut (diagImgReply l d) d
  else if c = "RD" then diagOut (diagRdReply l d) d
  else if diagArg l = some ['Y'] then
    diagOut "OK" { d with sys := { d.sys with diagDue := some (d.sys.diagDue.getD (d.now + 400000)) } }
  else diagOut "E ARG" d

/-- Line l waits at the running responder for the row of command c. -/
structure AwaitsRow (c : String) (l : List Char) (d : Dev) : Prop where
  mode : d.sys.mode = .twilight
  loop : d.sys.romLoop = true
  cmd : d.sys.diagCmd = some l
  row : diagCommand l = some c

theorem responder_of_running {d : Dev} (hm : d.sys.mode = .twilight) (hr : d.sys.romLoop = true) : responder d = true := by
  rw [responder, hm, hr]
  rfl

/-- A command's row answers the line that waits for it (R78). -/
theorem diagRow_of_awaits {c : String} {l : List Char} {d : Dev} (h : AwaitsRow c l d) :
    diagRow c d = diagAnswerOf c l (diagIdle d) := by
  obtain ⟨hm, hr, hl, hc⟩ := h
  simp only [diagRow, responder_of_running hm hr, hl, Option.bind_some, hc, beq_self_eq_true, Bool.and_self, when, if_true,
    diagAnswer, diagAnswerOf]
  rfl

theorem answer_row {s : State} {c r : String} {l : List Char} (h : AwaitsRow c l s.dev)
    (hr : diagAnswerOf c l (diagIdle s.dev) = diagOut r (diagIdle s.dev)) :
    onDev (diagRow c) s = .next { s with dev := diagOut r (diagIdle s.dev) } :=
  onDev_eq_next ((diagRow_of_awaits h).trans hr)

theorem diagLineEnd_none {d : Dev} (hc : d.sys.diagCmd = none) :
    diagLineEnd d =
      let e : Dev := { d with sys := { d.sys with diagLine := [], diagLong := false } }
      if d.sys.diagLong then diagOut "E LONG" e
      else when (diagCommand d.sys.diagLine).isNone diagAnswer
        { e with sys := { e.sys with diagCmd := some d.sys.diagLine } } := by
  have hidle : diagAnswer d = d := by simp only [diagAnswer, hc]
  simp only [diagLineEnd, hidle]
  rfl

/-! ### The obligation's clauses -/

theorem diagCharacter_discarded {c : Byte} {stop : Bool} {s : State} (h : stop = false ∨ s.dev.sys.mode ≠ .twilight) :
    exec (.diagCharacter c stop) s = .next s := by
  have hoff : (!stop || !responder s.dev) = true := by
    obtain rfl | hm := h
    · rfl
    · simp [responder, hm]
  exact onDev_eq_next (if_pos hoff)

section
variable {s : State} {l : List Char}

/-- The reply to LOG for an entry (R78). -/
def logLine (e : LogEntry) : String := diagOk [(2, e.code), (16, e.time.toNat), (4, e.resets)]

theorem diagLog_number {n : Nat} (h : AwaitsRow "LOG" l s.dev) (hn : diagNum l 16 = some n) :
    exec .diagLog s = .next { s with dev := diagOut (logLine (s.dev.sys.log.getD n ⟨0, 0, 0, 0⟩)) (diagIdle s.dev) } := by
  refine answer_row h ?_
  change diagOut (diagLogReply l (diagIdle s.dev)) _ = _
  simp only [diagLogReply, hn]
  rfl

theorem diagLog_refused (h : AwaitsRow "LOG" l s.dev) (hn : diagNum l 16 = none) :
    exec .diagLog s = .next { s with dev := diagOut "E ARG" (diagIdle s.dev) } := by
  refine answer_row h ?_
  change diagOut (diagLogReply l (diagIdle s.dev)) _ = _
  simp only [diagLogReply, hn]

theorem diagImg_number {n : Nat} (h : AwaitsRow "IMG" l s.dev) (hn : diagNum l 16384 = some n) :
    exec .diagImg s = .next { s with dev := diagOut (diagOk [(16, (committedGran n s.dev).toNat)]) (diagIdle s.dev) } := by
  refine answer_row h ?_
  change diagOut (diagImgReply l (diagIdle s.dev)) _ = _
  simp only [diagImgReply, hn]
  rfl

theorem diagImg_refused (h : AwaitsRow "IMG" l s.dev) (hn : diagNum l 16384 = none) :
    exec .diagImg s = .next { s with dev := diagOut "E ARG" (diagIdle s.dev) } := by
  refine answer_row h ?_
  change diagOut (diagImgReply l (diagIdle s.dev)) _ = _
  simp only [diagImgReply, hn]

/-- RD answers: BLANK and DEVELOP (R78, R492). -/
def mayRd (d : Dev) : Bool := lifeKnown d && decide (lifeState d ≤ 1)

theorem mayRd_of_life {d : Dev} (hk : lifeKnown d = true) (hb : lifeState d ≤ 1) : mayRd d = true := by
  rw [mayRd, hk, decide_eq_true hb]
  rfl

theorem mayRd_denied {d : Dev} (h : lifeKnown d = false ∨ 1 < lifeState d) : mayRd d = false := by
  obtain hk | hb := h
  · rw [mayRd, hk]
    rfl
  · rw [mayRd, decide_eq_false (Nat.not_le.mpr hb), Bool.and_false]

theorem diagRdWord_diagIdle (a : Nat) (d : Dev) : diagRdWord a (diagIdle d) = diagRdWord a d := by
  rw [diagRdWord, readReg_diagIdle]
  rfl

/-- RD answers the same line with the command cleared as before. -/
theorem diagRdReply_diagIdle (l : List Char) (d : Dev) :
    diagRdReply l (diagIdle d) = if mayRd d then
      match diagNum l (2 ^ 32) with
      | none => "E ARG"
      | some a => if diagRdMay a d then diagOk [(8, if banksReady a d then (diagRdWord a d).toNat else 0)] else "E ARG"
    else "E DENIED" := by
  unfold diagRdReply
  simp only [diagRdWord_diagIdle, Bool.not_eq_true', ← Bool.not_eq_true, ite_not]
  rfl

theorem answer_rd {r : String} (h : AwaitsRow "RD" l s.dev) (hr : diagRdReply l (diagIdle s.dev) = r) :
    exec .diagRd s = .next { s with dev := diagOut r (diagIdle s.dev) } := by
  refine answer_row h ?_
  change diagOut (diagRdReply l (diagIdle s.dev)) _ = _
  rw [hr]

theorem diagRd_denied (h : AwaitsRow "RD" l s.dev) (hd : mayRd s.dev = false) :
    exec .diagRd s = .next { s with dev := diagOut "E DENIED" (diagIdle s.dev) } :=
  answer_rd h (by rw [diagRdReply_diagIdle, hd]; rfl)

theorem diagRd_refused (h : AwaitsRow "RD" l s.dev) (hd : mayRd s.dev = true) (hn : diagNum l (2 ^ 32) = none) :
    exec .diagRd s = .next { s with dev := diagOut "E ARG" (diagIdle s.dev) } :=
  answer_rd h (by rw [diagRdReply_diagIdle, hd, hn]; rfl)

theorem diagRd_unreadable {a : Nat} (h : AwaitsRow "RD" l s.dev) (hd : mayRd s.dev = true) (hn : diagNum l (2 ^ 32) = some a)
    (hbad : a % 4 ≠ 0 ∨ permitted 19 false false (region a) s.dev = false) :
    exec .diagRd s = .next { s with dev := diagOut "E ARG" (diagIdle s.dev) } := by
  have hmay : diagRdMay a s.dev = false := by
    obtain h4 | hp := hbad
    · rw [diagRdMay, decide_eq_false h4, Bool.false_and]
    · rw [diagRdMay, hp, Bool.and_false]
  exact answer_rd h (by rw [diagRdReply_diagIdle, hd, hn]; simp only [hmay]; rfl)

theorem diagRd_number {a : Nat} (h : AwaitsRow "RD" l s.dev) (hd : mayRd s.dev = true) (hn : diagNum l (2 ^ 32) = some a)
    (h4 : a % 4 = 0) (hp : permitted 19 false false (region a) s.dev = true) :
    let w : Word := if banksReady a s.dev = false then 0
      else if region a = .reg then (readReg 19 0 a s.dev).1 else word (leNat (readBytes a 4 s.dev))
    exec .diagRd s = .next { s with dev := diagOut (diagOk [(8, w.toNat)]) (diagIdle s.dev) } := by
  have hmay : diagRdMay a s.dev = true := by
    rw [diagRdMay, hp, decide_eq_true h4]
    rfl
  refine answer_rd h ?_
  rw [diagRdReply_diagIdle, hd, hn]
  simp only [hmay, if_true]
  cases banksReady a s.dev <;> rfl

theorem diagAnswerOf_rst (l : List Char) (d : Dev) :
    diagAnswerOf "RST" l d = if diagArg l = some ['Y'] then
      diagOut "OK" { d with sys := { d.sys with diagDue := some (d.sys.diagDue.getD (d.now + 400000)) } }
    else diagOut "E ARG" d := rfl

theorem diagRst_refused (h : AwaitsRow "RST" l s.dev) (ha : diagArg l ≠ some ['Y']) :
    exec .diagRst s = .next { s with dev := diagOut "E ARG" (diagIdle s.dev) } :=
  answer_row h ((diagAnswerOf_rst _ _).trans (if_neg ha))

end

section
variable {s : State} (hm : s.dev.sys.mode = .twilight) (hr : s.dev.sys.romLoop = true)
include hm hr

theorem diagCharacter_running (c : Byte) :
    diagCharacter c true s.dev = if c = 13 then diagLineEnd s.dev
      else if 64 ≤ s.dev.sys.diagLine.length then { s.dev with sys := { s.dev.sys with diagLong := true } }
      else { s.dev with sys := { s.dev.sys with diagLine := s.dev.sys.diagLine ++ [Char.ofNat c.toNat] } } := by
  have hon : ¬ (!true || !responder s.dev) = true := by rw [responder_of_running hm hr]; decide
  exact if_neg hon

theorem diagCharacter_joins {c : Byte} (hc : c ≠ 13) (hl : s.dev.sys.diagLine.length < 64) :
    exec (.diagCharacter c true) s =
      .next { s with dev := { s.dev with sys := { s.dev.sys with diagLine := s.dev.sys.diagLine ++ [Char.ofNat c.toNat] } } } :=
  onDev_eq_next (by rw [diagCharacter_running hm hr, if_neg hc, if_neg (Nat.not_le.mpr hl)])

theorem diagCharacter_tooLong {c : Byte} (hc : c ≠ 13) (hl : 64 ≤ s.dev.sys.diagLine.length) :
    exec (.diagCharacter c true) s = .next { s with dev := { s.dev with sys := { s.dev.sys with diagLong := true } } } :=
  onDev_eq_next (by rw [diagCharacter_running hm hr, if_neg hc, if_pos hl])

theorem lineEnd_long (hc : s.dev.sys.diagCmd = none) (hl : s.dev.sys.diagLong = true) :
    exec (.diagCharacter 13 true) s =
      .next { s with dev := diagOut "E LONG" { s.dev with sys := { s.dev.sys with diagLine := [], diagLong := false } } } :=
  onDev_eq_next (by rw [diagCharacter_running hm hr, if_pos rfl, diagLineEnd_none hc]; exact if_pos hl)

theorem lineEnd_unknown (hc : s.dev.sys.diagCmd = none) (hl : s.dev.sys.diagLong = false)
    (hu : diagCommand s.dev.sys.diagLine = none) :
    exec (.diagCharacter 13 true) s =
      .next { s with dev := diagOut "E UNKNOWN" { s.dev with sys := { s.dev.sys with diagLine := [] } } } := by
  refine onDev_eq_next ?_
  rw [diagCharacter_running hm hr, if_pos rfl, diagLineEnd_none hc]
  simp only [hl, Bool.false_eq_true, if_false, hu, Option.isNone_none, when, if_true, diagAnswer]
  rw [← hc, ← hl]

theorem lineEnd_command {w : String} (hc : s.dev.sys.diagCmd = none) (hl : s.dev.sys.diagLong = false)
    (hu : diagCommand s.dev.sys.diagLine = some w) :
    exec (.diagCharacter 13 true) s = .next { s with dev :=
      { s.dev with sys := { s.dev.sys with diagLine := [], diagCmd := some s.dev.sys.diagLine } } } := by
  refine onDev_eq_next ?_
  rw [diagCharacter_running hm hr, if_pos rfl, diagLineEnd_none hc]
  simp only [hl, Bool.false_eq_true, if_false, hu, Option.isNone_some, when]

theorem lineEnd_line (hc : s.dev.sys.diagCmd = none) (hl : s.dev.sys.diagLong = false)
    (hw : ∀ c ∈ s.dev.sys.diagLine, c ≠ ' ') :
    (String.ofList s.dev.sys.diagLine ∉ ["ID", "ST", "HS", "LOG", "IMG", "RD", "RST"] → exec (.diagCharacter 13 true) s =
      .next { s with dev := diagOut "E UNKNOWN" { s.dev with sys := { s.dev.sys with diagLine := [] } } }) ∧
    (String.ofList s.dev.sys.diagLine ∈ ["ID", "ST", "HS", "LOG", "IMG", "RD", "RST"] → exec (.diagCharacter 13 true) s =
      .next { s with dev :=
        { s.dev with sys := { s.dev.sys with diagLine := [], diagCmd := some s.dev.sys.diagLine } } }) :=
  ⟨fun h => lineEnd_unknown hm hr hc hl ((diagCommand_bare hw).trans (if_neg h)),
    fun h => lineEnd_command hm hr hc hl ((diagCommand_bare hw).trans (if_pos h))⟩

/-- A line of one word waits for that word's row. -/
theorem awaits_bare {w : List Char} (hl : s.dev.sys.diagCmd = some w) (hw : ∀ c ∈ w, c ≠ ' ')
    (hc : String.ofList w ∈ ["ID", "ST", "HS", "LOG", "IMG", "RD", "RST"]) : AwaitsRow (String.ofList w) w s.dev :=
  ⟨hm, hr, hl, (diagCommand_bare hw).trans (if_pos hc)⟩

/-- A line of a word and an argument waits for that word's row. -/
theorem awaits_append {w h : List Char} (hl : s.dev.sys.diagCmd = some (w ++ ' ' :: h)) (hw : ∀ c ∈ w, c ≠ ' ')
    (hc : String.ofList w ∈ ["LOG", "IMG", "RD", "RST"]) : AwaitsRow (String.ofList w) (w ++ ' ' :: h) s.dev :=
  ⟨hm, hr, hl, diagCommand_append hw h hc⟩

theorem diagId_answer (hl : s.dev.sys.diagCmd = some ['I', 'D']) :
    exec .diagId s = .next { s with dev := diagOut diagIdReply (diagIdle s.dev) } :=
  answer_row (awaits_bare (w := ['I', 'D']) hm hr hl (by simp) (by simp)) rfl

theorem diagSt_answer (hl : s.dev.sys.diagCmd = some ['S', 'T']) :
    exec .diagSt s = .next { s with dev := diagOut (diagStReply s.dev) (diagIdle s.dev) } :=
  answer_row (awaits_bare (w := ['S', 'T']) hm hr hl (by simp) (by simp)) rfl

theorem diagHs_answer (hl : s.dev.sys.diagCmd = some ['H', 'S']) :
    exec .diagHs s = .next { s with dev := diagOut (diagHsReply s.dev) (diagIdle s.dev) } :=
  answer_row (awaits_bare (w := ['H', 'S']) hm hr hl (by simp) (by simp)) rfl

/-- What follows LOG, IMG, RD or RST on the line that waits. -/
theorem awaits_log {h : List Char} (hl : s.dev.sys.diagCmd = some ("LOG ".toList ++ h)) :
    AwaitsRow "LOG" (['L', 'O', 'G'] ++ ' ' :: h) s.dev :=
  awaits_append (w := ['L', 'O', 'G']) hm hr hl (by simp) (by simp)

theorem awaits_img {h : List Char} (hl : s.dev.sys.diagCmd = some ("IMG ".toList ++ h)) :
    AwaitsRow "IMG" (['I', 'M', 'G'] ++ ' ' :: h) s.dev :=
  awaits_append (w := ['I', 'M', 'G']) hm hr hl (by simp) (by simp)

theorem awaits_rd {h : List Char} (hl : s.dev.sys.diagCmd = some ("RD ".toList ++ h)) :
    AwaitsRow "RD" (['R', 'D'] ++ ' ' :: h) s.dev :=
  awaits_append (w := ['R', 'D']) hm hr hl (by simp) (by simp)

theorem awaits_rst {h : List Char} (hl : s.dev.sys.diagCmd = some ("RST ".toList ++ h)) :
    AwaitsRow "RST" (['R', 'S', 'T'] ++ ' ' :: h) s.dev :=
  awaits_append (w := ['R', 'S', 'T']) hm hr hl (by simp) (by simp)

theorem diagLog_bare (hl : s.dev.sys.diagCmd = some "LOG".toList) :
    exec .diagLog s = .next { s with dev := diagOut "E ARG" (diagIdle s.dev) } :=
  diagLog_refused (awaits_bare (w := ['L', 'O', 'G']) hm hr hl (by simp) (by simp)) (diagNum_none (diagArg_bare (by simp)))

theorem diagImg_bare (hl : s.dev.sys.diagCmd = some "IMG".toList) :
    exec .diagImg s = .next { s with dev := diagOut "E ARG" (diagIdle s.dev) } :=
  diagImg_refused (awaits_bare (w := ['I', 'M', 'G']) hm hr hl (by simp) (by simp)) (diagNum_none (diagArg_bare (by simp)))

theorem diagRd_bare (hl : s.dev.sys.diagCmd = some "RD".toList) (hlc : mayRd s.dev = true) :
    exec .diagRd s = .next { s with dev := diagOut "E ARG" (diagIdle s.dev) } :=
  diagRd_refused (awaits_bare (w := ['R', 'D']) hm hr hl (by simp) (by simp)) hlc (diagNum_none (diagArg_bare (by simp)))

theorem diagRst_bare (hl : s.dev.sys.diagCmd = some "RST".toList) :
    exec .diagRst s = .next { s with dev := diagOut "E ARG" (diagIdle s.dev) } :=
  diagRst_refused (awaits_bare (w := ['R', 'S', 'T']) hm hr hl (by simp) (by simp)) (by rw [diagArg_bare (by simp)]; simp)

theorem diagRst_accepted (hl : s.dev.sys.diagCmd = some "RST Y".toList) (hd : s.dev.sys.diagDue = none) :
    exec .diagRst s = .next { s with dev := diagOut "OK" { s.dev with sys :=
      { s.dev.sys with diagCmd := none, diagDue := some (s.dev.now + 400000) } } } := by
  have ha : AwaitsRow "RST" (['R', 'S', 'T'] ++ ' ' :: ['Y']) s.dev := awaits_rst hm hr hl
  refine onDev_eq_next ((diagRow_of_awaits ha).trans ?_)
  have harg : diagArg (['R', 'S', 'T'] ++ ' ' :: ['Y']) = some ['Y'] := diagArg_append (by simp) _
  rw [diagAnswerOf_rst, if_pos harg, show (diagIdle s.dev).sys.diagDue = none from hd]
  rfl

end

/-! ### The ROM's loop -/

theorem storeReg_safSwdogSvc (d : Dev) :
    storeReg 0 A.safSwdogSvc 0x0A5D0000 d = wr A.safSwdogSvc (rd A.safSwdogSvc d) d := by
  have hreg : regAt A.safSwdogSvc =
      some (⟨A.block 2, 2, safRows⟩, ⟨0x34, 1, 0x1, 1, 0x1, 0, 0, 0, 0, 0, 0xffff, 0, 0, []⟩, 0) := rfl
  exact storeReg_of_writeOnly d hreg ⟨rfl, rfl, rfl, rfl, rfl⟩ (by decide)

/-- The watchdog is served as the loop does: only its start changes. -/
theorem romServe_effect (d : Dev) :
    writeSwdogSvc 0 0x0A5D0000 d = serveSwdog (wr A.safSwdogSvc (rd A.safSwdogSvc d) d) := by
  rw [writeSwdogSvc_key (by decide), storeReg_safSwdogSvc]

theorem romTick_twilight {d : Dev} (hm : d.sys.mode = .twilight) (hr : d.sys.romLoop = true) :
    romTick d = writeSwdogSvc 0 0x0A5D0000 d := by
  simp [romTick, hr, inService, hm]

/-- The loop in service: outside DOZE it frees every orphan as well (R70, R76). -/
theorem romTick_service {d : Dev} (hm : d.sys.mode = .service) (hr : d.sys.romLoop = true) :
    romTick d = when (!inDoze d) (freeOrphans d.dsp.orphans.length)
      (writeHbSvc 0 0x0B4D0000 (writeSwdogSvc 0 0x0A5D0000 d)) := by
  cases hz : inDoze d <;> simp [romTick, hr, inService, hm, hz, when]

theorem writeHbSvc_key {v : Word} (d : Dev) (hk : v.toNat / 65536 = 0x0B4D) :
    writeHbSvc 0 v d = heartbeat (storeReg 0 A.hstHbSvc v d) := by
  simp [writeHbSvc, fld_key, hk]

theorem romTick_twilight_effect {s : State} (hm : s.dev.sys.mode = .twilight) (hr : s.dev.sys.romLoop = true) :
    ∃ t, exec .romServiceTick s = .next t ∧ t.dev.saf = { s.dev.saf with swdogStart := s.dev.now } ∧ t.dev.hst = s.dev.hst ∧
      t.dev.dsp = s.dev.dsp ∧ t.dev.mem = s.dev.mem ∧ ∀ a, rd a t.dev = rd a s.dev :=
  ⟨_, onDev_eq_next ((romTick_twilight hm hr).trans (romServe_effect s.dev)), rfl, rfl, rfl, rfl,
    fun a => rd_wr_held A.safSwdogSvc a s.dev⟩

theorem romTick_service_effect {s : State} (hm : s.dev.sys.mode = .service) (hr : s.dev.sys.romLoop = true) :
    ∃ t, exec .romServiceTick s = .next t ∧ t.dev.saf.swdogStart = s.dev.now ∧ t.dev.hst.hbeat = s.dev.hst.hbeat + 1 ∧
      (inDoze s.dev = false → t.dev.dsp.orphans = []) := by
  refine ⟨_, onDev_eq_next (romTick_service hm hr), ?_⟩
  rw [romServe_effect, writeHbSvc_key _ (by decide)]
  generalize he : serveSwdog (wr A.safSwdogSvc (rd A.safSwdogSvc s.dev) s.dev) = e
  have hsaf : e.saf.swdogStart = s.dev.now := by rw [← he]; rfl
  have hhst : e.hst = s.dev.hst := by rw [← he]; rfl
  have horph : e.dsp.orphans = s.dev.dsp.orphans := by rw [← he]; rfl
  have hstore := sameButRegs_storeReg 0 A.hstHbSvc 0x0B4D0000 e
  generalize storeReg 0 A.hstHbSvc 0x0B4D0000 e = f at hstore
  have hlen : (heartbeat f).dsp.orphans.length ≤ s.dev.dsp.orphans.length := by
    rw [← horph, ← hstore.dsp]
    exact le_rfl
  have hbeat : (heartbeat f).hst.hbeat = s.dev.hst.hbeat + 1 := by rw [← hhst, ← hstore.hst]; rfl
  have hsaf' : (heartbeat f).saf.swdogStart = s.dev.now := by rw [← hsaf, ← hstore.saf]; rfl
  cases inDoze s.dev with
  | true => exact ⟨hsaf', hbeat, nofun⟩
  | false =>
    obtain ⟨hnone, hs, hh⟩ := freeOrphans_effect _ (heartbeat f) hlen
    exact ⟨(congrArg (·.swdogStart) hs).trans hsaf', (congrArg (·.hbeat) hh).trans hbeat, fun _ => hnone⟩

/-- Settles O31: the responder's rows answer the line that waits, the ROM's loop serves the watchdog. -/
theorem diagResponder : Obligations.DiagResponder := by
  unfold Obligations.DiagResponder
  intro s d inSys answers reply waits cr bare args
  refine ⟨fun c stop h => diagCharacter_discarded h, fun hm hr => ⟨fun c => diagCharacter_joins hm hr,
    fun c => diagCharacter_tooLong hm hr, lineEnd_long hm hr, lineEnd_line hm hr, diagId_answer hm hr, diagSt_answer hm hr,
    diagHs_answer hm hr, fun h => ⟨fun hl => ?log, fun hl => ?img, fun hl => ?rd, fun hl hy => ?rst⟩,
    diagLog_bare hm hr, diagImg_bare hm hr, fun hl hk hb => diagRd_bare hm hr hl (mayRd_of_life hk hb), diagRst_bare hm hr,
    diagRst_accepted hm hr, romTick_twilight_effect hm hr⟩, romTick_service_effect⟩
  case log =>
    have ha := awaits_log hm hr hl
    have harg := diagArg_append (w := ['L', 'O', 'G']) (by simp) h
    exact ⟨fun n hp hn => diagLog_number ha (diagNum_some harg hp hn), fun hp => diagLog_refused ha (diagNum_outside harg hp)⟩
  case img =>
    have ha := awaits_img hm hr hl
    have harg := diagArg_append (w := ['I', 'M', 'G']) (by simp) h
    exact ⟨fun n hp hn => diagImg_number ha (diagNum_some harg hp hn), fun hp => diagImg_refused ha (diagNum_outside harg hp)⟩
  case rd =>
    have ha := awaits_rd hm hr hl
    have harg := diagArg_append (w := ['R', 'D']) (by simp) h
    refine ⟨fun hden => diagRd_denied ha (mayRd_denied hden), fun hk hb => ⟨fun hp => ?_, fun a hp => ?_⟩⟩
    · exact diagRd_refused ha (mayRd_of_life hk hb) (diagNum_outside harg (by simp [hp]))
    · have hnum := diagNum_some harg hp (hexParse_lt hp)
      exact ⟨fun hbad => diagRd_unreadable ha (mayRd_of_life hk hb) hnum hbad,
        fun h4 hperm => diagRd_number ha (mayRd_of_life hk hb) hnum h4 hperm⟩
  case rst =>
    refine diagRst_refused (awaits_rst hm hr hl) ?_
    rw [diagArg_append (by simp) h]
    simpa using hy

end Sys2Proof.Machine
end

section
/-! What a failed start keeps: the entry into Twilight touches neither the mode it has set nor ALM_BOOT_STAT (R53, R75, R462). One
lemma per operation, each for any device reached so far. -/

namespace Sys2Proof.Machine

/-- Nothing between d and e has touched the mode and ALM_BOOT_STAT. -/
structure KeepsBootStat (d e : Dev) : Prop where
  mode : e.sys.mode = d.sys.mode
  stat : rd A.almBootStat e = rd A.almBootStat d

namespace KeepsBootStat

variable {d e f : Dev}

theorem refl (d : Dev) : KeepsBootStat d d := ⟨rfl, rfl⟩

theorem trans (h : KeepsBootStat d e) (g : KeepsBootStat e f) : KeepsBootStat d f :=
  ⟨g.mode.trans h.mode, g.stat.trans h.stat⟩

/-- An update outside the registers and the mode. -/
theorem upd (h : KeepsBootStat d e) (hr : f.regs = e.regs) (hm : f.sys.mode = e.sys.mode) : KeepsBootStat d f :=
  h.trans ⟨hm, by simp only [rd, hr]⟩

/-- A fold of operations each of which keeps. -/
theorem foldl {α : Type} {l : List α} {op : Dev → α → Dev} (h : KeepsBootStat d e) (hop : ∀ x d, KeepsBootStat d (op d x)) :
    KeepsBootStat d (l.foldl op e) :=
  List.foldlRecOn l op h fun e he x _ => he.trans (hop x e)

/-- An operation that is done only where a condition holds. -/
theorem whenever {c : Bool} {op : Dev → Dev} (h : KeepsBootStat d e) (hop : ∀ d, KeepsBootStat d (op d)) :
    KeepsBootStat d (when c op e) := by
  cases c
  · exact h
  · exact h.trans (hop e)

/-! ### Registers -/

theorem wr {a : Nat} (h : KeepsBootStat d e) (v : Word) (ha : A.almBootStat ≠ a) : KeepsBootStat d (wr a v e) :=
  h.trans ⟨rfl, rd_wr_ne v e ha⟩

theorem wf {a : Nat} (h : KeepsBootStat d e) (hi lo v : Nat) (ha : A.almBootStat ≠ a) : KeepsBootStat d (wf a hi lo v e) := h.wr _ ha
theorem wb {a : Nat} (h : KeepsBootStat d e) (i : Nat) (b : Bool) (ha : A.almBootStat ≠ a) : KeepsBootStat d (wb a i b e) := h.wr _ ha

theorem raiseIf {a : Nat} (h : KeepsBootStat d e) (c : Bool) (i : Nat) (ha : A.almBootStat ≠ a) :
    KeepsBootStat d (raiseIf c a i e) := by
  cases c
  · exact h
  · exact (h.wr _ ha).upd rfl rfl

/-! ### Units that the entry into Twilight stops -/

theorem safePins (h : KeepsBootStat d e) : KeepsBootStat d (safePins e) := h.upd rfl rfl

theorem pioTwilight (h : KeepsBootStat d e) : KeepsBootStat d (pioTwilight e) := by
  unfold Machine.pioTwilight
  have hall := h.foldl (l := List.range 32) (op := fun d n =>
    let x := getPio n d
    if x.state = .disabled then d else putPio n { x with state := .halted, wait := .none } d) fun n d => by
      dsimp only
      split
      · exact refl d
      · exact (refl d).upd rfl rfl
  dsimp only
  split
  · exact hall.safePins
  · exact hall

theorem refNow (h : KeepsBootStat d e) : KeepsBootStat d (refNow e) := by
  unfold Machine.refNow showRef
  split
  · exact ((h.wf 23 19 _ (by decide)).wb 18 true (by decide)).wr _ (by decide)
  · exact ((h.wf 23 19 0 (by decide)).wb 18 false (by decide)).wr 0 (by decide)

theorem lastFlip (h : KeepsBootStat d e) : KeepsBootStat d (lastFlip e) := by
  unfold Machine.lastFlip
  split
  · exact h
  · refine .safePins (.wb (a := A.memImgStat) ?_ 0 false (by decide))
    exact h.upd rfl rfl

theorem timelineLost (h : KeepsBootStat d e) : KeepsBootStat d (timelineLost e) :=
  h.whenever fun d => (refl d).lastFlip.upd rfl rfl

theorem mrdTwilight (h : KeepsBootStat d e) : KeepsBootStat d (mrdTwilight e) := by
  unfold Machine.mrdTwilight
  split
  · exact h
  · refine .timelineLost (.refNow (.wb (.wr ?_ 0 (by decide)) 9 _ (by decide)))
    exact h.upd rfl rfl

theorem canTwilight (h : KeepsBootStat d e) (n : Nat) : KeepsBootStat d (canTwilight n e) :=
  h.wf 23 21 _ (by unfold A.canStat A.almBootStat; omega)

theorem showSwc (h : KeepsBootStat d e) : KeepsBootStat d (showSwc e) := by
  have hport (q : Nat) : A.almBootStat ≠ A.swcPort q 0x14 := by unfold A.swcPort A.almBootStat; omega
  exact ((h.wf 13 0 _ (by decide)).whenever fun d => (refl d).wf 29 16 _ (by decide)).foldl fun q d =>
    ((refl d).wf 13 0 _ (hport q)).whenever fun d => (refl d).wf 29 16 _ (hport q)

theorem modSwc (h : KeepsBootStat d e) (op : Swc → Swc) : KeepsBootStat d (modSwc op e) := h.upd rfl rfl

theorem countEth (h : KeepsBootStat d e) (p o : Nat) : KeepsBootStat d (countEth p o e) :=
  h.wr _ (by unfold A.ethCnt A.almBootStat; omega)

theorem putQueues (h : KeepsBootStat d e) (l : List Copy) : KeepsBootStat d (putQueues l e) := (h.modSwc _).showSwc

theorem removeCopy (h : KeepsBootStat d e) (c : Copy) : KeepsBootStat d (removeCopy c e) := h.putQueues _

theorem abortTransmit (h : KeepsBootStat d e) (p : Nat) : KeepsBootStat d (abortTransmit p e) := by
  unfold Machine.abortTransmit
  exact h.foldl fun c d => ((refl d).countEth p _).removeCopy c

theorem modEth (h : KeepsBootStat d e) (p : Nat) (op : Eth → Eth) : KeepsBootStat d (modEth p op e) := h.upd rfl rfl

theorem lanesDown (h : KeepsBootStat d e) : KeepsBootStat d (lanesDown e) :=
  h.foldl fun p d => by
    have hstat : A.almBootStat ≠ A.ethStat p := by unfold A.ethStat A.almBootStat; omega
    have hmm : A.almBootStat ≠ A.ethMmStat p := by unfold A.ethMmStat A.almBootStat; omega
    dsimp only
    split
    · exact ((((refl d).abortTransmit p).raiseIf _ 0 hstat).modEth p _).wr _ hmm
    · exact refl d

theorem schedule (h : KeepsBootStat d e) (c : Nat) : KeepsBootStat d (schedule c e) :=
  h.upd (schedule_regs c e) (congrArg (·.sys.mode) (schedule_frame c e))

theorem modCtx (h : KeepsBootStat d e) (k : Nat) (op : Ctx → Ctx) : KeepsBootStat d (modCtx k op e) := h.upd rfl rfl

theorem resumeHeld (h : KeepsBootStat d e) : KeepsBootStat d (resumeHeld e) :=
  h.foldl fun c d => (refl d).foldl fun k d => by
    dsimp only
    split
    · exact ((refl d).modCtx _ _).schedule c
    · exact refl d

theorem endSession (h : KeepsBootStat d e) : KeepsBootStat d (endSession e) := by
  unfold Machine.endSession
  dsimp only
  split
  · exact (h.wf 11 9 _ (by decide)).resumeHeld
  · exact h

end KeepsBootStat

/-- The units stop, and the mode stays Twilight (R75, R462). -/
theorem twilightUnits_effect (d : Dev) :
    (twilightUnits d).sys.mode = .twilight ∧ rd A.almBootStat (twilightUnits d) = rd A.almBootStat d := by
  have hpwr : KeepsBootStat { d with sys := { d.sys with mode := .twilight, trans := none, retWake := none, flipStop := false } }
      (twilightUnits d) :=
    ((((((KeepsBootStat.refl _).wf 4 4 0 (by decide)).wf 2 0 0 (by decide)).pioTwilight.wb 0 false (by decide)).mrdTwilight.foldl
      fun n d => (KeepsBootStat.refl d).canTwilight n).lanesDown).endSession
  exact ⟨hpwr.mode, hpwr.stat⟩

/-- Start-up has failed with a code: the ROM responder runs in Twilight (R53, R75). -/
abbrev StartFailed (code : Nat) (d : Dev) : Prop := d.sys.mode = .twilight ∧ d.sys.twCode = code ∧ d.sys.romLoop = true

theorem startupFail_effect (code : Nat) (d : Dev) :
    StartFailed code (startupFail code d) ∧ rd A.almBootStat (startupFail code d) = rd A.almBootStat d := by
  obtain ⟨hm, hb⟩ := twilightUnits_effect d
  unfold startupFail
  generalize twilightUnits d = u at hm hb
  exact ⟨⟨hm, rfl, rfl⟩, hb⟩

/-- The second slot fails: the first slot's code is shown, and its own as CODE_SECOND (R53). -/
theorem secondFail_effect {code : Nat} (d : Dev) (hc : code < 256) :
    StartFailed (rf A.almBootStat 23 16 d) (secondFail code d) ∧ rf A.almBootStat 15 8 (secondFail code d) = code := by
  obtain ⟨hfail, hstat⟩ := startupFail_effect (rf A.almBootStat 23 16 d) (wf A.almBootStat 15 8 code d)
  refine ⟨hfail, ?_⟩
  calc rf A.almBootStat 15 8 (secondFail code d)
    _ = rf A.almBootStat 15 8 (wf A.almBootStat 15 8 code d) := congrArg (fld · 15 8) hstat
    _ = code % 256 := rf_wf_same _ _ _ _ _ (by decide)
    _ = code := Nat.mod_eq_of_lt hc

theorem slotFail_second {code : Nat} {d : Dev} (hs : d.boot.second = true) : slotFail code d = secondFail code d := if_pos hs

end Sys2Proof.Machine
end

section
/-! The phases of start-up before the records: what each enters, and how each fails (R41-R54, R63, R67). -/

namespace Sys2Proof.Machine

/-- Device e has entered a phase from d: its step, PHASE and its DIAG message (R43). -/
abbrev Entered (d : Dev) (b : BootStep) (n : Nat) (msg : String) (e : Dev) : Prop :=
  e.sys.mode = .startup ∧ e.boot.step = b ∧ rf A.almBootStat 27 24 e = n ∧ e.out = d.out ++ [.diag (msg ++ "\r\n")]

theorem entered_enterPhase {d e : Dev} {b : BootStep} {n : Nat} {msg : String} (hm : e.sys.mode = .startup) (ho : e.out = d.out)
    (hn : n < 16) : Entered d b n msg (enterPhase n msg b e) := by
  have hphase : rf A.almBootStat 27 24 (wf A.almBootStat 27 24 n { e with boot := { e.boot with step := b } }) = n % 16 :=
    rf_wf_same _ _ _ _ _ (by decide)
  exact ⟨hm, rfl, hphase.trans (Nat.mod_eq_of_lt hn), congrArg (· ++ _) ho⟩

theorem rd_enterPhase_ne {a : Nat} (n : Nat) (msg : String) (b : BootStep) (d : Dev) (ha : a ≠ A.almBootStat) :
    rd a (enterPhase n msg b d) = rd a d :=
  rd_wr_ne (a := A.almBootStat) _ { d with boot := { d.boot with step := b } } ha

/-- A phase runs where it is due. -/
theorem onDev_atStep {b : BootStep} {f : Dev → Dev} {s : State} (hm : s.dev.sys.mode = .startup) (hb : s.dev.boot.step = b) :
    onDev (atStep b f) s = .next { s with dev := f s.dev } := by
  refine onDev_eq_next ?_
  simp only [atStep, hm, hb, decide_true, Bool.and_true, when, if_true]

/-! ### Phases 1 to 5 -/

/-- The straps are sampled and the time bases count (R41, R46, R252). -/
def pllLocked (m2 m1 m0 bs : Bool) (d : Dev) : Dev :=
  { d with now := 0, boot := { d.boot with release := d.now }, ntm := { d.ntm with counting := true } }
    |> wb A.sysClkStat 15 true |> wr A.sysStrap (strapWord m2 m1 m0 bs) |> wf A.almBootStat 27 24 2

theorem rootPllLock_unescalated {d : Dev} (he : d.sys.escalated = false) (m2 m1 m0 bs : Bool) :
    rootPllLock m2 m1 m0 bs d = if m2 && m1 then startupFail 0x01 (pllLocked m2 m1 m0 bs d)
      else enterPhase 3 "P3" .mbist (pllLocked m2 m1 m0 bs d) := by
  have hesc : ¬(pllLocked m2 m1 m0 bs d).sys.escalated = true := ne_true_of_eq_false he
  exact if_neg hesc

/-- ROLE follows the two upper straps (R45, R46). -/
theorem strapWord_eq : ∀ m2 m1 m0 bs : Bool, ¬(m2 = true ∧ m1 = true) → strapWord m2 m1 m0 bs =
    word (32 * m2.toNat + 16 * m1.toNat + 8 * bs.toNat + 4 * m2.toNat + 2 * m1.toNat + m0.toNat) := by
  decide

/-- The fuses as phase 5 shows them, with the debug state of the life-cycle state (R49, R492). -/
def fusesShown (f : Fuses) (d : Dev) : Dev :=
  let e := wf A.secLc 31 29 f.life (showFuses f d)
  wf A.secLc 11 9 (dbgBase e) e

/-- Device e differs from d in its tables only. -/
def SameButTabs (d e : Dev) : Prop := { e with tabs := d.tabs } = d

theorem sameButTabs_foldl {α : Type} (l : List α) (op : Dev → α → Dev) (d : Dev) (hop : ∀ e x, SameButTabs e (op e x)) :
    SameButTabs d (l.foldl op d) := by
  refine List.foldlRecOn l op rfl fun e he x _ => ?_
  have hx := congrArg (fun f : Dev => { f with tabs := d.tabs }) (hop e x)
  exact hx.trans he

/-- The fuse table changes only tables (R500). -/
theorem sameButTabs_fuseTable (f : Fuses) (d : Dev) : SameButTabs d (fuseTable f d) := by
  unfold fuseTable
  have hkeys := sameButTabs_foldl (List.range 4) (fun d k =>
    let h := if f.has (fuseProg k) then (f.hash k).toNat else 0
    (List.range 12).foldl (fun d w =>
      { d with tabs := tabSet tabsDefault d.tabs (tabKey 45 (12 * k + w)) (word (h >>> (32 * w))) }) d) d
    fun e k => sameButTabs_foldl _ _ e fun _ _ => rfl
  refine List.foldlRecOn _ _ hkeys fun e he w _ => ?_
  exact he

theorem SameButTabs.sys {d e : Dev} (h : SameButTabs d e) : e.sys = d.sys := congrArg (·.sys) h
theorem SameButTabs.out {d e : Dev} (h : SameButTabs d e) : e.out = d.out := congrArg (·.out) h

theorem showFuses_frame (f : Fuses) (d : Dev) : (showFuses f d).sys = d.sys ∧ (showFuses f d).out = d.out :=
  ⟨(sameButTabs_fuseTable f _).sys, (sameButTabs_fuseTable f _).out⟩

theorem fusesShown_frame (f : Fuses) (d : Dev) : (fusesShown f d).sys = d.sys ∧ (fusesShown f d).out = d.out := by
  obtain ⟨hsys, hout⟩ := showFuses_frame f d
  exact ⟨(wr_sys _ _ _).trans ((wr_sys _ _ _).trans hsys), (wr_out _ _ _).trans ((wr_out _ _ _).trans hout)⟩

/-! ### Headers and staging -/

/-- The checks of a header see SYS_STRAP, SEC_LC and the fuse table (R67). -/
theorem headerCode_congr {d e : Dev} (h key : List Byte) (hs : rd A.sysStrap e = rd A.sysStrap d)
    (hl : rd A.secLc e = rd A.secLc d) (ht : e.tabs = d.tabs) : headerCode h key e = headerCode h key d := by
  rw [headerCode, headerCode, hdrFormat_congr h hs, rollbackBad_congr false h hl, imageKeyOk_congr h key hl ht]

/-- The device with the slot of a discovery in octal mode chosen (R51, R52). -/
def slotChosen (a keyA b keyB : List Byte) (d : Dev) : Dev :=
  let first := slotBFirst a b d
  { d with boot := { d.boot with
      octal := true, slot := first, second := false
      hdr := if first then b else a, hdrOther := if first then a else b
      key := if first then keyB else keyA, keyOther := if first then keyA else keyB, otherFails := 0 } }
    |> wb A.almBootStat 28 false |> wb A.almBootStat 29 first

theorem flashDiscovery_octal {a keyA b keyB : List Byte} {d : Dev} {quad : Bool} (h0 : rb A.sysStrap 0 d = false)
    (hc : headerCode (if slotBFirst a b d then b else a) (if slotBFirst a b d then keyB else keyA) d = 0) :
    flashDiscovery true quad a keyA b keyB d = startImage (slotChosen a keyA b keyB d) := by
  have hcode : headerCode (slotChosen a keyA b keyB d).boot.hdr (slotChosen a keyA b keyB d).boot.key
      (slotChosen a keyA b keyB d) = 0 := by
    change headerCode (if slotBFirst a b d then b else a) (if slotBFirst a b d then keyB else keyA) (slotChosen a keyA b keyB d) = 0
    refine (headerCode_congr (d := d) (e := slotChosen a keyA b keyB d) _ _ ?_ ?_ rfl).trans hc
    · exact (rd_wr_ne _ _ (by decide)).trans (rd_wr_ne _ _ (by decide))
    · exact (rd_wr_ne _ _ (by decide)).trans (rd_wr_ne _ _ (by decide))
  unfold flashDiscovery
  simp only [h0, Bool.not_false, Bool.and_self, Bool.true_or, if_true, Bool.not_true, Bool.false_and]
  exact if_neg (not_not_intro hcode)

/-- The image's bytes in staging (R41). -/
def imageStaged (bytes : List Byte) (d : Dev) : Dev :=
  memPut 0x04800000 (slice (d.boot.hdr ++ slotBody (flashSlot d.boot.slot d) bytes) 0 (imgLen d.boot.hdr)) d

theorem imageRead_eq (bytes : List Byte) (d : Dev) :
    imageRead bytes false d = if tailOk (imageStaged bytes d) then enterPhase 6 "P6C" .signature (imageStaged bytes d)
      else slotFail 0x14 (imageStaged bytes d) := by
  simp only [imageRead, staging, Nat.add_zero, Bool.false_eq_true, if_false]
  rfl

theorem length_slice_zero (l : List Byte) (n : Nat) : (slice l 0 n).length = n := by
  simp [slice]

theorem getD_slice_zero (l : List Byte) {n i : Nat} (hi : i < n) : (slice l 0 n).getD i 0 = l.getD i 0 := by
  simp only [slice, List.drop_zero, List.getD_eq_getElem?_getD, List.getElem?_append, List.length_take, List.getElem?_replicate,
    List.getElem?_take]
  by_cases hl : i < l.length
  · rw [if_pos (by omega), if_pos hi]
  · rw [if_neg (by omega), if_pos (by omega), List.getElem?_eq_none (Nat.not_lt.mp hl)]
    rfl

/-- The bytes that were stored read back. -/
theorem memByte_memPut_at {a i : Nat} {bs : List Byte} {d : Dev} (ha : 0x20000 ≤ a) (hi : i < bs.length) :
    memByte (a + i) (memPut a bs d) = bs.getD i 0 := by
  rw [memByte_memPut _ _ _ _ (by omega), if_pos ⟨by omega, by omega⟩, Nat.add_sub_cancel_left]

theorem memByte_imageStaged (bytes : List Byte) (d : Dev) {i : Nat} (hi : i < imgLen d.boot.hdr) :
    memByte (0x04800000 + i) (imageStaged bytes d) = (d.boot.hdr ++ slotBody (flashSlot d.boot.slot d) bytes).getD i 0 := by
  rw [imageStaged, memByte_memPut_at (by decide) (by rwa [length_slice_zero]), getD_slice_zero _ hi]

/-- The signature verifies by the key of stage 6a (R63). -/
def signatureGood (d : Dev) : Bool :=
  Config.ecdsaVerify (Config.sha384 (staged 0 (imgLen d.boot.hdr - 200) d)) d.boot.key
    (staged (imgLen d.boot.hdr - 200 + 104) 96 d)

theorem ite_bnot {α : Type} (c : Bool) (x y : α) : (if !c then x else y) = if c then y else x := by cases c <;> rfl

theorem verifySignature_eq (d : Dev) :
    verifySignature d = if signatureGood d then
      enterPhase 6 "P6D" .apply (wf A.mrdCtrl 15 11 (hdrNat d.boot.hdr 0x0F 1) d) else slotFail 0x19 d := by
  unfold verifySignature
  exact ite_bnot (signatureGood d) _ _

section
variable {s : State} (hm : s.dev.sys.mode = .startup)
include hm

theorem rootPllLock_effect (hb : s.dev.boot.step = .pll) (he : s.dev.sys.escalated = false) (m2 m1 m0 bs : Bool) :
    (¬(m2 = true ∧ m1 = true) → ∃ t, exec (.rootPllLock m2 m1 m0 bs) s = .next t ∧ Entered s.dev .mbist 3 "P3" t.dev ∧
      t.dev.ntm.counting = true ∧ rd A.sysStrap t.dev =
        word (32 * m2.toNat + 16 * m1.toNat + 8 * bs.toNat + 4 * m2.toNat + 2 * m1.toNat + m0.toNat)) ∧
    ∃ t, exec (.rootPllLock true true m0 bs) s = .next t ∧ StartFailed 0x01 t.dev := by
  refine ⟨fun hr => ⟨_, onDev_atStep hm hb, ?_⟩, _, onDev_atStep hm hb, ?_⟩
  · have hrole : ¬(m2 && m1) = true := by simpa using hr
    rw [rootPllLock_unescalated he, if_neg hrole]
    refine ⟨entered_enterPhase hm rfl (by decide), rfl, ?_⟩
    rw [rd_enterPhase_ne _ _ _ _ (by decide), ← strapWord_eq m2 m1 m0 bs hr]
    exact (rd_wr_ne _ _ (by decide)).trans (rd_wr_same _ _ _)
  · rw [rootPllLock_unescalated he]
    exact (startupFail_effect _ _).1

theorem memoryBist_passes (hb : s.dev.boot.step = .mbist) :
    ∃ t, exec (.memoryBist none) s = .next t ∧ Entered s.dev .lbist 4 "P4" t.dev ∧
      (∀ a, 0x20000 ≤ a → memByte a t.dev = 0) ∧ (∀ p g, pageGran p g t.dev = 0) ∧ t.dev.badPar = [] :=
  ⟨_, onDev_atStep hm hb, entered_enterPhase hm rfl (by decide), fun _ ha => if_neg (Nat.not_lt.mpr ha), fun _ _ => rfl, rfl⟩

theorem memoryBist_fails (hb : s.dev.boot.step = .mbist) (b : Fin 60) :
    ∃ t, exec (.memoryBist (some b)) s = .next t ∧ StartFailed 0x02 t.dev := by
  refine ⟨_, onDev_atStep hm hb, ?_⟩
  obtain ⟨hmode, hcode, hloop⟩ :=
    (startupFail_effect 0x02 { s.dev with mem := [], badPar := [], img := { s.dev.img with pages := [] } }).1
  exact ⟨hmode, hcode, hloop⟩

theorem logicBist_effect (hb : s.dev.boot.step = .lbist) :
    (∃ t, exec (.logicBist true) s = .next t ∧ Entered s.dev .fuses 5 "P5" t.dev) ∧
    ∃ t, exec (.logicBist false) s = .next t ∧ StartFailed 0x03 t.dev :=
  ⟨⟨_, onDev_atStep hm hb, entered_enterPhase hm rfl (by decide)⟩, _, onDev_atStep hm hb, (startupFail_effect _ _).1⟩

theorem fuseRead_uncorrectable (hb : s.dev.boot.step = .fuses) :
    ∃ t, exec (.fuseRead true) s = .next t ∧ StartFailed 0x04 t.dev :=
  ⟨_, onDev_atStep hm hb, (startupFail_effect _ _).1⟩

theorem fuseRead_defunct (hb : s.dev.boot.step = .fuses) (hl : 5 ≤ s.fuses.life) :
    ∃ t, exec (.fuseRead false) s = .next t ∧ StartFailed 0x05 t.dev := by
  refine ⟨_, onDev_atStep hm hb, ?_⟩
  have hfail : fuseRead false s.fuses s.dev =
      startupFail 0x05 (wf A.secLc 31 29 s.fuses.life (showFuses s.fuses s.dev)) := if_pos hl
  rw [hfail]
  exact (startupFail_effect _ _).1

theorem fuseRead_passes (hb : s.dev.boot.step = .fuses) (hl : s.fuses.life < 5) :
    ∃ t, exec (.fuseRead false) s = .next t ∧ Entered s.dev .flash 6 "P6A" t.dev ∧ rf A.secLc 31 29 t.dev = s.fuses.life := by
  refine ⟨_, onDev_atStep hm hb, ?_⟩
  have hpass : fuseRead false s.fuses s.dev = enterPhase 6 "P6A" .flash (fusesShown s.fuses s.dev) := if_neg (Nat.not_le.mpr hl)
  obtain ⟨hsys, hout⟩ := fusesShown_frame s.fuses s.dev
  rw [hpass]
  refine ⟨entered_enterPhase ((congrArg (·.mode) hsys).trans hm) hout (by decide), ?_⟩
  calc rf A.secLc 31 29 (enterPhase 6 "P6A" .flash (fusesShown s.fuses s.dev))
    _ = rf A.secLc 31 29 (fusesShown s.fuses s.dev) := congrArg (fld · 31 29) (rd_enterPhase_ne _ _ _ _ (by decide))
    _ = rf A.secLc 31 29 (wf A.secLc 31 29 s.fuses.life (showFuses s.fuses s.dev)) := rf_wf_other _ _ (by decide) (by decide)
    _ = s.fuses.life % 8 := rf_wf_same _ _ _ _ _ (by decide)
    _ = s.fuses.life := Nat.mod_eq_of_lt (by omega)

/-! ### Phase 6 -/

theorem flashDiscovery_effect (hb : s.dev.boot.step = .flash) (quad : Bool) (hA kA hB kB : List Byte)
    (h0 : rb A.sysStrap 0 s.dev = false)
    (hc : headerCode
      (if slotBFirst (slotHeader s.dev.flashA hA) (slotHeader s.dev.flashB hB) s.dev then slotHeader s.dev.flashB hB
        else slotHeader s.dev.flashA hA)
      (if slotBFirst (slotHeader s.dev.flashA hA) (slotHeader s.dev.flashB hB) s.dev then slotKey s.dev.flashB kB
        else slotKey s.dev.flashA kA) s.dev = 0) :
    ∃ t, exec (.flashDiscovery true quad hA kA hB kB) s = .next t ∧ Entered s.dev .image 6 "P6B" t.dev ∧
      t.dev.boot.octal = true ∧
      t.dev.boot.slot = slotBFirst (slotHeader s.dev.flashA hA) (slotHeader s.dev.flashB hB) s.dev ∧
      t.dev.boot.hdr = (if slotBFirst (slotHeader s.dev.flashA hA) (slotHeader s.dev.flashB hB) s.dev then
        slotHeader s.dev.flashB hB else slotHeader s.dev.flashA hA) ∧
      t.dev.boot.key = (if slotBFirst (slotHeader s.dev.flashA hA) (slotHeader s.dev.flashB hB) s.dev then
        slotKey s.dev.flashB kB else slotKey s.dev.flashA kA) := by
  refine ⟨_, onDev_atStep hm hb, ?_⟩
  dsimp only
  rw [flashDiscovery_octal h0 hc]
  exact ⟨entered_enterPhase hm rfl (by decide), rfl, rfl, rfl, rfl⟩

theorem imageRead_passes (hb : s.dev.boot.step = .image) (bytes : List Byte) (hw : tailOk (imageStaged bytes s.dev) = true) :
    ∃ t, exec (.imageRead bytes false) s = .next t ∧ Entered s.dev .signature 6 "P6C" t.dev ∧
      ∀ i < imgLen s.dev.boot.hdr, memByte (0x04800000 + i) t.dev =
        (s.dev.boot.hdr ++ slotBody (flashSlot s.dev.boot.slot s.dev) bytes).getD i 0 := by
  refine ⟨_, onDev_atStep hm hb, ?_⟩
  rw [imageRead_eq, if_pos hw]
  exact ⟨entered_enterPhase hm rfl (by decide), fun i hi => memByte_imageStaged bytes s.dev hi⟩

theorem imageRead_fails (hb : s.dev.boot.step = .image) (hs : s.dev.boot.second = true) (bytes : List Byte) :
    (tailOk (imageStaged bytes s.dev) = false → ∃ t, exec (.imageRead bytes false) s = .next t ∧
      StartFailed (rf A.almBootStat 23 16 s.dev) t.dev ∧ rf A.almBootStat 15 8 t.dev = 0x14) ∧
    ∃ t, exec (.imageRead bytes true) s = .next t ∧
      StartFailed (rf A.almBootStat 23 16 s.dev) t.dev ∧ rf A.almBootStat 15 8 t.dev = 0x20 := by
  refine ⟨fun hw => ⟨_, onDev_atStep hm hb, ?_⟩, _, onDev_atStep hm hb, ?_⟩
  · rw [imageRead_eq, if_neg (ne_true_of_eq_false hw), slotFail_second (d := imageStaged bytes s.dev) hs]
    exact secondFail_effect (imageStaged bytes s.dev) (by decide)
  · have hfail : imageRead bytes true s.dev = slotFail 0x20 s.dev := rfl
    rw [hfail, slotFail_second hs]
    exact secondFail_effect s.dev (by decide)

theorem signatureVerification_effect (hb : s.dev.boot.step = .signature) :
    (signatureGood s.dev = true →
      ∃ t, exec .signatureVerification s = .next t ∧ Entered s.dev .apply 6 "P6D" t.dev ∧ t.dev.mem = s.dev.mem) ∧
    (signatureGood s.dev = false → s.dev.boot.second = true → ∃ t, exec .signatureVerification s = .next t ∧
      StartFailed (rf A.almBootStat 23 16 s.dev) t.dev ∧ rf A.almBootStat 15 8 t.dev = 0x19) := by
  refine ⟨fun hg => ⟨_, onDev_atStep hm hb, ?_⟩, fun hg hs => ⟨_, onDev_atStep hm hb, ?_⟩⟩
  · rw [verifySignature_eq, if_pos hg]
    exact ⟨entered_enterPhase hm rfl (by decide), rfl⟩
  · rw [verifySignature_eq, if_neg (ne_true_of_eq_false hg), slotFail_second hs]
    exact secondFail_effect s.dev (by decide)

end

/-- Settles O28: each phase enters the next or fails, by the equation of its function. -/
theorem startupPhases : Obligations.StartupPhases := by
  unfold Obligations.StartupPhases
  intro s hm d entered failed second
  exact ⟨fun hb he m2 m1 m0 bs => rootPllLock_effect hm hb he m2 m1 m0 bs,
    fun hb => ⟨memoryBist_passes hm hb, memoryBist_fails hm hb⟩, logicBist_effect hm,
    fun hb => ⟨fuseRead_passes hm hb, fuseRead_uncorrectable hm hb, fun hl _ => fuseRead_defunct hm hb hl⟩,
    fun hb quad hA kA hB kB h0 => flashDiscovery_effect hm hb quad hA kA hB kB h0,
    fun hb bytes => ⟨imageRead_passes hm hb bytes, fun hs => imageRead_fails hm hb hs bytes⟩, signatureVerification_effect hm⟩

end Sys2Proof.Machine
end

section
/-! The records of the apply phase: how the next one is taken, and what each kind leaves (R57-R62, R67). -/

namespace Sys2Proof.Machine

/-! ### Taking the next record -/

theorem onDev_onRecord {k : RecKind} {f : Dev → Dev} {s : State} (hl : Loading s.dev) (hk : recKind s.dev = k) (hb : k ≠ .bad)
    (hh : recHeadOk s.dev = true) : onDev (onRecord k f) s = .next { s with dev := f s.dev } :=
  onDev_eq_next (onRecord_of_next hl hk hb hh)

/-- A record that is not permitted ends the slot, whatever command came for it (R67). -/
theorem onDev_onRecord_bad (k : RecKind) (f : Dev → Dev) {s : State} (hl : Loading s.dev) (hk : recKind s.dev = .bad) :
    onDev (onRecord k f) s = .next { s with dev := slotFail 0x1A s.dev } := by
  refine onDev_eq_next ?_
  simp only [onRecord, atStep, when, hl.1, hl.2, decide_true, Bool.and_true, if_true, hk]

theorem applyRecord_zero {act : Dev → Dev} {d : Dev} (hl : Loading (act d)) :
    applyRecord 0 act d = leaveSection (nextRecord (8 + recLen d) (act d)) := by
  simp only [applyRecord, ne_eq, not_true_eq_false, if_false]
  exact if_pos hl

/-- Device e has passed the next record of d: INDEX is one more, and the cursor is behind the record, and behind the section's tag
where that was its last (R57, R61). -/
abbrev Passed (d e : Dev) : Prop :=
  e.boot.index = d.boot.index + 1 ∧
  (d.boot.encEnd = 0 ∨ d.boot.encEnd ≠ d.boot.cursor + 8 + recLen d → e.boot.cursor = d.boot.cursor + 8 + recLen d) ∧
  (d.boot.encEnd ≠ 0 → d.boot.encEnd = d.boot.cursor + 8 + recLen d →
    e.boot.cursor = d.boot.cursor + 8 + recLen d + 16 ∧ e.boot.encEnd = 0)

theorem leaveSection_inside {d : Dev} (h : d.boot.encEnd = 0 ∨ d.boot.encEnd ≠ d.boot.cursor) : leaveSection d = d :=
  if_neg (by rintro ⟨h0, hc⟩; exact h.elim h0 fun hne => hne hc.symm)

/-- Passing a record changes where the next one stands, and nothing else. -/
theorem leaveSection_frame (n : Nat) (d : Dev) :
    (leaveSection (nextRecord n d)).boot.index = d.boot.index + 1 ∧ (leaveSection (nextRecord n d)).boot.claims = d.boot.claims ∧
      (leaveSection (nextRecord n d)).mem = d.mem ∧ (leaveSection (nextRecord n d)).regs = d.regs := by
  unfold leaveSection
  split
  · exact ⟨rfl, rfl, rfl, rfl⟩
  · exact ⟨rfl, rfl, rfl, rfl⟩

/-- Behind the last record of a section is behind its tag (R61). -/
theorem leaveSection_last {d : Dev} (h0 : d.boot.encEnd ≠ 0) (hc : d.boot.cursor = d.boot.encEnd) :
    (leaveSection d).boot.cursor = d.boot.cursor + 16 ∧ (leaveSection d).boot.encEnd = 0 := by
  rw [leaveSection, if_pos ⟨h0, hc⟩]
  exact ⟨rfl, rfl⟩

theorem passed_leaveSection {d e : Dev} (hi : e.boot.index = d.boot.index) (hc : e.boot.cursor = d.boot.cursor)
    (he : e.boot.encEnd = d.boot.encEnd) : Passed d (leaveSection (nextRecord (8 + recLen d) e)) := by
  have hidx := (leaveSection_frame (8 + recLen d) e).1
  have hcur : (nextRecord (8 + recLen d) e).boot.cursor = d.boot.cursor + 8 + recLen d := by
    rw [Nat.add_assoc, ← hc]
    rfl
  have hend : (nextRecord (8 + recLen d) e).boot.encEnd = d.boot.encEnd := he
  generalize nextRecord (8 + recLen d) e = f at hidx hcur hend
  refine ⟨hidx.trans (congrArg (· + 1) hi), fun hin => ?_, fun h0 hlast => ?_⟩
  · rw [leaveSection_inside (by rwa [hcur, hend]), hcur]
  · obtain ⟨hbehind, hleft⟩ := leaveSection_last (d := f) (by rwa [hend]) (by rw [hcur, hend, hlast])
    exact ⟨by rw [hbehind, hcur], hleft⟩

/-! ### Resource claims -/

/-- The device with the claim of the next record joined to the claims (R62). -/
def claimed (d : Dev) : Dev := { d with boot := { d.boot with claims := d.boot.claims ++ [recClaim d] } }

theorem claimed_frame (d : Dev) :
    { (claimed d).boot with claims := d.boot.claims } = d.boot ∧ (claimed d).boot.claims = d.boot.claims ++ [recClaim d] ∧
      (claimed d).mem = d.mem ∧ (claimed d).regs = d.regs := ⟨rfl, rfl, rfl, rfl⟩

theorem applyClaim_eq {d : Dev} (hl : Loading d) (hn : recLen d = 64) (ho : (recClaim d).owner ≤ 12)
    (hr : recNat 0x32 14 d = 0) : applyClaim d = leaveSection (nextRecord (8 + recLen d) (claimed d)) := by
  have hcode : ¬(recLen d ≠ 64 ∨ 12 < (recClaim d).owner ∨ recNat 0x32 14 d ≠ 0) := by omega
  simp only [applyClaim, if_neg hcode]
  exact applyRecord_zero hl

theorem applyClaim_effect {d : Dev} (hl : Loading d) (hn : recLen d = 64) (ho : (recClaim d).owner ≤ 12)
    (hr : recNat 0x32 14 d = 0) :
    Passed d (applyClaim d) ∧ (applyClaim d).boot.claims = d.boot.claims ++ [recClaim d] ∧ (applyClaim d).mem = d.mem ∧
      (applyClaim d).regs = d.regs := by
  obtain ⟨hboot, hclaims, hmem, hregs⟩ := claimed_frame d
  rw [applyClaim_eq hl hn ho hr]
  generalize claimed d = e at hboot hclaims hmem hregs
  obtain ⟨_, hclaims', hmem', hregs'⟩ := leaveSection_frame (8 + recLen d) e
  have hidx : e.boot.index = d.boot.index := congrArg (·.index) hboot
  have hcur : e.boot.cursor = d.boot.cursor := congrArg (·.cursor) hboot
  have hend : e.boot.encEnd = d.boot.encEnd := congrArg (·.encEnd) hboot
  exact ⟨passed_leaveSection hidx hcur hend, hclaims'.trans hclaims, hmem'.trans hmem, hregs'.trans hregs⟩

theorem resourceClaimRecord_effect {s : State} (hl : Loading s.dev) (hk : recKind s.dev = .claim) (hh : recHeadOk s.dev = true)
    (hn : recLen s.dev = 64) (ho : (recClaim s.dev).owner ≤ 12) (hr : recNat 0x32 14 s.dev = 0) :
    ∃ t, exec .resourceClaimRecord s = .next t ∧ Passed s.dev t.dev ∧
      t.dev.boot.claims = s.dev.boot.claims ++ [recClaim s.dev] ∧ t.dev.mem = s.dev.mem ∧ t.dev.regs = s.dev.regs := by
  have heffect := applyClaim_effect hl hn ho hr
  have hexec : exec .resourceClaimRecord s = .next { s with dev := applyClaim s.dev } := onDev_onRecord hl hk (by decide) hh
  generalize applyClaim s.dev = e at heffect hexec
  exact ⟨_, hexec, heffect⟩

/-! ### Direct loads -/

/-- Devices with the same memory have the same bytes. -/
theorem memByte_congr {d e : Dev} (h : e.mem = d.mem) (a : Nat) : memByte a e = memByte a d := by
  rw [memByte, memByte, h]

theorem length_memBytes (a n : Nat) (d : Dev) : (memBytes a n d).length = n := by simp [memBytes]

theorem getD_memBytes (a : Nat) {n i : Nat} (d : Dev) (hi : i < n) : (memBytes a n d).getD i 0 = memByte (a + i) d := by
  simp [memBytes, List.getD_eq_getElem?_getD, hi]

/-- Device e differs from d in memory and its parity marks only. -/
def SameButMem (d e : Dev) : Prop := { e with mem := d.mem, badPar := d.badPar } = d

namespace SameButMem

variable {d e f : Dev}

theorem trans (h : SameButMem d e) (g : SameButMem e f) : SameButMem d f := by
  have hg : ({ f with mem := d.mem, badPar := d.badPar } : Dev) = { e with mem := d.mem, badPar := d.badPar } :=
    congrArg (fun x : Dev => { x with mem := d.mem, badPar := d.badPar }) g
  exact Eq.trans hg h

theorem regs (h : SameButMem d e) : e.regs = d.regs := congrArg (·.regs) h
theorem sys (h : SameButMem d e) : e.sys = d.sys := congrArg (·.sys) h
theorem boot (h : SameButMem d e) : e.boot = d.boot := congrArg (·.boot) h

end SameButMem

/-- A byte of a load falls into an accessible bank outside the image window. -/
abbrev PlainByte (d : Dev) (a : Nat) : Prop := banksReady a d = true ∧ region a ≠ .image

/-- One byte of a load (R60, R130). -/
def loadByte (d : Dev) (p : Byte × Nat) : Dev :=
  if !banksReady p.2 d then d
  else if region p.2 = .image then loadImageByte p.2 p.1 d else memPut p.2 [p.1] d

theorem loadByte_plain {d : Dev} {p : Byte × Nat} (h : PlainByte d p.2) : loadByte d p = memPut p.2 [p.1] d := by
  obtain ⟨hready, hregion⟩ := h
  simp only [loadByte, hready, Bool.not_true, Bool.false_eq_true, if_false, if_neg hregion]

theorem loadFold_plain (bs : List Byte) (a : Nat) (d : Dev) (h : ∀ i < bs.length, PlainByte d (a + i)) :
    SameButMem d ((bs.zipIdx a).foldl loadByte d) ∧ ((bs.zipIdx a).foldl loadByte d).mem = (memPut a bs d).mem := by
  induction bs generalizing a d with
  | nil => exact ⟨rfl, rfl⟩
  | cons b bs ih =>
    have hb : loadByte d (b, a) = memPut a [b] d := loadByte_plain (h 0 (Nat.zero_lt_succ _))
    have hrest (i : Nat) (hi : i < bs.length) : PlainByte (memPut a [b] d) (a + 1 + i) := by
      rw [Nat.add_assoc, Nat.add_comm 1]
      exact h (i + 1) (Nat.succ_lt_succ hi)
    obtain ⟨hsame, hmem⟩ := ih (a + 1) (memPut a [b] d) hrest
    rw [List.zipIdx_cons, List.foldl_cons, hb]
    have hput : SameButMem d (memPut a [b] d) := rfl
    exact ⟨hput.trans hsame, hmem⟩

/-- A load into accessible banks outside the image window writes its bytes and nothing else (R60). -/
theorem loadBytes_plain {bs : List Byte} {a : Nat} {d : Dev} (h : ∀ i < bs.length, PlainByte d (a + i)) :
    SameButMem d (loadBytes a bs d) ∧ (loadBytes a bs d).mem = (memPut a bs d).mem := by
  have hoff : ((List.range bs.length).find? fun i => !banksReady (a + i) d) = none := by
    refine List.find?_eq_none.mpr fun i hi => ?_
    rw [(h i (List.mem_range.mp hi)).1]
    decide
  have hload : loadBytes a bs d = (bs.zipIdx a).foldl loadByte d := by
    simp only [loadBytes, hoff]
    rfl
  rw [hload]
  exact loadFold_plain bs a d h

/-- A place of shared SRAM below staging, or of a data RAM, in an accessible bank. -/
abbrev DirectPlace (d : Dev) (a : Nat) : Prop :=
  (region a = .sram ∧ a < 0x04800000 ∨ ∃ e, region a = .dram e) ∧ banksReady a d = true

theorem loadTarget_of_directPlace {d : Dev} {a : Nat} (h : DirectPlace d a) : loadTarget a = true := by
  obtain ⟨⟨hsram, hlow⟩ | ⟨e, hdram⟩, _⟩ := h
  · simp only [loadTarget, hsram, hlow, decide_true]
  · simp only [loadTarget, hdram]

theorem plainByte_of_directPlace {d : Dev} {a : Nat} (h : DirectPlace d a) : PlainByte d a := by
  obtain ⟨⟨hsram, _⟩ | ⟨e, hdram⟩, hready⟩ := h
  · exact ⟨hready, by rw [hsram]; decide⟩
  · exact ⟨hready, by rw [hdram]; nofun⟩

theorem not_rom_of_directPlace {d : Dev} {a : Nat} (h : DirectPlace d a) : 0x20000 ≤ a := by
  by_contra hlow
  have hrom : region a = .rom := if_pos (Nat.not_le.mp hlow)
  obtain ⟨⟨hsram, _⟩ | ⟨e, hdram⟩, _⟩ := h
  · rw [hrom] at hsram
    cases hsram
  · rw [hrom] at hdram
    cases hdram

theorem length_recBytes (o n : Nat) (d : Dev) : (recBytes o n d).length = n := length_memBytes _ _ _

theorem getD_recBytes (o : Nat) {n i : Nat} (d : Dev) (hi : i < n) :
    (recBytes o n d).getD i 0 = memByte (0x04800000 + d.boot.cursor + 8 + o + i) d := by
  rw [recBytes, staged, getD_memBytes _ _ hi, staging]
  congr 1
  omega

/-- The bytes of the direct load that stands next in d are put in place in e (R60). -/
def loadDirect (d e : Dev) : Dev :=
  e |> loadBytes (recNat 4 4 d) (recBytes 12 (recLen d - 12) e) |> loadBanks (recNat 4 4 d) (recLen d - 12)

/-- The device with the bytes of a direct load in place. -/
def directLoaded (d : Dev) : Dev := loadDirect d d

/-- The code of a direct load (R60, R67). -/
def directCode (d : Dev) : Nat :=
  if !loadFormOk d ∨ recNat 8 4 d ≠ 0 then 0x1A
  else if (List.range (max (recLen d - 12) 1)).all fun i => loadTarget (recNat 4 4 d + i) then 0 else 0x1C

theorem applyDirect_eq_applyRecord (d : Dev) : applyDirect d = applyRecord (directCode d) (loadDirect d) d := by
  unfold applyDirect directCode loadDirect
  rfl

/-- A load's banks are noted, and nothing else. -/
theorem loadBanks_frame (a n : Nat) (d : Dev) :
    (loadBanks a n d).sys = d.sys ∧ (loadBanks a n d).regs = d.regs ∧ (loadBanks a n d).mem = d.mem ∧
      { (loadBanks a n d).boot with banks := d.boot.banks } = d.boot := ⟨rfl, rfl, rfl, rfl⟩

/-- The start-up state before and after a direct load differs in the banks that loads wrote. -/
theorem directLoaded_frame {d : Dev} (hplace : ∀ i < recLen d - 12, DirectPlace d (recNat 4 4 d + i)) :
    (directLoaded d).sys = d.sys ∧ (directLoaded d).regs = d.regs ∧
      (directLoaded d).mem = (memPut (recNat 4 4 d) (recBytes 12 (recLen d - 12) d) d).mem ∧
      { (directLoaded d).boot with banks := d.boot.banks } = d.boot := by
  have hplain : ∀ i < (recBytes 12 (recLen d - 12) d).length, PlainByte d (recNat 4 4 d + i) := fun i hi =>
    plainByte_of_directPlace (hplace i (by rwa [length_recBytes] at hi))
  obtain ⟨hsame, hmem⟩ := loadBytes_plain hplain
  unfold directLoaded loadDirect
  generalize loadBytes (recNat 4 4 d) (recBytes 12 (recLen d - 12) d) d = e at hsame hmem
  obtain ⟨hsys, hregs, hmem', hboot⟩ := loadBanks_frame (recNat 4 4 d) (recLen d - 12) e
  rw [hsame.boot] at hboot
  exact ⟨hsys.trans hsame.sys, hregs.trans hsame.regs, hmem'.trans hmem, hboot⟩

theorem directCode_zero {d : Dev} (h12 : 12 ≤ recLen d) (hspace : recNat 1 3 d = 0) (hres : recNat 8 4 d = 0)
    (hplace : ∀ i < max 1 (recLen d - 12), DirectPlace d (recNat 4 4 d + i)) : directCode d = 0 := by
  have hform : ¬(!loadFormOk d ∨ recNat 8 4 d ≠ 0) := by simp [loadFormOk, h12, hspace, hres]
  have htarget : ((List.range (max (recLen d - 12) 1)).all fun i => loadTarget (recNat 4 4 d + i)) = true :=
    List.all_eq_true.mpr fun i hi => loadTarget_of_directPlace (hplace i (by rw [max_comm]; exact List.mem_range.mp hi))
  rw [directCode, if_neg hform, if_pos htarget]

theorem loading_directLoaded {d : Dev} (hl : Loading d) (hplace : ∀ i < recLen d - 12, DirectPlace d (recNat 4 4 d + i)) :
    Loading (directLoaded d) := by
  obtain ⟨hsys, _, _, hboot⟩ := directLoaded_frame hplace
  generalize directLoaded d = e at hsys hboot
  exact ⟨(congrArg (·.mode) hsys).trans hl.1, (congrArg (·.step) hboot).trans hl.2⟩

theorem applyDirect_eq {d : Dev} (hl : Loading d) (h12 : 12 ≤ recLen d) (hspace : recNat 1 3 d = 0) (hres : recNat 8 4 d = 0)
    (hplace : ∀ i < max 1 (recLen d - 12), DirectPlace d (recNat 4 4 d + i)) :
    applyDirect d = leaveSection (nextRecord (8 + recLen d) (directLoaded d)) := by
  rw [applyDirect_eq_applyRecord, directCode_zero h12 hspace hres hplace]
  exact applyRecord_zero (loading_directLoaded hl fun i hi => hplace i (lt_max_of_lt_right hi))

theorem applyDirect_effect {d : Dev} (hl : Loading d) (h12 : 12 ≤ recLen d) (hspace : recNat 1 3 d = 0) (hres : recNat 8 4 d = 0)
    (hplace : ∀ i < max 1 (recLen d - 12), DirectPlace d (recNat 4 4 d + i)) :
    Passed d (applyDirect d) ∧ (applyDirect d).regs = d.regs ∧
      ∀ a, memByte a (applyDirect d) = if recNat 4 4 d ≤ a ∧ a < recNat 4 4 d + (recLen d - 12) then
        memByte (0x04800000 + d.boot.cursor + 20 + (a - recNat 4 4 d)) d else memByte a d := by
  obtain ⟨_, hregs, hmem, hboot⟩ := directLoaded_frame fun i hi => hplace i (lt_max_of_lt_right hi)
  rw [applyDirect_eq hl h12 hspace hres hplace]
  generalize directLoaded d = e at hregs hmem hboot
  obtain ⟨_, _, hmem', hregs'⟩ := leaveSection_frame (8 + recLen d) e
  have hidx : e.boot.index = d.boot.index := congrArg (·.index) hboot
  have hcur : e.boot.cursor = d.boot.cursor := congrArg (·.cursor) hboot
  have hend : e.boot.encEnd = d.boot.encEnd := congrArg (·.encEnd) hboot
  refine ⟨passed_leaveSection hidx hcur hend, hregs'.trans hregs, fun a => ?_⟩
  rw [memByte_congr (hmem'.trans hmem) a]
  by_cases hrom : a < 0x20000
  · have hbase : 0x20000 ≤ recNat 4 4 d := not_rom_of_directPlace (hplace 0 (by omega))
    rw [if_neg (by omega), memByte, memByte, if_pos hrom, if_pos hrom]
  · rw [memByte_memPut _ _ _ _ (Nat.not_lt.mp hrom), length_recBytes]
    refine ite_congr rfl (fun hin => ?_) fun _ => rfl
    rw [getD_recBytes _ _ (by omega)]

theorem memoryLoadDirect_effect {s : State} (hl : Loading s.dev) (hk : recKind s.dev = .direct) (hh : recHeadOk s.dev = true)
    (h12 : 12 ≤ recLen s.dev) (hspace : recNat 1 3 s.dev = 0) (hres : recNat 8 4 s.dev = 0)
    (hplace : ∀ i < max 1 (recLen s.dev - 12), DirectPlace s.dev (recNat 4 4 s.dev + i)) :
    ∃ t, exec .memoryLoadDirect s = .next t ∧ Passed s.dev t.dev ∧ t.dev.regs = s.dev.regs ∧
      ∀ a, memByte a t.dev = if recNat 4 4 s.dev ≤ a ∧ a < recNat 4 4 s.dev + (recLen s.dev - 12) then
        memByte (0x04800000 + s.dev.boot.cursor + 20 + (a - recNat 4 4 s.dev)) s.dev else memByte a s.dev := by
  have heffect := applyDirect_effect hl h12 hspace hres hplace
  have hexec : exec .memoryLoadDirect s = .next { s with dev := applyDirect s.dev } := onDev_onRecord hl hk (by decide) hh
  generalize applyDirect s.dev = e at heffect hexec
  exact ⟨_, hexec, heffect⟩

/-! ### Register writes and indirect loads -/

/-- The device with the entries of a register-write record applied (R59). -/
def writesApplied (f : Fuses) (d : Dev) : Dev := (recEntries d).foldl (fun d e => applyEntry f e.1 e.2.1 e.2.2 d) d

theorem applyWrites_eq {d : Dev} {f : Fuses} (hn : recLen d % 12 = 0)
    (htarget : ∀ e ∈ recEntries d, e.1 % 4 = 0 ∧ (inWindow e.1 = true ∨ inPeRegs e.1 = true))
    (hl : Loading (writesApplied f d)) :
    applyWrites f d = leaveSection (nextRecord (8 + recLen d) (writesApplied f d)) := by
  have hall : ((recEntries d).all fun e => writeTargetOk e.1) = true :=
    List.all_eq_true.mpr fun e he => by simpa [writeTargetOk] using htarget e he
  have hcode : ¬recLen d % 12 ≠ 0 := not_not_intro hn
  simp only [applyWrites, if_neg hcode, hall, if_true]
  exact applyRecord_zero hl

/-- The device with the words of an indirect load written (R60). -/
def indirectLoaded (f : Fuses) (d : Dev) : Dev :=
  rackLoad (recNat 4 4 d) (recNat 8 4 d) (recBytes 12 (recLen d - 12) d) d
    |> writeReg 0 0 (recNat 4 4 d) (word (recNat 8 4 d)) f
    |> loadWords f (recNat 4 4 d) ((List.range ((recLen d - 12) / 4)).map fun i => word (recNat (12 + 4 * i) 4 d))

theorem applyIndirect_eq {d : Dev} {f : Fuses} (h12 : 12 ≤ recLen d) (hspace : recNat 1 3 d = 0)
    (ha : isIndAddr (recNat 4 4 d) = true) (hl : Loading (indirectLoaded f d)) :
    applyIndirect f d = leaveSection (nextRecord (8 + recLen d) (indirectLoaded f d)) := by
  have hform : loadFormOk d = true := by simp [loadFormOk, h12, hspace]
  simp only [applyIndirect, hform, ha, Bool.not_true, Bool.false_eq_true, if_false, if_true]
  exact applyRecord_zero hl

theorem registerWriteRecord_effect {s : State} (hl : Loading s.dev) (hk : recKind s.dev = .regs) (hh : recHeadOk s.dev = true)
    (hn : recLen s.dev % 12 = 0)
    (htarget : ∀ e ∈ recEntries s.dev, e.1 % 4 = 0 ∧ (inWindow e.1 = true ∨ inPeRegs e.1 = true))
    (hl' : Loading (writesApplied s.fuses s.dev)) :
    exec .registerWriteRecord s =
      .next { s with dev := leaveSection (nextRecord (8 + recLen s.dev) (writesApplied s.fuses s.dev)) } := by
  rw [← applyWrites_eq hn htarget hl']
  exact onDev_onRecord hl hk (by decide) hh

theorem memoryLoadIndirect_effect {s : State} (hl : Loading s.dev) (hk : recKind s.dev = .indirect) (hh : recHeadOk s.dev = true)
    (h12 : 12 ≤ recLen s.dev) (hspace : recNat 1 3 s.dev = 0) (ha : isIndAddr (recNat 4 4 s.dev) = true)
    (hl' : Loading (indirectLoaded s.fuses s.dev)) :
    exec .memoryLoadIndirect s =
      .next { s with dev := leaveSection (nextRecord (8 + recLen s.dev) (indirectLoaded s.fuses s.dev)) } := by
  rw [← applyIndirect_eq h12 hspace ha hl']
  exact onDev_onRecord hl hk (by decide) hh

/-! ### Encrypted sections -/

/-- The tag of the encrypted section that stands next is right under a key (R61). -/
def tagOk (key : BitVec 256) (d : Dev) : Bool :=
  Config.gcmTagOk key (recBytes 0 12 d) (staged d.boot.cursor 8 d) (recBytes 16 (recLen d - 32) d)
    (recBytes (16 + (recLen d - 32)) 16 d)

/-- The records of a section of n bytes at a place come next (R61). -/
def enterSection (place n : Nat) (d : Dev) : Dev :=
  { d with boot := { d.boot with cursor := place, index := d.boot.index + 1, encEnd := place + n } }

theorem enterSection_mem (place n : Nat) (d : Dev) : (enterSection place n d).mem = d.mem := by
  unfold enterSection
  rfl

/-- The device with the section that stands next decrypted in place (R61). -/
def decrypted (key : BitVec 256) (d : Dev) : Dev :=
  memPut (staging (d.boot.cursor + 24)) (plaintext key (recBytes 0 12 d) (recBytes 16 (recLen d - 32) d)) d
    |> enterSection (d.boot.cursor + 24) (recLen d - 32)

theorem applySection_eq {d : Dev} {f : Fuses} {key : BitVec 256} (hn : 32 < recLen d) (hlen : recNat 12 4 d = recLen d - 32)
    (hk : f.imageKey = some key) (hlife : lifeState d ≠ 0) :
    applySection f d = if tagOk key d then decrypted key d else slotFail 0x1B d := by
  have hform : ¬(recLen d < 32 ∨ recNat 12 4 d ≠ recLen d - 32) := by omega
  have hinside : leaveSection (decrypted key d) = decrypted key d :=
    leaveSection_inside (.inr (by simp only [decrypted, enterSection]; omega))
  unfold applySection
  simp only [if_neg hform, hk, decide_eq_false hlife, Bool.false_or]
  refine (ite_bnot (tagOk key d) _ _).trans ?_
  rw [← hinside]
  rfl

theorem length_plaintext (key : BitVec 256) (iv ct : List Byte) : (plaintext key iv ct).length = ct.length := by simp [plaintext]

theorem getD_plaintext (key : BitVec 256) (iv ct : List Byte) {i : Nat} (hi : i < ct.length) :
    (plaintext key iv ct).getD i 0 = Config.gcmPlainByte key iv ct i := by
  simp [plaintext, List.getD_eq_getElem?_getD, hi]

theorem memByte_decrypted (key : BitVec 256) (d : Dev) {i : Nat} (hi : i < recLen d - 32) :
    memByte (0x04800000 + d.boot.cursor + 24 + i) (decrypted key d) =
      Config.gcmPlainByte key (recBytes 0 12 d) (recBytes 16 (recLen d - 32) d) i := by
  have hct : i < (recBytes 16 (recLen d - 32) d).length := by rwa [length_recBytes]
  have haddr : 0x04800000 + d.boot.cursor + 24 + i = staging (d.boot.cursor + 24) + i := by unfold staging; omega
  have hram : 0x20000 ≤ staging (d.boot.cursor + 24) := by unfold staging; omega
  rw [haddr, decrypted, memByte_congr (enterSection_mem _ _ _), memByte_memPut_at hram (by rwa [length_plaintext]),
    getD_plaintext _ _ _ hct]

theorem encryptedSection_effect {s : State} {key : BitVec 256} (hl : Loading s.dev) (hr : recKind s.dev = .enc)
    (hh : recHeadOk s.dev = true) (hn : 32 < recLen s.dev) (hlen : recNat 12 4 s.dev = recLen s.dev - 32)
    (hk : s.fuses.imageKey = some key) (hlife : lifeState s.dev ≠ 0) :
    if tagOk key s.dev = true then
      ∃ t, exec .encryptedSection s = .next t ∧ t.dev.boot.index = s.dev.boot.index + 1 ∧
        t.dev.boot.cursor = s.dev.boot.cursor + 24 ∧ t.dev.boot.encEnd = s.dev.boot.cursor + 24 + (recLen s.dev - 32) ∧
        ∀ i < recLen s.dev - 32, memByte (0x04800000 + s.dev.boot.cursor + 24 + i) t.dev =
          Config.gcmPlainByte key (recBytes 0 12 s.dev) (recBytes 16 (recLen s.dev - 32) s.dev) i
    else s.dev.boot.second = true → ∃ t, exec .encryptedSection s = .next t ∧ t.dev.sys.mode = .twilight ∧
      rf A.almBootStat 15 8 t.dev = 0x1B := by
  have hexec := onDev_onRecord (f := applySection s.fuses) hl hr (by decide) hh
  rw [applySection_eq hn hlen hk hlife] at hexec
  split
  next htag =>
    rw [if_pos htag] at hexec
    exact ⟨_, hexec, rfl, rfl, rfl, fun i hi => memByte_decrypted key s.dev hi⟩
  next htag =>
    intro hs
    rw [if_neg htag, slotFail_second hs] at hexec
    obtain ⟨⟨hmode, _, _⟩, hcode⟩ := secondFail_effect (code := 0x1B) s.dev (by decide)
    exact ⟨_, hexec, hmode, hcode⟩

/-! ### Records that are not permitted -/

theorem badRecord_effect {s : State} {i : Instr} {k : RecKind} {f : Dev → Dev} (hi : exec i s = onDev (onRecord k f) s)
    (hl : Loading s.dev) (hk : recKind s.dev = .bad) (hs : s.dev.boot.second = true) :
    ∃ t, exec i s = .next t ∧ t.dev.sys.mode = .twilight ∧ rf A.almBootStat 15 8 t.dev = 0x1A ∧
      t.dev.sys.twCode = rf A.almBootStat 23 16 s.dev := by
  obtain ⟨⟨hmode, htw, _⟩, hcode⟩ := secondFail_effect (code := 0x1A) s.dev (by decide)
  rw [hi, onDev_onRecord_bad k f hl hk, slotFail_second hs]
  exact ⟨_, rfl, hmode, hcode, htw⟩

theorem badRecords_effect {s : State} (hl : Loading s.dev) (hk : recKind s.dev = .bad) (hs : s.dev.boot.second = true) :
    ∀ i ∈ [Instr.registerWriteRecord, .memoryLoadDirect, .memoryLoadIndirect, .encryptedSection, .resourceClaimRecord, .commitRecord],
      ∃ t, exec i s = .next t ∧ t.dev.sys.mode = .twilight ∧ rf A.almBootStat 15 8 t.dev = 0x1A ∧
        t.dev.sys.twCode = rf A.almBootStat 23 16 s.dev := by
  simp only [List.forall_mem_cons, List.not_mem_nil, false_implies, implies_true, and_true]
  exact ⟨badRecord_effect (k := .regs) rfl hl hk hs, badRecord_effect (k := .direct) rfl hl hk hs,
    badRecord_effect (k := .indirect) rfl hl hk hs, badRecord_effect (k := .enc) rfl hl hk hs,
    badRecord_effect (k := .claim) rfl hl hk hs, badRecord_effect (k := .commit) rfl hl hk hs⟩

/-- Settles O29: a record of each kind is taken and applied, one that is not permitted ends the slot. -/
theorem almanacRecords : Obligations.AlmanacRecords := by
  unfold Obligations.AlmanacRecords
  intro s hm hb
  have hl : Loading s.dev := ⟨hm, hb⟩
  exact ⟨fun ⟨hk, hh⟩ hn ho hr => resourceClaimRecord_effect hl hk hh hn ho hr,
    fun ⟨hk, hh⟩ h12 hsp hres hp => memoryLoadDirect_effect hl hk hh h12 hsp hres hp,
    fun ⟨hk, hh⟩ hn ht hma hsa => registerWriteRecord_effect hl hk hh hn ht ⟨hma, hsa⟩,
    fun ⟨hk, hh⟩ h12 hsp ha hma hsa => memoryLoadIndirect_effect hl hk hh h12 hsp ha ⟨hma, hsa⟩,
    fun key ⟨hk, hh⟩ hn hlen hkey hlife => encryptedSection_effect hl hk hh hn hlen hkey hlife, badRecords_effect hl⟩

end Sys2Proof.Machine
end

section
/-! The state after reset, and engines that do not run: what no instruction of them changes (R75, R86, R91, R150, R462). -/

namespace Sys2Proof.Machine

open Sys2Proof.Safety

/-! ### The state after reset -/

/-- Nothing is listed after reset, so every register reads its reset value. -/
theorem rd_reset (a : Nat) : rd a State.reset.dev = regReset a := rfl

theorem canonical_reset : Canonical State.reset := ⟨rfl, wf_reset⟩

theorem eq_nil_of_fusesHold_reset (l : List Nat) (h : FusesHold l State.reset) : l = [] :=
  List.eq_nil_iff_forall_not_mem.mpr fun i hi => List.not_mem_nil (h i hi)

/-- Settles O5: nothing is listed after reset, so each register named reads the reset value of its row. -/
theorem resetValues : Obligations.ResetValues := by
  unfold Obligations.ResetValues
  refine ⟨rfl, rfl, rd_reset, canonical_reset, rfl, rfl, rfl, rfl, eq_nil_of_fusesHold_reset, rfl, ?_⟩
  simp only [rd_reset]
  decide +kernel

/-! ### Engines that do not run -/

/-- The shifts by a register go through the issue, as two-operand instructions do. -/
theorem shiftReg_issue (op : Word → Nat → Word → Res) (c rd rs rt : Nat) (s : State) :
    ∃ f, onDev (shiftReg op c rd rs rt) s = onDev (issue c f) s := by
  unfold shiftReg alu3
  exact ⟨_, rfl⟩

/-- The shifts by an immediate amount go through the issue, as one-operand instructions do. -/
theorem shiftImm_issue (op : Word → Nat → Word → Res) (c rd rs a : Nat) (s : State) :
    ∃ f, onDev (shiftImm op c rd rs a) s = onDev (issue c f) s := by
  unfold shiftImm alu2
  exact ⟨_, rfl⟩

/-- Every instruction of an engine goes through the issue (R150). -/
theorem exec_engineOf {i : Instr} {c : Fin 17} (s : State) (h : engineOf i = some c) :
    ∃ f, exec i s = onDev (issue c f) s := by
  cases i
  case lsl | lsr | asr | ror | rol => cases h; exact shiftReg_issue _ _ _ _ _ s
  case lsli | lsri | asri | rori | roli => cases h; exact shiftImm_issue _ _ _ _ _ s
  all_goals cases h <;> exact ⟨_, rfl⟩

/-- An engine that does not run issues nothing (R91, R462). -/
theorem issue_of_not_coreRuns {c : Nat} (f : Nat → Ctx → Dev → Dev) {d : Dev} (h : coreRuns c d = false) :
    issue c f d = d := by
  unfold issue
  rw [h]
  rfl

theorem coreRuns_engine {c : Nat} {d : Dev} (hc : c < 16) :
    coreRuns c d = (inService d && !inDoze d && rb (A.peCtrl c) 0 d) := if_neg (Nat.ne_of_lt hc)

theorem coreRuns_supervisor (d : Dev) : coreRuns 16 d = (powered d && !d.sys.romLoop) := if_pos rfl

theorem coreRuns_eq_false {c : Fin 17} {d : Dev}
    (hpe : c.val < 16 → d.sys.mode ≠ .service ∨ inDoze d = true ∨ rb (A.peCtrl c) 0 d = false)
    (hsup : c.val = 16 → powered d = false ∨ d.sys.romLoop = true) : coreRuns c d = false := by
  by_cases hc : c.val < 16
  · rw [coreRuns_engine hc]
    rcases hpe hc with h | h | h <;> simp [h, inService]
  · have h16 : c.val = 16 := by omega
    rw [h16, coreRuns_supervisor]
    rcases hsup h16 with h | h <;> simp [h]

/-- Settles O4: an instruction goes through the issue of its engine, which does nothing where the engine does not run. -/
theorem haltedEnginesIssueNothing : Obligations.HaltedEnginesIssueNothing := by
  unfold Obligations.HaltedEnginesIssueNothing
  intro i c s hi hpe hsup
  obtain ⟨f, hf⟩ := exec_engineOf s hi
  rw [hf, onDev, issue_of_not_coreRuns f (coreRuns_eq_false hpe hsup)]

end Sys2Proof.Machine
end

section
/-! What a register write through its row leaves alone, and fields that count up to their greatest value. -/

namespace Sys2Proof.Machine

/-- A device that a command changes only where a condition holds. -/
theorem when_of {c : Bool} (f : Dev → Dev) (d : Dev) (h : c = true) : when c f d = f d := if_pos h

theorem when_of_not {c : Bool} (f : Dev → Dev) (d : Dev) (h : c = false) : when c f d = d := by subst h; rfl

/-- A command of the powered device. -/
theorem onPow_of_powered (f : Dev → Dev) {s : State} (h : powered s.dev = true) :
    onPow f s = .next { s with dev := f s.dev } := onDev_eq_next (when_of f s.dev h)

/-! ### Registers beside the one written -/

theorem rd_errAt_ne {b base : Nat} (m k a : Nat) (d : Dev) (h4 : b ≠ base + 4) (h8 : b ≠ base + 8) :
    rd b (errAt base m k a d) = rd b d := rd_errIf_ne true m k a d h4 h8

theorem rd_clearStatus_ne {b a base : Nat} (m sq : Nat) (v : Word) (d : Dev) (ha : b ≠ a) (h4 : b ≠ base + 4)
    (h8 : b ≠ base + 8) : rd b (clearStatus base m a sq v d) = rd b d := by
  unfold clearStatus
  dsimp only
  split
  · exact rd_wr_ne _ d ha
  · exact rd_errAt_ne _ _ _ d h4 h8

/-- The general write reaches the register and the header of its unit only (R101, R106). -/
theorem rd_storeReg_ne {a b i : Nat} {u : RegUnit} {r : Row} (m : Nat) (v : Word) (d : Dev)
    (hreg : regAt a = some (u, r, i)) (ha : b ≠ a) (h4 : b ≠ u.base + 4) (h8 : b ≠ u.base + 8) :
    rd b (storeReg m a v d) = rd b d := by
  simp only [storeReg, hreg, writeRow]
  rw [rd_errIf_ne _ _ _ _ _ h4 h8, rd_errIf_ne _ _ _ _ _ h4 h8, rd_errIf_ne _ _ _ _ _ h4 h8]
  split
  · exact rd_clearStatus_ne _ _ _ _ ha h4 h8
  · exact rd_wr_ne _ d ha

/-! ### Counting up to the greatest value -/

theorem satInc_eq_min {m v : Nat} (h : v ≤ m) : satInc m v = min m (v + 1) := by
  unfold satInc
  split <;> omega

theorem rf_lt (a hi lo : Nat) (d : Dev) : rf a hi lo d < 2 ^ (hi + 1 - lo) := fld_lt _ _ _

theorem rf_incrSat_same (a hi lo : Nat) (d : Dev) (h : hi < 32) :
    rf a hi lo (incrSat a hi lo d) = min (2 ^ (hi + 1 - lo) - 1) (rf a hi lo d + 1) := by
  have hlt := rf_lt a hi lo d
  rw [incrSat, rf_wf_same _ _ _ _ _ h, satInc_eq_min (by omega), Nat.mod_eq_of_lt (by omega)]

theorem rd_incrSat_ne {a b : Nat} (hi lo : Nat) (d : Dev) (h : b ≠ a) : rd b (incrSat a hi lo d) = rd b d := rd_wr_ne _ d h

/-- A report before the decision waits, and changes no register and no memory (R461). -/
theorem report_frame {code unit addr idx : Nat} {d : Dev} (h : rb A.safStat 0 d = false) :
    (report code unit addr idx d).regs = d.regs ∧ (report code unit addr idx d).mem = d.mem ∧
    (report code unit addr idx d).badPar = d.badPar ∧ (report code unit addr idx d).sys = d.sys ∧
    (report code unit addr idx d).saf = { d.saf with reports := d.saf.reports ++ [⟨code, unit, addr, idx⟩] } := by
  obtain ⟨i, hi⟩ := report_undecided (code := code) (unit := unit) (addr := addr) (idx := idx) h
  rw [hi]
  exact ⟨rfl, rfl, rfl, rfl, rfl⟩

end Sys2Proof.Machine
end

section
/-! The scrubber and the Vault's wipe, and the obligation about them (R96, R132, R133, R139, R140, R145, R146, R148). -/

namespace Sys2Proof.Machine

/-! ### The position of the scrubber -/

/-- Note a number of the scrubber: a position, or the beginning, the length or the end of a sweep. -/
def setScrub (i v : Nat) (d : Dev) : Dev := { d with scrub := tabSet zeroNat d.scrub i v }

/-- The row that the next scrub read of a bank takes. -/
def scrubRow (b sub : Nat) (d : Dev) : Nat := tabGet zeroNat d.scrub (16 * b + sub) % scrubRows b sub

/-- The scrubber skips a bank: it has no rows there, is not accessible, or is wiped (R96, R139, R146). -/
def scrubSkips (b sub : Nat) (d : Dev) : Bool :=
  scrubRows b sub = 0 || !bankReady b d || ((b = 40 || b = 41) && rb A.memVaultStat 0 d)

/-- A row is read: the next one follows it, and the first one begins a sweep (R139). -/
def scrubMove (b sub row : Nat) (d : Dev) : Dev :=
  d |> when (decide (row = 0)) (setScrub (1024 + (16 * b + sub)) d.now)
    |> setScrub (16 * b + sub) ((row + 1) % scrubRows b sub)

/-- A sweep of a bank ends (R141): its length, its end and, of bank 0, the number of sweeps. -/
def scrubSweepEnd (b sub : Nat) (d : Dev) : Dev :=
  d |> setScrub (2048 + (16 * b + sub)) (d.now - tabGet zeroNat d.scrub (1024 + (16 * b + sub)))
    |> setScrub (3072 + (16 * b + sub)) d.now |> when (b = 0) (incr A.memScrubStat 31 16)

/-- The scrubber goes on from a row to the next; with the last row a sweep ends (R139, R141). -/
def scrubNext (b sub row : Nat) (d : Dev) : Dev :=
  if row + 1 = scrubRows b sub then scrubSweepEnd b sub (scrubMove b sub row d) else scrubMove b sub row d

theorem scrubRead_of_skips {b sub : Nat} (flip : Option Nat) {d : Dev} (h : scrubSkips b sub d = true) :
    scrubRead b sub flip d = d := if_pos h

/-- A read of a sound row checks nothing but the bytes that are already marked. -/
theorem scrubRead_sound {b sub : Nat} {d : Dev} (h : scrubSkips b sub d = false)
    (hp : (scrubNext b sub (scrubRow b sub d) d).badPar = []) :
    scrubRead b sub none d = scrubNext b sub (scrubRow b sub d) d := by
  have hb : scrubRead b sub none d = if b = 58 then scrubNext b sub (scrubRow b sub d) d else
      match badIn ((bankRange b).1 + 0x10000 * sub + 32 * scrubRow b sub d) 32 (scrubNext b sub (scrubRow b sub d) d) with
      | some x => parityMismatch true 24 x (scrubNext b sub (scrubRow b sub d) d)
      | none => scrubNext b sub (scrubRow b sub d) d := (if_neg (ne_true_of_eq_false h)).trans rfl
  rw [hb]
  split
  · rfl
  · simp [badIn, hp]

/-- An upset byte of a row that was sound is a mismatch at its address (R133). -/
theorem scrubRead_upset {b sub i : Nat} {d : Dev} (h : scrubSkips b sub d = false) (hb : b ≠ 58) (hi : i < 32)
    (hp : (scrubNext b sub (scrubRow b sub d) d).badPar = []) :
    let a := (bankRange b).1 + 0x10000 * sub + 32 * scrubRow b sub d + i
    scrubRead b sub (some i) d =
      parityMismatch true 24 a { scrubNext b sub (scrubRow b sub d) d with badPar := [a] } := by
  intro a
  have hread : scrubRead b sub (some i) d = if b = 58 then
        swbParity (some 24) (some (sub, scrubRow b sub d, i)) (scrubNext b sub (scrubRow b sub d) d) else
      let e := { scrubNext b sub (scrubRow b sub d) d with
        badPar := (scrubNext b sub (scrubRow b sub d) d).badPar ++
          (if a ∈ (scrubNext b sub (scrubRow b sub d) d).badPar then [] else [a]) }
      match badIn (a - i) 32 e with
      | some x => parityMismatch true 24 x e
      | none => e := (if_neg (ne_true_of_eq_false h)).trans (by rw [Nat.add_sub_cancel]; rfl)
  have hbad (e : Dev) : badIn (a - i) 32 { e with badPar := [a] } = some a := by
    have hin : a - i ≤ a ∧ a < a - i + 32 := by omega
    simp [badIn, hin]
  rw [hread, if_neg hb, hp]
  simp [hbad]

/-- Two devices that differ in the scrubber's numbers and in registers only. -/
def SameButScrub (d e : Dev) : Prop := { e with scrub := d.scrub, regs := d.regs } = d

namespace SameButScrub

variable {d e : Dev}

theorem refl (d : Dev) : SameButScrub d d := rfl

theorem set (h : SameButScrub d e) (i v : Nat) : SameButScrub d (setScrub i v e) := h

theorem wr (h : SameButScrub d e) (a : Nat) (v : Word) : SameButScrub d (wr a v e) := h

theorem whenever {c : Bool} {op : Dev → Dev} (h : SameButScrub d e) (hop : SameButScrub d (op e)) :
    SameButScrub d (when c op e) := by
  cases c
  · exact h
  · exact hop

theorem mem (h : SameButScrub d e) : e.mem = d.mem := congrArg (·.mem) h
theorem badPar (h : SameButScrub d e) : e.badPar = d.badPar := congrArg (·.badPar) h
theorem saf (h : SameButScrub d e) : e.saf = d.saf := congrArg (·.saf) h

end SameButScrub

theorem SameButScrub.scrubMove (b sub row : Nat) (d : Dev) : SameButScrub d (scrubMove b sub row d) :=
  ((refl d).whenever ((refl d).set _ _)).set _ _

theorem SameButScrub.scrubSweepEnd {d e : Dev} (h : SameButScrub d e) (b sub : Nat) :
    SameButScrub d (scrubSweepEnd b sub e) :=
  ((h.set _ _).set _ _).whenever (((h.set _ _).set _ _).wr _ _)

/-- The walk of the scrubber changes nothing but its own numbers and MEM_SCRUB_STAT. -/
theorem sameButScrub_scrubNext (b sub row : Nat) (d : Dev) : SameButScrub d (scrubNext b sub row d) := by
  unfold scrubNext
  split
  · exact (SameButScrub.scrubMove b sub row d).scrubSweepEnd b sub
  · exact SameButScrub.scrubMove b sub row d

theorem rd_when_ne {a : Nat} {c : Bool} {f : Dev → Dev} {d : Dev} (h : rd a (f d) = rd a d) : rd a (when c f d) = rd a d := by
  cases c
  · rfl
  · exact h

theorem rd_setScrub (a i v : Nat) (d : Dev) : rd a (setScrub i v d) = rd a d := rfl

theorem rd_scrubMove (a b sub row : Nat) (d : Dev) : rd a (scrubMove b sub row d) = rd a d := by
  rw [scrubMove, rd_setScrub, rd_when_ne (rd_setScrub _ _ _ d)]

theorem rd_scrubNext_ne {a : Nat} (b sub row : Nat) (d : Dev) (h : a ≠ A.memScrubStat) :
    rd a (scrubNext b sub row d) = rd a d := by
  unfold scrubNext
  split
  · rw [scrubSweepEnd, rd_when_ne (f := incr A.memScrubStat 31 16) (rd_wf_ne _ _ _ _ h), rd_setScrub,
      rd_setScrub, rd_scrubMove]
  · rw [scrubMove, rd_setScrub, rd_when_ne (rd_setScrub _ _ _ d)]

theorem tabGet_setScrub_same (i v : Nat) (d : Dev) : tabGet zeroNat (setScrub i v d).scrub i = v := tabGet_tabSet_same _ _ _ _

theorem tabGet_setScrub_ne {i j : Nat} (v : Nat) (d : Dev) (h : j ≠ i) :
    tabGet zeroNat (setScrub i v d).scrub j = tabGet zeroNat d.scrub j := tabGet_tabSet_ne _ _ _ h

theorem scrub_when_incr (c : Bool) (a hi lo : Nat) (d : Dev) : (when c (incr a hi lo) d).scrub = d.scrub := by
  cases c <;> rfl

theorem tabGet_scrubSweepEnd_of_lt {b sub j : Nat} (d : Dev) (h : j < 1024) :
    tabGet zeroNat (scrubSweepEnd b sub d).scrub j = tabGet zeroNat d.scrub j := by
  rw [scrubSweepEnd, scrub_when_incr, tabGet_setScrub_ne _ _ (by omega), tabGet_setScrub_ne _ _ (by omega)]

/-- The position of every bank after a read: the next row of this one, the others' as before. -/
theorem tabGet_scrubNext {b sub j : Nat} (row : Nat) (d : Dev) (h : j < 1024) :
    tabGet zeroNat (scrubNext b sub row d).scrub j =
      if j = 16 * b + sub then (row + 1) % scrubRows b sub else tabGet zeroNat d.scrub j := by
  have hmove : tabGet zeroNat (scrubMove b sub row d).scrub j =
      if j = 16 * b + sub then (row + 1) % scrubRows b sub else tabGet zeroNat d.scrub j := by
    split
    next hj => rw [hj, scrubMove, tabGet_setScrub_same]
    next hj =>
      rw [scrubMove, tabGet_setScrub_ne _ _ hj]
      unfold when
      split
      · exact tabGet_setScrub_ne _ _ (by omega)
      · rfl
  unfold scrubNext
  split
  · rw [tabGet_scrubSweepEnd_of_lt _ h, hmove]
  · exact hmove

/-! ### A mismatch -/

/-- The place of a byte of shared SRAM (R148). -/
theorem parPlace_sram {b row i : Nat} (hb : b < 32) (hr : row < 16384) (hi : i < 32) :
    parPlace (0x04000000 + 0x80000 * b + 32 * row + i) = (b, 0, row) := by
  have hreg : region (0x04000000 + 0x80000 * b + 32 * row + i) = .sram := by
    unfold region
    rw [if_neg (by omega), if_neg (by omega), if_pos (by omega)]
  unfold parPlace
  rw [hreg]
  simp only [Prod.mk.injEq, true_and]
  omega

/-- The word that logs a mismatch which the scrubber found (R148). -/
def scrubLogWord (b row lane : Nat) : Word := word (2 ^ 31 + 2 ^ 30 + b * 2 ^ 24 + row * 2 ^ 8 + lane)

/-- The log of the first mismatch (R133, R148): a later one leaves it alone. -/
def parLogged (w : Word) (m : Nat) (d : Dev) : Dev :=
  if rb A.memParLog0 31 d then d else d |> wr A.memParLog0 w |> wf A.memParLog1 31 27 m

theorem parityMismatch_scrub {m a b row : Nat} (d : Dev) (hb : b < 64) (hr : row < 2 ^ 14) (hp : parPlace a = (b, 0, row)) :
    parityMismatch true m a d =
      report 0x41 4 0 0 (incrSat A.memParLog1 15 0 (parLogged (scrubLogWord b row (a % 32)) m d)) := by
  have hw : 2 ^ 31 + atBit true.toNat 30 + atBit (b % 64) 24 + atBit 0 22 + atBit (row % 2 ^ 14) 8 + a % 32 =
      2 ^ 31 + 2 ^ 30 + b * 2 ^ 24 + row * 2 ^ 8 + a % 32 := by
    simp only [atBit, Bool.toNat_true, Nat.shiftLeft_eq, Nat.mod_eq_of_lt hb, Nat.mod_eq_of_lt hr, one_mul, zero_mul, add_zero]
  simp only [parityMismatch, hp, hw]
  rfl

theorem sameButRegs_parLogged (w : Word) (m : Nat) (d : Dev) : SameButRegs d (parLogged w m d) := by
  unfold parLogged
  split
  · rfl
  · exact (sameButRegs_wr _ _ d).trans (sameButRegs_wr _ _ _)

theorem SameButRegs.badPar {d e : Dev} (h : SameButRegs d e) : e.badPar = d.badPar := congrArg (·.badPar) h
theorem SameButRegs.ctxs {d e : Dev} (h : SameButRegs d e) : e.ctxs = d.ctxs := congrArg (·.ctxs) h

theorem rd_parLogged_ne {a : Nat} (w : Word) (m : Nat) (d : Dev) (h0 : a ≠ A.memParLog0) (h1 : a ≠ A.memParLog1) :
    rd a (parLogged w m d) = rd a d := by
  unfold parLogged
  split
  · rfl
  · exact (rd_wf_ne _ _ _ _ h1).trans (rd_wr_ne _ d h0)

theorem rf_memParLog1_parLogged (w : Word) (m : Nat) (d : Dev) :
    rf A.memParLog1 15 0 (parLogged w m d) = rf A.memParLog1 15 0 d := by
  unfold parLogged
  split
  · rfl
  · rw [rf_wf_other _ _ (by decide) (by decide), rf, rd_wr_ne _ d (by decide), rf]

/-- A mismatch that the scrubber finds, before a decision: reported, counted, and logged while the log is free (R133). -/
theorem parityMismatch_scrub_effect {a b row : Nat} {d : Dev} (hb : b < 64) (hr : row < 2 ^ 14)
    (hp : parPlace a = (b, 0, row)) (hs : rb A.safStat 0 d = false) :
    let t := parityMismatch true 24 a d
    t.saf.reports = d.saf.reports ++ [⟨0x41, 4, 0, 0⟩] ∧ t.badPar = d.badPar ∧ t.mem = d.mem ∧
    rf A.memParLog1 15 0 t = min 0xFFFF (rf A.memParLog1 15 0 d + 1) ∧
    (rb A.memParLog0 31 d = true → rd A.memParLog0 t = rd A.memParLog0 d) ∧
    (rb A.memParLog0 31 d = false →
      rd A.memParLog0 t = scrubLogWord b row (a % 32) ∧ rf A.memParLog1 31 27 t = 24) := by
  intro t
  have ht : t = report 0x41 4 0 0 (incrSat A.memParLog1 15 0 (parLogged (scrubLogWord b row (a % 32)) 24 d)) :=
    parityMismatch_scrub d hb hr hp
  have hframe := sameButRegs_parLogged (scrubLogWord b row (a % 32)) 24 d
  obtain ⟨hregs, hmem, hbad, -, hsaf⟩ := report_frame (code := 0x41) (unit := 4) (addr := 0) (idx := 0)
    (d := incrSat A.memParLog1 15 0 (parLogged (scrubLogWord b row (a % 32)) 24 d))
    (by rw [rb, rd_incrSat_ne _ _ _ (by decide), rd_parLogged_ne _ _ _ (by decide) (by decide)]; exact hs)
  have hrd (x : Nat) : rd x t = rd x (incrSat A.memParLog1 15 0 (parLogged (scrubLogWord b row (a % 32)) 24 d)) := by
    rw [ht, rd, rd, hregs]
  have h0 : rd A.memParLog0 t = rd A.memParLog0 (parLogged (scrubLogWord b row (a % 32)) 24 d) := by
    rw [hrd, rd_incrSat_ne _ _ _ (by decide)]
  rw [ht, hsaf, hbad, hmem, ← ht]
  refine ⟨congrArg (·.reports ++ [⟨0x41, 4, 0, 0⟩]) hframe.saf, hframe.badPar, hframe.mem, ?_, ?_, ?_⟩
  · rw [rf, hrd, ← rf, rf_incrSat_same _ _ _ _ (by decide), rf_memParLog1_parLogged]
    rfl
  · intro h
    rw [h0, parLogged, if_pos h]
  · intro h
    refine ⟨?_, ?_⟩
    · rw [h0, parLogged, if_neg (ne_true_of_eq_false h), rd_wf_ne _ _ _ _ (by decide), rd_wr_same]
    · rw [rf, hrd, ← rf, incrSat, rf_wf_other _ _ (by decide) (by decide), parLogged, if_neg (ne_true_of_eq_false h),
        rf_wf_same _ _ _ _ _ (by decide)]
      rfl

/-! ### The wipe (R145) -/

theorem exec_wipe {m : Fin 20} {v : Word} {s : State} (h : powered s.dev = true) :
    exec (.wipe m v) s = .next { s with dev := writeVaultCmd m v s.dev } := onPow_of_powered _ h

theorem writeVaultCmd_not_key {m : Nat} {v : Word} (d : Dev) (h : v.toNat / 65536 ≠ 0x0B7E) : writeVaultCmd m v d = d :=
  if_pos (by rwa [fld_key])

theorem writeVaultCmd_key {m : Nat} {v : Word} (d : Dev) (h : v.toNat / 65536 = 0x0B7E) (hb : bit v 0 = true) :
    writeVaultCmd m v d =
      let e := storeReg m A.memVaultCmd v d
      if m = 0 && secureMode e then startWipe 4 e else accEvent m 2 true A.memVaultCmd e := by
  simp [writeVaultCmd, fld_key, h, hb]

theorem rd_storeReg_memVaultCmd {a : Nat} (m : Nat) (v : Word) (d : Dev) (ha : a ≠ A.memVaultCmd) (h4 : a ≠ 0x10040004)
    (h8 : a ≠ 0x10040008) : rd a (storeReg m A.memVaultCmd v d) = rd a d :=
  rd_storeReg_ne (u := ⟨A.block 4, 4, memRows⟩) (r := ⟨0x44, 1, 0x1, 1, 0x1, 0, 0, 0, 0, 0, 0xfffe, 0, 0, []⟩) (i := 0)
    m v d rfl ha h4 h8

/-- The Supervisor's mode does not depend on a register. -/
theorem SameButRegs.secureMode {d e : Dev} (h : SameButRegs d e) : secureMode e = secureMode d := by
  simp only [Machine.secureMode, powered, getCtx, h.sys, h.ctxs]

theorem startWipe_effect {cause : Nat} {d : Dev} (h : rb A.memVaultStat 0 d = false) (hc : cause < 8) :
    rb A.memVaultStat 0 (startWipe cause d) = true ∧ rf A.memVaultStat 7 5 (startWipe cause d) = cause ∧
    (startWipe cause d).mem = d.mem := by
  have heq : startWipe cause d = wb A.memVaultStat 0 true (wf A.memVaultStat 7 5 cause d) := if_neg (ne_true_of_eq_false h)
  rw [heq]
  refine ⟨rb_wb_same _ _ _ _ (by decide), ?_, rfl⟩
  rw [wb, setBit, ← wf, rf_wf_other _ _ (by decide) (by decide), rf_wf_same _ _ _ _ _ (by decide)]
  exact Nat.mod_eq_of_lt hc

theorem wipe_secure {v : Word} {d : Dev} (h : v.toNat / 65536 = 0x0B7E) (hb : bit v 0 = true) (hs : secureMode d = true)
    (hw : rb A.memVaultStat 0 d = false) :
    rb A.memVaultStat 0 (writeVaultCmd 0 v d) = true ∧ rf A.memVaultStat 7 5 (writeVaultCmd 0 v d) = 4 ∧
    (writeVaultCmd 0 v d).mem = d.mem := by
  have hsec : secureMode (storeReg 0 A.memVaultCmd v d) = true := (sameButRegs_storeReg _ _ _ _).secureMode.trans hs
  have heq : writeVaultCmd 0 v d = startWipe 4 (storeReg 0 A.memVaultCmd v d) := by
    simp [writeVaultCmd_key d h hb, hsec]
  obtain ⟨hbusy, hcause, hmem⟩ := startWipe_effect (cause := 4) (d := storeReg 0 A.memVaultCmd v d)
    (by rw [rb, rd_storeReg_memVaultCmd _ _ _ (by decide) (by decide) (by decide)]; exact hw) (by decide)
  rw [heq]
  exact ⟨hbusy, hcause, hmem.trans (storeReg_mem _ _ _ _)⟩

/-- A failed access is recorded in its three registers only (R131). -/
theorem accEvent_effect (m kind : Nat) (w : Bool) (a : Nat) (d : Dev) (hk : kind < 24) :
    rb A.memAccStat kind (accEvent m kind w a d) = true ∧ rd A.memAccAddr (accEvent m kind w a d) = word a ∧
    (accEvent m kind w a d).mem = d.mem ∧
    ∀ b, b ≠ A.memAccStat → b ≠ A.memAccInfo → b ≠ A.memAccAddr → rd b (accEvent m kind w a d) = rd b d := by
  refine ⟨?_, rd_wr_same _ _ _, by simp only [accEvent, wr_mem, raise_mem], fun b h0 h1 h2 => ?_⟩
  · have : rb A.memAccStat kind (accEvent m kind w a d) = rb A.memAccStat kind (raise A.memAccStat kind d) :=
      congrArg (bit · kind) ((rd_wr_ne _ _ (by decide)).trans (rd_wr_ne _ _ (by decide)))
    rw [this, rb_raise_same _ _ hk]
    simp
  · exact (rd_wr_ne _ _ h2).trans ((rd_wr_ne _ _ h1).trans (rd_raise_ne _ _ h0))

theorem wipe_denied {m : Nat} {v : Word} (d : Dev) (h : v.toNat / 65536 = 0x0B7E) (hb : bit v 0 = true) (hm : m ≠ 0) :
    rb A.memAccStat 2 (writeVaultCmd m v d) = true ∧ rd A.memVaultStat (writeVaultCmd m v d) = rd A.memVaultStat d ∧
    (writeVaultCmd m v d).mem = d.mem ∧ rd A.memAccAddr (writeVaultCmd m v d) = word A.memVaultCmd := by
  have heq : writeVaultCmd m v d = accEvent m 2 true A.memVaultCmd (storeReg m A.memVaultCmd v d) := by
    simp [writeVaultCmd_key d h hb, hm]
  obtain ⟨hdeny, haddr, hmem, hne⟩ := accEvent_effect m 2 true A.memVaultCmd (storeReg m A.memVaultCmd v d) (by decide)
  rw [heq]
  refine ⟨hdeny, ?_, hmem.trans (storeReg_mem _ _ _ _), haddr⟩
  rw [hne _ (by decide) (by decide) (by decide), rd_storeReg_memVaultCmd _ _ _ (by decide) (by decide) (by decide)]

/-- A byte of memory after a fill beyond the ROM. -/
theorem memByte_memZero_beyond_rom {lo hi : Nat} (a : Nat) (d : Dev) (h : 0x20000 ≤ lo) :
    memByte a (memZero lo hi d) = if lo ≤ a ∧ a ≤ hi then 0 else memByte a d := by
  by_cases ha : 0x20000 ≤ a
  · exact memByte_memZero lo hi a d ha
  · rw [if_neg (by omega), memByte, memByte, if_pos (by omega), if_pos (by omega)]

theorem wipeDone_effect {d : Dev} (h : rb A.memVaultStat 0 d = true) :
    rb A.memVaultStat 0 (wipeDone d) = false ∧ rb A.memVaultStat 1 (wipeDone d) = true ∧
    (∀ a, a ≠ A.memVaultStat → rd a (wipeDone d) = rd a d) ∧
    ∀ a, memByte a (wipeDone d) = if 0x07000000 ≤ a ∧ a < 0x07080000 then 0 else memByte a d := by
  let wiped := memZero 0x07040000 0x0707FFFF (memZero 0x07000000 0x0703FFFF d)
  let parked := { wiped with scrub := tabSet zeroNat (tabSet zeroNat d.scrub 640 0) 656 0 }
  have heq : wipeDone d = raise A.memVaultStat 1 (wb A.memVaultStat 0 false parked) := if_neg (by rw [h]; decide)
  rw [heq]
  refine ⟨?_, ?_, fun a ha => ?_, fun a => ?_⟩
  · rw [rb_raise_same _ _ (by decide), rb_wb_same _ _ _ _ (by decide)]
    rfl
  · rw [rb_raise_same _ _ (by decide)]
    simp
  · rw [rd_raise_ne _ _ ha, rd_wb_ne _ _ _ ha]
    rfl
  · change memByte a wiped = _
    rw [memByte_memZero_beyond_rom _ _ (by decide), memByte_memZero_beyond_rom _ _ (by decide)]
    grind

/-! ### The obligation's clauses -/

theorem exec_scrubRead {b : Fin 64} {sub : Fin 16} (flip : Option (Fin 32)) {s : State} (h : powered s.dev = true) :
    ∀ scrub ∈ [Instr.scrubRead b sub, .forcedScrubRead b sub],
      exec (scrub flip) s = .next { s with dev := scrubRead b sub (flip.map (·.val)) s.dev } := by
  have hrun : onDev (fun d => when (powered d) (scrubRead b sub (flip.map (·.val))) d) s =
      .next { s with dev := scrubRead b sub (flip.map (·.val)) s.dev } := onPow_of_powered _ h
  simp only [List.forall_mem_cons, List.not_mem_nil, false_implies, implies_true, and_true]
  exact ⟨hrun, hrun⟩

theorem scrubSkips_iff (b sub : Nat) (d : Dev) : scrubSkips b sub d = true ↔
    scrubRows b sub = 0 ∨ bankReady b d = false ∨ ((b = 40 ∨ b = 41) ∧ rb A.memVaultStat 0 d = true) := by
  simp [scrubSkips, or_assoc]

/-- A read of a row whose bytes are all sound goes on to the next row and changes nothing else (R139). -/
theorem scrubRead_sound_effect {b : Fin 64} {sub : Fin 16} {d : Dev} (hskip : scrubSkips b sub d = false)
    (hp : d.badPar = []) :
    let t := scrubRead b sub none d
    tabGet zeroNat t.scrub (16 * b + sub) = (scrubRow b sub d + 1) % scrubRows b sub ∧ t.mem = d.mem ∧ t.badPar = [] ∧
    t.saf = d.saf ∧ (∀ a, a ≠ A.memScrubStat → rd a t = rd a d) ∧
    ∀ k < 1024, k ≠ 16 * b.val + sub.val → tabGet zeroNat t.scrub k = tabGet zeroNat d.scrub k := by
  have hsame := sameButScrub_scrubNext b sub (scrubRow b sub d) d
  rw [scrubRead_sound hskip (hsame.badPar.trans hp)]
  refine ⟨?_, hsame.mem, hsame.badPar.trans hp, hsame.saf, fun a ha => rd_scrubNext_ne _ _ _ _ ha, fun k hk hne => ?_⟩
  · rw [tabGet_scrubNext _ _ (by omega), if_pos rfl]
  · rw [tabGet_scrubNext _ _ hk, if_neg hne]

/-- An upset in a row of a shared SRAM bank is reported, counted, and logged with its place while the log is free (R133). -/
theorem scrubRead_upset_effect {b : Fin 64} {i : Fin 32} {d : Dev} (hb : b.val < 32) (hr : bankReady b d = true)
    (hp : d.badPar = []) (hs : rb A.safStat 0 d = false) :
    let t := scrubRead b 0 (some i.val) d
    let row := scrubRow b 0 d
    t.saf.reports = d.saf.reports ++ [⟨0x41, 4, 0, 0⟩] ∧
    t.badPar = [0x04000000 + 0x80000 * b.val + 32 * row + i.val] ∧ t.mem = d.mem ∧
    rf A.memParLog1 15 0 t = min 0xFFFF (rf A.memParLog1 15 0 d + 1) ∧
    (rb A.memParLog0 31 d = true → rd A.memParLog0 t = rd A.memParLog0 d) ∧
    (rb A.memParLog0 31 d = false →
      rd A.memParLog0 t = scrubLogWord b row i ∧ rf A.memParLog1 31 27 t = 24) := by
  intro t row
  have hrows : scrubRows b 0 = 16384 := by simp [scrubRows, hb]
  have hrow : row < 16384 := hrows ▸ Nat.mod_lt _ (by rw [hrows]; decide)
  have hskip : scrubSkips b 0 d = false := by
    rw [Bool.eq_false_iff, ne_eq, scrubSkips_iff, hrows, hr]
    rintro (h | h | ⟨h, -⟩)
    · cases h
    · cases h
    · omega
  have hsame := sameButScrub_scrubNext b 0 row d
  have hrd {a : Nat} (h : a ≠ A.memScrubStat) : rd a (scrubNext b 0 row d) = rd a d := rd_scrubNext_ne _ _ _ _ h
  let a := 0x04000000 + 0x80000 * b.val + 32 * row + i.val
  have hbase : (bankRange b).1 + 0x10000 * 0 + 32 * row + i.val = a := by simp [bankRange, hb, a]
  have ht : t = parityMismatch true 24 a { scrubNext b 0 row d with badPar := [a] } := by
    have h := scrubRead_upset (i := i) hskip (by omega) i.isLt (hsame.badPar.trans hp)
    exact hbase ▸ h
  have hlane : a % 32 = i.val := by omega
  obtain ⟨hrep, hbad, hmem, hcnt, hkept, hlog⟩ := parityMismatch_scrub_effect (d := { scrubNext b 0 row d with badPar := [a] })
    b.isLt hrow (parPlace_sram hb hrow i.isLt) ((congrArg (bit · 0) (hrd (by decide))).trans hs)
  have h1 : rf A.memParLog1 15 0 { scrubNext b 0 row d with badPar := [a] } = rf A.memParLog1 15 0 d :=
    congrArg (fld · 15 0) (hrd (by decide))
  have h0 : rd A.memParLog0 { scrubNext b 0 row d with badPar := [a] } = rd A.memParLog0 d := hrd (by decide)
  rw [h1] at hcnt
  rw [rb, h0] at hkept hlog
  rw [hlane] at hlog
  rw [ht]
  exact ⟨hrep.trans (congrArg (·.reports ++ _) hsame.saf), hbad, hmem.trans hsame.mem, hcnt, hkept, hlog⟩

/-- Settles O39: a scrub read is a step of its position and a check of the row, a wipe sets BUSY, and its end fills the Vault
with zeros. -/
theorem scrubberAndVault : Obligations.ScrubberAndVault := by
  unfold Obligations.ScrubberAndVault
  intro s hpow
  refine ⟨fun b sub scrub hscrub => ⟨fun h => ?_, fun hn hr hw hp => ?_, fun i hb hsub hr hp hs => ?_⟩,
    fun m v => ⟨fun h => ?_, fun h hb hm hs hw => ?_, fun h hb hm => ?_⟩,
    fun h => ⟨_, rfl, wipeDone_effect h⟩⟩
  · rw [exec_scrubRead none hpow scrub hscrub, Option.map_none, scrubRead_of_skips none ((scrubSkips_iff _ _ _).mpr h)]
  · have hskip : scrubSkips b sub s.dev = false := by
      rw [Bool.eq_false_iff, ne_eq, scrubSkips_iff, hr]
      simp only [hn, reduceCtorEq, false_or]
      exact hw
    exact ⟨_, exec_scrubRead none hpow scrub hscrub, scrubRead_sound_effect hskip hp⟩
  · obtain rfl : sub = 0 := Fin.ext hsub
    exact ⟨_, exec_scrubRead (some i) hpow scrub hscrub, scrubRead_upset_effect hb hr hp hs⟩
  · rw [exec_wipe hpow, writeVaultCmd_not_key _ h]
  · subst hm
    exact ⟨_, exec_wipe hpow, wipe_secure h hb hs hw⟩
  · exact ⟨_, exec_wipe hpow, wipe_denied _ h hb fun h0 => hm (Fin.ext h0)⟩

end Sys2Proof.Machine
end

section
/-! Bank settings and readiness, and the obligation about them (R96, R98). -/

namespace Sys2Proof.Machine

/-! ### The word that a general write stores -/

/-- A bit that a general write stores is the written one where it is writable (R106, R114). -/
theorem bit_writtenWord (rw rwl mbz : Nat) (lock : Bool) (cur v : Word) {i : Nat} (h : i < 32) :
    bit (writtenWord rw rwl mbz lock cur v) i =
      if (rw.testBit i || (!lock && rwl.testBit i)) && !mbz.testBit i then bit v i else bit cur i := by
  have hones : (0xFFFFFFFF : Nat).testBit i = true := by
    rw [show (0xFFFFFFFF : Nat) = 2 ^ 32 - 1 from rfl, Nat.testBit_two_pow_sub_one]
    exact decide_eq_true h
  have hmask : (word ((rw ||| if lock then 0 else rwl) &&& (mbz ^^^ 0xFFFFFFFF))).getLsbD i =
      ((rw.testBit i || (!lock && rwl.testBit i)) && !mbz.testBit i) := by
    simp only [word, BitVec.getLsbD_ofNat, h, decide_true, Bool.true_and, Nat.testBit_and, Nat.testBit_or, Nat.testBit_xor,
      hones, Bool.xor_true]
    cases lock <;> simp
  simp only [bit, writtenWord, BitVec.testBit_toNat, BitVec.getLsbD_or, BitVec.getLsbD_and, BitVec.getLsbD_not, hmask, h,
    decide_true, Bool.true_and]
  split
  next hw => simp [hw]
  next hw => simp [hw]

/-- What the general write stores in a register that is no status register. -/
theorem rd_storeReg_same {a i : Nat} {u : RegUnit} {r : Row} (m : Nat) (v : Word) (d : Dev)
    (hreg : regAt a = some (u, r, i)) (hsq : r.sq = 0) (h4 : a ≠ u.base + 4) (h8 : a ≠ u.base + 8) :
    rd a (storeReg m a v d) = writtenWord r.rw r.rwl r.mbz (committed d) (rd a d) v := by
  simp only [storeReg, hreg, writeRow, hsq, ne_eq, not_true_eq_false, if_false]
  rw [rd_errIf_ne _ _ _ _ _ h4 h8, rd_errIf_ne _ _ _ _ _ h4 h8, rd_errIf_ne _ _ _ _ _ h4 h8, rd_wr_same]

/-- A bit beside the one that is stored. -/
theorem rb_wb_other {i j : Nat} (a : Nat) (c : Bool) (d : Dev) (h : i < 32) (hij : i ≠ j) : rb a i (wb a j c d) = rb a i d :=
  rb_wf_same c.toNat d h (by omega)

/-! ### What an operation on one bank leaves of another -/

/-- Is bank b accessible, as SYS_BANK_RDY shows it? -/
abbrev rdyBit (b : Nat) (d : Dev) : Bool := rb (A.sysBankRdy (b / 32)) (b % 32) d

/-- The setting of bank 16k + j, as SYS_BANK_PWR_k shows it. -/
abbrev pwrField (k j : Nat) (d : Dev) : Nat := rf (A.sysBankPwr k) (2 * j + 1) (2 * j) d

theorem mem_dropIf_eq {b c : Nat} {l : List Nat} : c ∈ dropIf (· = b) l ↔ c ∈ l ∧ c ≠ b := by simp [dropIf]

/-- An address beyond the registers of SYS. -/
def BeyondSys (a : Nat) : Prop := a < 0x10000000 ∨ 0x10000200 ≤ a

/-- Nothing between d and e has touched bank 16k + j, but for filling it with zeros, nor a register beyond SYS; a refusal stays on
record. -/
structure KeepsBank (k j : Nat) (d e : Dev) : Prop where
  beyond : ∀ a, BeyondSys a → rd a e = rd a d
  mode : e.sys.mode = d.sys.mode
  field : pwrField k j e = pwrField k j d
  ready : rdyBit (16 * k + j) e = rdyBit (16 * k + j) d
  pend : 16 * k + j ∈ e.sys.bankPend ↔ 16 * k + j ∈ d.sys.bankPend
  deny : rb A.sysPwrStat 7 d = true → rb A.sysPwrStat 7 e = true
  zero : ∀ a, memByte a d = 0 → memByte a e = 0

namespace KeepsBank

variable {k j : Nat} {d e f : Dev}

theorem refl (d : Dev) : KeepsBank k j d d := ⟨fun _ _ => rfl, rfl, rfl, rfl, Iff.rfl, id, fun _ => id⟩

theorem trans (h : KeepsBank k j d e) (g : KeepsBank k j e f) : KeepsBank k j d f :=
  ⟨fun a ha => (g.beyond a ha).trans (h.beyond a ha), g.mode.trans h.mode, g.field.trans h.field, g.ready.trans h.ready,
    g.pend.trans h.pend, g.deny ∘ h.deny, fun a => g.zero a ∘ h.zero a⟩

/-- An update of registers that keeps the bank's field and bit and the mark of a refusal. -/
theorem ofRegs (hs : SameButRegs d e) (hb : ∀ a, BeyondSys a → rd a e = rd a d) (hf : pwrField k j e = pwrField k j d)
    (hr : rdyBit (16 * k + j) e = rdyBit (16 * k + j) d) (hd : rb A.sysPwrStat 7 d = true → rb A.sysPwrStat 7 e = true) :
    KeepsBank k j d e :=
  ⟨hb, by rw [hs.sys], hf, hr, by rw [hs.sys], hd, fun a h => by rwa [memByte, hs.mem]⟩

theorem sysBankPwr_bounds (hk : k < 4) : 0x10000100 ≤ A.sysBankPwr k ∧ A.sysBankPwr k < 0x10000110 := by
  unfold A.sysBankPwr
  omega

theorem sysBankRdy_bounds {b : Nat} (hb : b < 64) : 0x10000110 ≤ A.sysBankRdy (b / 32) ∧ A.sysBankRdy (b / 32) < 0x10000118 := by
  unfold A.sysBankRdy
  omega

variable (hk : k < 4) (hj : j < 16)
include hk hj

/-- A register error of SYS (R101). -/
theorem errIf (c : Bool) (m x a : Nat) (d : Dev) : KeepsBank k j d (errIf c (A.block 0) m x a d) := by
  have hp := sysBankPwr_bounds hk
  have hr := sysBankRdy_bounds (b := 16 * k + j) (by omega)
  have hne {b : Nat} (h4 : b ≠ 0x10000004) (h8 : b ≠ 0x10000008) : rd b (Machine.errIf c (A.block 0) m x a d) = rd b d :=
    rd_errIf_ne _ _ _ _ _ h4 h8
  refine ofRegs (sameButRegs_errIf _ _ _ _ _ _) (fun b hb => ?_) ?_ ?_ fun h => ?_
  · unfold BeyondSys at hb
    exact hne (by omega) (by omega)
  · rw [pwrField, rf, hne (by omega) (by omega), ← rf]
  · rw [rdyBit, rb, hne (by omega) (by omega), ← rb]
  · rw [rb, hne (by decide) (by decide)]
    exact h

/-- A refusal is recorded. -/
theorem raiseDeny (d : Dev) : KeepsBank k j d (raise A.sysPwrStat 7 d) := by
  have hp := sysBankPwr_bounds hk
  have hr := sysBankRdy_bounds (b := 16 * k + j) (by omega)
  have hne {b : Nat} (h : b ≠ 0x100000c8) : rd b (raise A.sysPwrStat 7 d) = rd b d := rd_raise_ne _ _ h
  refine ofRegs (sameButRegs_raise _ _ _) (fun b hb => ?_) ?_ ?_ fun _ => ?_
  · unfold BeyondSys at hb
    exact hne (by omega)
  · rw [pwrField, rf, hne (by omega), ← rf]
  · rw [rdyBit, rb, hne (by omega), ← rb]
  · rw [rb_raise_same _ _ (by decide)]
    simp

/-- The field of another bank is set. -/
theorem wfPwr {i : Nat} (x : Nat) (h : i ≠ j) (d : Dev) :
    KeepsBank k j d (wf (A.sysBankPwr k) (2 * i + 1) (2 * i) x d) := by
  have hp := sysBankPwr_bounds hk
  have hr := sysBankRdy_bounds (b := 16 * k + j) (by omega)
  have hne {b : Nat} (h : b ≠ A.sysBankPwr k) : rd b (wf (A.sysBankPwr k) (2 * i + 1) (2 * i) x d) = rd b d :=
    rd_wf_ne _ _ _ _ h
  refine ofRegs (sameButRegs_wr _ _ _) (fun b hb => ?_) ?_ ?_ fun hd => ?_
  · unfold BeyondSys at hb
    exact hne (by omega)
  · exact rf_wf_other _ _ (by omega) (by omega)
  · rw [rdyBit, rb, hne (by omega), ← rb]
  · rw [rb, hne (by unfold A.sysPwrStat; omega)]
    exact hd

omit hj in
/-- Another bank stops being accessible. -/
theorem bankUnready {b : Nat} (hb : b < 59) (h : b ≠ 16 * k + j) (d : Dev) : KeepsBank k j d (bankUnready b d) := by
  have hp := sysBankPwr_bounds hk
  have hr := sysBankRdy_bounds (b := b) (by omega)
  have hne {a : Nat} (h : a ≠ A.sysBankRdy (b / 32)) : rd a (Machine.bankUnready b d) = rd a d := rd_wb_ne _ _ _ h
  refine ofRegs (sameButRegs_wr _ _ _) (fun a ha => ?_) ?_ ?_ fun hd => ?_
  · unfold BeyondSys at ha
    exact hne (by omega)
  · rw [pwrField, rf, hne (by omega), ← rf]
  · by_cases hreg : b / 32 = (16 * k + j) / 32
    · rw [rdyBit, rdyBit, ← hreg]
      exact rb_wb_other _ _ d (by omega) (by omega)
    · rw [rdyBit, rb, hne (by unfold A.sysBankRdy; omega), ← rb]
  · rw [rb, hne (by unfold A.sysPwrStat; omega)]
    exact hd

omit hk hj

/-- Another bank begins or ends to wait. -/
theorem putPend {l : List Nat} (h : 16 * k + j ∈ l ↔ 16 * k + j ∈ d.sys.bankPend) :
    KeepsBank k j d { d with sys := { d.sys with bankPend := l } } :=
  ⟨fun _ _ => rfl, rfl, rfl, rfl, h, id, fun _ => id⟩

theorem memZero (lo hi : Nat) (d : Dev) : KeepsBank k j d (memZero lo hi d) := by
  refine ⟨fun _ _ => rfl, rfl, rfl, rfl, Iff.rfl, id, fun a h => ?_⟩
  by_cases ha : 0x20000 ≤ a
  · rw [memByte_memZero _ _ _ _ ha]
    split
    · rfl
    · exact h
  · rw [memByte, if_pos (by omega)] at h ⊢
    exact h

theorem bankZero (b : Nat) (d : Dev) : KeepsBank k j d (bankZero b d) := by
  unfold Machine.bankZero
  split
  · exact ⟨fun _ _ => rfl, rfl, rfl, rfl, Iff.rfl, id, fun _ => id⟩
  · split
    · exact refl d
    · exact memZero _ _ d

/-- Another bank takes a setting (R96). -/
theorem applyBank (hk : k < 4) {b : Nat} (hb : b < 59) (h : b ≠ 16 * k + j) (code : Nat) (d : Dev) :
    KeepsBank k j d (applyBank b code d) := by
  unfold Machine.applyBank
  dsimp only
  split
  · have hdown : KeepsBank k j d (Machine.bankUnready b { d with
        sys := { d.sys with bankPend := dropIf (· = b) d.sys.bankPend } }) :=
      (putPend (mem_dropIf_eq.trans (and_iff_left h.symm))).trans (bankUnready hk hb h _)
    split
    · exact hdown.trans (bankZero b _)
    · exact hdown
  · split
    · exact refl d
    · exact putPend (by simp [h.symm])

/-- The field of another bank is written (R98). -/
theorem setBankField (hk : k < 4) (hj : j < 16) {i : Nat} (h : i ≠ j) (m : Nat) (v : Word) (d : Dev) :
    KeepsBank k j d (setBankField m k i v d) := by
  unfold Machine.setBankField
  dsimp only
  split
  · exact refl d
  next hb =>
    split
    · exact ((wfPwr hk hj 0 h d).trans (raiseDeny hk hj _)).trans (applyBank hk (by omega) (by omega) 0 _)
    · exact (errIf hk hj _ _ _ _ d).trans (applyBank hk (by omega) (by omega) _ _)

/-- In a fold that treats each bank of a word once, one bank's own operation has everything before and after it kept apart. -/
theorem foldl_around {op : Dev → Nat → Dev} {n : Nat} (hj : j < n) (hop : ∀ i, i ≠ j → ∀ d, KeepsBank k j d (op d i)) (d : Dev) :
    ∃ e, KeepsBank k j d e ∧ KeepsBank k j (op e j) ((List.range n).foldl op d) := by
  obtain ⟨before, after, heq⟩ := List.append_of_mem (List.mem_range.mpr hj)
  have hnodup : j ∉ before ++ after := by
    have := List.nodup_range (n := n)
    rw [heq, List.nodup_middle] at this
    exact (List.nodup_cons.mp this).1
  have hfold (l : List Nat) (hl : j ∉ l) (d : Dev) : KeepsBank k j d (l.foldl op d) :=
    List.foldlRecOn l op (refl d) fun e he x hx => he.trans (hop x (fun h => hl (h ▸ hx)) e)
  rw [List.mem_append, not_or] at hnodup
  refine ⟨before.foldl op d, hfold before hnodup.1 d, ?_⟩
  rw [heq, List.foldl_append, List.foldl_cons]
  exact hfold after hnodup.2 _

end KeepsBank

/-! ### The write of SYS_BANK_PWR_k -/

/-- The row of SYS_BANK_PWR_k (R98): with k = 3 only the banks up to 58 have a field. -/
def bankPwrRow (k : Nat) : Row :=
  if k < 3 then ⟨0x100, 3, 0x4, 1, 0x1, 0xffffffff, 0, 0, 0, 0, 0, 0, 0, []⟩
  else ⟨0x10c, 1, 0x1, 1, 0x1, 0x3fffff, 0, 0, 0, 0xffc00000, 0, 0, 0, []⟩

theorem regAt_sysBankPwr (k : Fin 4) :
    regAt (A.sysBankPwr k) = some (⟨A.block 0, 0, sysRows⟩, bankPwrRow k, if k.val < 3 then k.val else 0) := by
  fin_cases k <;> rfl

theorem testBit_bankPwrRow {k j i : Nat} (hj : j < 16) (hb : 16 * k + j < 59) (hi : i ≤ 2 * j + 1) :
    (bankPwrRow k).rw.testBit i = true ∧ (bankPwrRow k).mbz = 0 ∧ (bankPwrRow k).sq = 0 := by
  unfold bankPwrRow
  split
  · refine ⟨?_, rfl, rfl⟩
    rw [show (0xffffffff : Nat) = 2 ^ 32 - 1 from rfl, Nat.testBit_two_pow_sub_one]
    exact decide_eq_true (by omega)
  · refine ⟨?_, rfl, rfl⟩
    rw [show (0x3fffff : Nat) = 2 ^ 22 - 1 from rfl, Nat.testBit_two_pow_sub_one]
    exact decide_eq_true (by omega)

/-- The word written stands in every field that names a bank. -/
theorem pwrField_storeReg {j : Nat} (k : Fin 4) (m : Nat) (v : Word) (d : Dev) (hj : j < 16) (hb : 16 * k.val + j < 59) :
    pwrField k j (storeReg m (A.sysBankPwr k) v d) = fld v (2 * j + 1) (2 * j) := by
  have hp := KeepsBank.sysBankPwr_bounds k.isLt
  refine fld_congr fun i hl hh => ?_
  obtain ⟨hrw, hmbz, hsq⟩ := testBit_bankPwrRow (k := k.val) hj hb hh
  rw [rd_storeReg_same m v d (regAt_sysBankPwr k) hsq (by change _ ≠ 0x10000004; omega) (by change _ ≠ 0x10000008; omega),
    bit_writtenWord _ _ _ _ _ _ (by omega), hrw, hmbz]
  simp

theorem rd_storeReg_sysBankPwr_ne {a : Nat} (k : Fin 4) (m : Nat) (v : Word) (d : Dev) (ha : a ≠ A.sysBankPwr k)
    (h4 : a ≠ 0x10000004) (h8 : a ≠ 0x10000008) : rd a (storeReg m (A.sysBankPwr k) v d) = rd a d :=
  rd_storeReg_ne m v d (regAt_sysBankPwr k) ha h4 h8

/-- Which banks are in use does not depend on the registers of SYS (R98). -/
theorem bankRefused_congr {b : Nat} {d e : Dev} (hr : ∀ a, BeyondSys a → rd a e = rd a d) (hm : e.sys.mode = d.sys.mode) :
    bankRefused b e = bankRefused b d := by
  have himg : rb A.memImgCtrl 0 e = rb A.memImgCtrl 0 d := by rw [rb, hr _ (by unfold BeyondSys A.memImgCtrl; omega), rb]
  have hport (p : Nat) : portState p e = portState p d := by
    rw [portState, rf, hr _ (by unfold BeyondSys A.swcPort; omega), portState, rf]
  unfold bankRefused
  simp only [himg, hm, hport]
  split
  · rfl
  · split
    · rfl
    · split
      · rfl
      · split
        · rw [rb, hr _ (by unfold BeyondSys A.peCtrl; omega), rb]
        · rfl

/-- Before the write reaches a bank's field, the field holds what was written and the bank is as it was; after it, other banks'
fields follow. -/
theorem writeBankPwr_around {j : Nat} (k : Fin 4) (m : Nat) (v : Word) (d : Dev) (hj : j < 16) (hb : 16 * k.val + j < 59) :
    ∃ e, pwrField k j e = fld v (2 * j + 1) (2 * j) ∧ rdyBit (16 * k + j) e = rdyBit (16 * k + j) d ∧
      (16 * k.val + j ∈ e.sys.bankPend ↔ 16 * k.val + j ∈ d.sys.bankPend) ∧
      bankRefused (16 * k + j) e = bankRefused (16 * k + j) d ∧
      KeepsBank k j (setBankField m k j v e) (writeBankPwr m k v d) := by
  have hp := KeepsBank.sysBankPwr_bounds k.isLt
  have hr := KeepsBank.sysBankRdy_bounds (b := 16 * k.val + j) (by omega)
  have hne {a : Nat} (ha : a ≠ A.sysBankPwr k) (h4 : a ≠ 0x10000004) (h8 : a ≠ 0x10000008) :=
    rd_storeReg_sysBankPwr_ne k m v d ha h4 h8
  obtain ⟨e, hbefore, hafter⟩ := KeepsBank.foldl_around (op := fun d j => setBankField m k j v d) hj
    (fun i hi d => KeepsBank.setBankField k.isLt hj hi m v d) (storeReg m (A.sysBankPwr k) v d)
  have hbeyond (a : Nat) (ha : BeyondSys a) : rd a e = rd a d := by
    rw [hbefore.beyond a ha]
    unfold BeyondSys at ha
    exact hne (by omega) (by omega) (by omega)
  refine ⟨e, hbefore.field.trans (pwrField_storeReg k m v d hj hb), hbefore.ready.trans ?_, ?_, ?_, hafter⟩
  · rw [rdyBit, rb, hne (by omega) (by omega) (by omega), ← rb]
  · rw [hbefore.pend, storeReg_sys]
  · exact bankRefused_congr hbeyond (hbefore.mode.trans (by rw [storeReg_sys]))

/-! ### What the bank itself takes -/

theorem applyBank_on {b code : Nat} (d : Dev) (hc : ¬(code = 1 ∨ code = 2)) :
    (applyBank b code d).regs = d.regs ∧ (b < 59 → rdyBit b d = false → b ∈ (applyBank b code d).sys.bankPend) := by
  unfold applyBank
  dsimp only
  rw [if_neg hc]
  split
  next hup =>
    refine ⟨rfl, fun hb hr => ?_⟩
    have hready : bankReady b d = false := by
      simp [bankReady, Nat.ne_of_lt hb, show rb (A.sysBankRdy (b / 32)) (b % 32) d = false from hr]
    rw [hready] at hup
    exact of_decide_eq_true hup
  next => exact ⟨rfl, fun _ _ => by simp⟩

theorem applyBank_off {b code : Nat} (d : Dev) (hc : code = 1 ∨ code = 2) :
    (∀ a, a ≠ A.sysBankRdy (b / 32) → rd a (applyBank b code d) = rd a d) ∧ rdyBit b (applyBank b code d) = false ∧
    b ∉ (applyBank b code d).sys.bankPend ∧
    (code = 2 → b < 32 → ∀ i < 0x80000, memByte (0x04000000 + 0x80000 * b + i) (applyBank b code d) = 0) := by
  let down := bankUnready b { d with sys := { d.sys with bankPend := dropIf (· = b) d.sys.bankPend } }
  have heq : applyBank b code d = if code = 2 then bankZero b down else down := if_pos hc
  have hregs : (applyBank b code d).regs = down.regs := by
    rw [heq]
    unfold bankZero
    split_ifs <;> rfl
  have hsys : (applyBank b code d).sys = down.sys := by
    rw [heq]
    unfold bankZero
    split_ifs <;> rfl
  refine ⟨fun a ha => ?_, ?_, ?_, fun h2 hb i hi => ?_⟩
  · rw [rd, hregs]
    exact rd_wb_ne _ _ _ ha
  · rw [rdyBit, rb, rd, hregs]
    exact rb_wb_same _ _ _ _ (by omega)
  · rw [hsys]
    exact fun h => (mem_dropIf_eq.mp h).2 rfl
  · have hzero : bankZero b down = memZero (bankRange b).1 (bankRange b).2 down := by
      unfold bankZero
      rw [if_neg (by omega), if_neg (by omega)]
    have hrange : bankRange b = (0x04000000 + 0x80000 * b, 0x04000000 + 0x80000 * b + 0x7FFFF) := if_pos hb
    rw [heq, if_pos h2, hzero, memByte_memZero_beyond_rom _ _ (by rw [hrange]; dsimp only; omega), hrange, if_pos (by dsimp only; omega)]

/-- A refused setting (R98): the field reads 0b00, BANK_DENY is set, the bank is as it was. -/
theorem setBankField_refused {k j : Nat} (hk : k < 4) (hj : j < 16) (m : Nat) {v : Word} {d : Dev} (hb : 16 * k + j < 59)
    (hc : fld v (2 * j + 1) (2 * j) = 1 ∨ fld v (2 * j + 1) (2 * j) = 2) (hr : bankRefused (16 * k + j) d = true) :
    let e := setBankField m k j v d
    pwrField k j e = 0 ∧ rb A.sysPwrStat 7 e = true ∧ rdyBit (16 * k + j) e = rdyBit (16 * k + j) d := by
  have hp := KeepsBank.sysBankPwr_bounds hk
  have hrdy := KeepsBank.sysBankRdy_bounds (b := 16 * k + j) (by omega)
  have heq : setBankField m k j v d = applyBank (16 * k + j) 0
      (raise A.sysPwrStat 7 (wf (A.sysBankPwr k) (2 * j + 1) (2 * j) 0 d)) :=
    (if_neg (by omega)).trans (if_pos ⟨hc, hr⟩)
  have hregs := (applyBank_on (b := 16 * k + j) (raise A.sysPwrStat 7 (wf (A.sysBankPwr k) (2 * j + 1) (2 * j) 0 d))
    (code := 0) (by decide)).1
  rw [← heq] at hregs
  have hrd {a : Nat} (ha : a ≠ 0x100000c8) :
      rd a (setBankField m k j v d) = rd a (wf (A.sysBankPwr k) (2 * j + 1) (2 * j) 0 d) := by
    rw [rd, hregs]
    exact rd_raise_ne _ _ ha
  refine ⟨?_, ?_, ?_⟩
  · rw [pwrField, rf, hrd (by omega), ← rf, rf_wf_same _ _ _ _ _ (by omega), Nat.zero_mod]
  · rw [rb, rd, hregs]
    exact (rb_raise_same _ _ (by decide)).trans (Bool.or_true _)
  · rw [rdyBit, rb, hrd (by omega), rd_wf_ne _ _ _ _ (by omega), ← rb]

/-- Retention and off (R96). -/
theorem setBankField_off {k j : Nat} (hk : k < 4) (m : Nat) {v : Word} {d : Dev} (hb : 16 * k + j < 59)
    (hc : fld v (2 * j + 1) (2 * j) = 1 ∨ fld v (2 * j + 1) (2 * j) = 2) (hr : bankRefused (16 * k + j) d = false) :
    let e := setBankField m k j v d
    pwrField k j e = pwrField k j d ∧ rdyBit (16 * k + j) e = false ∧ 16 * k + j ∉ e.sys.bankPend ∧
    (fld v (2 * j + 1) (2 * j) = 2 → 16 * k + j < 32 → ∀ i < 0x80000, memByte (0x04000000 + 0x80000 * (16 * k + j) + i) e = 0) := by
  have hp := KeepsBank.sysBankPwr_bounds hk
  have hrdy := KeepsBank.sysBankRdy_bounds (b := 16 * k + j) (by omega)
  have herr : errIf (decide (fld v (2 * j + 1) (2 * j) = 3)) (A.block 0) m errRsvd (A.sysBankPwr k) d = d := by
    rw [decide_eq_false (by omega)]
    rfl
  have heq : setBankField m k j v d = applyBank (16 * k + j) (fld v (2 * j + 1) (2 * j)) d :=
    (if_neg (by omega)).trans ((if_neg fun h => ne_true_of_eq_false hr h.2).trans (congrArg (applyBank _ _) herr))
  obtain ⟨hrd, hready, hpend, hzero⟩ := applyBank_off (b := 16 * k + j) d hc
  intro e
  have he : e = applyBank (16 * k + j) (fld v (2 * j + 1) (2 * j)) d := heq
  rw [he]
  exact ⟨congrArg (fld · _ _) (hrd _ (by omega)), hready, hpend, hzero⟩

/-- On, and the reserved encoding that acts as on (R96). -/
theorem setBankField_on {k j : Nat} (hk : k < 4) (hj : j < 16) (m : Nat) {v : Word} {d : Dev} (hb : 16 * k + j < 59)
    (hc : fld v (2 * j + 1) (2 * j) = 0 ∨ fld v (2 * j + 1) (2 * j) = 3) :
    let e := setBankField m k j v d
    pwrField k j e = pwrField k j d ∧ rdyBit (16 * k + j) e = rdyBit (16 * k + j) d ∧
    (rdyBit (16 * k + j) d = false → 16 * k + j ∈ e.sys.bankPend) := by
  have hoff : ¬(fld v (2 * j + 1) (2 * j) = 1 ∨ fld v (2 * j + 1) (2 * j) = 2) := by omega
  have heq : setBankField m k j v d = applyBank (16 * k + j) (fld v (2 * j + 1) (2 * j))
      (errIf (decide (fld v (2 * j + 1) (2 * j) = 3)) (A.block 0) m errRsvd (A.sysBankPwr k) d) :=
    (if_neg (by omega)).trans (if_neg fun h => hoff h.1)
  have herr := KeepsBank.errIf hk hj (decide (fld v (2 * j + 1) (2 * j) = 3)) m errRsvd (A.sysBankPwr k) d
  rw [heq]
  generalize errIf _ _ _ _ _ d = f at herr
  obtain ⟨hregs, hpend⟩ := applyBank_on (b := 16 * k + j) f hoff
  refine ⟨?_, ?_, fun h => hpend hb (herr.ready.trans h)⟩
  · rw [pwrField, rf, rd, hregs]
    exact herr.field
  · rw [rdyBit, rb, rd, hregs]
    exact herr.ready

/-! ### The obligation's clauses -/

/-- The effect of a write of SYS_BANK_PWR_k on the bank of each field. -/
theorem writeBankPwr_effect {j : Nat} (k : Fin 4) (m : Nat) (v : Word) (d : Dev) (hj : j < 16) (hb : 16 * k.val + j < 59) :
    let b := 16 * k.val + j
    let code := fld v (2 * j + 1) (2 * j)
    let t := writeBankPwr m k v d
    (code = 1 ∨ code = 2 → bankRefused b d = true →
      pwrField k j t = 0 ∧ rb A.sysPwrStat 7 t = true ∧ rdyBit b t = rdyBit b d) ∧
    (code = 1 ∨ code = 2 → bankRefused b d = false →
      pwrField k j t = code ∧ rdyBit b t = false ∧ b ∉ t.sys.bankPend ∧
      (code = 2 → b < 32 → ∀ i < 0x80000, memByte (0x04000000 + 0x80000 * b + i) t = 0)) ∧
    (code = 0 ∨ code = 3 → pwrField k j t = code ∧ rdyBit b t = rdyBit b d ∧ (rdyBit b d = false → b ∈ t.sys.bankPend)) := by
  obtain ⟨e, hfield, hready, hpend, href, hafter⟩ := writeBankPwr_around k m v d hj hb
  refine ⟨fun hc hr => ?_, fun hc hr => ?_, fun hc => ?_⟩
  · obtain ⟨h1, h2, h3⟩ := setBankField_refused k.isLt hj m hb hc (href.trans hr)
    exact ⟨hafter.field.trans h1, hafter.deny h2, hafter.ready.trans (h3.trans hready)⟩
  · obtain ⟨h1, h2, h3, h4⟩ := setBankField_off k.isLt m hb hc (href.trans hr)
    exact ⟨hafter.field.trans (h1.trans hfield), hafter.ready.trans h2, fun h => h3 (hafter.pend.mp h),
      fun h hb i hi => hafter.zero _ (h4 h hb i hi)⟩
  · obtain ⟨h1, h2, h3⟩ := setBankField_on k.isLt hj m hb hc
    exact ⟨hafter.field.trans (h1.trans hfield), hafter.ready.trans (h2.trans hready),
      fun h => hafter.pend.mpr (h3 (hready.trans h))⟩

theorem exec_bankPowerSetting {m : Fin 20} {k : Fin 4} {v : Word} {s : State} (h : powered s.dev = true) :
    exec (.bankPowerSetting m k v) s = .next { s with dev := writeBankPwr m k v s.dev } := onPow_of_powered _ h

/-- A bank that wakes is accessible, and no other bank is touched (R96). -/
theorem bankReady_effect {b : Fin 59} {s : State} (hp : powered s.dev = true) (h : b.val ∈ s.dev.sys.bankPend) :
    ∃ t, exec (.bankReady b) s = .next t ∧ rdyBit b t.dev = true ∧ b.val ∉ t.dev.sys.bankPend ∧ t.dev.mem = s.dev.mem ∧
      ∀ c < 59, c ≠ b.val → rdyBit c t.dev = rdyBit c s.dev := by
  let e : Dev := { s.dev with sys := { s.dev.sys with bankPend := dropIf (· = b.val) s.dev.sys.bankPend }
                              scrub := tabClear s.dev.scrub (16 * b) (16 * b + 15) }
  have hexec : exec (.bankReady b) s = .next { s with dev := wb (A.sysBankRdy (b / 32)) (b % 32) true e } :=
    onDev_eq_next (when_of _ _ (by rw [hp, decide_eq_true h]; rfl))
  refine ⟨_, hexec, rb_wb_same _ _ _ _ (by omega), fun hm => (mem_dropIf_eq.mp hm).2 rfl, rfl, fun c hc hne => ?_⟩
  by_cases hreg : c / 32 = b / 32
  · rw [rdyBit, rdyBit, hreg]
    exact rb_wb_other _ _ e (by omega) (by omega)
  · exact congrArg (bit · _) (rd_wb_ne _ _ e (by unfold A.sysBankRdy; omega))

/-- Settles O35: each field of the write sets its own bank and leaves the others, and a bank that wakes becomes accessible. -/
theorem bankPower : Obligations.BankPower := by
  unfold Obligations.BankPower
  intro s hp
  exact ⟨fun m k v => ⟨_, exec_bankPowerSetting hp, rfl, fun j hj hb => writeBankPwr_effect k m v s.dev hj hb⟩,
    fun b h => bankReady_effect hp h⟩

end Sys2Proof.Machine
end

section
/-! Clock monitors, lane PLLs and power requests, and the obligation about them (R83, R85, R91, R92, R95, R107, R339, R341). -/

namespace Sys2Proof.Machine

/-! ### The clock monitors (R85) -/

/-- A report before the decision waits; only a configuration fault touches the image (R30, R461). -/
theorem report_waits {code : Nat} (unit addr idx : Nat) {d : Dev} (hc : code ≠ 0x42 ∧ code ≠ 0x43) (h : rb A.safStat 0 d = false) :
    report code unit addr idx d = { d with saf := { d.saf with reports := d.saf.reports ++ [⟨code, unit, addr, idx⟩] } } := by
  have himg : ¬((code = 0x42 ∨ code = 0x43) ∧ d.sys.mode = .service) := by omega
  unfold report
  rw [if_neg himg]
  dsimp only
  rw [if_neg (ne_true_of_eq_false h)]

/-- SEQ counts an event (R107). -/
theorem rf_seq_raise (a i : Nat) (d : Dev) : rf a 31 24 (raise a i d) = (rf a 31 24 d + 1) % 256 := by
  rw [rf, raise, rd_raiseBits_same, fld_setFld_same _ _ _ _ (by decide), Nat.mod_mod_of_dvd _ (by decide), rf]
  rfl

/-- One failing clock: its bit, its event and its report (R85, R107). -/
def clockFault (i : Nat) (d : Dev) : Dev := d |> raise A.sysClkStat i |> report 0x44 0 0 0

theorem clockFault_eq {i : Nat} {d : Dev} (h : rb A.safStat 0 d = false) :
    clockFault i d = { raise A.sysClkStat i d with
      saf := { d.saf with reports := d.saf.reports ++ [⟨0x44, 0, 0, 0⟩] } } := by
  refine report_waits 0 0 0 (by decide) ?_
  rw [rb, rd_raise_ne _ _ (by decide)]
  exact h

/-- What the failing clocks of a list leave: each sets its bit, and all together count in SEQ and in the reports. -/
structure ClockFaults (fails : List Nat) (d e : Dev) : Prop where
  mem : e.mem = d.mem
  img : e.img = d.img
  sys : e.sys = d.sys
  saf : e.saf = { d.saf with reports := d.saf.reports ++ List.replicate fails.length ⟨0x44, 0, 0, 0⟩ }
  bits : ∀ i < 24, rb A.sysClkStat i e = (rb A.sysClkStat i d || decide (i ∈ fails))
  seq : rf A.sysClkStat 31 24 e = (rf A.sysClkStat 31 24 d + fails.length) % 256
  others : ∀ a, a ≠ A.sysClkStat → rd a e = rd a d

theorem clockFaults_foldl (fails : List Nat) (d : Dev) (h : rb A.safStat 0 d = false) :
    ClockFaults fails d (fails.foldl (fun d i => clockFault i d) d) := by
  induction fails generalizing d with
  | nil =>
    refine ⟨rfl, rfl, rfl, by simp, by simp, ?_, fun _ _ => rfl⟩
    exact (Nat.mod_eq_of_lt (rf_lt A.sysClkStat 31 24 d)).symm
  | cons i l ih =>
    have hfault := clockFault_eq (i := i) h
    have hregs (a : Nat) : rd a (clockFault i d) = rd a (raise A.sysClkStat i d) := by rw [hfault]; rfl
    have hrd {a : Nat} (ha : a ≠ A.sysClkStat) : rd a (clockFault i d) = rd a d := (hregs a).trans (rd_raise_ne i d ha)
    obtain ⟨hmem, himg, hsys, hsaf, hbits, hseq, hothers⟩ := ih (clockFault i d)
      ((congrArg (bit · 0) (hrd (by decide))).trans h)
    rw [List.foldl_cons]
    refine ⟨hmem.trans (by simp only [hfault, raise_mem]), himg.trans (by simp only [hfault, raise_img]),
      hsys.trans (by simp only [hfault, raise_sys]), ?_, fun j hj => ?_, ?_, fun a ha => (hothers a ha).trans (hrd ha)⟩
    · rw [hsaf, hfault]
      simp [List.replicate_succ]
    · have hbit : rb A.sysClkStat j (clockFault i d) = (rb A.sysClkStat j d || decide (i = j)) :=
        (congrArg (bit · j) (hregs _)).trans (rb_raise_same _ _ hj)
      rw [hbits j hj, hbit, Bool.or_assoc, ← Bool.decide_or]
      simp [eq_comm]
    · have hone : rf A.sysClkStat 31 24 (clockFault i d) = (rf A.sysClkStat 31 24 d + 1) % 256 :=
        (congrArg (fld · 31 24) (hregs _)).trans (rf_seq_raise _ _ _)
      rw [hseq, hone, List.length_cons]
      omega

/-- Doing an operation for the elements that meet a condition is doing it for the filtered list. -/
theorem foldl_when_eq_filter {α : Type} (p : α → Bool) (op : α → Dev → Dev) (l : List α) (d : Dev) :
    l.foldl (fun d x => when (p x) (op x) d) d = (l.filter p).foldl (fun d x => op x d) d := by
  rw [List.foldl_filter]
  rfl

/-- The clocks that fail in a window: stopped, or out of range in this one and the last (R85). -/
def failingClocks (bad : Nat) : List Nat := (List.range 7).filter fun i => bad.testBit i

theorem exec_clockMonitorWindow (out stopped : BitVec 7) {s : State} (h : powered s.dev = true) :
    exec (.clockMonitorWindow out stopped) s = .next { s with
      dev := (failingClocks (stopped.toNat ||| (out.toNat &&& s.dev.sys.clkBad))).foldl (fun d i => clockFault i d)
        { s.dev with sys := { s.dev.sys with clkBad := out.toNat } } } := by
  have hmon : monitored s.dev = true := by rw [monitored, h]; rfl
  refine onDev_eq_next ?_
  rw [clockWindow, hmon]
  exact foldl_when_eq_filter _ clockFault _ _

/-- A window in which clocks fail. -/
theorem clockMonitorWindow_effect (out stopped : BitVec 7) {s : State} (h : powered s.dev = true)
    (hu : rb A.safStat 0 s.dev = false) :
    let bad := stopped.toNat ||| (out.toNat &&& s.dev.sys.clkBad)
    ∃ t, exec (.clockMonitorWindow out stopped) s = .next t ∧
      ClockFaults (failingClocks bad) { s.dev with sys := { s.dev.sys with clkBad := out.toNat } } t.dev ∧ t.fuses = s.fuses :=
  ⟨_, exec_clockMonitorWindow out stopped h, clockFaults_foldl _ _ hu, rfl⟩

/-! ### Lane PLLs (R83) -/

theorem exec_lanePllLock (p : Fin 10) (s : State) :
    exec (.lanePllLock p) s = .next { s with
      dev := when (inService s.dev && rb (A.ethCtrl p) 15 s.dev && !ethRgmii p s.dev)
        (modEth p fun e => { e with lane := true }) s.dev } := rfl

theorem getEth_modEth_ne {p q : Nat} (f : Eth → Eth) (d : Dev) (h : q ≠ p) : getEth q (modEth p f d) = getEth q d :=
  tabGet_tabSet_ne _ _ _ h

theorem modEth_frame (p : Nat) (f : Eth → Eth) (d : Dev) : { modEth p f d with eths := d.eths } = d := rfl

/-! ### The write of SYS_PWR_CTRL (R91, R95) -/

/-- The word that requests a power state: the key of SYS_PWR_CTRL with REQ. -/
structure PowerWord (v : Word) (r : Nat) : Prop where
  key : fld v 31 16 = 0x0C1E
  req : fld v 2 0 = r
  rest : v &&& word 0xFFF8 = 0
  acts : 1 ≤ r ∧ r ≤ 4

/-- The device after the key has reached SYS_PWR_CTRL, which keeps nothing (R11). -/
def pwrCtrlHeld (d : Dev) : Dev := wr A.sysPwrCtrl (rd A.sysPwrCtrl d) d

@[simp] theorem rd_pwrCtrlHeld (a : Nat) (d : Dev) : rd a (pwrCtrlHeld d) = rd a d := rd_wr_held _ _ _
@[simp] theorem rb_pwrCtrlHeld (a i : Nat) (d : Dev) : rb a i (pwrCtrlHeld d) = rb a i d := congrArg (bit · i) (rd_pwrCtrlHeld a d)
@[simp] theorem rf_pwrCtrlHeld (a hi lo : Nat) (d : Dev) : rf a hi lo (pwrCtrlHeld d) = rf a hi lo d :=
  congrArg (fld · hi lo) (rd_pwrCtrlHeld a d)
@[simp] theorem pwrCtrlHeld_sys (d : Dev) : (pwrCtrlHeld d).sys = d.sys := rfl
@[simp] theorem pwrCtrlHeld_mem (d : Dev) : (pwrCtrlHeld d).mem = d.mem := rfl
@[simp] theorem pwrCtrlHeld_img (d : Dev) : (pwrCtrlHeld d).img = d.img := rfl
@[simp] theorem pwrCtrlHeld_mrd (d : Dev) : (pwrCtrlHeld d).mrd = d.mrd := rfl

/-- A master that may make power requests (R91): the Supervisor and the hosts. -/
def PowerMaster (m : Nat) : Prop := m = 0 ∨ m = 17 ∨ m = 18

theorem powerMaster_iff (m : Nat) : PowerMaster m ↔ m ∈ [0, 17, 18] := by simp [PowerMaster]

theorem storeReg_sysPwrCtrl {v : Word} {r : Nat} (m : Nat) (d : Dev) (h : PowerWord v r) :
    storeReg m A.sysPwrCtrl v d = pwrCtrlHeld d :=
  storeReg_of_writeOnly (u := ⟨A.block 0, 0, sysRows⟩)
    (r := ⟨0xc0, 1, 0x1, 1, 0x1, 0, 0, 0, 0, 0, 0xfff8, 0, 0, []⟩) (i := 0) d rfl ⟨rfl, rfl, rfl, rfl, rfl⟩ h.rest

/-- What a request of a state by a permitted master comes to. -/
theorem writePwrCtrl_of_master {m r : Nat} {v : Word} (d : Dev) (hm : PowerMaster m) (h : PowerWord v r) :
    writePwrCtrl m v d =
      let e := pwrCtrlHeld d
      if e.sys.mode = .twilight || rb A.sysPwrStat 4 e then raise A.sysPwrStat 6 e
      else if !inService e then e
      else if r = 1 then (if inDoze e then leaveDoze e else e)
      else if r = 2 then (if inDoze e then e else enterDoze e)
      else startEntry (decide (r = 4)) e := by
  have hmaster : ¬(m ≠ 0 ∧ m ≠ 17 ∧ m ≠ 18) := by
    unfold PowerMaster at hm
    omega
  have hacts := h.acts
  have hbad : decide (5 ≤ r) = false := decide_eq_false (by omega)
  simp only [writePwrCtrl, if_neg hmaster, h.key, h.req, storeReg_sysPwrCtrl m d h, hbad, errIf, ne_eq, not_true_eq_false,
    if_false, Bool.false_eq_true]
  rw [if_neg (by omega)]

/-- A request of another master, in Twilight or during a transition is PWR_DENY (R91, R95). -/
theorem writePwrCtrl_denied {m r : Nat} {v : Word} (d : Dev) (h : PowerWord v r)
    (hd : ¬PowerMaster m ∨ d.sys.mode = .twilight ∨ rb A.sysPwrStat 4 d = true) :
    ∃ e, writePwrCtrl m v d = raise A.sysPwrStat 6 e ∧ SameButRegs d e ∧ ∀ a, rd a e = rd a d := by
  by_cases hm : PowerMaster m
  · refine ⟨pwrCtrlHeld d, ?_, sameButRegs_wr _ _ _, fun a => rd_pwrCtrlHeld a d⟩
    rw [writePwrCtrl_of_master d hm h]
    refine if_pos ?_
    rw [rb_pwrCtrlHeld, pwrCtrlHeld_sys, Bool.or_eq_true, decide_eq_true_eq]
    exact hd.resolve_left (not_not_intro hm)
  · refine ⟨d, if_pos ?_, rfl, fun _ => rfl⟩
    unfold PowerMaster at hm
    omega

theorem requests_denied {m : Fin 20} {s : State} (hp : powered s.dev = true)
    (h : m.val ∉ [0, 17, 18] ∨ s.dev.sys.mode = .twilight ∨ rb A.sysPwrStat 4 s.dev = true) {v : Word} {r : Nat}
    {i : Instr} (hi : exec i s = onPow (writePwrCtrl m v) s) (hv : PowerWord v r) :
    ∃ t, exec i s = .next t ∧ (t.dev.mem = s.dev.mem ∧ t.dev.img = s.dev.img ∧ t.fuses = s.fuses) ∧ t.dev.sys = s.dev.sys ∧
      rb A.sysPwrStat 6 t.dev = true ∧ rf A.sysPwrStat 5 0 t.dev = rf A.sysPwrStat 5 0 s.dev ∧
      ∀ a, a ≠ A.sysPwrStat → rd a t.dev = rd a s.dev := by
  obtain ⟨e, heq, hsame, hrd⟩ := writePwrCtrl_denied s.dev hv (h.imp_left (mt (powerMaster_iff m).mp))
  refine ⟨_, hi.trans ((onPow_of_powered _ hp).trans rfl), ?_⟩
  dsimp only
  rw [heq]
  refine ⟨⟨hsame.mem, hsame.img, rfl⟩, hsame.sys, ?_, ?_, fun a ha => (rd_raise_ne _ _ ha).trans (hrd a)⟩
  · rw [rb_raise_same _ _ (by decide)]
    exact Bool.or_true _
  · rw [rf_raise_same _ (by decide) (by decide)]
    exact congrArg (fld · 5 0) (hrd _)

/-! ### DOZE (R91) -/

/-- Two devices that differ in the PIO engines, the engines and Dispatch only. -/
def SameButPaused (d e : Dev) : Prop := { e with pios := d.pios, cores := d.cores, dsp := d.dsp } = d

namespace SameButPaused

variable {d e f : Dev}

theorem refl (d : Dev) : SameButPaused d d := rfl

theorem trans (h : SameButPaused d e) (g : SameButPaused e f) : SameButPaused d f := by
  unfold SameButPaused at *
  rw [← h, ← g]

theorem foldl {α : Type} {l : List α} {op : Dev → α → Dev} (h : SameButPaused d e) (hop : ∀ x d, SameButPaused d (op d x)) :
    SameButPaused d (l.foldl op e) :=
  List.foldlRecOn l op h fun e he x _ => he.trans (hop x e)

theorem pioUngate (d : Dev) : SameButPaused d (pioUngate d) := by
  refine foldl rfl fun n d => ?_
  dsimp only
  split <;> rfl

theorem modCore (h : SameButPaused d e) (c : Nat) (g : Core → Core) : SameButPaused d (modCore c g e) := h

theorem modDsp (h : SameButPaused d e) (g : Dsp → Dsp) : SameButPaused d (modDsp g e) := h

theorem mem (h : SameButPaused d e) : e.mem = d.mem := congrArg (·.mem) h
theorem img (h : SameButPaused d e) : e.img = d.img := congrArg (·.img) h
theorem sys (h : SameButPaused d e) : e.sys = d.sys := congrArg (·.sys) h
theorem rd (h : SameButPaused d e) (a : Nat) : rd a e = rd a d := congrArg (tabGet regReset · a) (congrArg (·.regs) h)

end SameButPaused

/-- DOZE ends: STATE is 0, and beside that only engines, PIO engines and Dispatch go on (R91). -/
theorem sameButPaused_leaveDoze (d : Dev) : SameButPaused (wf A.sysPwrStat 2 0 0 d) (leaveDoze d) := by
  unfold leaveDoze
  dsimp only
  exact ((SameButPaused.pioUngate _).foldl fun n d => (SameButPaused.refl d).modCore _ _).modDsp _

theorem endSession_of_none {d : Dev} (h : rf A.secLc 11 9 d < 2) : endSession d = d := if_neg (by omega)

theorem enterDoze_of_none {d : Dev} (h : rf A.secLc 11 9 d < 2) :
    enterDoze d = { wf A.sysPwrStat 2 0 1 d with sys := { d.sys with entryTime := d.now } } := by
  have hend : endSession (wf A.sysPwrStat 2 0 1 d) = wf A.sysPwrStat 2 0 1 d :=
    endSession_of_none (by rw [rf, rd_wf_ne _ _ _ _ (by decide)]; exact h)
  rw [enterDoze, hend]
  rfl

/-! ### RETAIN and OFF entry begin (R92) -/

/-- Nothing between d and e has touched the memory, the device-wide state and SYS_PWR_STAT. -/
structure KeepsPower (d e : Dev) : Prop where
  mem : e.mem = d.mem
  sys : e.sys = d.sys
  stat : rd A.sysPwrStat e = rd A.sysPwrStat d

namespace KeepsPower

variable {d e f : Dev}

theorem refl (d : Dev) : KeepsPower d d := ⟨rfl, rfl, rfl⟩

theorem trans (h : KeepsPower d e) (g : KeepsPower e f) : KeepsPower d f :=
  ⟨g.mem.trans h.mem, g.sys.trans h.sys, g.stat.trans h.stat⟩

/-- An update outside the registers, the memory and the device-wide state. -/
theorem upd (h : KeepsPower d e) (hm : f.mem = e.mem) (hs : f.sys = e.sys) (hr : f.regs = e.regs) : KeepsPower d f :=
  h.trans ⟨hm, hs, by simp only [rd, hr]⟩

theorem foldl {α : Type} {l : List α} {op : Dev → α → Dev} (h : KeepsPower d e) (hop : ∀ x d, KeepsPower d (op d x)) :
    KeepsPower d (l.foldl op e) :=
  List.foldlRecOn l op h fun e he x _ => he.trans (hop x e)

theorem wr {a : Nat} (h : KeepsPower d e) (v : Word) (ha : A.sysPwrStat ≠ a) : KeepsPower d (wr a v e) :=
  h.trans ⟨rfl, rfl, rd_wr_ne v e ha⟩

theorem schedule (h : KeepsPower d e) (c : Nat) : KeepsPower d (schedule c e) :=
  h.upd (schedule_mem c e) (congrArg (·.sys) (schedule_frame c e)) (schedule_regs c e)

theorem resumeHeld (h : KeepsPower d e) : KeepsPower d (resumeHeld e) :=
  h.foldl fun c d => (refl d).foldl fun k d => by
    dsimp only
    split
    · exact ((refl d).upd (f := modCtx (ctxKey c k) _ d) rfl rfl rfl).schedule c
    · exact refl d

theorem endSession (h : KeepsPower d e) : KeepsPower d (endSession e) := by
  unfold Machine.endSession
  dsimp only
  split
  · exact (h.wr (a := A.secLc) _ (by decide)).resumeHeld
  · exact h

theorem refNow (h : KeepsPower d e) : KeepsPower d (refNow e) := by
  unfold Machine.refNow showRef
  split
  · exact ((h.wr (a := A.mrdNodeStat) _ (by decide)).wr (a := A.mrdNodeStat) _ (by decide)).wr _ (by decide)
  · exact ((h.wr (a := A.mrdNodeStat) _ (by decide)).wr (a := A.mrdNodeStat) _ (by decide)).wr _ (by decide)

theorem modMrd (h : KeepsPower d e) (g : Mrd → Mrd) : KeepsPower d (modMrd g e) := h.upd rfl rfl rfl

theorem showPend (h : KeepsPower d e) : KeepsPower d (showPend e) := h.wr (a := A.mrdStat) _ (by decide)

theorem timelineLost (h : KeepsPower d e) (hf : e.sys.flipStop = false) : KeepsPower d (timelineLost e) := by
  rw [Machine.timelineLost, when_of_not _ _ hf]
  exact h

/-- A node that waits for no flip drops its timeline and enters LISTEN (R318). -/
theorem enterListen (h : KeepsPower d e) (hf : d.sys.flipStop = false) : KeepsPower d (enterListen e) := by
  have hlisten := ((h.modMrd fun m => { m with
      node := .listen, listenStart := e.now, slots := [], sent := [], even := [], devs := [], corrected := false,
      badPairs := 0, tbBest := none, evenOfs := none, syncSeen := false, noSync := 0, good := 0, adopted := false,
      refs := [], mgrHash := none, mgr := none, proposal := none, cack := false, confirm := false, silent := none,
      silentSeen := false, heard := false, dawnSent := false, ofs := 0, missed := [], rstSeen := 0, rstNow := false,
      opened := false, tx := [] }).wr (a := A.mrdRackAct) 0 (by decide)).showPend.refNow
  exact hlisten.timelineLost (by rw [hlisten.sys]; exact hf)

end KeepsPower

theorem lastFlip_of_trans {d : Dev} {t : Trans} (h : d.sys.trans = some t) :
    lastFlip d = safePins (wb A.memImgStat 0 false
      { d with sys := { d.sys with flipStop := false, trans := some { t with lastFlip := true } } }) := by
  rw [lastFlip, h]

/-- The last flip has passed (R92): the image no longer runs, and beside that the transition and the pins are touched only. -/
theorem lastFlip_effect {d : Dev} {t : Trans} (h : d.sys.trans = some t) :
    (lastFlip d).sys = { d.sys with flipStop := false, trans := some { t with lastFlip := true } } ∧
    (lastFlip d).mem = d.mem ∧ rb A.memImgStat 0 (lastFlip d) = false ∧
    ∀ a, a ≠ A.memImgStat → rd a (lastFlip d) = rd a d := by
  let e : Dev := { d with sys := { d.sys with flipStop := false, trans := some { t with lastFlip := true } } }
  rw [lastFlip_of_trans h]
  exact ⟨rfl, rfl, rb_wb_same A.memImgStat 0 false e (by decide), fun a ha => rd_wb_ne 0 false e ha⟩

/-- The device when an entry begins (R92), with the last flip still to come where boundaries run. -/
def entryBegun (off : Bool) (d : Dev) : Dev :=
  let early : Bool := d.mrd.node = .dawn || d.mrd.node = .integrating
  endSession { d with sys := { d.sys with trans := some ⟨off, false, !(rackBoundaries d && !early), none⟩
                                          flipStop := rackBoundaries d && !early } }
    |> wb A.sysPwrStat 4 true |> when early enterListen

/-- Boundaries run and the entry waits for the next flip (R92, R339). -/
def entryWaits (d : Dev) : Bool := rackBoundaries d && !decide (d.mrd.node = .dawn ∨ d.mrd.node = .integrating)

theorem startEntry_eq (off : Bool) (d : Dev) :
    startEntry off d = if entryWaits d then entryBegun off d else lastFlip (entryBegun off d) := by
  rw [entryWaits, Bool.decide_or]
  rfl

theorem entryBegun_effect (off : Bool) (d : Dev) :
    (entryBegun off d).mem = d.mem ∧ rb A.sysPwrStat 4 (entryBegun off d) = true ∧
    (entryBegun off d).sys =
      { d.sys with trans := some ⟨off, false, !entryWaits d, none⟩, flipStop := entryWaits d } := by
  let begun : Dev := { d with sys := { d.sys with trans := some ⟨off, false, !entryWaits d, none⟩, flipStop := entryWaits d } }
  have heq : entryBegun off d = when (decide (d.mrd.node = .dawn) || decide (d.mrd.node = .integrating)) enterListen
      (wb A.sysPwrStat 4 true (endSession begun)) := by
    simp only [begun, entryWaits, Bool.decide_or]
    rfl
  have hend := (KeepsPower.refl begun).endSession
  have hkeep : KeepsPower (wb A.sysPwrStat 4 true (endSession begun)) (entryBegun off d) := by
    rw [heq]
    cases hearly : decide (d.mrd.node = .dawn) || decide (d.mrd.node = .integrating)
    · exact KeepsPower.refl _
    · refine (KeepsPower.refl _).enterListen ?_
      rw [show (wb A.sysPwrStat 4 true (endSession begun)).sys = (endSession begun).sys from rfl, hend.sys]
      show entryWaits d = false
      rw [entryWaits, Bool.decide_or, hearly, Bool.not_true, Bool.and_false]
  refine ⟨hkeep.mem.trans hend.mem, ?_, hkeep.sys.trans hend.sys⟩
  rw [rb, hkeep.stat]
  exact rb_wb_same A.sysPwrStat 4 true (endSession begun) (by decide)

/-- A request of RETAIN or OFF begins the entry (R92). -/
theorem startEntry_effect (off : Bool) (d : Dev) :
    let rack := entryWaits d
    let t := startEntry off d
    rb A.sysPwrStat 4 t = true ∧ t.mem = d.mem ∧ t.sys.mode = d.sys.mode ∧
    t.sys.trans = some ⟨off, !rack, !rack, none⟩ ∧ t.sys.flipStop = rack ∧ (rack = false → rb A.memImgStat 0 t = false) := by
  obtain ⟨hmem, hbusy, hsys⟩ := entryBegun_effect off d
  have htrans : (entryBegun off d).sys.trans = some ⟨off, false, !entryWaits d, none⟩ := by rw [hsys]
  obtain ⟨hsys', hmem', himg, hrd⟩ := lastFlip_effect htrans
  rw [startEntry_eq]
  cases hw : entryWaits d
  · rw [if_neg Bool.false_ne_true]
    refine ⟨?_, hmem'.trans hmem, by rw [hsys', hsys], by rw [hsys', hw]; rfl, by rw [hsys'], fun _ => himg⟩
    rw [rb, hrd _ (by decide)]
    exact hbusy
  · rw [if_pos rfl]
    exact ⟨hbusy, hmem, by rw [hsys], by rw [htrans, hw]; rfl, by rw [hsys]; exact hw, fun h => by cases h⟩

/-! ### The requests in service -/

theorem inDoze_pwrCtrlHeld (d : Dev) : inDoze (pwrCtrlHeld d) = inDoze d := by
  rw [inDoze, rf_pwrCtrlHeld, inDoze]

theorem entryWaits_pwrCtrlHeld (d : Dev) : entryWaits (pwrCtrlHeld d) = entryWaits d := by
  simp only [entryWaits, rackBoundaries, role, holdsTimeline, mrdRuns, committed, rb_pwrCtrlHeld, rf_pwrCtrlHeld,
    pwrCtrlHeld_sys, pwrCtrlHeld_mrd]
  rfl

/-- A request in service, while no transition runs. -/
theorem writePwrCtrl_in_service {m r : Nat} {v : Word} {d : Dev} (hm : PowerMaster m) (h : PowerWord v r)
    (hs : d.sys.mode = .service) (hb : rb A.sysPwrStat 4 d = false) :
    writePwrCtrl m v d =
      if r = 1 then (if inDoze d then leaveDoze (pwrCtrlHeld d) else pwrCtrlHeld d)
      else if r = 2 then (if inDoze d then pwrCtrlHeld d else enterDoze (pwrCtrlHeld d))
      else startEntry (decide (r = 4)) (pwrCtrlHeld d) := by
  simp [writePwrCtrl_of_master d hm h, inService, hs, hb, inDoze_pwrCtrlHeld]

theorem mem_failingClocks {bad i : Nat} (hi : i < 7) : (i ∈ failingClocks bad) = (bad.testBit i = true) := by
  simp [failingClocks, hi]

theorem failingClocks_zero : failingClocks 0 = [] := by
  simp [failingClocks]

/-- DOZE in service, while no debug session is open. -/
theorem requestDoze_effect {d : Dev} (hl : rf A.secLc 11 9 d < 2) :
    let t := enterDoze (pwrCtrlHeld d)
    t.mem = d.mem ∧ t.img = d.img ∧ inDoze t = true ∧ t.ctxs = d.ctxs ∧ t.sys = { d.sys with entryTime := d.now } ∧
      ∀ a, a ≠ A.sysPwrStat → rd a t = rd a d := by
  rw [enterDoze_of_none (by rwa [rf_pwrCtrlHeld])]
  refine ⟨rfl, rfl, ?_, rfl, rfl, fun a ha => (rd_wf_ne 2 0 1 _ ha).trans (rd_pwrCtrlHeld a d)⟩
  rw [inDoze, decide_eq_true_eq]
  exact rf_wf_same A.sysPwrStat 2 0 1 (pwrCtrlHeld d) (by decide)

/-- A device that has left DOZE: STATE is 0, and LAST_WAKE, the memory and the device-wide state stay. -/
theorem leaveDoze_effect (d : Dev) :
    let t := leaveDoze d
    t.mem = d.mem ∧ t.img = d.img ∧ inDoze t = false ∧ t.sys = d.sys ∧ rf A.sysPwrStat 14 12 t = rf A.sysPwrStat 14 12 d := by
  have h := sameButPaused_leaveDoze d
  refine ⟨h.mem, h.img, ?_, h.sys, ?_⟩
  · rw [inDoze, rf, h.rd, decide_eq_false_iff_not]
    have hzero := rf_wf_same A.sysPwrStat 2 0 0 d (by decide)
    rw [rf] at hzero
    omega
  · rw [rf, h.rd]
    exact rf_wf_other (a := A.sysPwrStat) 0 d (by decide) (by decide)

/-- Settles O33: the monitors by induction over the failing clocks, each request through the one equation of the write of
SYS_PWR_CTRL. -/
theorem powerRequests : Obligations.PowerRequests := by
  intro s hp
  refine ⟨fun out stopped => ⟨fun hbad => ?_, fun hbad hu => ?_⟩, fun p hs hen => ⟨fun hr => ?_, fun hr => ?_⟩, ?_, ?_⟩
  · rw [exec_clockMonitorWindow out stopped hp, hbad, failingClocks_zero]
    rfl
  · obtain ⟨t, hexec, hclk, hfuse⟩ := clockMonitorWindow_effect out stopped hp hu
    refine ⟨t, hexec, ⟨hclk.mem, hclk.img, hfuse⟩, hclk.sys, hclk.saf, fun i hi => ?_, hclk.seq, hclk.others⟩
    refine (hclk.bits i (by omega)).trans ?_
    simp only [mem_failingClocks hi, Bool.decide_eq_true]
    rfl
  · have hrun : (inService s.dev && rb (A.ethCtrl p) 15 s.dev && !ethRgmii p s.dev) = true := by simp [inService, hs, hen, hr]
    refine ⟨_, exec_lanePllLock p s, ?_⟩
    rw [when_of _ _ hrun]
    exact ⟨tabGet_tabSet_same _ _ _ _, modEth_frame _ _ _, fun q hq => getEth_modEth_ne _ _ hq⟩
  · rw [exec_lanePllLock, when_of_not _ _ (by simp [hr])]
  · intro m hd q hq
    simp only [List.mem_cons, List.not_mem_nil, or_false] at hq
    rcases hq with rfl | rfl | rfl | rfl
    · exact requests_denied (v := word 0x0C1E0001) (r := 1) hp hd rfl ⟨rfl, rfl, rfl, by decide⟩
    · exact requests_denied (v := word 0x0C1E0002) (r := 2) hp hd rfl ⟨rfl, rfl, rfl, by decide⟩
    · exact requests_denied (v := word 0x0C1E0003) (r := 3) hp hd rfl ⟨rfl, rfl, rfl, by decide⟩
    · exact requests_denied (v := word 0x0C1E0004) (r := 4) hp hd rfl ⟨rfl, rfl, rfl, by decide⟩
  · intro m hm hs hb
    have hpow := onPow_of_powered (s := s)
    have hreq {v : Word} {r : Nat} (h : PowerWord v r) := writePwrCtrl_in_service ((powerMaster_iff m).mpr hm) h hs hb
    have hentry (off : Bool) := startEntry_effect off (pwrCtrlHeld s.dev)
    rw [entryWaits_pwrCtrlHeld] at hentry
    refine ⟨fun hdz hl => ⟨?_, ?_⟩, fun hdz => ⟨?_, ?_⟩, ?_, ?_⟩
    · refine ⟨_, hpow _ hp, ?_⟩
      rw [hreq (r := 2) ⟨rfl, rfl, rfl, by decide⟩, if_neg (by decide), if_pos rfl, hdz]
      obtain ⟨hmem, himg, hrest⟩ := requestDoze_effect hl
      exact ⟨⟨hmem, himg, rfl⟩, hrest⟩
    · refine ⟨_, hpow _ hp, ?_⟩
      rw [hreq (r := 1) ⟨rfl, rfl, rfl, by decide⟩, if_pos rfl, hdz]
      exact ⟨⟨rfl, rfl, rfl⟩, rfl, fun a => rd_pwrCtrlHeld a s.dev⟩
    · refine ⟨_, hpow _ hp, ?_⟩
      rw [hreq (r := 1) ⟨rfl, rfl, rfl, by decide⟩, if_pos rfl, hdz]
      obtain ⟨hmem, himg, hrun, hsys, hlast⟩ := leaveDoze_effect (pwrCtrlHeld s.dev)
      exact ⟨⟨hmem, himg, rfl⟩, hrun, hsys, hlast.trans (rf_pwrCtrlHeld _ _ _ _)⟩
    · refine ⟨_, hpow _ hp, ?_⟩
      rw [hreq (r := 2) ⟨rfl, rfl, rfl, by decide⟩, if_neg (by decide), if_pos rfl, hdz]
      exact ⟨⟨rfl, rfl, rfl⟩, rfl, fun a => rd_pwrCtrlHeld a s.dev⟩
    · refine ⟨_, hpow _ hp, ?_⟩
      rw [hreq (r := 3) ⟨rfl, rfl, rfl, by decide⟩]
      obtain ⟨hbusy, hmem, hmode, hrest⟩ := hentry false
      exact ⟨hbusy, hmem, hmode.trans hs, hrest⟩
    · refine ⟨_, hpow _ hp, ?_⟩
      rw [hreq (r := 4) ⟨rfl, rfl, rfl, by decide⟩]
      obtain ⟨hbusy, hmem, hmode, hrest⟩ := hentry true
      exact ⟨hbusy, hmem, hmode.trans hs, hrest⟩

end Sys2Proof.Machine
end

section
/-! RETAIN and OFF: what entering them stops, the wakes, and the way back, and the obligation about them (R91-R95, R234, R245, R490). -/

namespace Sys2Proof.Machine

/-! ### What leaves time, Dispatch and the power transition alone -/

/-- Nothing between d and e has touched the cycle count, the device-wide state, Dispatch and the time bases. -/
structure KeepsClock (d e : Dev) : Prop where
  now : e.now = d.now
  sys : e.sys = d.sys
  dsp : e.dsp = d.dsp
  tb : e.ntm.tb = d.ntm.tb
  counting : e.ntm.counting = d.ntm.counting

namespace KeepsClock

variable {d e f : Dev}

theorem refl (d : Dev) : KeepsClock d d := ⟨rfl, rfl, rfl, rfl, rfl⟩

theorem trans (h : KeepsClock d e) (g : KeepsClock e f) : KeepsClock d f :=
  ⟨g.now.trans h.now, g.sys.trans h.sys, g.dsp.trans h.dsp, g.tb.trans h.tb, g.counting.trans h.counting⟩

theorem ofRegs (h : SameButRegs d e) : KeepsClock d e :=
  ⟨h.now, h.sys, h.dsp, congrArg (·.ntm.tb) h, congrArg (·.ntm.counting) h⟩

theorem foldl {α : Type} {l : List α} {op : Dev → α → Dev} (h : KeepsClock d e) (hop : ∀ x d, KeepsClock d (op d x)) :
    KeepsClock d (l.foldl op e) :=
  List.foldlRecOn l op h fun e he x _ => he.trans (hop x e)

theorem whenever {c : Bool} {op : Dev → Dev} (h : KeepsClock d e) (hop : ∀ d, KeepsClock d (op d)) : KeepsClock d (when c op e) := by
  cases c
  · exact h
  · exact h.trans (hop e)

theorem wr (h : KeepsClock d e) (a : Nat) (v : Word) : KeepsClock d (wr a v e) := h.trans (.ofRegs (sameButRegs_wr a v e))
theorem wf (h : KeepsClock d e) (a hi lo v : Nat) : KeepsClock d (wf a hi lo v e) := h.wr _ _
theorem wb (h : KeepsClock d e) (a i : Nat) (b : Bool) : KeepsClock d (wb a i b e) := h.wr _ _
theorem incr (h : KeepsClock d e) (a hi lo : Nat) : KeepsClock d (incr a hi lo e) := h.wr _ _
theorem incrSat (h : KeepsClock d e) (a hi lo : Nat) : KeepsClock d (incrSat a hi lo e) := h.wr _ _
theorem raise (h : KeepsClock d e) (a i : Nat) : KeepsClock d (raise a i e) := h.trans (.ofRegs (sameButRegs_raise a i e))
theorem raiseIf (h : KeepsClock d e) (c : Bool) (a i : Nat) : KeepsClock d (raiseIf c a i e) :=
  h.trans (.ofRegs (sameButRegs_raiseIf c a i e))

/-! #### The switch and its ports -/

theorem showSwc (h : KeepsClock d e) : KeepsClock d (showSwc e) :=
  ((h.wf A.swcPool 13 0 _).whenever fun d => (refl d).wf _ _ _ _).foldl fun q d =>
    ((refl d).wf (A.swcPort q 0x14) 13 0 _).whenever fun d => (refl d).wf _ _ _ _

theorem modSwc (h : KeepsClock d e) (g : Swc → Swc) : KeepsClock d (modSwc g e) := ⟨h.now, h.sys, h.dsp, h.tb, h.counting⟩

theorem putQueues (h : KeepsClock d e) (l : List Copy) : KeepsClock d (putQueues l e) := (h.modSwc _).showSwc

theorem countEth (h : KeepsClock d e) (p o : Nat) : KeepsClock d (countEth p o e) := h.incr _ _ _

theorem abortTransmit (h : KeepsClock d e) (p : Nat) : KeepsClock d (abortTransmit p e) :=
  h.foldl fun _ d => ((refl d).countEth p 0x3C).putQueues _

theorem tsqPut (h : KeepsClock d e) (p : Nat) (l : List Stamp) : KeepsClock d (tsqPut p l e) :=
  .wf (e := { e with ntm := { e.ntm with tsq := tabSet (fun _ => []) e.ntm.tsq p l } })
    ⟨h.now, h.sys, h.dsp, h.tb, h.counting⟩ _ _ _ _

theorem tsqPush (h : KeepsClock d e) (p : Nat) (x : Stamp) : KeepsClock d (tsqPush p x e) := by
  unfold Machine.tsqPush
  split
  · exact h.tsqPut p _
  · exact (h.raise _ _).incr _ _ _

theorem discRecord (h : KeepsClock d e) (c : Copy) : KeepsClock d (discRecord c e) := by
  unfold Machine.discRecord
  split
  · exact h.tsqPush _ _
  · exact h

theorem modEth (h : KeepsClock d e) (p : Nat) (g : Eth → Eth) : KeepsClock d (modEth p g e) :=
  ⟨h.now, h.sys, h.dsp, h.tb, h.counting⟩

theorem lanesDown (h : KeepsClock d e) : KeepsClock d (lanesDown e) :=
  h.foldl fun p d => by
    dsimp only
    split
    · exact ((((refl d).abortTransmit p).raiseIf _ _ _).modEth p _).wr _ _
    · exact refl d

/-! #### CAN and Dispatch's pool -/

theorem modCan (h : KeepsClock d e) (n : Nat) (g : Can → Can) : KeepsClock d (modCan n g e) :=
  ⟨h.now, h.sys, h.dsp, h.tb, h.counting⟩

theorem putFifo (h : KeepsClock d e) (n : Nat) (l : List CanTx) : KeepsClock d (putFifo n l e) :=
  ((h.modCan n _).wf _ _ _ _).whenever fun d => (refl d).wf _ _ _ _

theorem showCa (h : KeepsClock d e) (n : Nat) : KeepsClock d (showCa n e) := h.wr _ _

theorem canTwilight (h : KeepsClock d e) (n : Nat) : KeepsClock d (canTwilight n e) := h.wf _ _ _ _

theorem poolLevel (h : KeepsClock d e) : KeepsClock d (poolLevel e) :=
  (h.wf A.schPoolLvl 12 0 _).whenever fun d => (refl d).wf _ _ _ _

/-! #### Banks and the Vault -/

theorem bankZero (h : KeepsClock d e) (b : Nat) : KeepsClock d (bankZero b e) := by
  refine h.trans ?_
  unfold Machine.bankZero
  dsimp only
  split
  · exact ⟨rfl, rfl, rfl, rfl, rfl⟩
  · split
    · exact refl e
    · exact ⟨rfl, rfl, rfl, rfl, rfl⟩

theorem banksRetain (h : KeepsClock d e) : KeepsClock d (banksRetain e) :=
  h.foldl fun b d => by
    dsimp only
    split
    · exact (((refl d).bankZero b).wb _ _ _).whenever fun d => (refl d).wr _ _
    · exact (refl d).wb _ _ _

theorem startWipe (h : KeepsClock d e) (cause : Nat) : KeepsClock d (startWipe cause e) := by
  unfold Machine.startWipe
  split
  · exact h
  · exact (h.wf _ _ _ _).wb _ _ _

end KeepsClock

/-! ### The end of an entry (R92) -/

/-- The units have stopped: Dispatch is empty and the time bases stand. -/
structure Stopped (d e : Dev) : Prop where
  now : e.now = d.now
  sys : e.sys = d.sys
  tb : e.ntm.tb = d.ntm.tb
  counting : e.ntm.counting = false
  ready : e.dsp.ready = []
  insvc : e.dsp.insvc = []
  orphans : e.dsp.orphans = []

theorem Stopped.keeps {d e f : Dev} (h : Stopped d e) (g : KeepsClock e f) : Stopped d f where
  now := g.now.trans h.now
  sys := g.sys.trans h.sys
  tb := g.tb.trans h.tb
  counting := g.counting.trans h.counting
  ready := (congrArg (·.ready) g.dsp).trans h.ready
  insvc := (congrArg (·.insvc) g.dsp).trans h.insvc
  orphans := (congrArg (·.orphans) g.dsp).trans h.orphans

/-- Everything that the switch and the CAN controllers hold is lost, and the time bases stop (R92). -/
def unitsCleared (d : Dev) : Dev :=
  { d with canObjs := [], canCa := [], ntm := { d.ntm with counting := false },
           swc := { d.swc with inbound := [], cutIn := [], queues := [], submits := [], held := [] } }

/-- The device before its units are cleared. -/
def unitsDrained (d : Dev) : Dev :=
  (List.range 4).foldl (fun d n => d |> canTwilight n |> putFifo n [] |> modCan n (fun c =>
    { c with events := [], ca := [] }) |> showCa n)
  (((lanesDown d).swc.queues.filter fun c => !c.started).foldl (fun d c => discRecord c d) (lanesDown d))

theorem unitsStop_eq (d : Dev) : unitsStop d = dispatchEmpty (showSwc (unitsCleared (unitsDrained d))) := rfl

theorem keepsClock_unitsDrained (d : Dev) : KeepsClock d (unitsDrained d) :=
  (((KeepsClock.refl d).lanesDown).foldl fun c d => (KeepsClock.refl d).discRecord c).foldl fun n d =>
    ((((KeepsClock.refl d).canTwilight n).putFifo n []).modCan n _).showCa n

/-- Dispatch is emptied (R234) on a device whose time bases stand. -/
theorem stopped_dispatchEmpty {d e : Dev} (hnow : e.now = d.now) (hsys : e.sys = d.sys) (htb : e.ntm.tb = d.ntm.tb)
    (hstand : e.ntm.counting = false) : Stopped d (dispatchEmpty e) :=
  Stopped.keeps (e := modDsp (fun q => { q with
    arrival := [], waiting := [], ready := [], insvc := [], orphans := [], orphaned := [], used := [] }) e)
    ⟨hnow, hsys, htb, hstand, rfl, rfl, rfl⟩ (KeepsClock.refl _).poolLevel

theorem stopped_of_keepsClock {d e : Dev} (h : KeepsClock d e) : Stopped d (dispatchEmpty (showSwc (unitsCleared e))) := by
  have hshow := (KeepsClock.refl (unitsCleared e)).showSwc
  exact stopped_dispatchEmpty (hshow.now.trans h.now) (hshow.sys.trans h.sys) (hshow.tb.trans h.tb) hshow.counting

theorem stopped_unitsStop (d : Dev) : Stopped d (unitsStop d) := by
  rw [unitsStop_eq]
  exact stopped_of_keepsClock (keepsClock_unitsDrained d)

/-- A transition has ended in state m, with the wake that arrived meanwhile. -/
structure AtRest (d e : Dev) (m : Mode) (w : Option Nat) : Prop where
  mode : e.sys.mode = m
  trans : e.sys.trans = none
  wake : e.sys.retWake = w
  entry : e.sys.entryTime = d.now
  busy : rb A.sysPwrStat 4 e = false
  ready : e.dsp.ready = []
  insvc : e.dsp.insvc = []
  orphans : e.dsp.orphans = []
  counting : e.ntm.counting = false
  tb : e.ntm.tb = d.ntm.tb

/-- The end of a transition on a device whose units have stopped: BUSY and STATE are 0. -/
theorem Stopped.atRest {d e : Dev} {x : Trans} (h : Stopped d e) (m : Mode) (hx : d.sys.trans = some x) :
    AtRest d (wf A.sysPwrStat 2 0 0 (entryEnd m e)) m x.wake := by
  refine ⟨rfl, rfl, ?_, h.now, ?_, h.ready, h.insvc, h.orphans, h.counting, h.tb⟩
  · show e.sys.trans.bind (·.wake) = x.wake
    rw [h.sys, hx]
    rfl
  · rw [rb_wf_same _ _ (by decide) (by decide)]
    exact rb_wb_same A.sysPwrStat 4 false _ (by decide)

theorem retainEntry_effect {d : Dev} {e : Bool} {w : Option Nat} (h : d.sys.trans = some ⟨false, true, e, w⟩) :
    AtRest d (retainEntry d) .retain w ∧ rf A.sysPwrStat 2 0 (retainEntry d) = 0 := by
  have hready : ¬((!entryReady false d) = true) := by simp [entryReady, h]
  have hstop := (stopped_unitsStop d).keeps
    (((KeepsClock.refl _).banksRetain).whenever (c := !rb A.sysPwrCfg 0 d) fun d =>
      (KeepsClock.refl d).startWipe 3)
  rw [retainEntry, if_neg hready]
  exact ⟨hstop.atRest .retain h, rf_wf_same A.sysPwrStat 2 0 0 _ (by decide)⟩

/-- A bank that becomes inaccessible loses its ready bit, and every other bank keeps its own. -/
theorem rdyBit_bankUnready {b c : Nat} (d : Dev) : rdyBit b (bankUnready c d) = (rdyBit b d && decide (b ≠ c)) := by
  by_cases hbc : b = c
  · subst hbc
    rw [rdyBit, bankUnready, rb_wb_same (A.sysBankRdy (b / 32)) (b % 32) false d (by omega)]
    simp
  · rw [decide_eq_true hbc, Bool.and_true, rdyBit, rdyBit, bankUnready]
    by_cases hreg : b / 32 = c / 32
    · rw [hreg]
      exact rb_wb_other (i := b % 32) (j := c % 32) (A.sysBankRdy (c / 32)) false d (by omega) (by omega)
    · rw [rb, rd_wb_ne _ _ _ (by unfold A.sysBankRdy; omega), rb]

theorem rdyBit_bankUnready_foldl (l : List Nat) (b : Nat) (d : Dev) :
    rdyBit b (l.foldl (fun d b => bankUnready b d) d) = (rdyBit b d && decide (b ∉ l)) := by
  induction l generalizing d with
  | nil => simp
  | cons c l ih =>
    rw [List.foldl_cons, ih, rdyBit_bankUnready, Bool.and_assoc]
    simp

/-- Banks that become inaccessible leave all but their bits. -/
theorem sameButRegs_bankUnready_foldl (l : List Nat) (d : Dev) : SameButRegs d (l.foldl (fun d b => bankUnready b d) d) :=
  List.foldlRecOn (motive := SameButRegs d) l _ rfl fun _ h _ _ => h.trans (sameButRegs_wr _ _ _)

theorem rd_bankUnready_foldl {a : Nat} (l : List Nat) (d : Dev) (ha : ∀ b, a ≠ A.sysBankRdy (b / 32)) :
    rd a (l.foldl (fun d b => bankUnready b d) d) = rd a d :=
  List.foldlRecOn (motive := fun e => rd a e = rd a d) l _ rfl fun _ h b _ => (rd_wb_ne _ _ _ (ha b)).trans h

/-- No bank has power: their contents are lost (R91). -/
def banksLost (d : Dev) : Dev :=
  { twinVectorsClear d with mem := [], badPar := [], img := { (twinVectorsClear d).img with pages := [] } }

theorem AtRest.unpowered {d e : Dev} {m : Mode} {w : Option Nat} (h : AtRest d e m w) (l : List Nat) :
    AtRest d (l.foldl (fun d b => bankUnready b d) (banksLost e)) m w := by
  have hsame := sameButRegs_bankUnready_foldl l (banksLost e)
  have hstat := rd_bankUnready_foldl (a := A.sysPwrStat) l (banksLost e) fun b => by
    unfold A.sysPwrStat A.sysBankRdy
    omega
  have hkeep := KeepsClock.ofRegs hsame
  exact ⟨(congrArg (·.mode) hkeep.sys).trans h.mode, (congrArg (·.trans) hkeep.sys).trans h.trans,
    (congrArg (·.retWake) hkeep.sys).trans h.wake, (congrArg (·.entryTime) hkeep.sys).trans h.entry,
    (congrArg (bit · 4) hstat).trans h.busy, (congrArg (·.ready) hkeep.dsp).trans h.ready,
    (congrArg (·.insvc) hkeep.dsp).trans h.insvc, (congrArg (·.orphans) hkeep.dsp).trans h.orphans,
    hkeep.counting.trans h.counting, hkeep.tb.trans h.tb⟩

theorem offEntry_eq {d : Dev} (h : entryReady true d = true) : offEntry d = (List.range 59).foldl (fun d b => bankUnready b d)
    (banksLost (wf A.sysPwrStat 2 0 0 (entryEnd .off (unitsStop d)))) := by
  rw [offEntry, if_neg (by rw [h]; decide)]
  rfl

theorem offEntry_effect {d : Dev} {e : Bool} {w : Option Nat} (h : d.sys.trans = some ⟨true, true, e, w⟩) :
    AtRest d (offEntry d) .off w ∧ (offEntry d).mem = [] ∧ ∀ b < 59, rdyBit b (offEntry d) = false := by
  rw [offEntry_eq (by simp [entryReady, h])]
  refine ⟨((stopped_unitsStop d).atRest .off h).unpowered _, (sameButRegs_bankUnready_foldl _ _).mem, fun b hb => ?_⟩
  rw [rdyBit_bankUnready_foldl, decide_eq_false (not_not_intro (List.mem_range.mpr hb)), Bool.and_false]

/-! ### Wakes (R94, R95) -/

/-- A device that can wake at once. -/
def Dozing (d : Dev) : Prop := d.sys.trans = none ∧ d.sys.mode = .service ∧ inDoze d = true

theorem sameButRegs_wf (a hi lo v : Nat) (d : Dev) : SameButRegs d (wf a hi lo v d) := sameButRegs_wr a _ d

theorem wakeBy_dozing {src : Nat} {d : Dev} (h : Dozing d) (hs : src = 1 ∨ src = 2) :
    inDoze (wakeBy src d) = false ∧ rf A.sysPwrStat 14 12 (wakeBy src d) = src ∧ (wakeBy src d).mem = d.mem ∧
      (wakeBy src d).sys = d.sys := by
  obtain ⟨htrans, hmode, hdoze⟩ := h
  have heq : wakeBy src d = wf A.sysPwrStat 14 12 src (leaveDoze d) := by
    rcases hs with rfl | rfl <;> simp [wakeBy, htrans, hmode, hdoze]
  obtain ⟨hmem, -, hrun, hsys, -⟩ := leaveDoze_effect d
  rw [heq]
  have hsame := sameButRegs_wf A.sysPwrStat 14 12 src (leaveDoze d)
  refine ⟨?_, ?_, hsame.mem.trans hmem, hsame.sys.trans hsys⟩
  · rw [inDoze, rf_wf_other (a := A.sysPwrStat) src (leaveDoze d) (by decide) (by decide)]
    exact hrun
  · rw [rf_wf_same A.sysPwrStat 14 12 src (leaveDoze d) (by decide)]
    omega

/-- In RETAIN, and but for Meridian activity in OFF, the first wake is kept. -/
theorem wakeBy_asleep {src : Nat} {d : Dev} (ht : d.sys.trans = none) (hw : d.sys.retWake = none)
    (hm : d.sys.mode = .retain ∨ d.sys.mode = .off ∧ src ≠ 3) :
    wakeBy src d = { d with sys := { d.sys with retWake := some src } } := by
  rcases hm with hm | ⟨hm, hs⟩
  · simp [wakeBy, ht, hw, hm]
  · simp [wakeBy, ht, hw, hm, hs]

/-- During an entry the first wake waits for the end; Meridian activity does not wake from OFF. -/
theorem wakeBy_entering {src : Nat} {x : Trans} {d : Dev} (ht : d.sys.trans = some x) (hw : x.wake = none)
    (hs : x.off = false ∨ src ≠ 3) :
    wakeBy src d = { d with sys := { d.sys with trans := some { x with wake := some src } } } := by
  rcases hs with hs | hs <;> simp [wakeBy, ht, hw, hs]

/-- Meridian activity wakes neither from RUN and DOZE nor from OFF. -/
theorem wakeBy_meridian_awake {d : Dev} (ht : d.sys.trans = none) (hm : d.sys.mode = .service ∨ d.sys.mode = .off) :
    wakeBy 3 d = d := by
  rcases hm with hm | hm <;> simp [wakeBy, ht, hm]

theorem exec_wakePin {s : State} (h : rb A.sysWakeEn 0 s.dev = true) :
    exec .wakePin s = .next { s with dev := wakeBy 1 s.dev } :=
  onDev_eq_next (when_of _ _ h)

theorem exec_meridianActivityWake {s : State} (h : rb A.sysWakeEn 2 s.dev = true) :
    exec .meridianActivityWake s = .next { s with dev := wakeBy 3 s.dev } :=
  onDev_eq_next (when_of _ _ h)

theorem wakeTimer_le (d : Dev) : wakeTimer d ≤ (rd A.sysWakeTmr d).toNat * 400000 := by
  unfold wakeTimer
  dsimp only
  split <;> omega

theorem exec_wakeTimer {s : State} (h : rb A.sysWakeEn 1 s.dev = true) (hms : rd A.sysWakeTmr s.dev ≠ 0)
    (ht : s.dev.sys.trans = none) (hnow : s.dev.sys.entryTime + (rd A.sysWakeTmr s.dev).toNat * 400000 ≤ s.dev.now) :
    exec .wakeTimer s = .next { s with dev := wakeBy 2 s.dev } := by
  have hdue : s.dev.sys.entryTime + wakeTimer s.dev ≤ s.dev.now := by
    have := wakeTimer_le s.dev
    omega
  exact onDev_eq_next (when_of _ _ (by rw [h, decide_eq_true hms, ht, decide_eq_true hdue]; rfl))

/-! ### The way back (R93, R490) -/

theorem wipeDone_sys (d : Dev) : (wipeDone d).sys = d.sys := by
  unfold wipeDone
  dsimp only
  split
  · rfl
  · rfl

/-- The way back begins once a wake is kept and no sweep of it runs. -/
theorem retainWake_begins {w : Nat} {d : Dev} (hm : d.sys.mode = .retain) (hw : d.sys.retWake = some w) (hc : crcPhase d ≠ 3) :
    (decide (d.sys.mode ≠ .retain) || d.sys.retWake.isNone || decide (rf A.almCrcStat 5 4 d = 3)) = false := by
  rw [crcPhase] at hc
  rw [hm, hw, decide_eq_false hc]
  rfl

theorem retainWake_sweep {w : Nat} {d : Dev} (hm : d.sys.mode = .retain) (hw : d.sys.retWake = some w)
    (ht : rb A.secTampLog 31 d = false) (hc : crcPhase d ≠ 3) :
    crcPhase (retainWake d) = 3 ∧ (retainWake d).sys = d.sys ∧ ∀ b < 59, rdyBit b (retainWake d) = true := by
  let swept := wf A.almCrcStat 5 4 3 (wr (A.sysBankRdy 1) 0x07FFFFFF (wr (A.sysBankRdy 0) 0xFFFFFFFF (wipeDone d)))
  have heq : retainWake d = { swept with scrub := [] } := by
    rw [retainWake, if_neg (ne_true_of_eq_false (retainWake_begins hm hw hc)), if_neg (ne_true_of_eq_false ht)]
  have hrd (a : Nat) : rd a (retainWake d) = rd a swept := by rw [heq]; rfl
  refine ⟨?_, ?_, fun b hb => ?_⟩
  · rw [crcPhase, rf, hrd]
    exact crcPhase_wf _ (by decide)
  · rw [heq]
    exact wipeDone_sys d
  · have hbits : ∀ i < 32, bit (0xFFFFFFFF : Word) i = true := by decide
    have hlast : ∀ i < 27, bit (0x07FFFFFF : Word) i = true := by decide
    have hfirst : rd (A.sysBankRdy 0) swept = 0xFFFFFFFF := by
      rw [rd_wf_ne _ _ _ _ (by decide), rd_wr_ne _ _ (by decide), rd_wr_same]
    have hsecond : rd (A.sysBankRdy 1) swept = 0x07FFFFFF := by
      rw [rd_wf_ne _ _ _ _ (by decide), rd_wr_same]
    rw [rdyBit, rb, hrd]
    rcases (show b / 32 = 0 ∨ b / 32 = 1 by omega) with hb' | hb'
    · rw [hb', hfirst]
      exact hbits _ (by omega)
    · rw [hb', hsecond]
      exact hlast _ (by omega)

/-! #### A tamper trip on the way back (R490) -/

/-- The mailbox words of a list, copied from d. -/
def mailboxesCopied (d : Dev) (l : List Nat) (r : Dev) : Dev := l.foldl (fun r n => wr (A.mbxData n) (rd (A.mbxData n) d) r) r

theorem sameButRegs_mailboxesCopied (d : Dev) (l : List Nat) (r : Dev) : SameButRegs r (mailboxesCopied d l r) :=
  List.foldlRecOn (motive := SameButRegs r) l _ rfl fun _ h _ _ => h.trans (sameButRegs_wr _ _ _)

theorem rd_mailboxesCopied (d : Dev) (l : List Nat) (r : Dev) (n : Nat) :
    rd (A.mbxData n) (mailboxesCopied d l r) = if n ∈ l then rd (A.mbxData n) d else rd (A.mbxData n) r := by
  induction l generalizing r with
  | nil => rfl
  | cons k l ih =>
    rw [mailboxesCopied, List.foldl_cons, ← mailboxesCopied, ih]
    by_cases hk : n = k
    · subst hk
      simp [rd_wr_same]
    · rw [rd_wr_ne _ _ (by unfold A.mbxData; omega)]
      simp [hk]

theorem keepMailboxes_eq (d r : Dev) : keepMailboxes d r = wr (A.mbxFull 1) (rd (A.mbxFull 1) d)
    (wr (A.mbxFull 0) (rd (A.mbxFull 0) d) (mailboxesCopied d (List.range 64) { r with mbxLast := d.mbxLast })) := rfl

theorem rd_keepMailboxes {n : Nat} (d r : Dev) (hn : n < 64) : rd (A.mbxData n) (keepMailboxes d r) = rd (A.mbxData n) d := by
  rw [keepMailboxes_eq, rd_wr_ne _ _ (by unfold A.mbxData A.mbxFull; omega), rd_wr_ne _ _ (by unfold A.mbxData A.mbxFull; omega),
    rd_mailboxesCopied, if_pos (List.mem_range.mpr hn)]

theorem keepMailboxes_frame (d r : Dev) : (keepMailboxes d r).sys = r.sys ∧ (keepMailboxes d r).boot = r.boot := by
  have h := sameButRegs_mailboxesCopied d (List.range 64) { r with mbxLast := d.mbxLast }
  exact ⟨h.sys, h.boot⟩

/-- The reset that a pending tamper trip turns the wake into: the log and the registers of the always-on domain stay. -/
def tamperReset (d : Dev) : Dev :=
  let r := resetAll (wipeDone d)
  { r with sys := { Sys.reset with log := d.sys.log, logNext := d.sys.logNext }
           sec := { r.sec with defunctDue := d.sec.defunctDue } }
    |> wr A.sysRstCause (rd A.sysRstCause d) |> wr A.secTampLog (rd A.secTampLog d)

theorem retainWake_tamper {w : Nat} {d : Dev} (hm : d.sys.mode = .retain) (hw : d.sys.retWake = some w)
    (ht : rb A.secTampLog 31 d = true) (hc : crcPhase d ≠ 3) :
    retainWake d = tamperPending (keepMailboxes d (tamperReset d)) := by
  rw [retainWake, if_neg (ne_true_of_eq_false (retainWake_begins hm hw hc)), if_pos ht]
  rfl

theorem tamperReset_start (d : Dev) :
    (tamperReset d).sys.mode = .startup ∧ (tamperReset d).boot.step = .pll ∧ (tamperReset d).sys.log = d.sys.log := ⟨rfl, rfl, rfl⟩

theorem tamperPending_effect (d : Dev) :
    (tamperPending d).sys.mode = d.sys.mode ∧ (tamperPending d).boot = d.boot ∧ (tamperPending d).sys.escalated = true ∧
      (tamperPending d).sys.twCode = 0x4B ∧ (tamperPending d).sys.log = d.sys.log ∧ ∀ a, rd a (tamperPending d) = rd a d :=
  ⟨rfl, rfl, rfl, rfl, rfl, fun _ => rfl⟩

theorem retainWake_tamper_effect {w : Nat} {d : Dev} (hm : d.sys.mode = .retain) (hw : d.sys.retWake = some w)
    (ht : rb A.secTampLog 31 d = true) (hc : crcPhase d ≠ 3) :
    let t := retainWake d
    t.sys.mode = .startup ∧ t.boot.step = .pll ∧ t.sys.escalated = true ∧ t.sys.twCode = 0x4B ∧ t.sys.log = d.sys.log ∧
      ∀ n < 64, rd (A.mbxData n) t = rd (A.mbxData n) d := by
  rw [retainWake_tamper hm hw ht hc]
  obtain ⟨hstart, hpll, hlog⟩ := tamperReset_start d
  obtain ⟨hsys, hboot⟩ := keepMailboxes_frame d (tamperReset d)
  obtain ⟨hmode, hstep, hesc, hcode, hlog', hrd⟩ := tamperPending_effect (keepMailboxes d (tamperReset d))
  refine ⟨?_, ?_, hesc, hcode, ?_, fun n hn => (hrd _).trans (rd_keepMailboxes d _ hn)⟩
  · rw [hmode, hsys, hstart]
  · rw [hstep, hboot, hpll]
  · rw [hlog', hsys, hlog]

/-! #### The wake from OFF (R91) -/

theorem wakeFromOff_eq {w : Nat} {d : Dev} (hm : d.sys.mode = .off) (hw : d.sys.retWake = some w) :
    ∃ sys sec, wakeFromOff d = { deviceReset 6 0 d with sys := sys, sec := sec } ∧
      sys.mode = (deviceReset 6 0 d).sys.mode ∧ sys.log = (deviceReset 6 0 d).sys.log := by
  simp only [wakeFromOff, hw, hm, ne_eq, not_true_eq_false, if_false]
  split
  · exact ⟨_, _, rfl, rfl, rfl⟩
  · exact ⟨_, _, rfl, rfl, rfl⟩

/-- CAUSE is the low part of the cause byte. -/
theorem fld_low {w : Word} {c : Nat} (h : fld w 7 0 = c) : fld w 2 0 = c % 8 := by
  rw [← h]
  simp only [fld, nfld, Nat.shiftRight_eq_div_pow]
  omega

/-- Settles O34: what the units' stop leaves alone carries the end of an entry; the wakes are a case analysis on the power state; the
wake from OFF is a device reset. -/
theorem retainAndOff : Obligations.RetainAndOff := by
  intro s
  refine ⟨fun e w h => ?_, fun e w h => ?_, fun hen => ⟨fun hd => ?_, fun ha hm => ?_, fun x hx hw => ?_⟩,
    fun hen hms hnow => ⟨fun hd => ?_, fun ha hm => ?_⟩, fun hen => ⟨fun ha hm => ?_, fun x hx hw hoff => ?_, fun ht hm => ?_⟩,
    fun hen => ?_, fun w hm hw ht hc => ?_, fun w hm hw ht hc => ?_, fun w hr hm hw => ?_⟩
  · obtain ⟨hrest, hstate⟩ := retainEntry_effect h
    exact ⟨{ s with dev := retainEntry s.dev }, rfl, ⟨hrest.mode, hrest.trans, hrest.wake, hrest.entry, hrest.busy, rfl, hrest.ready,
      hrest.insvc, hrest.orphans, hrest.counting, hrest.tb⟩, hstate⟩
  · obtain ⟨hrest, hmem, hbanks⟩ := offEntry_effect h
    exact ⟨{ s with dev := offEntry s.dev }, rfl, ⟨hrest.mode, hrest.trans, hrest.wake, hrest.entry, hrest.busy, rfl, hrest.ready,
      hrest.insvc, hrest.orphans, hrest.counting, hrest.tb⟩, hmem, hbanks⟩
  · exact ⟨_, exec_wakePin hen, wakeBy_dozing hd (.inl rfl)⟩
  · rw [exec_wakePin hen, wakeBy_asleep ha.1 ha.2 (hm.imp_right fun hm => ⟨hm, by decide⟩)]
  · rw [exec_wakePin hen, wakeBy_entering hx hw (.inr (by decide))]
  · exact ⟨_, exec_wakeTimer hen hms hd.1 hnow, wakeBy_dozing hd (.inr rfl)⟩
  · rw [exec_wakeTimer hen hms ha.1 hnow, wakeBy_asleep ha.1 ha.2 (hm.imp_right fun hm => ⟨hm, by decide⟩)]
  · rw [exec_meridianActivityWake hen, wakeBy_asleep ha.1 ha.2 (.inl hm)]
  · rw [exec_meridianActivityWake hen, wakeBy_entering hx hw (.inl hoff)]
  · rw [exec_meridianActivityWake hen, wakeBy_meridian_awake ht hm]
  · exact onDev_eq_next (when_of_not _ _ hen)
  · exact ⟨_, rfl, retainWake_sweep hm hw ht hc⟩
  · exact ⟨_, rfl, retainWake_tamper_effect hm hw ht hc⟩
  · obtain ⟨sys, sec, heq, hmode, hlog⟩ := wakeFromOff_eq hm hw
    obtain ⟨hstart, -, hkept, hfuse, hcause, -, hcount, -⟩ :=
      began_deviceReset_first (s := s) (cause := 6) (esc := 0) (by decide) (by decide) hr
    refine ⟨{ s with dev := wakeFromOff s.dev }, rfl, ?_⟩
    dsimp only
    rw [heq]
    exact ⟨hmode.trans hstart, fld_low hcause, hlog.trans hkept, hcount, rfl⟩

end Sys2Proof.Machine
end

section
/-! A CORE cycle on an empty queue, and the obligation about it (R82, R252, R253, R256, R269). Only the cycle count's own step moves
it, so every other operation of the cycle keeps `now`. -/

namespace Sys2Proof.Machine

/-! ### What keeps the cycle count -/

/-- Nothing between d and e has moved the cycle count. -/
def KeepsNow (d e : Dev) : Prop := e.now = d.now

namespace KeepsNow

variable {d e f : Dev}

theorem refl (d : Dev) : KeepsNow d d := rfl

theorem trans (h : KeepsNow d e) (g : KeepsNow e f) : KeepsNow d f := Eq.trans g h

/-- An update of anything but the cycle count. -/
theorem upd (h : KeepsNow d e) (hn : f.now = e.now) : KeepsNow d f := hn.trans h

theorem clock (h : KeepsNow d e) (g : KeepsClock e f) : KeepsNow d f := h.upd g.now

theorem foldl {α : Type} {l : List α} {op : Dev → α → Dev} (h : KeepsNow d e) (hop : ∀ x d, KeepsNow d (op d x)) :
    KeepsNow d (l.foldl op e) :=
  List.foldlRecOn l op h fun e he x _ => he.trans (hop x e)

theorem whenever {c : Bool} {op : Dev → Dev} (h : KeepsNow d e) (hop : ∀ d, KeepsNow d (op d)) : KeepsNow d (when c op e) := by
  cases c
  · exact h
  · exact h.trans (hop e)

theorem wr (h : KeepsNow d e) (a : Nat) (v : Word) : KeepsNow d (wr a v e) := h
theorem wf (h : KeepsNow d e) (a hi lo v : Nat) : KeepsNow d (wf a hi lo v e) := h
theorem wb (h : KeepsNow d e) (a i : Nat) (b : Bool) : KeepsNow d (wb a i b e) := h
theorem incr (h : KeepsNow d e) (a hi lo : Nat) : KeepsNow d (incr a hi lo e) := h
theorem incrSat (h : KeepsNow d e) (a hi lo : Nat) : KeepsNow d (incrSat a hi lo e) := h
theorem raise (h : KeepsNow d e) (a i : Nat) : KeepsNow d (raise a i e) := h
theorem raiseIf (h : KeepsNow d e) (c : Bool) (a i : Nat) : KeepsNow d (raiseIf c a i e) := h.clock ((KeepsClock.refl e).raiseIf c a i)

/-! #### Reports, accesses and events -/

theorem report (h : KeepsNow d e) (code unit addr idx : Nat) : KeepsNow d (report code unit addr idx e) := by
  unfold Machine.report
  dsimp only
  split <;> split <;> exact h

theorem accEvent (h : KeepsNow d e) (m kind : Nat) (w : Bool) (a : Nat) : KeepsNow d (accEvent m kind w a e) :=
  ((h.raise _ _).wr _ _).wr _ _

theorem parityMismatch (h : KeepsNow d e) (scrub : Bool) (m a : Nat) : KeepsNow d (parityMismatch scrub m a e) := by
  unfold Machine.parityMismatch
  dsimp only
  split
  · exact (h.incrSat _ _ _).report _ _ _ _
  · exact (((h.wr _ _).wf _ _ _ _).incrSat _ _ _).report _ _ _ _

theorem useTab (h : KeepsNow d e) (unit a idx t i : Nat) : KeepsNow d (useTab unit a idx t i e) := by
  unfold Machine.useTab
  split
  · exact h.report _ _ _ _
  · exact h

theorem unblock (h : KeepsNow d e) (key : Nat) (x : Ctx) : KeepsNow d (unblock key x e) :=
  h.upd (congrArg (·.now) (schedule_frame (key / 16) (putCtx key { x.advance with state := .ready, wait := .none } e)))

theorem pendEvent (h : KeepsNow d e) (key mask : Nat) : KeepsNow d (pendEvent key mask e) := by
  unfold Machine.pendEvent
  dsimp only
  split
  · split
    · exact h.unblock _ _
    · exact h
  · exact h

theorem irqIf (h : KeepsNow d e) (c : Bool) : KeepsNow d (irqIf c e) := by
  cases c
  · exact h
  · exact h.pendEvent _ _

theorem msixRaise (h : KeepsNow d e) (v : Nat) : KeepsNow d (msixRaise v e) := by
  unfold Machine.msixRaise
  split
  · exact h.wb _ _ _
  · split <;> exact h

theorem storeLanded (h : KeepsNow d e) (key seq : Nat) : KeepsNow d (storeLanded key seq e) := by
  unfold Machine.storeLanded
  dsimp only
  split
  · split
    · exact h.unblock _ _
    · exact h
  · exact h

/-! #### The process image -/

theorem nonProducer (h : KeepsNow d e) : KeepsNow d (nonProducer e) :=
  KeepsNow.irqIf (h.upd (f := Machine.raise A.memImgStat 1 { e with img := { e.img with npw := true } }) rfl) _

theorem lateWrite (h : KeepsNow d e) : KeepsNow d (lateWrite e) :=
  KeepsNow.irqIf (h.upd (f := Machine.raise A.memImgStat 2
    { e with img := { e.img with late := true, lateCnt := e.img.lateCnt + 1 } }) rfl) _

theorem fillGran (h : KeepsNow d e) (m g : Nat) (mask : BitVec 8) : KeepsNow d (fillGran m g mask e).2 := by
  unfold Machine.fillGran
  dsimp only
  split
  · exact h.parityMismatch _ _ _
  · exact h

theorem openWrite (h : KeepsNow d e) (m g : Nat) (mask : BitVec 8) (v : DWord) : KeepsNow d (openWrite m g mask v e) := by
  unfold Machine.openWrite
  dsimp only
  split
  · exact h
  · exact h.fillGran m g mask

theorem imgWrite (h : KeepsNow d e) (m : Nat) (party : Option (Nat × Nat)) (g : Nat) (mask : BitVec 8) (v : DWord) (tag : Word)
    (det : Bool) : KeepsNow d (imgWrite m party g mask v tag det e) := by
  have htab := h.useTab 4 A.memImgIndData g 0 g
  unfold Machine.imgWrite
  dsimp only
  split
  · exact htab.nonProducer
  · split
    · exact htab.lateWrite
    · split <;> exact htab.openWrite m g mask v

theorem imgWriteBytes (h : KeepsNow d e) (m : Nat) (party : Option (Nat × Nat)) (a : Nat) (bs : List Byte) (tag : Word)
    (det : Bool) : KeepsNow d (imgWriteBytes m party a bs tag det e) :=
  h.foldl fun _ d => (refl d).imgWrite _ _ _ _ _ _ _

theorem slotWrite (h : KeepsNow d e) (s g : Nat) (bs : List Byte) : KeepsNow d (slotWrite s g bs e) :=
  h.foldl fun _ d => by
    dsimp only
    split
    · exact (refl d).accEvent _ _ _ _
    · exact (refl d).imgWriteBytes _ _ _ _ _ _

/-! #### Items -/

theorem modDsp (h : KeepsNow d e) (g : Dsp → Dsp) : KeepsNow d (modDsp g e) := h

theorem traceRecord (h : KeepsNow d e) (evt : Nat) (it : Item) (ctx wait : Nat) :
    KeepsNow d (traceRecord evt it ctx wait e) := by
  unfold Machine.traceRecord
  split
  · exact h
  · extract_lets
    split
    · exact (h.incrSat _ _ _).raise _ _
    · split
      · exact ((h.accEvent _ _ _ _).wb _ _ _).raise _ _
      · exact (h.upd (memPut_now _ _ _)).wr _ _

theorem putRing (h : KeepsNow d e) (r : Nat) (x : Ring) : KeepsNow d (putRing r x e) :=
  (KeepsNow.wf (e := { e with rings := tabSet ringDefault e.rings r x }) h _ _ _ _).whenever fun d => (refl d).wf _ _ _ _

theorem returnBuf (h : KeepsNow d e) (it : Item) : KeepsNow d (returnBuf it e) := by
  unfold Machine.returnBuf
  split
  · split <;> exact h
  · exact h.putRing _ _

theorem dropItem (h : KeepsNow d e) (it : Item) : KeepsNow d (dropItem it e) := by
  refine KeepsNow.returnBuf ?_ it
  unfold dropNotice
  split
  · exact (((h.modDsp _).raise _ _).traceRecord _ _ _ _).incr _ _ _
  · exact ((h.modDsp _).raise _ _).traceRecord _ _ _ _

theorem emptyInterrupt (h : KeepsNow d e) (n : Nat) : KeepsNow d (emptyInterrupt n e) := by
  unfold Machine.emptyInterrupt
  dsimp only
  split
  · exact h
  · split
    · exact h.pendEvent _ _
    · split
      · exact h.msixRaise _
      · split
        · exact h.raise _ _
        · exact h

theorem itemTaken (h : KeepsNow d e) (it : Item) : KeepsNow d (itemTaken it e) := by
  unfold Machine.itemTaken
  dsimp only
  split
  · exact KeepsNow.emptyInterrupt (h.upd (f := setFull it.arg false e) rfl) _
  · split
    · exact h.storeLanded _ _
    · split <;> exact h

theorem offerItem (h : KeepsNow d e) (it : Item) : KeepsNow d (offerItem it e) := by
  unfold Machine.offerItem
  split
  · exact (h.dropItem it).itemTaken it
  · split
    · exact (h.modDsp _).itemTaken it
    · exact h.modDsp _

/-! #### The switch -/

theorem discardCopy (h : KeepsNow d e) (c : Copy) : KeepsNow d (discardCopy c e) :=
  h.clock (((KeepsClock.refl e).putQueues _).discRecord c)

theorem updateCopy (h : KeepsNow d e) (c : Copy) : KeepsNow d (updateCopy c e) := h.clock ((KeepsClock.refl e).putQueues _)

theorem countEth (h : KeepsNow d e) (p o : Nat) : KeepsNow d (countEth p o e) := h
theorem countSwc (h : KeepsNow d e) (p o : Nat) : KeepsNow d (countSwc p o e) := h

theorem swbLog (h : KeepsNow d e) (m : Option Nat) (place : Option (Nat × Nat × Nat)) : KeepsNow d (swbLog m place e) := by
  unfold Machine.swbLog
  split
  · exact h
  · split <;> exact h

theorem swbParity (h : KeepsNow d e) (m : Option Nat) (place : Option (Nat × Nat × Nat)) : KeepsNow d (swbParity m place e) := by
  have hlog := (h.swbLog m place).incr A.memSwbPar 15 0
  unfold Machine.swbParity
  dsimp only
  exact KeepsNow.whenever (hlog.upd (by rfl)) fun d => (refl d).report _ _ _ _

theorem startCopy (h : KeepsNow d e) (c : Copy) : KeepsNow d (startCopy c e) := by
  have hc := h.countSwc c.port (0x10 * c.cls)
  unfold Machine.startCopy
  dsimp only
  split
  · exact (hc.swbParity none none).discardCopy c
  · split
    · exact (hc.countEth _ _).discardCopy c
    · split
      · exact ((hc.incrSat _ _ _).raise _ _).discardCopy c
      · exact (((hc.whenever fun d => (refl d).incr _ _ _).raiseIf _ _ _).whenever fun d =>
          (refl d).clock ((KeepsClock.refl d).tsqPush _ _)).updateCopy _

theorem splitCopy (h : KeepsNow d e) (x : Copy) : KeepsNow d (splitCopy x e) := ((h.updateCopy _).countEth x.port 0x4C).upd rfl

theorem preempt (h : KeepsNow d e) (q : Nat) : KeepsNow d (preempt q e) := by
  unfold Machine.preempt
  split
  · exact h.splitCopy _
  · exact h

theorem resumeCopy (h : KeepsNow d e) (q : Nat) : KeepsNow d (resumeCopy q e) := by
  unfold Machine.resumeCopy
  split
  · exact h.updateCopy _
  · exact h

theorem holdCopy (h : KeepsNow d e) (q : Nat) : KeepsNow d (holdCopy q e) := by
  unfold Machine.holdCopy
  split
  · exact h.whenever fun d => (refl d).splitCopy _
  · exact h

theorem discardBad (h : KeepsNow d e) (c : Copy) (why : Nat) : KeepsNow d (discardBad c why e) := by
  have hc := h.discardCopy c
  unfold Machine.discardBad
  split
  · exact (hc.incrSat _ _ _).raise _ _
  · exact (hc.incrSat _ _ _).raise _ _
  · exact hc.countSwc _ _

theorem serveN (h : KeepsNow d e) (n q : Nat) : KeepsNow d (serveN n q e) := by
  induction n generalizing e with
  | zero => exact h
  | succ n ih =>
    unfold Machine.serveN
    split
    · exact ih (h.discardBad _ _)
    · split
      · exact h
      · split
        · exact (h.holdCopy q).resumeCopy q
        · exact ih ((h.preempt q).startCopy _)

theorem serve (h : KeepsNow d e) (q : Nat) : KeepsNow d (serve q e) := by
  unfold Machine.serve
  split
  · exact h.serveN _ q
  · exact h

/-! #### Time bases and triggers -/

theorem tbTick (h : KeepsNow d e) (j : Nat) : KeepsNow d (tbTick j e) := by
  unfold Machine.tbTick
  split <;> exact h

theorem trigSkip (h : KeepsNow d e) (k : Nat) : KeepsNow d (trigSkip k e) := by
  have hmove (t : Trig) : KeepsNow d (moveTarget k t e) := KeepsNow.whenever (op := Machine.wr _ _) h fun d => (refl d).wr _ _
  unfold Machine.trigSkip
  dsimp only
  split
  · exact h
  · split
    · exact h
    · exact ((hmove _).incrSat _ _ _).raise _ _

theorem stepBase (h : KeepsNow d e) (j : Nat) (t : TimeBase) : KeepsNow d (stepBase j t e) := by
  refine KeepsNow.foldl (h.upd (f := stepTb j t e) rfl) fun p d => ?_
  dsimp only
  split
  · exact refl d
  · refine (KeepsNow.wr ?_ _ _).serve p
    split <;> exact refl d

/-! #### Meridian -/

theorem modMrd (h : KeepsNow d e) (g : Mrd → Mrd) : KeepsNow d (modMrd g e) := h

theorem refNow (h : KeepsNow d e) : KeepsNow d (refNow e) := by
  unfold Machine.refNow showRef
  split <;> exact h

theorem rackStep (h : KeepsNow d e) : KeepsNow d (rackStep e) := by
  unfold Machine.rackStep
  dsimp only
  split
  · exact (h.stepBase _ _).modMrd _
  · exact h

theorem rackTime (h : KeepsNow d e) (n : Nat) (bs : List Byte) (arr : Int) : KeepsNow d (rackTime n bs arr e) := by
  unfold Machine.rackTime
  extract_lets better
  split
  · exact h
  · exact ((h.modMrd _).wr _ _).whenever fun d => (refl d).rackStep

theorem addDev (h : KeepsNow d e) (node : Nat) (dev : Int) : KeepsNow d (addDev node dev e) := by
  unfold Machine.addDev
  split <;> exact h

theorem acceptSync (h : KeepsNow d e) (x : RxHdr) (c : RxCopy) : KeepsNow d (acceptSync x c e) :=
  (((h.addDev _ _).whenever fun d => (refl d).rackTime _ _ _).modMrd _).refNow

theorem acceptFail (h : KeepsNow d e) (x : RxHdr) : KeepsNow d (acceptFail x e) := by
  unfold Machine.acceptFail
  split <;> exact h

theorem deliverSlot (h : KeepsNow d e) (x : Slot) (bs : List Byte) (arr : Int) : KeepsNow d (deliverSlot x bs arr e) := by
  unfold Machine.deliverSlot
  dsimp only
  split
  · exact h
  · exact (h.whenever fun d => (refl d).slotWrite _ _ _).whenever fun d => (refl d).offerItem _

theorem acceptCopy (h : KeepsNow d e) (x : Slot) (c : RxCopy) : KeepsNow d (acceptCopy x c e) :=
  (((h.whenever fun d => (refl d).deliverSlot _ _ _).acceptFail _).whenever fun d => (refl d).acceptSync _ _).modMrd _

theorem acceptFirst (h : KeepsNow d e) (x : Slot) (a : RxCopy) (b : Option RxCopy) : KeepsNow d (acceptFirst x a b e) :=
  ((h.modMrd _).acceptCopy x a).whenever fun d => (((refl d).modMrd _).incrSat _ _ _).raise _ _

theorem acceptHeld (h : KeepsNow d e) : KeepsNow d (acceptHeld e) :=
  h.foldl fun r d => by
    split
    · exact (refl d).acceptFirst _ _ _
    · exact refl d

end KeepsNow

/-! ### The parts of a cycle -/

/-- The cycle count has risen and the time bases have moved (R253). -/
def basesTicked (d : Dev) : Dev := (List.range 4).foldl (fun d j => tbTick j d) { d with now := d.now + 1 }

/-- Every trigger that skips has moved on by one period (R269). -/
def triggersSkipped (d : Dev) : Dev :=
  if d.ntm.counting then (d.ntm.trig.map (·.1)).foldl (fun d k => trigSkip k d) d else d

theorem tick_eq (d : Dev) :
    tick d = acceptHeld ((splitPorts (triggersSkipped (basesTicked d))).foldl (fun d q => serve q d)
      (triggersSkipped (basesTicked d))) := rfl

/-- A CORE cycle raises the cycle count by 1 (R82). -/
theorem tick_now (d : Dev) : (tick d).now = d.now + 1 := by
  have hbases : KeepsNow { d with now := d.now + 1 } (basesTicked d) :=
    (KeepsNow.refl _).foldl fun j d => (KeepsNow.refl d).tbTick j
  have htrig : KeepsNow (basesTicked d) (triggersSkipped (basesTicked d)) := by
    unfold triggersSkipped
    split
    · exact (KeepsNow.refl _).foldl fun k d => (KeepsNow.refl d).trigSkip k
    · exact KeepsNow.refl _
  rw [tick_eq]
  exact ((hbases.trans htrig).foldl fun q d => (KeepsNow.refl d).serve q).acceptHeld

/-! ### The time bases (R253) -/

/-- Two devices that differ in the values of the time bases and their SLEW_REM only. -/
structure BasesOnly (d e : Dev) : Prop where
  frame : { e with ntm := { e.ntm with tb := d.ntm.tb }, regs := d.regs } = d
  rd : ∀ a, (∀ j < 4, a ≠ A.ntmTb j 0x18) → rd a e = rd a d
  length : e.ntm.tb.length = d.ntm.tb.length

namespace BasesOnly

variable {d e f : Dev}

theorem refl (d : Dev) : BasesOnly d d := ⟨rfl, fun _ _ => rfl, rfl⟩

theorem trans (h : BasesOnly d e) (g : BasesOnly e f) : BasesOnly d f where
  frame := by
    rw [← h.frame, ← g.frame]
  rd a ha := (g.rd a ha).trans (h.rd a ha)
  length := g.length.trans h.length

theorem trig (h : BasesOnly d e) : e.ntm.trig = d.ntm.trig := congrArg (·.ntm.trig) h.frame
theorem counting (h : BasesOnly d e) : e.ntm.counting = d.ntm.counting := congrArg (·.ntm.counting) h.frame

end BasesOnly

theorem tbTick_standing {d : Dev} (j : Nat) (h : d.ntm.counting = false) : tbTick j d = d := by
  simp [tbTick, h]

/-- The value of base j after a CORE cycle in which it counts. -/
def nextBase (j : Nat) (d : Dev) : TimeBase :=
  { (tbGet j d).add (tbAddend j d) with slew := (tbGet j d).slew - slewStep (slewShift j d) (tbGet j d).slew }

theorem tbTick_counting {d : Dev} (j : Nat) (h : d.ntm.counting = true) :
    tbTick j d = showSlew j (tbPut j (nextBase j d) d) := by
  simp [tbTick, h, nextBase]

theorem basesOnly_tbTick {j : Nat} (d : Dev) (hj : j < 4) : BasesOnly d (tbTick j d) := by
  cases h : d.ntm.counting
  · rw [tbTick_standing j h]
    exact .refl d
  · rw [tbTick_counting j h]
    exact ⟨rfl, fun a ha => rd_wr_ne _ _ (ha j hj), List.length_set⟩

theorem basesOnly_foldl {l : List Nat} (d : Dev) (hl : ∀ j ∈ l, j < 4) : BasesOnly d (l.foldl (fun d j => tbTick j d) d) :=
  List.foldlRecOn (motive := BasesOnly d) l _ (.refl d) fun _ h j hj => h.trans (basesOnly_tbTick _ (hl j hj))

theorem basesOnly_basesTicked (d : Dev) : BasesOnly { d with now := d.now + 1 } (basesTicked d) :=
  basesOnly_foldl _ fun _ => List.mem_range.mp

theorem basesTicked_standing {d : Dev} (h : d.ntm.counting = false) : basesTicked d = { d with now := d.now + 1 } :=
  List.foldl_fixed' (fun j => tbTick_standing (d := { d with now := d.now + 1 }) j h) _

theorem tbGet_tbPut_ne {i j : Nat} (t : TimeBase) (d : Dev) (h : j ≠ i) : tbGet j (tbPut i t d) = tbGet j d := by
  simp [tbGet, tbPut, List.getD, List.getElem?_set_ne (Ne.symm h)]

theorem tbGet_tbPut_same {j : Nat} (t : TimeBase) {d : Dev} (h : j < d.ntm.tb.length) : tbGet j (tbPut j t d) = t := by
  simp [tbGet, tbPut, h]

theorem tbGet_tbTick_ne {i j : Nat} (d : Dev) (h : j ≠ i) : tbGet j (tbTick i d) = tbGet j d := by
  cases hc : d.ntm.counting
  · rw [tbTick_standing i hc]
  · rw [tbTick_counting i hc]
    exact tbGet_tbPut_ne _ _ h

theorem tbGet_foldl_of_notMem {j : Nat} {l : List Nat} (d : Dev) (h : j ∉ l) :
    tbGet j (l.foldl (fun d j => tbTick j d) d) = tbGet j d :=
  List.foldlRecOn (motive := fun e => tbGet j e = tbGet j d) l _ rfl fun e he i hi =>
    (tbGet_tbTick_ne e fun hij => h (by rwa [hij])).trans he

theorem slewStep_zero (shift : Nat) : slewStep shift 0 = 0 := by
  have := Nat.zero_le (5 * 2 ^ (31 - shift))
  simp only [slewStep, le_refl, if_true]
  omega

/-- A base that does not slew advances by the unit of a cycle and RATE. -/
theorem nextBase_of_no_slew {j : Nat} {d : Dev} (h : (tbGet j d).slew = 0) :
    nextBase j d = (tbGet j d).add (tickUnit + rateOf j d) := by
  rw [nextBase, tbAddend, h, slewStep_zero, add_zero, sub_zero, TimeBase.add, h]

theorem rateOf_basesOnly {d e : Dev} (h : BasesOnly d e) (j : Nat) : rateOf j e = rateOf j d := by
  rw [rateOf, rateOf, h.rd _ fun i _ => by unfold A.ntmTb; omega]

theorem tbGet_basesTicked {j : Nat} {d : Dev} (hj : j < 4) (hc : d.ntm.counting = true) (hl : d.ntm.tb.length = 4)
    (hs : (tbGet j d).slew = 0) : tbGet j (basesTicked d) = (tbGet j d).add (tickUnit + rateOf j d) := by
  obtain ⟨l, r, hlr⟩ := List.append_of_mem (List.mem_range.mpr hj)
  have hnodup : (l ++ j :: r).Nodup := hlr ▸ List.nodup_range
  have hmem : ∀ i ∈ l ++ j :: r, i < 4 := fun i hi => List.mem_range.mp (hlr ▸ hi)
  have hleft : j ∉ l := fun h => by
    have := List.disjoint_of_nodup_append hnodup h
    simp at this
  have hright : j ∉ r := (List.nodup_cons.mp (List.nodup_append.mp hnodup).2.1).1
  let d1 := { d with now := d.now + 1 }
  have hbefore := basesOnly_foldl (l := l) d1 fun i hi => hmem i (List.mem_append_left _ hi)
  have hbase := tbGet_foldl_of_notMem d1 hleft
  rw [basesTicked, hlr, List.foldl_append, List.foldl_cons, tbGet_foldl_of_notMem _ hright,
    tbTick_counting j (hbefore.counting.trans hc)]
  refine (tbGet_tbPut_same _ (by rw [hbefore.length, show d1.ntm.tb.length = 4 from hl]; exact hj)).trans ?_
  rw [nextBase_of_no_slew (by rw [hbase]; exact hs), hbase, rateOf_basesOnly hbefore]
  rfl

/-- A time base in units of 2^-32 ns. -/
def TimeBase.units (t : TimeBase) : Int := ((t.sec * 1000000000 + t.ns) * 2 ^ 32 + t.frac : Nat)

/-- Moving a base moves its units, modulo 2^48 seconds. -/
theorem TimeBase.units_add (t : TimeBase) (u : Int) : (t.add u).units = (t.units + u) % (2 ^ 80 * 1000000000) := by
  simp only [TimeBase.units, TimeBase.add]
  omega

theorem TimeBase.ns_add_lt (t : TimeBase) (u : Int) : (t.add u).ns < 1000000000 := by
  simp only [TimeBase.add]
  omega

/-! ### A cycle in which no line and no copy has anything to do -/

/-- No preemptable frame is on a line, and no copy waits for the end of the cycle. -/
def Still (d : Dev) : Prop :=
  (∀ r ∈ d.mrd.slots, r.held = none) ∧
    ∀ c ∈ d.swc.queues, c.started = true → c.paused = true ∨ preemptable c.port c.cls d = false

theorem acceptHeld_of_none {d : Dev} (h : ∀ r ∈ d.mrd.slots, r.held = none) : acceptHeld d = d :=
  List.foldlRecOn (motive := (· = d)) d.mrd.slots _ rfl fun e he r hr => by
    rw [h r hr]
    exact he

theorem splitPorts_of_still {d : Dev} (h : Still d) : splitPorts d = [] := by
  rw [splitPorts, List.map_eq_nil_iff, List.filter_eq_nil_iff]
  intro c hc hsplit
  simp only [Bool.and_eq_true, Bool.not_eq_true'] at hsplit
  rcases h.2 c hc hsplit.1.1 with hp | hp
  · simp [hp] at hsplit
  · simp [hp] at hsplit

/-- Two devices that differ in NTM's own state and registers only, and in the cycle count. -/
structure NtmOnly (d e : Dev) : Prop where
  mrd : e.mrd = d.mrd
  swc : e.swc = d.swc
  eth : ∀ a, 0x100C0000 ≤ a → rd a e = rd a d

theorem preemptable_ntmOnly {d e : Dev} (h : NtmOnly d e) (p c : Nat) : preemptable p c e = preemptable p c d := by
  have hctrl := h.eth (A.ethMmCtrl p) (by unfold A.ethMmCtrl; omega)
  have hstat := h.eth (A.ethMmStat p) (by unfold A.ethMmStat; omega)
  unfold preemptable mmActive rb rf
  rw [hctrl, hstat]

theorem NtmOnly.still {d e : Dev} (h : NtmOnly d e) (hd : Still d) : Still e := by
  refine ⟨fun r hr => hd.1 r (h.mrd ▸ hr), fun c hc hs => ?_⟩
  rw [preemptable_ntmOnly h]
  exact hd.2 c (h.swc ▸ hc) hs

theorem NtmOnly.trans {d e f : Dev} (h : NtmOnly d e) (g : NtmOnly e f) : NtmOnly d f :=
  ⟨g.mrd.trans h.mrd, g.swc.trans h.swc, fun a ha => (g.eth a ha).trans (h.eth a ha)⟩

theorem ntmOnly_basesTicked (d : Dev) : NtmOnly d (basesTicked d) := by
  have h := basesOnly_basesTicked d
  exact ⟨congrArg (·.mrd) h.frame, congrArg (·.swc) h.frame, fun a ha => h.rd a fun j hj => by unfold A.ntmTb; omega⟩

/-- A still device's cycle is that of its bases and triggers. -/
theorem tick_of_still {d : Dev} (hd : Still d) (h : NtmOnly (basesTicked d) (triggersSkipped (basesTicked d))) :
    tick d = triggersSkipped (basesTicked d) := by
  have hstill := ((ntmOnly_basesTicked d).trans h).still hd
  rw [tick_eq, splitPorts_of_still hstill, List.foldl_nil, acceptHeld_of_none hstill.1]

/-! ### Triggers (R269) -/

theorem trigSkip_of_not_skipping {k : Nat} {d : Dev} (h : (getTrig k d).skipping = false) : trigSkip k d = d := by
  simp [trigSkip, h]

theorem triggersSkipped_of_quiet {d : Dev} (h : ∀ k, (getTrig k d).skipping = false) : triggersSkipped d = d := by
  unfold triggersSkipped
  split
  · exact List.foldl_fixed' (fun k => trigSkip_of_not_skipping (h k)) _
  · rfl

theorem tick_of_quiet {d : Dev} (hd : Still d) (hq : ∀ k, (getTrig k d).skipping = false) : tick d = basesTicked d := by
  have hskip : triggersSkipped (basesTicked d) = basesTicked d := triggersSkipped_of_quiet fun k => by
    rw [getTrig, (basesOnly_basesTicked d).trig]
    exact hq k
  rw [tick_of_still hd, hskip]
  rw [hskip]
  exact ⟨rfl, rfl, fun _ _ => rfl⟩

/-- The device with other triggers. -/
def withTriggers (l : Tab Trig) (d : Dev) : Dev := { d with ntm := { d.ntm with trig := l } }

theorem tbTick_withTriggers (l : Tab Trig) (j : Nat) (d : Dev) : tbTick j (withTriggers l d) = withTriggers l (tbTick j d) := by
  cases h : d.ntm.counting
  · rw [tbTick_standing j h, tbTick_standing (d := withTriggers l d) j h]
  · rw [tbTick_counting j h, tbTick_counting (d := withTriggers l d) j h]
    rfl

/-- The time bases move without regard to the triggers. -/
theorem basesTicked_withTriggers (l : Tab Trig) (d : Dev) : basesTicked (withTriggers l d) = withTriggers l (basesTicked d) :=
  List.foldl_hom (withTriggers l) (g₁ := fun d j => tbTick j d) (g₂ := fun d j => tbTick j d) (init := { d with now := d.now + 1 })
    fun d j => tbTick_withTriggers l j d

/-- A still device's cycle without triggers. -/
theorem tick_withoutTriggers {d : Dev} (hd : Still d) : tick (withTriggers [] d) = withTriggers [] (basesTicked d) := by
  rw [tick_of_quiet (d := withTriggers [] d) hd fun _ => rfl, basesTicked_withTriggers]

/-- Putting a trigger back whose table is otherwise empty. -/
theorem putTrig_withoutTriggers {k : Nat} {x : Trig} (y : Trig) {d : Dev} (h : d.ntm.trig = [(k, x)]) :
    putTrig k y (withTriggers [] d) = putTrig k y d := by
  have htab : tabSet trigDefault [] k y = tabSet trigDefault [(k, x)] k y := by
    unfold tabSet
    split
    · simp [tabErase]
    · simp [tabInsert]
  rw [putTrig, putTrig, h, ← htab]
  rfl

theorem putTrig_self {k : Nat} {x : Trig} {d : Dev} (h : d.ntm.trig = [(k, x)]) (hx : x ≠ trigDefault k) : putTrig k x d = d := by
  have htab : tabSet trigDefault [(k, x)] k x = d.ntm.trig := by simp [tabSet, hx, tabInsert, h]
  rw [putTrig, h, htab]

theorem getTrig_of_single {k : Nat} {x : Trig} {d : Dev} (h : d.ntm.trig = [(k, x)]) : getTrig k d = x := by
  simp [getTrig, tabGet, tabFind, h]

theorem trigSkip_standing {k : Nat} {d : Dev} (h : rb (A.ntmTrig k 12) 31 d = false ∨ stepDue k d = true) : trigSkip k d = d := by
  rcases h with h | h <;> simp [trigSkip, h]

theorem trigSkip_ahead {k : Nat} {d : Dev} (hs : (getTrig k d).skipping = true) (ha : rb (A.ntmTrig k 12) 31 d = true)
    (hd : stepDue k d = false) (hn : trigDiff k d < 0) : trigSkip k d = putTrig k { getTrig k d with skipping := false } d := by
  simp [trigSkip, hs, ha, hd, hn]

/-- The trigger's target after a skip. -/
def skipped (k : Nat) (d : Dev) : Trig := { getTrig k d with target := (getTrig k d).target + (rd (A.ntmTrig k 8) d).setWidth 64 }

theorem trigSkip_past {k : Nat} {d : Dev} (hs : (getTrig k d).skipping = true) (ha : rb (A.ntmTrig k 12) 31 d = true)
    (hd : stepDue k d = false) (hn : 0 ≤ trigDiff k d) :
    trigSkip k d = raise (A.ntmTrig k 0x10) 1 (incrSat (A.ntmTrig k 0x14) 15 0 (moveTarget k (skipped k d) d)) := by
  simp [trigSkip, hs, ha, hd, hn, skipped]

/-- What moving a target leaves: the trigger's own two words and its entry change only. -/
theorem moveTarget_effect (k : Nat) (t : Trig) (d : Dev) :
    getTrig k (moveTarget k t d) = t ∧ (moveTarget k t d).mrd = d.mrd ∧ (moveTarget k t d).swc = d.swc ∧
      ∀ a, a ≠ A.ntmTrig k 0 → a ≠ A.ntmTrig k 4 → rd a (moveTarget k t d) = rd a d := by
  let moved := wr (A.ntmTrig k 4) (word (t.target.toNat / 2 ^ 32)) (putTrig k t d)
  have hput : getTrig k moved = t := tabGet_tabSet_same _ _ _ _
  cases hh : t.held
  · have heq : moveTarget k t d = wr (A.ntmTrig k 0) (word t.target.toNat) moved := when_of _ _ (by rw [hh]; rfl)
    rw [heq]
    exact ⟨hput, rfl, rfl, fun a h0 h4 => (rd_wr_ne _ _ h0).trans (rd_wr_ne _ _ h4)⟩
  · have heq : moveTarget k t d = moved := when_of_not _ _ (by rw [hh]; rfl)
    rw [heq]
    exact ⟨hput, rfl, rfl, fun a _ h4 => rd_wr_ne _ _ h4⟩

theorem trigSkip_past_effect {k : Nat} {d : Dev} (hs : (getTrig k d).skipping = true) (ha : rb (A.ntmTrig k 12) 31 d = true)
    (hd : stepDue k d = false) (hn : 0 ≤ trigDiff k d) :
    getTrig k (trigSkip k d) = skipped k d ∧
      rf (A.ntmTrig k 0x14) 15 0 (trigSkip k d) = satInc 0xFFFF (rf (A.ntmTrig k 0x14) 15 0 d) ∧
      rb (A.ntmTrig k 0x10) 1 (trigSkip k d) = true := by
  obtain ⟨hget, -, -, hrd⟩ := moveTarget_effect k (skipped k d) d
  have hcnt := hrd (A.ntmTrig k 0x14) (by unfold A.ntmTrig; omega) (by unfold A.ntmTrig; omega)
  rw [trigSkip_past hs ha hd hn]
  refine ⟨hget, ?_, ?_⟩
  · rw [rf, rd_raise_ne _ _ (by unfold A.ntmTrig; omega), ← rf, rf_incrSat_same _ _ _ _ (by decide), rf, hcnt, ← rf]
    exact (satInc_eq_min (Nat.le_of_lt_succ (rf_lt (A.ntmTrig k 0x14) 15 0 d))).symm
  · rw [rb_raise_same _ _ (by decide)]
    simp

theorem ntmOnly_trigSkip {k : Nat} (d : Dev) (hk : k < 64) : NtmOnly d (trigSkip k d) := by
  have hne {a : Nat} (ha : 0x100C0000 ≤ a) (o : Nat) (ho : o < 32) : a ≠ A.ntmTrig k o := by
    unfold A.ntmTrig
    omega
  unfold trigSkip
  extract_lets t
  split
  · exact ⟨rfl, rfl, fun _ _ => rfl⟩
  · split
    · exact ⟨rfl, rfl, fun _ _ => rfl⟩
    · obtain ⟨-, hmrd, hswc, hrd⟩ := moveTarget_effect k { t with target := t.target + (rd (A.ntmTrig k 8) d).setWidth 64 } d
      exact ⟨hmrd, hswc, fun a ha => (rd_raise_ne _ _ (hne ha _ (by decide))).trans
        ((rd_incrSat_ne _ _ _ (hne ha _ (by decide))).trans (hrd a (hne ha _ (by decide)) (hne ha _ (by decide))))⟩

theorem triggersSkipped_single {k : Nat} {x : Trig} {d : Dev} (hc : d.ntm.counting = true) (h : d.ntm.trig = [(k, x)]) :
    triggersSkipped d = trigSkip k d := by
  simp [triggersSkipped, hc, h]

/-- A still device's cycle with one trigger. -/
theorem tick_single {k : Nat} {x : Trig} {d : Dev} (hd : Still d) (hc : d.ntm.counting = true) (h : d.ntm.trig = [(k, x)])
    (hk : k < 64) : tick d = trigSkip k (basesTicked d) := by
  have hb := basesOnly_basesTicked d
  have hskip : triggersSkipped (basesTicked d) = trigSkip k (basesTicked d) :=
    triggersSkipped_single (hb.counting.trans hc) (hb.trig.trans h)
  rw [tick_of_still hd, hskip]
  rw [hskip]
  exact ntmOnly_trigSkip _ hk

/-- A trigger's registers stand while the bases move. -/
theorem rd_ntmTrig_basesTicked (k o : Nat) (d : Dev) : rd (A.ntmTrig k o) (basesTicked d) = rd (A.ntmTrig k o) d :=
  (basesOnly_basesTicked d).rd _ fun j hj => by unfold A.ntmTrig A.ntmTb; omega

theorem step_of_empty {s : State} (h : s.pending = []) : step s = .next { s with dev := tick s.dev } := by
  rw [step, h]

/-- Settles O6: a cycle is the step of the bases, then of the triggers; on a still device nothing follows. -/
theorem idleTick : Obligations.IdleTick := by
  intro s hempty
  refine ⟨_, step_of_empty hempty, tick_now s.dev, rfl, hempty, fun hstill hquiet => ?_,
    fun hstill hcount k x htrig hk hskip t₀ ht₀ => ?_⟩
  · have hbases := basesOnly_basesTicked s.dev
    dsimp only
    rw [tick_of_quiet hstill hquiet]
    refine ⟨?_, hbases.rd, fun hc => ?_, fun hc hlen j hj hslew hlo hhi => ?_⟩
    · exact congrArg (fun e : Dev => { e with now := s.dev.now, ntm := s.dev.ntm }) hbases.frame
    · rw [basesTicked_standing hc]
    · have hrate : rateOf j s.dev = (rd (A.ntmTb j 0x10) s.dev).toInt := by
        rw [rateOf, min_eq_right hhi, max_eq_right hlo]
      rw [tbGet_basesTicked hj hc hlen hslew, hrate]
      refine ⟨(TimeBase.units_add _ _).trans ?_, TimeBase.ns_add_lt _ _, rfl⟩
      rw [tickUnit, ← add_assoc]
      rfl
  · obtain rfl : { s with dev := tick (withTriggers [] s.dev) } = t₀ := by
      rw [step_of_empty (by exact hempty)] at ht₀
      exact Host.Outcome.next.inj ht₀
    have hbases := basesOnly_basesTicked s.dev
    have htrig' : (basesTicked s.dev).ntm.trig = [(k, x)] := hbases.trig.trans htrig
    have hget := getTrig_of_single htrig'
    have harmed : rb (A.ntmTrig k 12) 31 (basesTicked s.dev) = rb (A.ntmTrig k 12) 31 s.dev :=
      congrArg (bit · 31) (rd_ntmTrig_basesTicked k 12 s.dev)
    have hput (y : Trig) := putTrig_withoutTriggers y htrig'
    have hself : putTrig k x (basesTicked s.dev) = basesTicked s.dev :=
      putTrig_self htrig' fun hx => by rw [hx] at hskip; cases hskip
    dsimp only
    rw [tick_withoutTriggers hstill, tick_single hstill hcount htrig hk, hput, hput, hself, ← harmed]
    rw [← hget] at hskip
    refine ⟨trigSkip_standing, fun ha hd => ⟨fun hn => ?_, fun hn => ?_⟩⟩
    · rw [trigSkip_ahead hskip ha hd hn, hget]
    · obtain ⟨htarget, hcnt, hstat⟩ := trigSkip_past_effect hskip ha hd hn
      refine ⟨?_, ?_, hstat⟩
      · rw [htarget, skipped, hget, rd_ntmTrig_basesTicked]
      · rw [hcnt, rf, rd_ntmTrig_basesTicked, ← rf]

end Sys2Proof.Machine
end

section
/-! Register access shared by the commands of this part: what the general write keeps, and the words of commands. -/

namespace Sys2Proof.Machine

namespace SameButRegs

variable {d e : Dev}

theorem refl (d : Dev) : SameButRegs d d := by
  unfold SameButRegs
  rfl

theorem tabs (h : SameButRegs d e) : e.tabs = d.tabs := congrArg (·.tabs) h
theorem inds (h : SameButRegs d e) : e.inds = d.inds := congrArg (·.inds) h
theorem locks (h : SameButRegs d e) : e.locks = d.locks := congrArg (·.locks) h
theorem eths (h : SameButRegs d e) : e.eths = d.eths := congrArg (·.eths) h
theorem swc (h : SameButRegs d e) : e.swc = d.swc := congrArg (·.swc) h
theorem sec (h : SameButRegs d e) : e.sec = d.sec := congrArg (·.sec) h

theorem getCtx (h : SameButRegs d e) (key : Nat) : getCtx key e = getCtx key d := by
  rw [Machine.getCtx, h.ctxs, Machine.getCtx]

end SameButRegs

/-- A field of a word that a sum of fields spells. -/
theorem fld_word (n hi lo : Nat) : fld (word n) hi lo = n % 2 ^ 32 / 2 ^ lo % 2 ^ (hi + 1 - lo) := by
  simp [fld, nfld, word, BitVec.toNat_ofNat, Nat.shiftRight_eq_div_pow]

theorem bit_word (n i : Nat) (h : i < 32) : bit (word n) i = n.testBit i := by
  simp only [bit, word, BitVec.testBit_toNat, BitVec.getLsbD_ofNat, h, decide_true, Bool.true_and]

/-- What every step of a sequence keeps, the sequence keeps. -/
theorem foldl_keeps {α β : Type} (get : Dev → β) {op : Dev → α → Dev} (hop : ∀ d x, get (op d x) = get d) (l : List α) (d : Dev) :
    get (l.foldl op d) = get d := by
  induction l generalizing d with
  | nil => rfl
  | cons x l ih => exact (ih _).trans (hop d x)

end Sys2Proof.Machine
end

section
/-! A register access by a master: the checks that it passes, and what the general write stores and marks (R101-R103, R106,
R114, R115, R167). -/

namespace Sys2Proof.Machine

/-! ### The checks at issue (R103, R167) -/

/-- Every master has its rights at a register outside MBX_56 to MBX_63 (R127, R240). -/
theorem accessFail_reg {m a : Nat} {wr secure : Bool} (d : Dev) (hm : m ≤ 19) (hr : region a = .reg)
    (hmbx : mbxDenied m a = false) : accessFail m wr secure a d = none := by
  have hbanks : banksReady a d = true := by simp [banksReady, banksOf, hr]
  simp [accessFail, permitted, poolDenied, hr, hmbx, hbanks, hm]

/-- An aligned register access of a context in system mode that does not run a deterministic section takes no exception
(R165, R167). -/
theorem accessFault_reg {m a : Nat} {wr : Bool} {x : Ctx} (d : Dev) (hm : m ≤ 16) (hr : region a = .reg) (h4 : a % 4 = 0)
    (hmbx : mbxDenied m a = false) (hsys : x.sys = true) (hdet : wr = true ∨ x.det = false) :
    accessFault (masterCore m) 4 a wr x d = none := by
  have hfail : accessFail (coreMaster (masterCore m)) wr false a d = none := by
    rw [coreMaster_masterCore hm]
    exact accessFail_reg d (by omega) hr hmbx
  have hsteady : (!wr && x.det && guardedReg a) = false := by
    obtain rfl | hd := hdet
    · rfl
    · simp [hd]
  simp [accessFault, hsys, hsteady, h4, hfail]

/-- The masters whose register access goes through: hosts and debug, and a context in system mode (R165, R167). -/
def PassesIssue (m : Nat) (ctx : Option Nat) (wr : Bool) (d : Dev) : Prop :=
  16 < m ∨ ∀ key, (ctx.map (keyOf (masterCore m))).or (running (masterCore m) d) = some key →
    (getCtx key d).sys = true ∧ (wr = true ∨ (getCtx key d).det = false)

theorem byMaster_reg {m a : Nat} {ctx : Option Nat} {wr : Bool} {f : Dev → Dev} {d : Dev} (hmay : PassesIssue m ctx wr d)
    (hr : region a = .reg) (h4 : a % 4 = 0) (hmbx : mbxDenied m a = false) : byMaster m ctx wr a f d = f d := by
  unfold byMaster
  by_cases hm : 16 < m
  · exact if_pos hm
  · have hall := hmay.resolve_left hm
    rw [if_neg hm]
    cases hkey : (ctx.map (keyOf (masterCore m))).or (running (masterCore m) d) with
    | none => simp only [hkey, accessFail_reg d (show m ≤ 19 by omega) hr hmbx]
    | some key =>
      obtain ⟨hsys, hdet⟩ := hall key hkey
      simp only [hkey, accessFault_reg d (show m ≤ 16 by omega) hr h4 hmbx hsys hdet]

theorem passesIssue_ctx {m ctx : Nat} {d : Dev} (h : 16 < m ∨ (getCtx (keyOf (masterCore m) ctx) d).sys = true) :
    PassesIssue m (some ctx) true d :=
  h.imp_right fun hsys _ hkey => Option.some.inj hkey ▸ ⟨hsys, .inl rfl⟩

theorem passesIssue_running {m : Nat} {d : Dev} (h : 16 < m ∨ ∀ k, running (masterCore m) d = some k → (getCtx k d).sys = true) :
    PassesIssue m none true d :=
  h.imp_right fun hsys key hkey => ⟨hsys key hkey, .inl rfl⟩

theorem toNat_word {a : Nat} (h : a < 2 ^ 32) : (word a).toNat = a := by
  rw [word, BitVec.toNat_ofNat, Nat.mod_eq_of_lt h]

theorem exec_registerWrite {m : Fin 20} {ctx : Fin 10} {a : Nat} {v : Word} {s : State} (hp : powered s.dev = true)
    (hr : region a = .reg) (ha : a < 2 ^ 32) :
    exec (.registerWrite m ctx (word a) v) s = .next { s with dev := writeBy m ctx a v s.fuses s.dev } := by
  refine onDev_eq_next ?_
  rw [toNat_word ha]
  exact when_of _ _ (by rw [hp, hr]; rfl)

theorem writeBy_reg {m ctx a : Nat} {v : Word} {f : Fuses} {d : Dev} (hmay : PassesIssue m (some ctx) true d)
    (hr : region a = .reg) (h4 : a % 4 = 0) (hmbx : mbxDenied m a = false) (hpost : a ≠ A.schPost) :
    writeBy m ctx a v f d = writeReg m ctx a v f d := by
  rw [writeBy, byMaster_reg hmay hr h4 hmbx, if_neg (fun h => hpost h.2)]

/-! ### What is stored, and the errors that are marked (R101, R106, R114, R115) -/

/-- The device with the parity of the word at a computed anew (R116). -/
def parityAnew (a : Nat) (d : Dev) : Dev := { d with badCfg := dropIf (· = a) d.badCfg }

/-- A bit that only the device changes is written with another value. -/
def Row.liveBad (r : Row) (cur v : Word) : Bool := ((v ^^^ cur) &&& word r.live) ≠ 0

/-- After commit, a locked bit is written with another value. -/
def Row.lockBad (r : Row) (lock : Bool) (cur v : Word) : Bool := lock && decide (((v ^^^ cur) &&& word r.rwl) ≠ 0)

/-- A reserved encoding, or a 1 in a must-be-0 bit, is written. -/
def Row.rsvdBad (r : Row) (lock : Bool) (v : Word) : Bool :=
  decide ((v &&& word r.mbz) ≠ 0) || r.enc.any fun e => encBad v e && decide (encMask e &&& (r.rw ||| (if lock then 0 else r.rwl)) ≠ 0)

/-- The word that the general write stores in a register of row r. -/
def Row.written (r : Row) (lock : Bool) (cur v : Word) : Word := writtenWord r.rw r.rwl r.mbz lock cur v

section
variable {a i : Nat} {u : RegUnit} {r : Row}

theorem storeReg_row (m : Nat) (v : Word) (d : Dev) (hreg : regAt a = some (u, r, i)) (hsq : r.sq = 0) :
    storeReg m a v d = (wr a (r.written (committed d) (rd a d) v) d
      |> errIf (r.liveBad (rd a d) v) u.base m errLive a |> errIf (r.lockBad (committed d) (rd a d) v) u.base m errLock a
      |> errIf (r.rsvdBad (committed d) v) u.base m errRsvd a) := by
  simp only [storeReg, hreg, writeRow, hsq, ne_eq, not_true_eq_false, if_false]
  rfl

theorem storeReg_status (m : Nat) (v : Word) (d : Dev) (hreg : regAt a = some (u, r, i)) (hsq : r.sq ≠ 0) (hrwl : r.rwl = 0)
    (hmbz : r.mbz = 0) (henc : r.enc = []) : storeReg m a v d =
      errIf (r.liveBad (rd a d) v) u.base m errLive a (clearStatus u.base m a r.sq v d) := by
  have hzero : v &&& word 0 = 0 := BitVec.and_zero
  have hzero' : (v ^^^ rd a d) &&& word 0 = 0 := BitVec.and_zero
  simp only [storeReg, hreg, writeRow, hsq, hrwl, hmbz, henc, hzero, hzero', ne_eq, not_false_eq_true, if_true, not_true_eq_false,
    decide_false, Bool.and_false, List.any_nil, Bool.or_false]
  rfl

end

theorem rb_raise_self (a : Nat) {i : Nat} (d : Dev) (h : i < 24) : rb a i (raise a i d) = true := by
  rw [rb_raise_same a d h, decide_eq_true rfl, Bool.or_true]

theorem errIf_false (base m k a : Nat) (d : Dev) : errIf false base m k a d = d := rfl

theorem errIf_true (base m k a : Nat) (d : Dev) : errIf true base m k a d = errAt base m k a d := rfl

/-- The flag of an error that is marked where c holds. -/
theorem rb_errIf_same (c : Bool) (base m a : Nat) {k : Nat} (d : Dev) (hk : k < 24) :
    rb (base + 4) k (errIf c base m k a d) = (rb (base + 4) k d || c) := by
  cases c with
  | false => rw [errIf_false, Bool.or_false]
  | true =>
    rw [errIf_true, errAt, rb, rd_wr_ne _ _ (by omega), Bool.or_true]
    exact rb_raise_self _ _ hk

/-- The flag of an error and ERR_ADDR, which names its master, kind and offset (R101). -/
theorem errAt_marks {base m k a : Nat} (d : Dev) (hk : k < 24) (ha : 0x10000000 ≤ a) (ha' : a < 0x10400000) :
    rb (base + 4) k (errAt base m k a d) = true ∧
    rd (base + 8) (errAt base m k a d) = word (m * 2 ^ 27 + k * 2 ^ 24 + (a - 0x10000000)) := by
  constructor
  · rw [← errIf_true, rb_errIf_same _ _ _ _ _ hk, Bool.or_true]
  · rw [errAt, rd_wr_same, errOffset, if_neg (by omega), Nat.mod_eq_of_lt (by omega), atBit, atBit, Nat.shiftLeft_eq,
      Nat.shiftLeft_eq]

/-- A mask of the bits from k up compares what stands there. -/
theorem xor_and_high_eq_zero {k : Nat} (hk : k < 32) (v w : Word) :
    (v ^^^ w) &&& word (2 ^ 32 - 2 ^ k) = 0 ↔ v.toNat / 2 ^ k = w.toNat / 2 ^ k := by
  have hmask : ∀ k < 32, ∀ i < 32, (2 ^ 32 - 2 ^ k).testBit i = decide (k ≤ i) := by decide
  have hbit (i : Nat) (hi : i < 32) : bit ((v ^^^ w) &&& word (2 ^ 32 - 2 ^ k)) i = ((bit v i ^^ bit w i) && decide (k ≤ i)) := by
    simp only [bit, word, BitVec.testBit_toNat, BitVec.getLsbD_and, BitVec.getLsbD_xor, BitVec.getLsbD_ofNat, hi, decide_true,
      Bool.true_and, hmask k hk i hi]
  constructor
  · intro h
    refine Nat.eq_of_testBit_eq fun j => ?_
    rw [Nat.testBit_div_two_pow, Nat.testBit_div_two_pow]
    by_cases hj : j + k < 32
    · have := hbit (j + k) hj
      rw [h] at this
      simpa [bit] using this
    · have hbound (x : Word) : x.toNat.testBit (j + k) = false :=
        Nat.testBit_eq_false_of_lt (x.isLt.trans_le (Nat.pow_le_pow_right (by decide) (by omega)))
      rw [hbound, hbound]
  · intro h
    refine word_ext fun i hi => ?_
    rw [hbit i hi]
    by_cases hki : k ≤ i
    · have := congrArg (Nat.testBit · (i - k)) h
      simp only [Nat.testBit_div_two_pow, show i - k + k = i by omega] at this
      simp [bit, this]
    · simp [bit, hki]

theorem committed_congr {d e : Dev} (h : rd A.almCrcStat e = rd A.almCrcStat d) : committed e = committed d := by
  rw [committed, rb, h]
  rfl

end Sys2Proof.Machine
end

section
/-! Orphans, the decision trace and the statistics window, and the obligation about them (R105, R233, R235, R238, R239). -/

namespace Sys2Proof.Machine

/-! ### Reads of the orphan queue (R105, R233) -/

theorem readOrph_nil (m : Nat) {d : Dev} (h : d.dsp.orphans = []) : readOrph m d = (0, d) := by
  rw [readOrph, h]

theorem readOrph_pops {m : Nat} {o : Orphan} {rest : List Orphan} {d : Dev} (h : d.dsp.orphans = o :: rest)
    (hm : m = 0 ∨ m = 17 ∨ m = 18) :
    readOrph m d = (orphanWord o, modDsp (fun q => { q with orphans := rest }) d) := by
  rw [readOrph, h]
  exact (if_neg (by omega)).trans (if_pos hm)

theorem readOrph_debug {o : Orphan} {rest : List Orphan} {d : Dev} (h : d.dsp.orphans = o :: rest) :
    readOrph 19 d = (orphanWord o, d) := by
  rw [readOrph, h]
  exact if_pos rfl

theorem readOrph_engine {m : Nat} {o : Orphan} {rest : List Orphan} {d : Dev} (h : d.dsp.orphans = o :: rest)
    (hm : ¬(m = 0 ∨ m = 17 ∨ m = 18)) (hd : m ≠ 19) : readOrph m d = (0, d) := by
  rw [readOrph, h]
  exact (if_neg hd).trans (if_neg hm)

theorem exec_orphanPop {m : Fin 20} {s : State} (hp : powered s.dev = true) :
    exec (.orphanPop m) s = .next { s with dev := giveRead m (readOrph m s.dev).1 (readOrph m s.dev).2 } :=
  onPow_of_powered _ hp

theorem and_word_two_pow {v : Word} {i : Nat} (hi : i < 32) (h : bit v i = false) : v &&& word (2 ^ i) = 0 := by
  refine BitVec.eq_of_toNat_eq ?_
  rw [BitVec.toNat_and, word, BitVec.toNat_ofNat, Nat.mod_eq_of_lt (Nat.pow_lt_pow_right (by decide) hi), Nat.and_two_pow]
  rw [bit] at h
  simp [h]

/-! ### Commands on an orphan (R233, R235) -/

/-- SCH_ORPH_CMD with its key: operation 1 frees, 2 requeues (R239). -/
def orphanCommand (op : Nat) (token : Bool) (n : Nat) : Word := word (0x0F1D0000 + 0x4000 * op + atBit token.toNat 13 + n)

/-- What SCH_ORPH_CMD reads out of the word, and that no must-be-0 bit is set (R115, R239). -/
theorem orphanCommand_fields {op n : Nat} (token : Bool) (hop : op < 4) (hn : n < 4096) :
    fld (orphanCommand op token n) 31 16 = 0x0F1D ∧ fld (orphanCommand op token n) 15 14 = op ∧
    fld (orphanCommand op token n) 11 0 = n ∧ bit (orphanCommand op token n) 13 = token ∧
    orphanCommand op token n &&& word 0x1000 = 0 := by
  have hat : atBit token.toNat 13 = token.toNat * 8192 := Nat.shiftLeft_eq _ _
  have htok : token.toNat < 2 := Bool.toNat_lt token
  simp only [orphanCommand, fld_word, bit_word _ 13 (by decide), hat]
  refine ⟨by omega, by omega, by omega, ?_, and_word_two_pow (i := 12) (by decide) ?_⟩
  · rw [Nat.testBit_eq_decide_div_mod_eq]
    cases token <;> simp <;> omega
  · rw [bit_word _ 12 (by decide), Nat.testBit_eq_decide_div_mod_eq]
    simp
    omega

/-- The device after SCH_ORPH_CMD is written: the register keeps nothing of it (R11, R239). -/
def orphCmdTaken (d : Dev) : Dev := wr A.schOrphCmd (rd A.schOrphCmd d) d

@[simp] theorem rd_orphCmdTaken (a : Nat) (d : Dev) : rd a (orphCmdTaken d) = rd a d := rd_wr_held _ _ _

/-- The item that a command on an orphan names: a boundary item by its flow, any other by its pool entry (R233). -/
abbrev NamesOrphan (token : Bool) (n : Nat) (it : Item) : Prop :=
  it.token = token ∧ (if token then it.flow = n else it.entry = n)

theorem storeReg_orphanCommand {op n : Nat} (token : Bool) (d : Dev) (hop : op < 4) (hn : n < 4096) :
    storeReg 0 A.schOrphCmd (orphanCommand op token n) d = orphCmdTaken d :=
  storeReg_of_writeOnly (u := ⟨A.block 6, 6, schRows⟩) (i := 0)
    (r := ⟨0x20, 1, 0x1, 1, 0x1, 0, 0, 0, 0, 0, 0x1000, 0, 0, []⟩) d rfl ⟨rfl, rfl, rfl, rfl, rfl⟩
    (orphanCommand_fields token hop hn).2.2.2.2

theorem writeOrphCmd_other {m : Nat} (v : Word) (d : Dev) (hm : m ≠ 0) : writeOrphCmd m v d = d := if_pos (.inl hm)

/-- A command that names no orphan is ignored (R233, R235). -/
theorem writeOrphCmd_absent {op n : Nat} {token : Bool} {d : Dev} (hop : op < 4) (hn : n < 4096)
    (h : ∀ it ∈ d.dsp.orphaned, ¬NamesOrphan token n it) : writeOrphCmd 0 (orphanCommand op token n) d = orphCmdTaken d := by
  obtain ⟨hkey, -, hitem, htoken, -⟩ := orphanCommand_fields token hop hn
  have hfind : (orphCmdTaken d).dsp.orphaned.find?
      (fun it => it.token = token && (if token then it.flow = n else it.entry = n)) = none := by
    rw [List.find?_eq_none]
    intro it hit
    have := h it hit
    cases token <;> simpa [NamesOrphan] using this
  simp only [writeOrphCmd, hkey, hitem, htoken, storeReg_orphanCommand token d hop hn, ne_eq, not_true_eq_false, or_self, if_false,
    hfind]

/-- The named orphan, the only one, leaves the list of items that are held for the Supervisor (R233). -/
def orphansTaken (d : Dev) : Dev := modDsp (fun q => { q with orphaned := [] }) (orphCmdTaken d)

theorem writeOrphCmd_named {op n : Nat} {token : Bool} {it : Item} {d : Dev} (hop : op < 4) (hn : n < 4096)
    (hq : d.dsp.orphaned = [it]) (h : NamesOrphan token n it) : writeOrphCmd 0 (orphanCommand op token n) d =
      if op = 1 then returnBuf it (freeEntry it (orphansTaken d))
      else if op = 2 then trackDepth (requeueItem it (orphansTaken d))
      else orphCmdTaken d := by
  obtain ⟨hkey, hfield, hitem, htoken, -⟩ := orphanCommand_fields token hop hn
  have hq' : (orphCmdTaken d).dsp.orphaned = [it] := hq
  have hfind : (orphCmdTaken d).dsp.orphaned.find?
      (fun it => it.token = token && (if token then it.flow = n else it.entry = n)) = some it := by
    rw [hq', List.find?_singleton, if_pos]
    cases token <;> simpa [NamesOrphan] using h
  have hgone : modDsp (fun q => { q with orphaned := dropIf (fun x => x = it) q.orphaned }) (orphCmdTaken d) = orphansTaken d := by
    simp only [modDsp, orphansTaken, hq', dropIf, List.filter_cons, List.filter_nil, decide_true, Bool.not_true,
      Bool.false_eq_true, if_false]
  simp only [writeOrphCmd, hkey, hfield, hitem, htoken, storeReg_orphanCommand token d hop hn, ne_eq, not_true_eq_false, or_self,
    if_false, hfind, hgone]

/-! #### An orphan is freed (R233) -/

theorem poolLevel_dsp (d : Dev) : (poolLevel d).dsp = d.dsp := by
  unfold poolLevel when
  dsimp only
  split <;> rfl

theorem rf_poolLevel (d : Dev) : rf A.schPoolLvl 12 0 (poolLevel d) = (4096 - d.dsp.used.length) % 8192 := by
  unfold poolLevel when
  dsimp only
  split
  · exact (rf_wf_other _ _ (by decide) (by decide)).trans (rf_wf_same _ _ _ _ _ (by decide))
  · exact rf_wf_same _ _ _ _ _ (by decide)

/-- An item of a source that owns no buffer gives none back (R228). -/
theorem returnBuf_of_none {it : Item} (d : Dev) (h1 : it.src0 ≠ 1) (h3 : it.src0 ≠ 3) (h10 : it.src0 ≠ 10) : returnBuf it d = d := by
  simp [returnBuf, itemRing, h1, h3, h10]

theorem freed_effect {it : Item} {d : Dev} (ht : it.token = false) :
    let e := freeEntry it (orphansTaken d)
    let used := d.dsp.used.filter fun x => decide (x ≠ it.entry)
    e.dsp = { d.dsp with orphaned := [], used := used } ∧ rf A.schPoolLvl 12 0 e = (4096 - used.length) % 8192 := by
  have hdrop : dropIf (· = it.entry) d.dsp.used = d.dsp.used.filter fun x => decide (x ≠ it.entry) := by
    simp only [dropIf, ne_eq, decide_not]
  have hfree : freeEntry it (orphansTaken d) = poolLevel (modDsp (fun q => { q with used := dropIf (· = it.entry) q.used })
      (orphansTaken d)) := if_neg (by simp [ht])
  have hdsp : (modDsp (fun q => { q with used := dropIf (· = it.entry) q.used }) (orphansTaken d)).dsp =
      { d.dsp with orphaned := [], used := d.dsp.used.filter fun x => decide (x ≠ it.entry) } := by
    rw [← hdrop]
    rfl
  dsimp only
  rw [hfree, poolLevel_dsp, rf_poolLevel, hdsp]
  exact ⟨rfl, rfl⟩

/-! #### An orphan is requeued (R233) -/

theorem mem_insertReady {it y : Item} {l : List Item} : y ∈ insertReady it l ↔ y = it ∨ y ∈ l := by
  induction l with
  | nil => simp [insertReady]
  | cons x l ih =>
    unfold insertReady
    split
    · simp
    · rw [List.mem_cons, ih, List.mem_cons]
      tauto

theorem trackDepth_dsp (d : Dev) : (trackDepth d).dsp = d.dsp :=
  foldl_keeps (·.dsp) (fun d c => by dsimp only; split <;> rfl) _ _

theorem requeued_effect {it : Item} {d : Dev} (ht : it.token = false) (hroom : flowWaiting it.flow d + 1 ≤ flowQmax it.flow d) :
    (trackDepth (requeueItem it (orphansTaken d))).dsp = { d.dsp with orphaned := [], ready := insertReady it d.dsp.ready } := by
  have hkept : ¬flowQmax it.flow (orphansTaken d) < flowWaiting it.flow (orphansTaken d) + 1 :=
    Nat.not_lt.mpr hroom
  have hrestored : requeueItem it (orphansTaken d) = restoreReady it (orphansTaken d) := by
    rw [requeueItem, if_neg (by simp [ht]), if_neg hkept]
  rw [trackDepth_dsp, hrestored]
  rfl

/-! ### The decision trace (R239) -/

/-- Row of SCH_TRACE_CTRL (R239). -/
def traceCtrlRow : Row := ⟨0x34, 1, 0x1, 1, 0x1, 0x800000ff, 0, 0, 0, 0x7fffff00, 0, 0, 0, [(7, 4, [(0, 7)])]⟩

theorem regAt_schTraceCtrl : regAt A.schTraceCtrl = some (⟨A.block 6, 6, schRows⟩, traceCtrlRow, 0) := rfl

theorem bit_stored_traceCtrl (m : Nat) (v : Word) (d : Dev) {i : Nat} (h : i < 8 ∨ i = 31) :
    bit (rd A.schTraceCtrl (storeReg m A.schTraceCtrl v d)) i = bit v i := by
  have hi : i < 32 := by omega
  rw [rd_storeReg_same m v d regAt_schTraceCtrl rfl (by decide) (by decide), bit_writtenWord _ _ _ _ _ _ hi, if_pos]
  have : ∀ i < 32, (i < 8 ∨ i = 31) → ((traceCtrlRow.rw.testBit i || (!committed d && traceCtrlRow.rwl.testBit i)) &&
      !traceCtrlRow.mbz.testBit i) = true := by
    cases committed d <;> decide
  exact this i hi h

theorem rd_writeTraceCtrl_ne {a : Nat} (m : Nat) (v : Word) (d : Dev) (h : a ≠ A.schTraceWp) :
    rd a (writeTraceCtrl m v d) = rd a (storeReg m A.schTraceCtrl v d) := rd_when_ne (rd_wr_ne _ _ h)

theorem traceEnable_effect (m : Nat) (v : Word) (d : Dev) :
    let t := writeTraceCtrl m v d
    rb A.schTraceCtrl 31 t = bit v 31 ∧ rf A.schTraceCtrl 7 0 t = v.toNat % 256 ∧ t.dsp = d.dsp ∧ t.mem = d.mem ∧
    rd A.schTraceWp t = if bit v 31 then word (rf A.schTraceRp 15 0 d) else rd A.schTraceWp d := by
  have hctrl : rd A.schTraceCtrl (writeTraceCtrl m v d) = rd A.schTraceCtrl (storeReg m A.schTraceCtrl v d) :=
    rd_writeTraceCtrl_ne m v d (by decide)
  have hne {a : Nat} (ha : a ∈ [A.schTraceWp, A.schTraceRp]) : rd a (storeReg m A.schTraceCtrl v d) = rd a d :=
    rd_storeReg_ne m v d regAt_schTraceCtrl (by revert a; decide) (by revert a; decide) (by revert a; decide)
  have hsame : SameButRegs d (writeTraceCtrl m v d) := by
    refine (sameButRegs_storeReg m A.schTraceCtrl v d).trans ?_
    unfold writeTraceCtrl when
    dsimp only
    split
    · exact sameButRegs_wr _ _ _
    · exact SameButRegs.refl _
  refine ⟨?_, ?_, hsame.dsp, hsame.mem, ?_⟩
  · rw [rb, hctrl, bit_stored_traceCtrl m v d (.inr rfl)]
  · rw [rf, hctrl, fld_congr fun i _ hi => bit_stored_traceCtrl m v d (.inl (by omega))]
    rfl
  · unfold writeTraceCtrl
    by_cases hb : bit v 31 = true
    · rw [if_pos hb, when_of _ _ hb, rd_wr_same, rf, hne (by simp), rf]
    · rw [if_neg hb, when_of_not _ _ (by simpa using hb), hne (by simp)]

/-! ### The statistics window (R238, R239) -/

/-- The figures of engine n, as the window latches them from its counts (R238). -/
structure Latched (span : Nat) (e : Core) (n : Nat) (d : Dev) : Prop where
  depth : rf (A.schEngStat n 0) 31 16 d = e.maxDepth % 65536
  mean : rd (A.schEngStat n 4) d = word (if e.assigns = 0 then 0 else e.waitSum / e.assigns)
  longest : rd (A.schEngStat n 8) d = word e.waitMax
  assigns : rf (A.schEngStat n 12) 31 16 d = min e.assigns 0xFFFF
  load : rf (A.schEngStat n 12) 6 0 d = min 100 (100 * e.issued / max span 1)
  issuedAnew : (getCore n d).issued = 0
  assignsAnew : (getCore n d).assigns = 0

/-- The four figures of an engine and its counts stand as they were. -/
def KeepsStats (n : Nat) (d e : Dev) : Prop := getCore n e = getCore n d ∧ ∀ o < 16, rd (A.schEngStat n o) e = rd (A.schEngStat n o) d

theorem Latched.keeps {span n : Nat} {x : Core} {d e : Dev} (h : Latched span x n d) (hk : KeepsStats n d e) : Latched span x n e := by
  obtain ⟨hcore, hrd⟩ := hk
  exact
    { depth := (congrArg (fld · 31 16) (hrd 0 (by decide))).trans h.depth
      mean := (hrd 4 (by decide)).trans h.mean
      longest := (hrd 8 (by decide)).trans h.longest
      assigns := (congrArg (fld · 31 16) (hrd 12 (by decide))).trans h.assigns
      load := (congrArg (fld · 6 0) (hrd 12 (by decide))).trans h.load
      issuedAnew := (congrArg (·.issued) hcore).trans h.issuedAnew
      assignsAnew := (congrArg (·.assigns) hcore).trans h.assignsAnew }

theorem keepsStats_latchStats {n c : Nat} (span : Nat) (d : Dev) (h : n ≠ c) : KeepsStats n d (latchStats span c d) := by
  refine ⟨getCore_modCore_ne _ _ h, fun o ho => ?_⟩
  have hne : ∀ o' < 16, A.schEngStat n o ≠ A.schEngStat c o' := by
    intro o' ho'
    unfold A.schEngStat
    omega
  simp only [latchStats, rd_modCore]
  rw [rd_wr_ne _ _ (hne 12 (by decide)), rd_wr_ne _ _ (hne 8 (by decide)), rd_wr_ne _ _ (hne 4 (by decide)),
    rd_wf_ne _ _ _ _ (hne 0 (by decide))]

/-- The word of SCH_ENG_STAT_n +0xC shows both of its figures. -/
theorem fld_load_word {x y : Nat} (hx : x < 65536) (hy : y < 128) :
    fld (word (x * 65536 + y)) 31 16 = x ∧ fld (word (x * 65536 + y)) 6 0 = y := by
  simp only [fld_word, Nat.reduceSub, Nat.reduceAdd, Nat.reducePow]
  omega

theorem latched_latchStats (span n : Nat) (d : Dev) : Latched span (getCore n d) n (latchStats span n d) := by
  have hne {o o' : Nat} (h : o ≠ o') : A.schEngStat n o ≠ A.schEngStat n o' := by
    unfold A.schEngStat
    omega
  have hword : rd (A.schEngStat n 12) (latchStats span n d) = word (atBit (min (getCore n d).assigns 0xFFFF) 16 +
      min 100 (100 * (getCore n d).issued / max span 1)) := by
    simp only [latchStats, rd_modCore, rd_wr_same]
  have hat (x : Nat) : atBit x 16 = x * 65536 := Nat.shiftLeft_eq _ _
  refine ⟨?_, ?_, ?_, ?_, ?_, ?_, ?_⟩
  · simp only [rf, latchStats, rd_modCore]
    rw [rd_wr_ne _ _ (hne (by decide)), rd_wr_ne _ _ (hne (by decide)), rd_wr_ne _ _ (hne (by decide))]
    exact rf_wf_same _ _ _ _ _ (by decide)
  · simp only [latchStats, rd_modCore]
    rw [rd_wr_ne _ _ (hne (by decide)), rd_wr_ne _ _ (hne (by decide)), rd_wr_same]
  · simp only [latchStats, rd_modCore]
    rw [rd_wr_ne _ _ (hne (by decide)), rd_wr_same]
  · rw [rf, hword, hat, (fld_load_word (by omega) (by omega)).1]
  · rw [rf, hword, hat, (fld_load_word (by omega) (by omega)).2]
  · simp only [latchStats, getCore_modCore_same]
  · simp only [latchStats, getCore_modCore_same]

theorem keepsStats_foldl {n : Nat} (span : Nat) {l : List Nat} (d : Dev) (h : n ∉ l) :
    KeepsStats n d (l.foldl (fun d c => latchStats span c d) d) := by
  induction l generalizing d with
  | nil => exact ⟨rfl, fun _ _ => rfl⟩
  | cons c l ih =>
    rw [List.mem_cons, not_or] at h
    obtain ⟨hcore, hrd⟩ := keepsStats_latchStats span d h.1
    obtain ⟨hcore', hrd'⟩ := ih (latchStats span c d) h.2
    exact ⟨hcore'.trans hcore, fun o ho => (hrd' o ho).trans (hrd o ho)⟩

theorem latched_foldl {n : Nat} (span : Nat) {l : List Nat} (d : Dev) (h : n ∈ l) (hl : l.Nodup) :
    Latched span (getCore n d) n (l.foldl (fun d c => latchStats span c d) d) := by
  induction l generalizing d with
  | nil => simp at h
  | cons c l ih =>
    obtain ⟨hc, hl⟩ := List.nodup_cons.mp hl
    by_cases hn : n = c
    · subst hn
      exact (latched_latchStats span n d).keeps (keepsStats_foldl span _ hc)
    · have hcore : getCore n (latchStats span c d) = getCore n d := (keepsStats_latchStats span d hn).1
      have := ih (latchStats span c d) ((List.mem_cons.mp h).resolve_left hn) hl
      rwa [hcore] at this

theorem latchStats_frame (span c : Nat) (d : Dev) :
    (latchStats span c d).now = d.now ∧ (latchStats span c d).dsp = d.dsp ∧ (latchStats span c d).mem = d.mem := ⟨rfl, rfl, rfl⟩

/-- The figures of every engine are latched. -/
def statsLatched (d : Dev) : Dev := (List.range 16).foldl (fun e c => latchStats (d.now - d.dsp.winStart) c e) d

theorem statsLatched_frame (d : Dev) :
    (statsLatched d).now = d.now ∧ (statsLatched d).dsp = d.dsp ∧ (statsLatched d).mem = d.mem :=
  ⟨foldl_keeps (·.now) (fun e c => (latchStats_frame _ c e).1) _ _, foldl_keeps (·.dsp) (fun e c => (latchStats_frame _ c e).2.1) _ _,
    foldl_keeps (·.mem) (fun e c => (latchStats_frame _ c e).2.2) _ _⟩

/-- The window has ended: figures latched, and a new window. -/
def statsTaken (d : Dev) : Dev := modDsp (fun q => { q with winStart := d.now }) (statsLatched d)

theorem exec_statisticsWindow (s : State) : exec .statisticsWindow s =
    .next { s with dev := if s.dev.now < s.dev.dsp.winStart + statWindow s.dev then s.dev else statsTaken s.dev } := by
  change execStatisticsWindow s = _
  rw [execStatisticsWindow, onDev]
  simp only [statsTaken, statsLatched]

theorem statsTaken_frame (d : Dev) :
    (statsTaken d).dsp = { d.dsp with winStart := d.now } ∧ (statsTaken d).mem = d.mem := by
  obtain ⟨-, hdsp, hmem⟩ := statsLatched_frame d
  rw [statsTaken, modDsp]
  exact ⟨by rw [hdsp], hmem⟩

theorem latched_statsTaken {n : Nat} (d : Dev) (h : n < 16) :
    Latched (d.now - d.dsp.winStart) (getCore n d) n (statsTaken d) :=
  (latched_foldl _ d (List.mem_range.mpr h) List.nodup_range).keeps ⟨getCore_modDsp _ _ _, fun _ _ => rd_modDsp _ _ _⟩

/-! ### The obligation -/

theorem exec_orphanFree {m : Fin 20} (token : Bool) (n : Fin 4096) {s : State} (hp : powered s.dev = true) :
    exec (.orphanFree m token n) s = .next { s with dev := writeOrphCmd m (orphanCommand 1 token n) s.dev } :=
  onPow_of_powered _ hp

theorem exec_orphanRequeue {m : Fin 20} (token : Bool) (n : Fin 4096) {s : State} (hp : powered s.dev = true) :
    exec (.orphanRequeue m token n) s = .next { s with dev := writeOrphCmd m (orphanCommand 2 token n) s.dev } :=
  onPow_of_powered _ hp

/-- Settles O45: each command by what it does to the queue of orphans, the trace by the row of its register, and the
window's figures by induction over the engines. -/
theorem orphansAndObservation : Obligations.OrphansAndObservation := by
  unfold Obligations.OrphansAndObservation
  intro m s hp
  refine ⟨fun h => ?_, fun o rest h => ⟨fun hm => ?_, fun hm => ?_, fun hm hd => ?_⟩,
    fun token n => ⟨fun hm => ?_, fun habsent i hi => ?_, fun it hq hnames htoken h1 h3 h10 => ?_⟩,
    fun v => ?_, fun hopen => ?_, fun hend => ?_⟩
  · rw [exec_orphanPop hp, readOrph_nil m h]
  · rw [exec_orphanPop hp, readOrph_pops h hm]
    rfl
  · subst hm
    rw [exec_orphanPop hp]
    exact congrArg (fun p : Word × Dev => Host.Outcome.next { s with dev := giveRead 19 p.1 p.2 }) (readOrph_debug h)
  · rw [exec_orphanPop hp, readOrph_engine h hm (fun he => hd (Fin.ext he))]
  · have hm : m.val ≠ 0 := fun h => hm (Fin.ext h)
    rw [exec_orphanFree token n hp, exec_orphanRequeue token n hp, writeOrphCmd_other _ _ hm, writeOrphCmd_other _ _ hm]
    exact ⟨rfl, rfl⟩
  · have htaken (op : Nat) (hop : op < 4) : writeOrphCmd 0 (orphanCommand op token n) s.dev = orphCmdTaken s.dev :=
      writeOrphCmd_absent hop n.isLt habsent
    have hexec : exec i s = .next { s with dev := orphCmdTaken s.dev } := by
      simp only [List.mem_cons, List.not_mem_nil, or_false] at hi
      obtain rfl | rfl := hi
      · rw [exec_orphanFree token n hp, ← htaken 1 (by decide)]
        rfl
      · rw [exec_orphanRequeue token n hp, ← htaken 2 (by decide)]
        rfl
    exact ⟨_, hexec, rfl, rfl, fun a => rd_orphCmdTaken a _⟩
  · have htok : it.token = false := hnames.1.trans htoken
    have hentry : it.entry = n.val := by
      have := hnames.2
      rwa [if_neg (by simp [htoken])] at this
    have hnamed {op : Nat} (hop : op < 4) := writeOrphCmd_named hop n.isLt hq hnames
    refine ⟨⟨_, exec_orphanFree token n hp, ?_⟩, fun hroom => ⟨_, exec_orphanRequeue token n hp, ?_⟩⟩
    · have hfreed : writeOrphCmd (0 : Fin 20) (orphanCommand 1 token n) s.dev = freeEntry it (orphansTaken s.dev) :=
        (hnamed (by decide)).trans ((if_pos rfl).trans (returnBuf_of_none _ h1 h3 h10))
      obtain ⟨hdsp, hlevel⟩ := freed_effect (d := s.dev) htok
      rw [hentry] at hdsp hlevel
      simp only [hfreed, hdsp]
      exact ⟨trivial, trivial, trivial, trivial, hlevel⟩
    · have hback : writeOrphCmd (0 : Fin 20) (orphanCommand 2 token n) s.dev = trackDepth (requeueItem it (orphansTaken s.dev)) :=
        hnamed (by decide)
      simp only [hback, requeued_effect htok hroom, mem_insertReady, implies_true, and_self]
  · exact ⟨_, onPow_of_powered (writeTraceCtrl m v) hp, traceEnable_effect m v s.dev⟩
  · rw [exec_statisticsWindow, if_pos hopen]
  · have hexec : exec .statisticsWindow s = .next { s with dev := statsTaken s.dev } := by
      rw [exec_statisticsWindow, if_neg (Nat.not_lt.mpr hend)]
    obtain ⟨hdsp, hmem⟩ := statsTaken_frame s.dev
    refine ⟨_, hexec, hdsp, hmem, fun n hn => ?_⟩
    obtain ⟨hdepth, hmean, hlongest, hassigns, hload, hissued, hanew⟩ := latched_statsTaken s.dev hn
    exact ⟨hdepth, hmean, hlongest, hassigns, hload, hissued, hanew⟩

end Sys2Proof.Machine
end

section
/-! The configuration parity walk and the view comparison, and the obligation about them (R116, R123). -/

namespace Sys2Proof.Machine

/-! ### The parity walk (R116) -/

theorem unitOf_of_regAt {a : Nat} {u : RegUnit} {r : Row} {i : Nat} (h : regAt a = some (u, r, i)) : unitOf a = some u := by
  unfold regAt at h
  cases hu : unitOf a with
  | none => simp [hu] at h
  | some w =>
    rw [hu] at h
    obtain ⟨p, -, hp⟩ := Option.map_eq_some_iff.mp h
    rw [(Prod.mk.inj hp).1]

/-- The device after an upset of the configuration word with key k. -/
def cfgUpset (k : Nat) (d : Dev) : Dev := { d with badCfg := d.badCfg ++ (if k ∈ d.badCfg then [] else [k]) }

theorem mem_badCfg_cfgUpset (k : Nat) (d : Dev) : k ∈ (cfgUpset k d).badCfg := by
  unfold cfgUpset
  dsimp only
  split
  next h => rwa [List.append_nil]
  next => simp

/-- A report before the decision, out of which only the list of reports and the image part's mark come (R461). -/
theorem report_undecided_frame {code unit addr idx : Nat} {d : Dev} (h : rb A.safStat 0 d = false) :
    let t := report code unit addr idx d
    t.saf.reports = d.saf.reports ++ [⟨code, unit, addr, idx⟩] ∧ t.badCfg = d.badCfg ∧ t.regs = d.regs ∧ t.mem = d.mem ∧
    t.tabs = d.tabs := by
  obtain ⟨i, hi⟩ := report_undecided (code := code) (unit := unit) (addr := addr) (idx := idx) h
  dsimp only
  rw [hi]
  exact ⟨rfl, rfl, rfl, rfl, rfl⟩

section
variable {a : Nat} {u : RegUnit} {r : Row} {i : Nat} {d : Dev}

theorem walkWord_register (h : regAt a = some (u, r, i)) (hcfg : r.rw ≠ 0 ∨ r.rwl ≠ 0) :
    walkWord a none true d = useCfg u.code a 0 (cfgUpset a d) ∧ walkWord a none false d = useCfg u.code a 0 d := by
  have hrow : ¬(r.rw = 0 ∧ r.rwl = 0) := by tauto
  unfold walkWord
  simp only [unitOf_of_regAt h, h, if_neg hrow, if_true, Bool.false_eq_true, if_false]
  exact ⟨rfl, trivial⟩

theorem walkWord_table {idx k j : Nat} (hu : unitOf a = some u)
    (ht : tableAt (a - 4) (idx / 65536) (idx % 16384) = some (k, j)) (hcfg : tabRwl k j ≠ 0) :
    walkWord a (some idx) true d = useTab u.code a idx k j (cfgUpset (2 ^ 32 + tabKey k j) d) ∧
    walkWord a (some idx) false d = useTab u.code a idx k j d := by
  have hrow : ¬(tabRwl k j = 0 ∧ ¬(k = 44 ∧ tabRw k j ≠ 0)) := fun h => hcfg h.1
  unfold walkWord
  simp only [hu, ht, if_neg hrow, if_true, Bool.false_eq_true, if_false]
  exact ⟨rfl, trivial⟩

end

/-- The walk of a word that the walker can reach, while the core domain runs (R450). -/
theorem exec_configParityWalk {a : Word} {idx : Option (Fin 524288)} {flip : Bool} {s : State} (hp : powered s.dev = true)
    (hidx : idx.isNone = true ∨ isIndData a.toNat = true) :
    exec (.configParityWalk a idx flip) s = .next { s with dev := walkWord a.toNat (idx.map fun i => i.val) flip s.dev } := by
  refine onDev_eq_next (when_of _ _ ?_)
  have hm : monitored s.dev = true := by rw [monitored, hp, Bool.true_or]
  rw [hm, Bool.true_and, Bool.or_eq_true]
  exact hidx

/-! ### The view comparison (R123) -/

/-- A mismatch of unit u's mirror that is gone is recorded in SAF_VIEW. -/
def viewRecorded (u : Nat) (d : Dev) : Dev := d |> wf A.safView 31 24 u |> incrSat A.safView 15 0 |> raise A.safStat 3

theorem viewRecorded_effect {u : Nat} (d : Dev) (h : u < 256) :
    rf A.safView 31 24 (viewRecorded u d) = u ∧ rb A.safStat 3 (viewRecorded u d) = true ∧
    rf A.safView 15 0 (viewRecorded u d) = min 0xFFFF (rf A.safView 15 0 d + 1) ∧
    ∀ a, a ≠ A.safView → a ≠ A.safStat → rd a (viewRecorded u d) = rd a d := by
  have hview : rd A.safView (viewRecorded u d) = rd A.safView (incrSat A.safView 15 0 (wf A.safView 31 24 u d)) :=
    rd_raise_ne _ _ (by decide)
  refine ⟨?_, ?_, ?_, fun a hv hs => ?_⟩
  · rw [rf, hview]
    calc rf A.safView 31 24 (incrSat A.safView 15 0 (wf A.safView 31 24 u d))
        = rf A.safView 31 24 (wf A.safView 31 24 u d) := rf_wf_other _ _ (by decide) (by decide)
      _ = u := (rf_wf_same _ _ _ _ _ (by decide)).trans (Nat.mod_eq_of_lt h)
  · rw [viewRecorded, rb_raise_same _ _ (by decide)]
    simp
  · rw [rf, hview]
    calc rf A.safView 15 0 (incrSat A.safView 15 0 (wf A.safView 31 24 u d))
        = min 0xFFFF (rf A.safView 15 0 (wf A.safView 31 24 u d) + 1) := rf_incrSat_same _ _ _ _ (by decide)
      _ = min 0xFFFF (rf A.safView 15 0 d + 1) := by rw [rf_wf_other _ _ (by decide) (by decide)]
  · rw [viewRecorded, rd_raise_ne _ _ hs, rd_incrSat_ne _ _ _ hv, rd_wf_ne _ _ _ _ hv]

section
variable {u : Nat} {d : Dev}

theorem viewComparison_again (hs : d.sys.mode = .service) (hv : d.viewBad = [u]) :
    viewComparison [u] d = report 0x48 u 0 0 { d with viewBad := [u] } := by
  simp [viewComparison, inService, hs, hv]

theorem viewComparison_gone (hs : d.sys.mode = .service) (hv : d.viewBad = [u]) :
    viewComparison [] d = viewRecorded u { d with viewBad := [] } := by
  simp [viewComparison, inService, hs, hv, viewRecorded]

end

/-! ### The obligation -/

/-- Settles O38: the walk reports by the use of the word that the upset marked, and the comparison by its two lists. -/
theorem configurationGuards : Obligations.ConfigurationGuards := by
  unfold Obligations.ConfigurationGuards
  intro s hp hu
  refine ⟨fun a u r i hr hcfg => ⟨?_, fun hgood => ?_⟩, fun a idx u k i hd hunit ht hcfg => ⟨?_, fun hgood => ?_⟩,
    fun hs u => ⟨?_, ?_⟩⟩
  · refine ⟨_, exec_configParityWalk hp (.inl rfl), ?_⟩
    have hmarked := mem_badCfg_cfgUpset a.toNat s.dev
    obtain ⟨hrep, hbad, hregs, hmem, -⟩ := report_undecided_frame (code := 0x42) (unit := u.code) (addr := a.toNat) (idx := 0)
      (d := cfgUpset a.toNat s.dev) hu
    simp only [Option.map_none, (walkWord_register hr hcfg).1, useCfg, if_pos hmarked]
    exact ⟨hrep, hbad ▸ hmarked, hregs, hmem⟩
  · rw [exec_configParityWalk hp (.inl rfl), Option.map_none, (walkWord_register hr hcfg).2, useCfg, if_neg hgood]
  · refine ⟨_, exec_configParityWalk hp (.inr hd), ?_⟩
    have hmarked := mem_badCfg_cfgUpset (2 ^ 32 + tabKey k i) s.dev
    obtain ⟨hrep, -, -, -, htabs⟩ := report_undecided_frame (code := 0x42) (unit := u.code) (addr := a.toNat) (idx := idx)
      (d := cfgUpset (2 ^ 32 + tabKey k i) s.dev) hu
    simp only [Option.map_some, (walkWord_table hunit ht hcfg).1, useTab, if_pos hmarked]
    exact ⟨hrep, htabs⟩
  · rw [exec_configParityWalk hp (.inr hd), Option.map_some, (walkWord_table hunit ht hcfg).2, useTab_of_good hgood]
  · have hagain := viewComparison_again (u := u.val) (d := { s.dev with viewBad := [u.val] }) hs rfl
    exact onDev_eq_next (hagain.trans (report_waits _ _ _ (by decide) hu))
  · obtain ⟨hunit, hstat, hcount, hrest⟩ := viewRecorded_effect (u := u.val) { s.dev with viewBad := [] } (by omega)
    have hgone := viewComparison_gone (u := u.val) (d := { s.dev with viewBad := [u.val] }) hs rfl
    exact ⟨_, onDev_eq_next hgone, rfl, rfl, hunit, hstat, hcount, hrest⟩

end Sys2Proof.Machine
end

section
/-! Register writes and status clears, and the obligation about them (R101-R103, R106, R108, R109, R114, R115, R167). -/

namespace Sys2Proof.Machine

/-! ### Rows and the rule of the registers named -/

/-- Row of SYS_WAKE_TMR. -/
def sysWakeTmrRow : Row := ⟨0xd0, 1, 0x1, 1, 0x1, 0xffffffff, 0, 0, 0, 0, 0, 0, 0, []⟩
/-- Row of SYS_WAKE_EN. -/
def sysWakeEnRow : Row := ⟨0xcc, 1, 0x1, 1, 0x1, 0x1f, 0, 0, 0, 0xffffffe0, 0, 1, 0, []⟩
/-- Row of SYS_PWR_CFG. -/
def sysPwrCfgRow : Row := ⟨0xc4, 1, 0x1, 1, 0x1, 0, 1, 0, 0, 0xfffffffe, 0, 1, 0, []⟩
/-- Row of SCH_STAT_WIN. -/
def schStatWinRow : Row := ⟨0x28, 1, 0x1, 1, 0x1, 0xffff, 0, 0, 0, 0xffff0000, 0, 1000, 0, [(15, 0, [(1, 65535)])]⟩

theorem regAt_sysWakeTmr : regAt A.sysWakeTmr = some (⟨A.block 0, 0, sysRows⟩, sysWakeTmrRow, 0) := rfl
theorem regAt_sysWakeEn : regAt A.sysWakeEn = some (⟨A.block 0, 0, sysRows⟩, sysWakeEnRow, 0) := rfl
theorem regAt_sysPwrCfg : regAt A.sysPwrCfg = some (⟨A.block 0, 0, sysRows⟩, sysPwrCfgRow, 0) := rfl
theorem regAt_schStatWin : regAt A.schStatWin = some (⟨A.block 6, 6, schRows⟩, schStatWinRow, 0) := rfl

/-- The registers whose write is the general one, with its parity computed anew. -/
theorem writeReg_plain {a : Nat} (m ctx : Nat) (v : Word) (f : Fuses) (d : Dev)
    (h : a ∈ [A.sysWakeTmr, A.sysWakeEn, A.sysPwrCfg, A.schStatWin, A.memImgStat, A.sysPwrStat]) :
    writeReg m ctx a v f d = storeReg m a v (parityAnew a d) := by
  simp only [List.mem_cons, List.not_mem_nil, or_false] at h
  obtain rfl | rfl | rfl | rfl | rfl | rfl := h <;> rfl

/-- An address of the SYS block or of an unassigned block that holds no register (R101, R102). -/
theorem writeReg_unmapped {a : Nat} (m ctx : Nat) (v : Word) (f : Fuses) (d : Dev)
    (h : a ∈ [0x10000050, 0x100B0000, 0x10160010, 0x10200000]) : writeReg m ctx a v f d = errAt 0x10000000 m errUnmapped a d := by
  simp only [List.mem_cons, List.not_mem_nil, or_false] at h
  obtain rfl | rfl | rfl | rfl := h <;> rfl

theorem unitBase_sys {a : Nat} (h : 0x10000000 ≤ a) (h' : a < 0x10010000) : unitBase a = 0x10000000 := by
  have hwin : inWindow a = true := by simp [inWindow]; omega
  have hblock : (a - 0x10000000) / 0x10000 = 0 := by omega
  simp [unitBase, unitOf, hwin, hblock, blockRows]

theorem region_window {a : Nat} (h : 0x10000000 ≤ a) (h' : a < 0x10400000) : region a = .reg := by
  have hwin : inWindow a = true := by simp [inWindow]; omega
  unfold region
  rw [if_neg (by omega), if_neg (by omega), if_neg (by omega), if_neg (by omega), if_neg (by omega), if_neg (by omega),
    if_neg (by omega), if_pos hwin]

/-! ### A misaligned address (R103, R167) -/

theorem accessFault_misaligned {c a : Nat} {x : Ctx} (d : Dev) (h : 0x10000000 ≤ a) (h' : a < 0x10010000) (h4 : a % 4 ≠ 0) :
    accessFault c 4 a true x d = some (if x.sys = true then 3 else 5, none) := by
  have hguard : guardedReg a = true := by
    have hwin : inWindow a = true := by simp [inWindow]; omega
    have hblock : (a - 0x10000000) / 0x10000 = 0 := by omega
    simp [guardedReg, hwin, hblock]
  cases hsys : x.sys <;> simp [accessFault, hguard, hsys, h4]

theorem writeBy_misaligned_host {m ctx a : Nat} {v : Word} {f : Fuses} (d : Dev) (hm : 16 < m) (h : 0x10000000 ≤ a)
    (h' : a < 0x10010000) (h4 : a % 4 ≠ 0) : writeBy m ctx a v f d = errAt 0x10000000 m errAccess a d := by
  rw [writeBy, byMaster, if_pos hm, if_neg (by omega), writeReg, if_pos h4, unitBase_sys h h']

theorem writeBy_misaligned_engine {m ctx a : Nat} {v : Word} {f : Fuses} (d : Dev) (hm : m ≤ 16)
    (hrun : running (masterCore m) d = some (keyOf (masterCore m) ctx)) (h : 0x10000000 ≤ a) (h' : a < 0x10010000)
    (h4 : a % 4 ≠ 0) : writeBy m ctx a v f d =
      let key := keyOf (masterCore m) ctx
      takeExc key { cause := if (getCtx key d).sys = true then 3 else 5, wr := true, ebad := some a } d := by
  simp only [writeBy, byMaster, if_neg (Nat.not_lt.mpr hm), Option.map_some, Option.some_or, accessFault_misaligned d h h' h4, hrun,
    decide_true, when_of, accessExc]

/-! ### What each register takes (R106, R114, R115) -/

/-- The masked word: the bits of the mask are the written ones. -/
theorem written_eq {r : Row} {lock : Bool} {mask : Nat} (cur v : Word)
    (h : (r.rw ||| if lock then 0 else r.rwl) &&& (r.mbz ^^^ 0xFFFFFFFF) = mask) :
    r.written lock cur v = (cur &&& ~~~(word mask)) ||| (v &&& word mask) := by
  rw [Row.written, writtenWord, h]

theorem and_word_zero (v : Word) : v &&& word 0 = 0 := BitVec.and_zero

/-- A row with no live bits, locked bits or must-be-0 bits and no reserved encoding marks nothing. -/
theorem Row.liveBad_of_zero {r : Row} (h : r.live = 0) (cur v : Word) : r.liveBad cur v = false := by
  rw [Row.liveBad, h, and_word_zero]
  exact decide_eq_false (not_not.mpr rfl)

theorem Row.lockBad_of_zero {r : Row} (h : r.rwl = 0) (lock : Bool) (cur v : Word) : r.lockBad lock cur v = false := by
  rw [Row.lockBad, h, and_word_zero, decide_eq_false (not_not.mpr rfl), Bool.and_false]

theorem Row.rsvdBad_of_nil {r : Row} (h : r.mbz = 0) (henc : r.enc = []) (lock : Bool) (v : Word) : r.rsvdBad lock v = false := by
  rw [Row.rsvdBad, h, henc, and_word_zero, decide_eq_false (not_not.mpr rfl), List.any_nil, Bool.or_false]

/-- The live bits from bit k up. -/
theorem Row.liveBad_of_high {r : Row} {k : Nat} (hk : k < 32) (h : r.live = 2 ^ 32 - 2 ^ k) (cur v : Word) :
    r.liveBad cur v = decide (v.toNat / 2 ^ k ≠ cur.toNat / 2 ^ k) := by
  rw [Row.liveBad, h]
  exact decide_eq_decide.mpr (not_congr (xor_and_high_eq_zero hk v cur))

theorem storeReg_sysWakeTmr (m : Nat) (v : Word) (d : Dev) : storeReg m A.sysWakeTmr v d = wr A.sysWakeTmr v d := by
  have hall : sysWakeTmrRow.written (committed d) (rd A.sysWakeTmr d) v = v := by
    rw [written_eq (mask := 0xffffffff) _ _ (by cases committed d <;> rfl)]
    exact word_ext fun i hi => by
      have hones : ∀ i < 32, (0xffffffff : Nat).testBit i = true := by decide
      simp [bit, word, BitVec.testBit_toNat, hi, hones i hi]
  rw [storeReg_row m v d regAt_sysWakeTmr rfl, hall, Row.liveBad_of_zero rfl, Row.lockBad_of_zero rfl, Row.rsvdBad_of_nil rfl rfl]
  rfl

theorem storeReg_sysWakeEn (m : Nat) (v : Word) (d : Dev) : storeReg m A.sysWakeEn v d =
    errIf (decide (v.toNat / 32 ≠ (rd A.sysWakeEn d).toNat / 32)) 0x10000000 m errLive A.sysWakeEn
      (wr A.sysWakeEn ((rd A.sysWakeEn d &&& ~~~(word 0x1F)) ||| (v &&& word 0x1F)) d) := by
  rw [storeReg_row m v d regAt_sysWakeEn rfl, written_eq (mask := 0x1F) _ _ (by cases committed d <;> rfl),
    Row.liveBad_of_high (k := 5) (by decide) rfl, Row.lockBad_of_zero rfl, Row.rsvdBad_of_nil rfl rfl]
  rfl

theorem storeReg_sysPwrCfg {m : Nat} {v : Word} {d : Dev} (hv : v.toNat / 2 = (rd A.sysPwrCfg d).toNat / 2) :
    storeReg m A.sysPwrCfg v d =
      errIf (sysPwrCfgRow.lockBad (committed d) (rd A.sysPwrCfg d) v) 0x10000000 m errLock A.sysPwrCfg
        (wr A.sysPwrCfg (sysPwrCfgRow.written (committed d) (rd A.sysPwrCfg d) v) d) := by
  rw [storeReg_row m v d regAt_sysPwrCfg rfl, Row.liveBad_of_high (k := 1) (by decide) rfl, Row.rsvdBad_of_nil rfl rfl,
    show decide (v.toNat / 2 ^ 1 ≠ (rd A.sysPwrCfg d).toNat / 2 ^ 1) = false from decide_eq_false (not_not.mpr hv)]
  rfl

/-- After commit the locked bit alone decides the mark. -/
theorem lockBad_sysPwrCfg (cur v : Word) : sysPwrCfgRow.lockBad true cur v = decide (bit v 0 ≠ bit cur 0) := by
  have hone : ∀ i < 32, (1 : Nat).testBit i = decide (i = 0) := by decide
  have hbit (i : Nat) (hi : i < 32) : bit ((v ^^^ cur) &&& word 1) i = ((bit v i ^^ bit cur i) && decide (i = 0)) := by
    simp only [bit, word, BitVec.testBit_toNat, BitVec.getLsbD_and, BitVec.getLsbD_xor, BitVec.getLsbD_ofNat, hi, decide_true,
      Bool.true_and, hone i hi]
  rw [Row.lockBad, Bool.true_and]
  refine decide_eq_decide.mpr (not_congr ⟨fun h => ?_, fun h => word_ext fun i hi => ?_⟩)
  · have := hbit 0 (by decide)
    rw [show (v ^^^ cur) &&& word 1 = 0 from h] at this
    simpa [bit] using this
  · rw [show sysPwrCfgRow.rwl = 1 from rfl, hbit i hi]
    by_cases hi0 : i = 0
    · rw [hi0, h, Bool.xor_self, Bool.false_and]
      rfl
    · simp [bit, hi0]

/-- TMON before commit (R114). -/
theorem storeReg_sysPwrCfg_open {m : Nat} {v : Word} {d : Dev} (hv : v.toNat / 2 = (rd A.sysPwrCfg d).toNat / 2)
    (hc : committed d = false) : storeReg m A.sysPwrCfg v d =
      wr A.sysPwrCfg ((rd A.sysPwrCfg d &&& ~~~(word 1)) ||| (v &&& word 1)) d := by
  rw [storeReg_sysPwrCfg hv, hc, written_eq (mask := 1) _ _ rfl]
  rfl

/-- TMON after commit (R114). -/
theorem storeReg_sysPwrCfg_locked {m : Nat} {v : Word} {d : Dev} (hv : v.toNat / 2 = (rd A.sysPwrCfg d).toNat / 2)
    (hc : committed d = true) : storeReg m A.sysPwrCfg v d =
      errIf (decide (bit v 0 ≠ rb A.sysPwrCfg 0 d)) 0x10000000 m errLock A.sysPwrCfg (wr A.sysPwrCfg (rd A.sysPwrCfg d) d) := by
  have hkept : sysPwrCfgRow.written true (rd A.sysPwrCfg d) v = rd A.sysPwrCfg d := by
    rw [written_eq (mask := 0) _ _ rfl, and_word_zero]
    show (rd A.sysPwrCfg d &&& ~~~0#32) ||| 0#32 = rd A.sysPwrCfg d
    rw [BitVec.not_zero, BitVec.and_allOnes, BitVec.or_zero]
  rw [storeReg_sysPwrCfg hv, hc, hkept, lockBad_sysPwrCfg]
  rfl

theorem rsvdBad_schStatWin (lock : Bool) (v : Word) : schStatWinRow.rsvdBad lock v = decide (v.toNat % 65536 = 0) := by
  have hv : fld v 15 0 = v.toNat % 65536 := rfl
  have hopen : encMask (15, 0, [(1, 65535)]) &&& (schStatWinRow.rw ||| if lock then 0 else schStatWinRow.rwl) ≠ 0 := by
    cases lock <;> decide
  rw [Row.rsvdBad, show schStatWinRow.mbz = 0 from rfl, and_word_zero, decide_eq_false (not_not.mpr rfl), Bool.false_or,
    show schStatWinRow.enc = [(15, 0, [(1, 65535)])] from rfl, List.any_cons, List.any_nil, Bool.or_false, decide_eq_true hopen,
    Bool.and_true, Bool.eq_iff_iff, encBad]
  simp only [hv, List.any_cons, List.any_nil, Bool.or_false, Bool.not_eq_true', Bool.and_eq_false_iff, decide_eq_false_iff_not,
    decide_eq_true_eq]
  omega

theorem storeReg_schStatWin {m : Nat} {v : Word} {d : Dev} (hv : v.toNat / 65536 = (rd A.schStatWin d).toNat / 65536) :
    storeReg m A.schStatWin v d = errIf (decide (v.toNat % 65536 = 0)) 0x10060000 m errRsvd A.schStatWin
      (wr A.schStatWin ((rd A.schStatWin d &&& ~~~(word 0xFFFF)) ||| (v &&& word 0xFFFF)) d) := by
  rw [storeReg_row m v d regAt_schStatWin rfl, written_eq (mask := 0xFFFF) _ _ (by cases committed d <;> rfl),
    Row.liveBad_of_high (k := 16) (by decide) rfl, Row.lockBad_of_zero rfl, rsvdBad_schStatWin,
    show decide (v.toNat / 2 ^ 16 ≠ (rd A.schStatWin d).toNat / 2 ^ 16) = false from decide_eq_false (not_not.mpr hv)]
  rfl

/-! ### Clears of a status register (R108, R109) -/

section
variable {a base sq m : Nat} {v : Word} {d : Dev}

/-- A clear that is current clears the SQ bits it names; a stale one marks STALE_CLR. Neither depends on a mark of LIVE_WR
after it. -/
theorem clearStatus_effect (c : Bool) (ha : a ≠ base + 4) (ha' : a ≠ base + 8) :
    let t := errIf c base m errLive a (clearStatus base m a sq v d)
    let current := fld v 31 24 = fld (rd a d) 31 24 ∧ bit (tabGet zeroDefault d.wraps a) m = false
    (∀ b, b ≠ a → b ≠ base + 4 → b ≠ base + 8 → rd b t = rd b d) ∧
    (current → rd a t = rd a d &&& ~~~(v &&& word sq)) ∧ (¬current → rd a t = rd a d ∧ rb (base + 4) 0 t = true) := by
  refine ⟨fun b hb h4 h8 => ?_, fun hc => ?_, fun hc => ⟨?_, ?_⟩⟩
  · rw [rd_errIf_ne _ _ _ _ _ h4 h8, rd_clearStatus_ne _ _ _ _ hb h4 h8]
  · rw [rd_errIf_ne _ _ _ _ _ ha ha', clearStatus, if_pos hc, rd_wr_same]
  · rw [rd_errIf_ne _ _ _ _ _ ha ha', clearStatus, if_neg hc, rd_errAt_ne _ _ _ _ ha ha']
  · have hstale : rb (base + 4) 0 (clearStatus base m a sq v d) = true := by
      rw [clearStatus, if_neg hc, errAt, rb, rd_wr_ne _ _ (by omega)]
      exact rb_raise_self _ _ (by decide)
    cases c
    · exact hstale
    · rw [errIf, if_pos rfl, errAt, rb, rd_wr_ne _ _ (by omega)]
      exact (rb_raise_same _ _ (by decide)).trans (by rw [hstale, Bool.true_or])

end

theorem fld_seq (v : Word) : fld v 31 24 = v.toNat / 2 ^ 24 := by
  have := v.isLt
  simp only [fld, nfld, Nat.shiftRight_eq_div_pow]
  omega

/-- MEM_IMG_STAT and SYS_PWR_STAT with the header of their unit and their SQ bits. -/
theorem storeReg_statusNamed {r : Nat × Nat × Nat} (m : Nat) (v : Word) (d : Dev)
    (h : r ∈ [(A.memImgStat, 0x10040000, 0xE), (A.sysPwrStat, 0x10000000, 0xE0)]) :
    ∃ c, storeReg m r.1 v d = errIf c r.2.1 m errLive r.1 (clearStatus r.2.1 m r.1 r.2.2 v d) := by
  simp only [List.mem_cons, List.not_mem_nil, or_false] at h
  obtain rfl | rfl := h
  · exact ⟨_, storeReg_status (u := ⟨A.block 4, 4, memRows⟩) (i := 0)
      (r := ⟨0x804, 1, 0x1, 1, 0x1, 0, 0, 0xe, 0xff000001, 0x00fffff0, 0, 0, 0, []⟩) m v d rfl (by decide) rfl rfl rfl⟩
  · exact ⟨_, storeReg_status (u := ⟨A.block 0, 0, sysRows⟩) (i := 0)
      (r := ⟨0xc8, 1, 0x1, 1, 0x1, 0, 0, 0xe0, 4278218775, 16748296, 0, 0, 0, []⟩) m v d rfl (by decide) rfl rfl rfl⟩

theorem exec_statusClear {m : Fin 20} {a : Nat} {v : Word} {s : State} (hp : powered s.dev = true) (ha : a < 2 ^ 32)
    (hstatus : isStatus a = true) (hr : region a = .reg) (h4 : a % 4 = 0) (hmbx : mbxDenied m a = false)
    (hmay : PassesIssue m none true s.dev) :
    exec (.statusClear m (word a) v) s = .next { s with dev := writeReg m 0 a v s.fuses s.dev } := by
  refine onDev_eq_next ?_
  rw [toNat_word ha, when_of _ _ (by rw [hp, hstatus]; rfl), byMaster_reg hmay hr h4 hmbx]

/-! ### The obligation -/

/-- No register but those of MBX_56 to MBX_63 is refused to an engine (R240). -/
theorem mbxDenied_beyond {m a : Nat} (h : a < A.mbxData 56 ∨ A.mbxData 63 + 3 < a) : mbxDenied m a = false := by
  rw [mbxDenied, Bool.and_eq_false_iff, Bool.and_eq_false_iff, decide_eq_false_iff_not, decide_eq_false_iff_not]
  omega

/-- A write of a master that passes the checks, at a register outside MBX with a rule of its own known. -/
theorem exec_registerWrite_passes {m : Fin 20} {ctx : Fin 10} {a : Nat} {v : Word} {s : State} (hp : powered s.dev = true)
    (hmay : 16 < m.val ∨ (getCtx (keyOf (masterCore m) ctx) s.dev).sys = true) (ha : 0x10000000 ≤ a) (ha' : a < 0x10400000)
    (h4 : a % 4 = 0) (hmbx : a < A.mbxData 56 ∨ A.mbxData 63 + 3 < a) (hpost : a ≠ A.schPost) :
    exec (.registerWrite m ctx (word a) v) s = .next { s with dev := writeReg m ctx a v s.fuses s.dev } := by
  rw [exec_registerWrite hp (region_window ha ha') (by omega),
    writeBy_reg (passesIssue_ctx hmay) (region_window ha ha') h4 (mbxDenied_beyond hmbx) hpost]

/-- A register error beside which nothing but the header changes (R101). -/
theorem errAt_frame {base m k a : Nat} (d : Dev) : SameButRegs d (errAt base m k a d) ∧
    ∀ b, b ∉ [base + 4, base + 8] → rd b (errAt base m k a d) = rd b d := by
  refine ⟨sameButRegs_errAt _ _ _ _ _, fun b hb => ?_⟩
  simp only [List.mem_cons, List.not_mem_nil, or_false, not_or] at hb
  exact rd_errAt_ne _ _ _ _ hb.1 hb.2

theorem same_of_parityAnew {a : Nat} {d e : Dev} (h : SameButRegs (parityAnew a d) e) : e.mem = d.mem ∧ e.tabs = d.tabs :=
  ⟨h.mem, h.tabs⟩

/-- A word stored, and an error marked where c holds. -/
theorem errIf_wr_effect {base m k a : Nat} (c : Bool) (w : Word) (d : Dev) (hk : k < 24) (ha : 0x10000000 ≤ a) (ha' : a < 0x10400000)
    (h4 : a ≠ base + 4) (h8 : a ≠ base + 8) :
    let t := errIf c base m k a (wr a w d)
    t.mem = d.mem ∧ t.tabs = d.tabs ∧ rd a t = w ∧ (∀ b, b ∉ [a, base + 4, base + 8] → rd b t = rd b d) ∧
    (c = false → ∀ b, b ∉ [a] → rd b t = rd b d) ∧
    (c = true → rb (base + 4) k t = true ∧ rd (base + 8) t = word (m * 2 ^ 27 + k * 2 ^ 24 + (a - 0x10000000))) := by
  have hsame : SameButRegs d (errIf c base m k a (wr a w d)) := (sameButRegs_wr _ _ _).trans (sameButRegs_errIf _ _ _ _ _ _)
  refine ⟨hsame.mem, hsame.tabs, ?_, fun b hb => ?_, fun hc b hb => ?_, fun hc => ?_⟩
  · rw [rd_errIf_ne _ _ _ _ _ h4 h8, rd_wr_same]
  · simp only [List.mem_cons, List.not_mem_nil, or_false, not_or] at hb
    rw [rd_errIf_ne _ _ _ _ _ hb.2.1 hb.2.2, rd_wr_ne _ _ hb.1]
  · rw [hc]
    exact rd_wr_ne _ _ (by simpa using hb)
  · rw [hc]
    exact errAt_marks _ hk ha ha'

/-- A word kept, and an error marked where c holds. -/
theorem errIf_held_effect {base m k a : Nat} (c : Bool) (d : Dev) (hk : k < 24) (ha : 0x10000000 ≤ a) (ha' : a < 0x10400000) :
    let t := errIf c base m k a (wr a (rd a d) d)
    (∀ b, b ∉ [base + 4, base + 8] → rd b t = rd b d) ∧ (c = false → ∀ b, rd b t = rd b d) ∧
    (c = true → rb (base + 4) k t = true ∧ rd (base + 8) t = word (m * 2 ^ 27 + k * 2 ^ 24 + (a - 0x10000000))) := by
  refine ⟨fun b hb => ?_, fun hc b => ?_, fun hc => ?_⟩
  · simp only [List.mem_cons, List.not_mem_nil, or_false, not_or] at hb
    rw [rd_errIf_ne _ _ _ _ _ hb.1 hb.2, rd_wr_held]
  · rw [hc]
    exact rd_wr_held _ _ _
  · rw [hc]
    exact errAt_marks _ hk ha ha'

/-- Settles O36: the checks of the master first, then the row of the register. -/
theorem registerWrites : Obligations.RegisterWrites := by
  unfold Obligations.RegisterWrites
  intro m ctx v s hp
  have hnamed {a : Nat} (hmay : 16 < m.val ∨ (getCtx (keyOf (masterCore m) ctx) s.dev).sys = true)
      (ha : a ∈ [A.sysWakeTmr, A.sysWakeEn, A.sysPwrCfg, A.schStatWin]) : exec (.registerWrite m ctx (word a) v) s =
        .next { s with dev := storeReg m a v (parityAnew a s.dev) } := by
    have hat : 0x10000000 ≤ a ∧ a < 0x10400000 ∧ a % 4 = 0 ∧ (a < A.mbxData 56 ∨ A.mbxData 63 + 3 < a) ∧ a ≠ A.schPost := by
      revert a
      decide
    obtain ⟨hlo, hhi, h4, hmbx, hpost⟩ := hat
    rw [exec_registerWrite_passes hp hmay hlo hhi h4 hmbx hpost, writeReg_plain _ _ _ _ _ (by
      simp only [List.mem_cons, List.not_mem_nil, or_false] at ha ⊢
      tauto)]
  refine ⟨fun a ha ha' h4 => ⟨fun hm => ?_, fun hm hrun => ?_⟩, fun hmay a ha => ?_, fun hmay => ?_, fun hmay => ?_, fun hmay => ?_,
    fun hmay hv => ?_, fun hmay hv => ?_, fun hmay r hr => ?_⟩
  · have hexec : exec (.registerWrite m ctx (word a) v) s = .next { s with dev := errAt 0x10000000 m errAccess a s.dev } := by
      rw [exec_registerWrite hp (region_window ha (by omega)) (by omega), writeBy_misaligned_host s.dev hm ha ha' h4]
    obtain ⟨hsame, honly⟩ := errAt_frame (base := 0x10000000) (m := m) (k := errAccess) (a := a) s.dev
    exact ⟨_, hexec, ⟨rfl, hsame.mem, hsame.tabs⟩, errAt_marks s.dev (by decide) ha (by omega), honly⟩
  · rw [exec_registerWrite hp (region_window ha (by omega)) (by omega), writeBy_misaligned_engine s.dev hm hrun ha ha' h4]
  · have hat : 0x10000000 ≤ a ∧ a < 0x10400000 ∧ a % 4 = 0 ∧ (a < A.mbxData 56 ∨ A.mbxData 63 + 3 < a) ∧ a ≠ A.schPost := by
      revert a
      decide
    obtain ⟨hlo, hhi, h4, hmbx, hpost⟩ := hat
    have hexec : exec (.registerWrite m ctx (word a) v) s = .next { s with dev := errAt 0x10000000 m errUnmapped a s.dev } := by
      rw [exec_registerWrite_passes hp hmay hlo hhi h4 hmbx hpost, writeReg_unmapped _ _ _ _ _ ha]
    obtain ⟨hsame, honly⟩ := errAt_frame (base := 0x10000000) (m := m) (k := errUnmapped) (a := a) s.dev
    exact ⟨_, hexec, ⟨rfl, hsame.mem, hsame.tabs⟩, errAt_marks s.dev (by decide) hlo hhi, honly⟩
  · have hexec : exec (.registerWrite m ctx 0x10010050 v) s =
        .next { s with dev := errAt 0x10010000 m errUnmapped 0x10010050 s.dev } :=
      exec_registerWrite_passes (a := 0x10010050) hp hmay (by decide) (by decide) (by decide) (by decide) (by decide)
    obtain ⟨hsame, honly⟩ := errAt_frame (base := 0x10010000) (m := m) (k := errUnmapped) (a := 0x10010050) s.dev
    exact ⟨_, hexec, ⟨rfl, hsame.mem, hsame.tabs⟩, errAt_marks s.dev (by decide) (by decide) (by decide), honly⟩
  · have hexec := hnamed hmay (a := A.sysWakeTmr) (by simp)
    rw [storeReg_sysWakeTmr] at hexec
    exact ⟨_, hexec, ⟨rfl, rfl, rfl⟩, rd_wr_same _ _ _, fun b hb => rd_wr_ne _ _ (by simpa using hb)⟩
  · have hexec := hnamed hmay (a := A.sysWakeEn) (by simp)
    rw [storeReg_sysWakeEn] at hexec
    obtain ⟨hmem, htabs, hword, honly, hquiet, hmarks⟩ := errIf_wr_effect (base := 0x10000000) (m := m) (k := errLive)
      (a := A.sysWakeEn) (decide (v.toNat / 32 ≠ (rd A.sysWakeEn s.dev).toNat / 32))
      ((rd A.sysWakeEn s.dev &&& ~~~(word 0x1F)) ||| (v &&& word 0x1F)) (parityAnew A.sysWakeEn s.dev)
      (by decide) (by decide) (by decide) (by decide) (by decide)
    refine ⟨_, hexec, ⟨rfl, hmem, htabs⟩, hword, honly, ?_⟩
    split
    next hv => exact hquiet (decide_eq_false (not_not.mpr hv))
    next hv => exact hmarks (decide_eq_true hv)
  · have hexec := hnamed hmay (a := A.sysPwrCfg) (by simp)
    refine ⟨_, hexec, ⟨rfl, same_of_parityAnew (sameButRegs_storeReg _ _ _ _)⟩, fun hc => ?_, fun hc => ?_⟩
    · rw [storeReg_sysPwrCfg_open (d := parityAnew A.sysPwrCfg s.dev) hv hc]
      exact ⟨rd_wr_same _ _ _, fun b hb => rd_wr_ne _ _ (by simpa using hb)⟩
    · rw [storeReg_sysPwrCfg_locked (d := parityAnew A.sysPwrCfg s.dev) hv hc]
      obtain ⟨hword, hquiet, hmarks⟩ := errIf_held_effect (base := 0x10000000) (m := m) (k := errLock) (a := A.sysPwrCfg)
        (decide (bit v 0 ≠ rb A.sysPwrCfg 0 s.dev)) (parityAnew A.sysPwrCfg s.dev) (by decide) (by decide) (by decide)
      refine ⟨hword A.sysPwrCfg (by decide), ?_⟩
      split
      next hb => exact fun b _ => hquiet (decide_eq_false (not_not.mpr hb)) b
      next hb => exact ⟨hmarks (decide_eq_true hb), hword⟩
  · have hexec := hnamed hmay (a := A.schStatWin) (by simp)
    rw [storeReg_schStatWin (d := parityAnew A.schStatWin s.dev) hv] at hexec
    obtain ⟨hmem, htabs, hword, -, hquiet, hmarks⟩ := errIf_wr_effect (base := 0x10060000) (m := m) (k := errRsvd)
      (a := A.schStatWin) (decide (v.toNat % 65536 = 0))
      ((rd A.schStatWin s.dev &&& ~~~(word 0xFFFF)) ||| (v &&& word 0xFFFF)) (parityAnew A.schStatWin s.dev)
      (by decide) (by decide) (by decide) (by decide) (by decide)
    refine ⟨_, hexec, ⟨rfl, hmem, htabs⟩, hword, ?_⟩
    split
    next hv => exact hmarks (decide_eq_true hv)
    next hv => exact hquiet (decide_eq_false hv)
  · have hat : r.1 < 2 ^ 32 ∧ isStatus r.1 = true ∧ region r.1 = .reg ∧ r.1 % 4 = 0 ∧ (r.1 < A.mbxData 56 ∨ A.mbxData 63 + 3 < r.1) ∧
        r.1 ∈ [A.sysWakeTmr, A.sysWakeEn, A.sysPwrCfg, A.schStatWin, A.memImgStat, A.sysPwrStat] ∧
        r.1 ≠ r.2.1 + 4 ∧ r.1 ≠ r.2.1 + 8 := by
      clear hnamed hmay
      revert r
      decide
    obtain ⟨hlt, hstatus, hreg, h4, hmbx, hplain, hne4, hne8⟩ := hat
    have hexec := exec_statusClear (v := v) hp hlt hstatus hreg h4 (mbxDenied_beyond hmbx) (passesIssue_running hmay)
    rw [writeReg_plain _ _ _ _ _ hplain] at hexec
    obtain ⟨c, hc⟩ := storeReg_statusNamed m v (parityAnew r.1 s.dev) hr
    obtain ⟨honly, hcurrent, hstale⟩ := clearStatus_effect (base := r.2.1) (a := r.1) (sq := r.2.2) (m := m) (v := v)
      (d := parityAnew r.1 s.dev) c hne4 hne8
    rw [fld_seq, fld_seq, ← hc] at hcurrent hstale
    rw [← hc] at honly
    refine ⟨_, hexec, ⟨rfl, same_of_parityAnew (sameButRegs_storeReg _ _ _ _)⟩, fun b hb => ?_, hcurrent, hstale⟩
    simp only [List.mem_cons, List.not_mem_nil, or_false, not_or] at hb
    exact honly b hb.1 hb.2.1 hb.2.2

end Sys2Proof.Machine
end

section
/-! The IND pairs, and the obligation about them (R105, R111, R112, R114, R115, R541). -/

namespace Sys2Proof.Machine

/-! ### The two pairs and their tables (R60, R111) -/

/-- The pairs of the producer table and of the flow table: IND_ADDR, the header of the unit, the table. -/
def indPairs : List (Nat × Nat × Nat) := [(A.memImgIndAddr, 0x10040000, 0), (A.schFlowIndAddr, 0x10060000, 17)]

section
variable {p : Nat × Nat × Nat} {d : Dev}

theorem indPair_addr (h : p ∈ indPairs) : isIndAddr p.1 = true ∧ isIndData (p.1 + 4) = true ∧ p.1 + 4 < 2 ^ 32 ∧
    unitBase p.1 = p.2.1 ∧ p.1 ≠ p.2.1 + 4 ∧ p.1 ≠ p.2.1 + 8 := by
  revert p
  decide

theorem indPair_header : ∀ p ∈ indPairs, p.2.2 = 0 → p.2.1 = 0x10040000 := by decide

theorem indPair_table (h : p ∈ indPairs) (w : Word) {i : Nat} (hi : i < 16384) :
    tableAt p.1 (indSel p.1 w) i = some (p.2.2, i) := by
  simp only [indPairs, List.mem_cons, List.not_mem_nil, or_false] at h
  obtain rfl | rfl := h <;> exact if_pos hi

/-- Row of MEM_IMG_IND_ADDR. -/
def memIndAddrRow : Row := ⟨0x820, 1, 0x1, 1, 0x1, 0xffff, 0, 0, 0x80000000, 0x7fff0000, 0, 0, 0, []⟩
/-- Row of SCH_FLOW_IND_ADDR. -/
def flowIndAddrRow : Row := ⟨0x100, 1, 0x1, 1, 0x1, 0xffff, 0, 0, 0x80000000, 0x7fff0000, 0, 0, 0, []⟩

theorem fld_written_low {r : Row} (hrw : r.rw = 0xffff) (hmbz : r.mbz = 0) (lock : Bool) (cur v : Word) :
    fld (writtenWord r.rw r.rwl r.mbz lock cur v) 15 0 = v.toNat % 65536 := by
  have hopen : ∀ i < 16, (0xffff : Nat).testBit i = true := by decide
  refine (fld_congr fun i _ hi => ?_).trans (show fld v 15 0 = v.toNat % 65536 from rfl)
  rw [bit_writtenWord _ _ _ _ _ _ (by omega), hrw, hmbz, hopen i (by omega), Nat.zero_testBit]
  rfl

theorem rf_storeReg_indAddr (h : p ∈ indPairs) (m : Nat) (v : Word) (d : Dev) :
    rf p.1 15 0 (storeReg m p.1 v d) = v.toNat % 65536 := by
  simp only [indPairs, List.mem_cons, List.not_mem_nil, or_false] at h
  rw [rf]
  obtain rfl | rfl := h
  · rw [rd_storeReg_same (u := ⟨A.block 4, 4, memRows⟩) (r := memIndAddrRow) (i := 0) m v d rfl rfl (by decide) (by decide)]
    exact fld_written_low rfl rfl _ _ _
  · rw [rd_storeReg_same (u := ⟨A.block 6, 6, schRows⟩) (r := flowIndAddrRow) (i := 0) m v d rfl rfl (by decide) (by decide)]
    exact fld_written_low rfl rfl _ _ _

end

/-! ### The transfer (R112) -/

theorem indComplete_idle {a : Nat} {d : Dev} (h : (getInd a d).busy = false) : indComplete a d = d := by
  rw [indComplete, h]
  rfl

/-- A transfer ends with the word as it stands, when its configuration parity is sound (R112, R116, R541). -/
theorem indComplete_busy {a t i : Nat} {d : Dev} (h : (getInd a d).busy = true)
    (ht : tableAt a (indSel a (rd a d)) (indIndex a d) = some (t, i)) (hgood : 2 ^ 32 + tabKey t i ∉ d.badCfg) :
    indComplete a d = putInd a ⟨tabRead t i d, false⟩ d := by
  rw [indComplete, h]
  simp only [Bool.not_true, Bool.false_eq_true, if_false, ht, tabParity]
  cases unitOf a with
  | none => rfl
  | some u => exact useTab_of_good hgood

/-- What AINC adds to INDEX (R111). -/
def indInc (a : Nat) (d : Dev) : Nat := if rf a 15 14 d = 1 then 1 else if rf a 15 14 d = 2 then 4 else 0

/-- INDEX advances by AINC, modulo 2^14, and a transfer begins. -/
theorem indStart_indStep {a : Nat} {d e : Dev} (h : rd a e = rd a d) :
    let t := indStart a (indStep a e)
    rf a 13 0 t = (rf a 13 0 d + indInc a d) % 16384 ∧ rf a 15 14 t = rf a 15 14 d ∧ (getInd a t).busy = true := by
  have hrf (hi lo : Nat) : rf a hi lo e = rf a hi lo d := by rw [rf, h, rf]
  refine ⟨?_, ?_, ?_⟩
  · rw [indStart, rf_putInd, indStep, rf_wf_same _ _ _ _ _ (by decide), indIndex, hrf, hrf]
    rfl
  · rw [indStart, rf_putInd, indStep, rf_wf_other _ _ (by decide) (by decide), hrf]
  · rw [indStart, getInd_putInd_same]

theorem rd_indStarted_ne {a b : Nat} (d : Dev) (h : b ≠ a) : rd b (indStart a (indStep a d)) = rd b d := by
  rw [indStart, rd_putInd, indStep, rd_wf_ne _ _ _ _ h]

theorem readIndData_debug {a : Nat} {d : Dev} (h : (getInd a d).busy = false) :
    readIndData 19 a d = ((getInd a d).word, d) := by
  rw [readIndData, indComplete_idle h]
  exact if_pos rfl

theorem readIndData_master {m a t i : Nat} {d : Dev} (h : (getInd a d).busy = false) (hm : m ≠ 19)
    (ht : tableAt a (indSel a (rd a d)) (indIndex a d) = some (t, i)) :
    readIndData m a d = ((getInd a d).word, indStart a (indStep a d)) := by
  simp only [readIndData, indComplete_idle h, if_neg hm, ht, Option.isNone_some, errIf, Bool.false_eq_true, if_false]

theorem writeIndData_busy {m a : Nat} {v : Word} {d : Dev} (h : (getInd a d).busy = true) :
    writeIndData m a v d = errAt (unitBase a) m errBusy (a + 4) d := by
  rw [writeIndData, h]
  rfl

theorem writeIndData_table {m a t i : Nat} {v : Word} {d : Dev} (h : (getInd a d).busy = false)
    (ht : tableAt a (indSel a (rd a d)) (indIndex a d) = some (t, i)) :
    writeIndData m a v d = indStart a (indStep a (tabWrite (unitBase a) m (a + 4) t i v d)) := by
  simp only [writeIndData, h, Bool.false_eq_true, if_false, ht]

theorem writeIndData_beyond {m a : Nat} {v : Word} {d : Dev} (h : (getInd a d).busy = false)
    (ht : tableAt a (indSel a (rd a d)) (indIndex a d) = none) :
    writeIndData m a v d = indStart a (indStep a (errAt (unitBase a) m errRange (a + 4) d)) := by
  simp only [writeIndData, h, Bool.false_eq_true, if_false, ht]

/-! ### A word of the producer table (R114, R115) -/

/-- The word that a write leaves in the producer table. -/
def prodWritten (lock : Bool) (cur v : Word) : Word := writtenWord 0 0xFFFFFFFF 0x7FFF lock cur v

theorem prodWritten_open (cur v : Word) : prodWritten false cur v = (v &&& 0xFFFF8000) ||| (cur &&& 0x7FFF) := by
  have hmask : (0 ||| if false = true then 0 else 0xFFFFFFFF) &&& (0x7FFF ^^^ 0xFFFFFFFF) = 0xFFFF8000 := by decide
  rw [prodWritten, writtenWord, hmask, BitVec.or_comm]
  rfl

theorem prodWritten_locked (cur v : Word) : prodWritten true cur v = cur := by
  show (cur &&& ~~~0#32) ||| (v &&& 0#32) = cur
  rw [BitVec.not_zero, BitVec.and_allOnes, BitVec.and_zero, BitVec.or_zero]

/-- A reserved encoding, or a 1 in bits 14:0, before commit. -/
def prodRsvd (lock : Bool) (v : Word) : Bool :=
  let openBits := 0 ||| (if lock then 0 else 0xFFFFFFFF)
  decide ((v &&& word (0x7FFF &&& openBits)) ≠ 0) ||
    (encBad v (31, 28, [(0, 7)]) && decide (encMask (31, 28, [(0, 7)]) &&& openBits ≠ 0))

theorem prodRsvd_locked (v : Word) : prodRsvd true v = false := by
  have hzero : v &&& word (0x7FFF &&& (0 ||| if true = true then 0 else 0xFFFFFFFF)) = 0 := BitVec.and_zero
  rw [prodRsvd]
  rw [hzero, show encMask (31, 28, [(0, 7)]) &&& (0 ||| if true = true then 0 else 0xFFFFFFFF) = 0 by decide]
  simp

theorem prodRsvd_open {v : Word} (h : v.toNat % 32768 ≠ 0) : prodRsvd false v = true := by
  have hlow : v &&& word (0x7FFF &&& (0 ||| if false = true then 0 else 0xFFFFFFFF)) ≠ 0 := by
    intro hz
    refine h ?_
    have := congrArg BitVec.toNat hz
    rwa [BitVec.toNat_and, show (word (0x7FFF &&& (0 ||| if false = true then 0 else 0xFFFFFFFF))).toNat = 2 ^ 15 - 1 by decide,
      Nat.and_two_pow_sub_one_eq_mod] at this
  rw [prodRsvd]
  rw [decide_eq_true hlow, Bool.true_or]

/-- The device with the word of the producer table stored, its parity anew. -/
def prodStored (i : Nat) (v : Word) (d : Dev) : Dev :=
  tabPut 0 i (prodWritten (committed d) (tabRead 0 i d) v) (parityAnew (2 ^ 32 + tabKey 0 i) d)

theorem tabWrite_producer {m a base i : Nat} {v : Word} {d : Dev} (hheld : tabFind d.swc.held (tabKey 0 i) = none) :
    tabWrite base m a 0 i v d = (prodStored i v d
      |> errIf (committed d && decide (v ≠ tabRead 0 i d)) base m errLock a |> errIf (prodRsvd (committed d) v) base m errRsvd a) := by
  have hcur : heldWord 0 i d = tabRead 0 i d := by rw [heldWord, hheld]; rfl
  have hall : ∀ i < 32, (0xFFFFFFFF : Nat).testBit i = true := by decide
  have hlock : ((v ^^^ tabRead 0 i d) &&& word 0xFFFFFFFF) = v ^^^ tabRead 0 i d := word_ext fun j hj => by
    simp [bit, word, BitVec.testBit_toNat, hj, hall j hj]
  have hlk : decide (((v ^^^ tabRead 0 i d) &&& word 0xFFFFFFFF) ≠ 0) = decide (v ≠ tabRead 0 i d) := by
    rw [hlock]
    exact decide_eq_decide.mpr (not_congr BitVec.xor_eq_zero_iff)
  have hrow : tabRwl 0 i = 0xFFFFFFFF ∧ tabRw 0 i = 0 ∧ tabMbz 0 i = 0x7FFF ∧ tabEnc 0 i = [(31, 28, [(0, 7)])] :=
    ⟨rfl, rfl, rfl, rfl⟩
  obtain ⟨hrwl, hrw, hmbz, henc⟩ := hrow
  have hmore : tabEncMore 0 i v d = false := rfl
  simp only [tabWrite, hcur, hrwl, hrw, hmbz, henc, hmore, hlk, List.any_cons, List.any_nil,
    Bool.or_false, Bool.and_false]
  rfl

theorem tabRead_producer (i : Nat) (d : Dev) : tabRead 0 i d = tabGet tabsDefault d.tabs (tabKey 0 i) := rfl

theorem tabRead_of_tabs {i : Nat} {d e : Dev} (h : e.tabs = d.tabs) : tabRead 0 i e = tabRead 0 i d := by
  rw [tabRead_producer, h, tabRead_producer]

/-- What a write of the producer table's word leaves, whatever the marks are. -/
theorem tabWrite_producer_effect {m a base i : Nat} {v : Word} {d : Dev} (hheld : tabFind d.swc.held (tabKey 0 i) = none) :
    let t := tabWrite base m a 0 i v d
    t.mem = d.mem ∧ (∀ b, b ≠ base + 4 → b ≠ base + 8 → rd b t = rd b d) ∧
    (∀ j, tabRead 0 j t = if j = i then prodWritten (committed d) (tabRead 0 i d) v else tabRead 0 j d) ∧
    (prodRsvd (committed d) v = true → rb (base + 4) errRsvd t = true) ∧
    (committed d = true → rb (base + 4) errLock t = (rb (base + 4) errLock d || decide (v ≠ tabRead 0 i d))) := by
  intro t
  have ht : t = (prodStored i v d |> errIf (committed d && decide (v ≠ tabRead 0 i d)) base m errLock a
    |> errIf (prodRsvd (committed d) v) base m errRsvd a) := tabWrite_producer hheld
  have hsame : SameButRegs (prodStored i v d) t := by
    rw [ht]
    exact (sameButRegs_errIf _ _ _ _ _ _).trans (sameButRegs_errIf _ _ _ _ _ _)
  refine ⟨hsame.mem, fun b h4 h8 => ?_, fun j => ?_, fun hr => ?_, fun hc => ?_⟩
  · rw [ht, rd_errIf_ne _ _ _ _ _ h4 h8, rd_errIf_ne _ _ _ _ _ h4 h8]
    rfl
  · rw [tabRead_of_tabs hsame.tabs, tabRead_producer]
    show tabGet tabsDefault (tabSet tabsDefault d.tabs (tabKey 0 i) _) (tabKey 0 j) = _
    rw [tabGet_tabSet]
    have hkey : tabKey 0 j = tabKey 0 i ↔ j = i := by
      unfold tabKey
      omega
    simp only [hkey]
    rfl
  · rw [ht, rb_errIf_same _ _ _ _ _ (by decide), hr, Bool.or_true]
  · rw [ht, hc, prodRsvd_locked, Bool.true_and, errIf_false, rb_errIf_same _ _ _ _ _ (by decide)]
    rfl

/-! ### The obligation -/

section
variable {m : Fin 20} {a : Nat} {v : Word} {s : State}

theorem exec_indAddrWrite (hp : powered s.dev = true) (ha : a < 2 ^ 32) (hi : isIndAddr a = true) :
    exec (.indAddrWrite m (word a) v) s = .next { s with dev := writeIndAddr m a v s.dev } := by
  refine onDev_eq_next ?_
  rw [toNat_word ha]
  exact when_of _ _ (by rw [hp, hi]; rfl)

theorem exec_indFetchDone (hp : powered s.dev = true) (ha : a < 2 ^ 32) :
    exec (.indFetchDone (word a)) s = .next { s with dev := indComplete a s.dev } := by
  refine onDev_eq_next ?_
  rw [toNat_word ha]
  exact when_of _ _ hp

theorem exec_indDataRead (hp : powered s.dev = true) (ha : a + 4 < 2 ^ 32) (hi : isIndData (a + 4) = true) :
    exec (.indDataRead m (word (a + 4))) s =
      .next { s with dev := giveRead m (readIndData m a s.dev).1 (readIndData m a s.dev).2 } := by
  refine onDev_eq_next ?_
  rw [toNat_word ha, Nat.add_sub_cancel]
  exact when_of _ _ (by rw [hp, hi]; rfl)

theorem exec_indDataWrite (hp : powered s.dev = true) (ha : a + 4 < 2 ^ 32) (hi : isIndData (a + 4) = true) :
    exec (.indDataWrite m (word (a + 4)) v) s = .next { s with dev := writeIndData m a v s.dev } := by
  refine onDev_eq_next ?_
  rw [toNat_word ha, Nat.add_sub_cancel]
  exact when_of _ _ (by rw [hp, hi]; rfl)

end

theorem writeIndAddr_effect {p : Nat × Nat × Nat} {m : Nat} {v : Word} {d : Dev} (h : p ∈ indPairs)
    (hidle : (getInd p.1 d).busy = false) :
    let t := writeIndAddr m p.1 v d
    t.mem = d.mem ∧ rf p.1 15 0 t = v.toNat % 65536 ∧ (getInd p.1 t).busy = true ∧ t.tabs = d.tabs := by
  obtain ⟨-, -, -, hbase, h4, h8⟩ := indPair_addr h
  rw [writeIndAddr, indComplete_idle hidle, hbase]
  dsimp only
  generalize (fld v 15 14 = 3 || (p.1 = A.mrdIndAddr && indSel p.1 v = 3) || (p.1 = A.swcIndAddr && 5 ≤ indSel p.1 v) : Bool) = c
  have hsame : SameButRegs d (errIf c p.2.1 m errRsvd p.1 (storeReg m p.1 v d)) :=
    (sameButRegs_storeReg _ _ _ _).trans (sameButRegs_errIf _ _ _ _ _ _)
  refine ⟨hsame.mem, ?_, ?_, hsame.tabs⟩
  · rw [indStart, rf_putInd, rf, rd_errIf_ne _ _ _ _ _ h4 h8]
    exact rf_storeReg_indAddr h m v d
  · rw [indStart, getInd_putInd_same]

/-- The pair of the pin table reaches 128 words (R111). -/
theorem tableAt_pins_beyond {w : Word} {i : Nat} (h : 128 ≤ i) : tableAt A.pioPinIndAddr (indSel A.pioPinIndAddr w) i = none :=
  if_neg (Nat.not_lt.mpr h)

/-- Settles O37: the transfer of the pair, INDEX with AINC, and the row of the producer table. -/
theorem indirectTables : Obligations.IndirectTables := by
  unfold Obligations.IndirectTables
  intro m v s p hp hpair d a idx inc kept stepped hgood hheld
  have hpair : p ∈ indPairs := hpair
  obtain ⟨haddr, hdata, hlt, hbase, hne4, hne8⟩ := indPair_addr hpair
  have hidx : idx < 16384 := rf_lt _ _ _ _
  have htable : tableAt a (indSel a (rd a d)) (indIndex a d) = some (p.2.2, idx) := indPair_table hpair _ hidx
  refine ⟨fun hidle => ?_, fun hbusy => ?_, fun hidle => ⟨fun hm => ?_, fun hm => ?_⟩, fun hbusy => ?_, fun hidle ht => ?_,
    fun hidle hbeyond => ?_⟩
  · obtain ⟨hmem, hfld, hbusy, htabs⟩ := writeIndAddr_effect (m := m) (v := v) hpair hidle
    exact ⟨_, exec_indAddrWrite hp (by omega) haddr, ⟨rfl, hmem⟩, hfld, hbusy, htabs⟩
  · have hdone : indComplete a d = putInd a ⟨tabRead p.2.2 idx d, false⟩ d := indComplete_busy hbusy htable hgood
    have hexec := exec_indFetchDone (a := a) hp (by omega)
    rw [hdone] at hexec
    exact ⟨_, hexec, ⟨rfl, rfl⟩, rfl, rfl, getInd_putInd_same _ _ _⟩
  · have hm' : m.val ≠ 19 := fun h => hm (Fin.ext h)
    have hexec := exec_indDataRead (m := m) hp hlt hdata
    rw [readIndData_master hidle hm' htable] at hexec
    obtain ⟨hindex, hainc, hbusy⟩ := indStart_indStep (a := a) (d := d) rfl
    exact ⟨_, hexec, ⟨⟨rfl, rfl⟩, hindex, hainc, hbusy⟩, tabGet_tabSet_same _ _ _ _, rfl⟩
  · subst hm
    rw [exec_indDataRead hp hlt hdata]
    exact congrArg (fun q : Word × Dev => Host.Outcome.next { s with dev := giveRead 19 q.1 q.2 }) (readIndData_debug hidle)
  · have hexec := exec_indDataWrite (m := m) (v := v) hp hlt hdata
    rw [writeIndData_busy hbusy, hbase] at hexec
    obtain ⟨hsame, honly⟩ := errAt_frame (base := p.2.1) (m := m) (k := errBusy) (a := p.1 + 4) d
    refine ⟨_, hexec, ⟨rfl, hsame.mem⟩, ?_, rd_errAt_ne _ _ _ _ hne4 hne8, hsame.tabs, hsame.inds⟩
    exact (rb_errIf_same true _ _ _ _ (by decide)).trans (Bool.or_true _)
  · rw [ht] at htable
    have hexec := exec_indDataWrite (m := m) (v := v) hp hlt hdata
    have hheader : p.2.1 = 0x10040000 := indPair_header p hpair ht
    rw [writeIndData_table hidle htable, hbase, hheader] at hexec
    rw [hheader] at hne4 hne8
    obtain ⟨hmem, hregs, hread, hrsvd, hlock⟩ :=
      tabWrite_producer_effect (m := m) (a := a + 4) (base := 0x10040000) (v := v) hheld
    obtain ⟨hindex, hainc, hbusy⟩ := indStart_indStep (hregs a hne4 hne8)
    have hflag (e : Dev) (k : Nat) : rb 0x10040004 k (indStart a (indStep a e)) = rb 0x10040004 k e := by
      rw [rb, rd_indStarted_ne e hne4.symm, rb]
    have hread' (j : Nat) := (tabRead_of_tabs (i := j) rfl).trans (hread j)
    refine ⟨_, hexec, ⟨⟨rfl, hmem⟩, hindex, hainc, hbusy⟩, fun i hi => ?_, fun hc => ⟨?_, fun hv => ?_⟩, fun hc => ⟨?_, ?_⟩⟩
    · exact (hread' i).trans (if_neg hi)
    · rw [hc, prodWritten_open] at hread'
      exact (hread' idx).trans (if_pos rfl)
    · rw [hc] at hrsvd
      exact (hflag _ _).trans (hrsvd (prodRsvd_open hv))
    · rw [hc, prodWritten_locked] at hread'
      exact (hread' idx).trans (if_pos rfl)
    · exact (hflag _ _).trans (hlock hc)
  · have hexec := exec_indDataWrite (a := A.pioPinIndAddr) (m := m) (v := v) hp (by decide) (by decide)
    rw [writeIndData_beyond hidle (tableAt_pins_beyond hbeyond)] at hexec
    obtain ⟨hsame, -⟩ := errAt_frame (base := 0x101C0000) (m := m) (k := errRange) (a := A.pioPinIndAddr + 4) d
    refine ⟨_, hexec, ⟨rfl, hsame.mem⟩, hsame.tabs, ?_⟩
    show rb 0x101C0004 3 (indStart A.pioPinIndAddr (indStep A.pioPinIndAddr (errAt 0x101C0000 m errRange _ d))) = true
    rw [rb, rd_indStarted_ne _ (by decide)]
    exact (errAt_marks _ (by decide) (by decide) (by decide)).1

end Sys2Proof.Machine
end

section
/-! Mailboxes and hardware locks, and the obligation about them (R105, R121, R128, R165, R240-R251). -/

namespace Sys2Proof.Machine

/-! ### A bit map over registers -/

/-- Bit k of a map of 32-bit registers at f 0, f 1, ... after bit n is written. -/
theorem rb_wb_map {f : Nat → Nat} (hf : ∀ {x y}, f x = f y → x = y) (k n : Nat) (b : Bool) (d : Dev) :
    rb (f (k / 32)) (k % 32) (wb (f (n / 32)) (n % 32) b d) = if k = n then b else rb (f (k / 32)) (k % 32) d := by
  split
  next h => rw [h, rb_wb_same _ _ _ _ (Nat.mod_lt _ (by decide))]
  next h =>
    by_cases hq : k / 32 = n / 32
    · rw [hq, rb_wb_other _ _ _ (Nat.mod_lt _ (by decide)) (by omega)]
    · rw [rb, rd_wb_ne _ _ _ (fun he => hq (hf he)), rb]

/-! ### What an alert changes (R242, R505, R506) -/

/-- Only contexts, engines, the interrupt registers of the host block and messages change. -/
structure Alerted (d e : Dev) : Prop where
  mem : e.mem = d.mem
  dsp : e.dsp = d.dsp
  locks : e.locks = d.locks
  mbxLast : e.mbxLast = d.mbxLast
  lowRegs {a : Nat} : a < 0x101F0000 → rd a e = rd a d

namespace Alerted

variable {d e f : Dev}

theorem refl (d : Dev) : Alerted d d := ⟨rfl, rfl, rfl, rfl, fun _ => rfl⟩

theorem trans (h : Alerted d e) (h' : Alerted e f) : Alerted d f :=
  ⟨h'.mem.trans h.mem, h'.dsp.trans h.dsp, h'.locks.trans h.locks, h'.mbxLast.trans h.mbxLast, fun ha => (h'.lowRegs ha).trans (h.lowRegs ha)⟩

theorem of_contexts (h : { e with ctxs := d.ctxs, cores := d.cores } = d) : Alerted d e where
  mem := congrArg (·.mem) h
  dsp := congrArg (·.dsp) h
  locks := congrArg (·.locks) h
  mbxLast := congrArg (·.mbxLast) h
  lowRegs {a} _ := congrArg (tabGet regReset · a) (congrArg (·.regs) h)

theorem wr_host {a : Nat} (v : Word) (d : Dev) (h : 0x101F0000 ≤ a) : Alerted d (wr a v d) :=
  ⟨rfl, rfl, rfl, rfl, fun hb => rd_wr_ne _ _ (by omega)⟩

theorem pendEvent (key mask : Nat) (d : Dev) : Alerted d (pendEvent key mask d) := of_contexts (pendEvent_frame key mask d)

theorem msixRaise (v : Nat) (d : Dev) : Alerted d (msixRaise v d) := by
  unfold Machine.msixRaise
  split
  · exact wr_host _ _ (by decide)
  · split
    · exact ⟨rfl, rfl, rfl, rfl, fun _ => rfl⟩
    · exact refl d

theorem mbxEvent (c : Nat) (d : Dev) : Alerted d (mbxEvent c d) := by
  refine List.foldlRecOn (motive := Alerted d) _ _ (refl d) fun e h k _ => h.trans ?_
  dsimp only
  split
  · exact of_contexts rfl
  · split
    · exact pendEvent _ _ _
    · exact refl e
  · exact refl e

theorem syncIntPend (d : Dev) : Alerted d (syncIntPend d) :=
  (wr_host _ _ (by decide)).trans (wr_host _ _ (by decide))

theorem fullInterrupt (n : Nat) (d : Dev) : Alerted d (fullInterrupt n d) := by
  unfold Machine.fullInterrupt
  dsimp only
  split
  · exact mbxEvent _ _
  · split
    · exact refl d
    · split
      · exact pendEvent _ _ _
      · split
        · split
          · exact msixRaise _ _
          · split
            · exact msixRaise _ _
            · exact refl d
        · exact refl d

theorem emptyInterrupt (n : Nat) (d : Dev) : Alerted d (emptyInterrupt n d) := by
  unfold Machine.emptyInterrupt
  dsimp only
  split
  · exact refl d
  · split
    · exact pendEvent _ _ _
    · split
      · exact msixRaise _ _
      · split
        · exact ⟨rfl, rfl, rfl, rfl, fun hb => rd_raise_ne _ _ (by unfold A.hstIntPend; omega)⟩
        · exact refl d

end Alerted

/-! ### FULL (R241, R251) -/

theorem mbxFull_inj {x y : Nat} (h : A.mbxFull x = A.mbxFull y) : x = y := by
  unfold A.mbxFull at h
  omega

theorem Alerted.full {d e : Dev} (h : Alerted d e) {k : Nat} (hk : k < 64) : mbxFullBit k e = mbxFullBit k d := by
  rw [mbxFullBit, rb, h.lowRegs (by unfold A.mbxFull; omega), mbxFullBit, rb]

section
variable {n : Nat} (b : Bool) (d : Dev)

theorem mbxFullBit_setFull {k : Nat} (hk : k < 64) : mbxFullBit k (setFull n b d) = if k = n then b else mbxFullBit k d := by
  rw [setFull, (Alerted.syncIntPend _).full hk, mbxFullBit, rb_wb_map mbxFull_inj]
  rfl

theorem rd_setFull {a : Nat} (h : a < 0x101F0000) (ha : a < A.mbxFull 0 ∨ A.mbxFull 1 < a) (hn : n < 64) :
    rd a (setFull n b d) = rd a d := by
  rw [setFull, (Alerted.syncIntPend _).lowRegs h, rd_wb_ne]
  unfold A.mbxFull at *
  omega

end

/-! ### An access to a mailbox passes the checks at issue (R128, R240) -/

theorem region_mbxData {n : Nat} (h : n < 64) : region (A.mbxData n) = .reg :=
  region_window (by unfold A.mbxData; omega) (by unfold A.mbxData; omega)

theorem guardedReg_mbxData {n : Nat} (h : n < 64) : guardedReg (A.mbxData n) = false := by
  have hblock : (A.mbxData n - 0x10000000) / 0x10000 = 5 := by
    unfold A.mbxData
    omega
  have hpe : inPeRegs (A.mbxData n) = false := by
    have : ¬A.mbxData n < 0x08400000 := by
      unfold A.mbxData
      omega
    simp [inPeRegs, this]
  simp [guardedReg, hblock, hpe]

theorem accessFault_mbxData {c n : Nat} {wr : Bool} (x : Ctx) (d : Dev) (hn : n < 64) :
    accessFault c 4 (A.mbxData n) wr x d = (accessFail (coreMaster c) wr false (A.mbxData n) d).map fun k => (4, some k) := by
  have h4 : A.mbxData n % 4 = 0 := by
    unfold A.mbxData
    omega
  simp [accessFault, guardedReg_mbxData hn, h4]

section
variable {m n : Nat} {wr : Bool} {f : Dev → Dev} {d : Dev}

theorem mbxDenied_mbxData (hn : n < 64) : mbxDenied m (A.mbxData n) = true ↔ 1 ≤ m ∧ m ≤ 16 ∧ 56 ≤ n := by
  simp only [mbxDenied, Bool.and_eq_true, decide_eq_true_eq]
  unfold A.mbxData
  omega

theorem byMaster_mailbox (hm : m < 20) (hn : n < 64) (hfar : ¬(1 ≤ m ∧ m ≤ 16 ∧ 56 ≤ n)) :
    byMaster m none wr (A.mbxData n) f d = f d := by
  have hpass : accessFail m wr false (A.mbxData n) d = none :=
    accessFail_reg d (by omega) (region_mbxData hn) (by rw [← Bool.not_eq_true, mbxDenied_mbxData hn]; exact hfar)
  unfold byMaster
  split
  · rfl
  next hle =>
    have hfault (x : Ctx) : accessFault (masterCore m) 4 (A.mbxData n) wr x d = none := by
      rw [accessFault_mbxData x d hn, coreMaster_masterCore (by omega), hpass]
      rfl
    cases hrun : running (masterCore m) d <;> simp only [hrun, hpass, hfault, Option.map_none, Option.none_or]

theorem byMaster_mailbox_far {key : Nat} (hm : 1 ≤ m) (hm' : m ≤ 16) (hn : n < 64) (hfar : 56 ≤ n)
    (hrun : running (m - 1) d = some key) : byMaster m none wr (A.mbxData n) f d =
      accessExc key (m - 1) (A.mbxData n) wr (4, some 0) d := by
  have hcore : masterCore m = m - 1 := if_neg (by omega)
  have hfail : accessFail m wr false (A.mbxData n) d = some 0 := by
    simp [accessFail, (mbxDenied_mbxData (m := m) hn).mpr ⟨hm, hm', hfar⟩, region_mbxData hn]
  have hfault : accessFault (m - 1) 4 (A.mbxData n) wr (getCtx key d) d = some (4, some 0) := by
    rw [accessFault_mbxData _ d hn, ← hcore, coreMaster_masterCore hm', hfail]
    rfl
  simp only [byMaster, if_neg (Nat.not_lt.mpr hm'), hcore, Option.map_none, Option.none_or, hrun, hfault, decide_true, when_of]

end

/-! ### Writes and reads of a mailbox (R241, R243) -/

/-- What an operation on mailbox n leaves: memory, the locks, and the word and FULL of every other mailbox. -/
structure OtherBoxes (n : Nat) (d e : Dev) : Prop where
  mem : e.mem = d.mem
  locks : e.locks = d.locks
  boxes {k : Nat} : k < 64 → k ≠ n → rd (A.mbxData k) e = rd (A.mbxData k) d ∧ mbxFullBit k e = mbxFullBit k d

theorem OtherBoxes.trans {n : Nat} {d e f : Dev} (h : OtherBoxes n d e) (h' : OtherBoxes n e f) : OtherBoxes n d f :=
  ⟨h'.mem.trans h.mem, h'.locks.trans h.locks, fun hk hn =>
    ⟨(h'.boxes hk hn).1.trans (h.boxes hk hn).1, (h'.boxes hk hn).2.trans (h.boxes hk hn).2⟩⟩

theorem Alerted.rd_mbxData {d e : Dev} (h : Alerted d e) {k : Nat} (hk : k < 64) : rd (A.mbxData k) e = rd (A.mbxData k) d :=
  h.lowRegs (by unfold A.mbxData; omega)

theorem Alerted.otherBoxes {d e : Dev} (h : Alerted d e) (n : Nat) : OtherBoxes n d e :=
  ⟨h.mem, h.locks, fun hk _ => ⟨h.rd_mbxData hk, h.full hk⟩⟩

theorem rd_mbxData_setFull {n k : Nat} (b : Bool) (d : Dev) (hn : n < 64) (hk : k < 64) :
    rd (A.mbxData k) (setFull n b d) = rd (A.mbxData k) d :=
  rd_setFull b d (by unfold A.mbxData; omega) (.inr (by unfold A.mbxData A.mbxFull; omega)) hn

theorem otherBoxes_setFull {n : Nat} (b : Bool) (d : Dev) (hn : n < 64) : OtherBoxes n d (setFull n b d) :=
  ⟨rfl, rfl, fun hk hkn => ⟨rd_mbxData_setFull b d hn hk, by rw [mbxFullBit_setFull b d hk, if_neg hkn]⟩⟩

/-- A collision is noted where FULL stood (R241). -/
def collNoted (n : Nat) (d : Dev) : Dev := when (mbxFullBit n d) (raise (A.mbxColl (n / 8)) (n % 8)) d

/-- The word in the mailbox, FULL set and the sender noted. -/
def mbxStored (m n : Nat) (v : Word) (d : Dev) : Dev :=
  { setFull n true (wr (A.mbxData n) v (collNoted n d)) with mbxLast := tabSet zeroDefault d.mbxLast n (word m) }

theorem rd_collNoted {n a : Nat} (d : Dev) (ha : a < A.mbxColl 0 ∨ A.mbxColl 7 < a) (hn : n < 64) :
    rd a (collNoted n d) = rd a d := by
  unfold collNoted when
  split
  · refine rd_raise_ne _ _ ?_
    unfold A.mbxColl at *
    omega
  · rfl

theorem rb_collNoted {n : Nat} (d : Dev) : rb (A.mbxColl (n / 8)) (n % 8) (collNoted n d) =
    (rb (A.mbxColl (n / 8)) (n % 8) d || mbxFullBit n d) := by
  unfold collNoted
  cases h : mbxFullBit n d with
  | false => rw [when_of_not _ _ rfl, Bool.or_false]
  | true => rw [when_of _ _ rfl, rb_raise_self _ _ (by omega), Bool.or_true]

theorem collNoted_frame (n : Nat) (d : Dev) : (collNoted n d).mem = d.mem ∧ (collNoted n d).locks = d.locks ∧
    (collNoted n d).mbxLast = d.mbxLast ∧ (collNoted n d).dsp = d.dsp ∧ (collNoted n d).sys = d.sys := by
  unfold collNoted when
  split <;> exact ⟨rfl, rfl, rfl, rfl, rfl⟩

section
variable {m n : Nat} (v : Word) (d : Dev)

theorem rd_mbxStored_eq (a : Nat) : rd a (mbxStored m n v d) = rd a (setFull n true (wr (A.mbxData n) v (collNoted n d))) := by
  rw [rd, rd]
  rfl

/-- A register outside the mailbox's own words. -/
theorem rd_mbxStored {a : Nat} (h : a < 0x101F0000) (ha : a < 0x10050020 ∨ 0x100501FF < a) (hn : n < 64) :
    rd a (mbxStored m n v d) = rd a d := by
  have hdata : a ≠ A.mbxData n := by
    unfold A.mbxData
    omega
  calc rd a (mbxStored m n v d) = rd a (setFull n true (wr (A.mbxData n) v (collNoted n d))) := rd_mbxStored_eq v d a
    _ = rd a (wr (A.mbxData n) v (collNoted n d)) := rd_setFull true _ h (by unfold A.mbxFull; omega) hn
    _ = rd a (collNoted n d) := rd_wr_ne _ _ hdata
    _ = rd a d := rd_collNoted d (by unfold A.mbxColl; omega) hn

theorem mbxStored_effect (hn : n < 64) :
    OtherBoxes n d (mbxStored m n v d) ∧ rd (A.mbxData n) (mbxStored m n v d) = v ∧ mbxFullBit n (mbxStored m n v d) = true ∧
    tabGet zeroDefault (mbxStored m n v d).mbxLast n = word m ∧
    rb (A.mbxColl (n / 8)) (n % 8) (mbxStored m n v d) = (rb (A.mbxColl (n / 8)) (n % 8) d || mbxFullBit n d) := by
  obtain ⟨hmem, hlocks, -⟩ := collNoted_frame n d
  have hcoll {k : Nat} (hk : k < 64) : rd (A.mbxData k) (collNoted n d) = rd (A.mbxData k) d :=
    rd_collNoted d (.inr (by unfold A.mbxColl A.mbxData; omega)) hn
  have hfull (k : Nat) : mbxFullBit k (mbxStored m n v d) = mbxFullBit k (setFull n true (wr (A.mbxData n) v (collNoted n d))) :=
    congrArg (bit · (k % 32)) (rd_mbxStored_eq v d _)
  refine ⟨⟨hmem, hlocks, fun {k} hk hkn => ⟨?_, ?_⟩⟩, ?_, ?_, tabGet_tabSet_same _ _ _ _, ?_⟩
  · calc rd (A.mbxData k) (mbxStored m n v d) = rd (A.mbxData k) (wr (A.mbxData n) v (collNoted n d)) :=
          (rd_mbxStored_eq v d _).trans (rd_mbxData_setFull true _ hn hk)
      _ = rd (A.mbxData k) d := (rd_wr_ne _ _ (by unfold A.mbxData; omega)).trans (hcoll hk)
  · calc mbxFullBit k (mbxStored m n v d) = mbxFullBit k (wr (A.mbxData n) v (collNoted n d)) :=
          (hfull k).trans ((mbxFullBit_setFull true _ hk).trans (if_neg hkn))
      _ = mbxFullBit k d := by
          rw [mbxFullBit, rb, rd_wr_ne _ _ (by unfold A.mbxData A.mbxFull; omega),
            rd_collNoted d (by unfold A.mbxColl A.mbxFull; omega) hn, mbxFullBit, rb]
  · exact (rd_mbxStored_eq v d _).trans ((rd_mbxData_setFull true _ hn hn).trans (rd_wr_same _ _ _))
  · exact (hfull n).trans ((mbxFullBit_setFull true _ hn).trans (if_pos rfl))
  · calc rb (A.mbxColl (n / 8)) (n % 8) (mbxStored m n v d)
        = rb (A.mbxColl (n / 8)) (n % 8) (wr (A.mbxData n) v (collNoted n d)) :=
          congrArg (bit · (n % 8)) ((rd_mbxStored_eq v d _).trans (rd_setFull true _ (by unfold A.mbxColl; omega)
            (.inr (by unfold A.mbxColl A.mbxFull; omega)) hn))
      _ = rb (A.mbxColl (n / 8)) (n % 8) (collNoted n d) :=
          congrArg (bit · (n % 8)) (rd_wr_ne _ _ (by unfold A.mbxColl A.mbxData; omega))
      _ = _ := rb_collNoted d

theorem mbxPosts_stored (hn : n < 64) : mbxPosts n (mbxStored m n v d) = mbxPosts n d := by
  rw [mbxPosts, rb, rd_mbxStored v d (by unfold A.mbxCfg; omega) (.inr (by unfold A.mbxCfg; omega)) hn]
  rfl

theorem mbxWrite_refused (h : mbxMaySend m n d = false) : mbxWrite m n v d = mbxDeny m (A.mbxData n) d := by
  rw [mbxWrite, h]
  rfl

theorem mbxWrite_stored (h : mbxMaySend m n d = true) (hp : mbxPosts n d = false) (hn : n < 64) :
    mbxWrite m n v d = fullInterrupt n (mbxStored m n v d) := by
  obtain ⟨-, -, hlast, -⟩ := collNoted_frame n d
  have hmb : (setFull n true (wr (A.mbxData n) v (collNoted n d))).mbxLast = d.mbxLast := hlast
  have hposts := (mbxPosts_stored (m := m) v d hn).trans hp
  unfold mbxStored at hposts
  rw [← hmb] at hposts
  unfold mbxWrite mbxStored
  rw [h, ← hmb]
  exact if_neg (ne_true_of_eq_false hposts)

end

/-! #### A POST mailbox (R243) -/

/-- The item that a POST mailbox posts. -/
def mbxItem (n : Nat) (v : Word) (d : Dev) : Item := newItem 8 (rf (A.mbxCfg n) 27 16 d) n [] 0 v d

theorem mbxWrite_posts {m n : Nat} (v : Word) (d : Dev) (h : mbxMaySend m n d = true) (hp : mbxPosts n d = true) (hn : n < 64) :
    mbxWrite m n v d = offerItem (mbxItem n v (mbxStored m n v d)) (mbxStored m n v d) := by
  obtain ⟨-, -, hlast, -⟩ := collNoted_frame n d
  have hmb : (setFull n true (wr (A.mbxData n) v (collNoted n d))).mbxLast = d.mbxLast := hlast
  have hposts := (mbxPosts_stored (m := m) v d hn).trans hp
  unfold mbxStored at hposts
  rw [← hmb] at hposts
  unfold mbxWrite mbxItem mbxStored
  rw [h, ← hmb]
  exact if_pos hposts

/-- The item is taken: FULL clears as with a read. -/
def mbxPosted (n : Nat) (it : Item) (d : Dev) : Dev :=
  emptyInterrupt n (setFull n false (modDsp (fun q => { q with arrival := q.arrival ++ [it] }) d))

theorem offerItem_mailbox {n : Nat} {it : Item} {d : Dev} (hs : d.sys.mode = .service) (hen : rb A.schCtrl 0 d = true)
    (hroom : d.dsp.arrival.length < 16) (hw : d.dsp.waiting = []) (h8 : it.src = 8) (harg : it.arg = n) :
    offerItem it d = mbxPosted n it d := by
  have hon : inService d = true := decide_eq_true hs
  have hgo : d.dsp.arrival.length < 16 ∧ d.dsp.waiting = [] ∧ inService d = true := ⟨hroom, hw, hon⟩
  rw [offerItem, if_neg (by simp [hon, hen]), if_pos hgo, itemTaken, if_pos h8, harg]
  rfl

theorem mbxPosted_effect {n : Nat} (it : Item) (d : Dev) (hn : n < 64) :
    OtherBoxes n d (mbxPosted n it d) ∧ mbxFullBit n (mbxPosted n it d) = false ∧
    (mbxPosted n it d).dsp = { d.dsp with arrival := d.dsp.arrival ++ [it] } := by
  have halert := Alerted.emptyInterrupt n (setFull n false (modDsp (fun q => { q with arrival := q.arrival ++ [it] }) d))
  have hcleared := otherBoxes_setFull false (modDsp (fun q => { q with arrival := q.arrival ++ [it] }) d) hn
  refine ⟨OtherBoxes.trans ⟨hcleared.mem, hcleared.locks, hcleared.boxes⟩ (halert.otherBoxes n), ?_, halert.dsp⟩
  exact (halert.full hn).trans ((mbxFullBit_setFull _ _ hn).trans (if_pos rfl))

/-! #### Refusals (R241, R251) -/

theorem mbxDeny_effect {m n : Nat} (d : Dev) (hm : m < 20) (hn : n < 64) :
    OtherBoxes n d (mbxDeny m (A.mbxData n) d) ∧ rd (A.mbxData n) (mbxDeny m (A.mbxData n) d) = rd (A.mbxData n) d ∧
    mbxFullBit n (mbxDeny m (A.mbxData n) d) = mbxFullBit n d ∧ rb A.mbxStat 0 (mbxDeny m (A.mbxData n) d) = true ∧
    rf 0x10050008 31 27 (mbxDeny m (A.mbxData n) d) = m ∧
    rf 0x10050008 21 0 (mbxDeny m (A.mbxData n) d) = A.mbxData n - 0x10000000 := by
  have hrd {a : Nat} (h8 : a ≠ 0x10050008) (hs : a ≠ A.mbxStat) : rd a (mbxDeny m (A.mbxData n) d) = rd a d := by
    rw [mbxDeny, rd_wf_ne (a := A.block 5 + 8) _ _ _ _ h8, rd_wf_ne (a := A.block 5 + 8) _ _ _ _ h8, rd_raise_ne _ _ hs]
  have hdata {k : Nat} : rd (A.mbxData k) (mbxDeny m (A.mbxData n) d) = rd (A.mbxData k) d :=
    hrd (by unfold A.mbxData; omega) (by unfold A.mbxData A.mbxStat; omega)
  have hfull {k : Nat} : mbxFullBit k (mbxDeny m (A.mbxData n) d) = mbxFullBit k d :=
    congrArg (bit · (k % 32)) (hrd (by unfold A.mbxFull; omega) (by unfold A.mbxFull A.mbxStat; omega))
  have hoff : errOffset (A.mbxData n) = A.mbxData n - 0x10000000 := if_neg (by unfold A.mbxData; omega)
  refine ⟨⟨rfl, rfl, fun _ _ => ⟨hdata, hfull⟩⟩, hdata, hfull, ?_, ?_, ?_⟩
  · rw [mbxDeny, rb, rd_wf_ne _ _ _ _ (by decide), rd_wf_ne _ _ _ _ (by decide)]
    exact rb_raise_self _ _ (by decide)
  · calc rf 0x10050008 31 27 (mbxDeny m (A.mbxData n) d) = m % 32 :=
          (rf_wf_other _ _ (by decide) (by decide)).trans (rf_wf_same _ _ _ _ _ (by decide))
      _ = m := Nat.mod_eq_of_lt (by omega)
  · calc rf 0x10050008 21 0 (mbxDeny m (A.mbxData n) d) = errOffset (A.mbxData n) % 2 ^ 22 :=
          rf_wf_same _ _ _ _ _ (by decide)
      _ = A.mbxData n - 0x10000000 := by
          rw [hoff]
          unfold A.mbxData
          omega

/-! #### Reads -/

section
variable {m n : Nat} (d : Dev)

theorem mbxRead_debug : mbxRead 19 n d = (rd (A.mbxData n) d, d) := by
  rw [mbxRead]
  exact if_pos rfl

theorem mbxRead_refused (hm : m ≠ 19) (h : mbxPosts n d = true ∨ m ≠ mbxRecv n d) :
    mbxRead m n d = (0, mbxDeny m (A.mbxData n) d) := by
  rw [mbxRead, if_neg hm]
  by_cases hp : mbxPosts n d = true
  · exact if_pos hp
  · exact (if_neg hp).trans (if_pos (h.resolve_left hp))

theorem mbxRead_receiver (hm : m ≠ 19) (hp : mbxPosts n d = false) (hr : m = mbxRecv n d) :
    mbxRead m n d = if mbxFullBit n d then (rd (A.mbxData n) d, emptyInterrupt n (setFull n false d)) else (rd (A.mbxData n) d, d) := by
  rw [mbxRead, if_neg hm, if_neg (ne_true_of_eq_false hp), if_neg (not_not.mpr hr)]

end

/-! #### Rights (R240, R251) -/

section
variable {m n : Nat} {d : Dev}

/-- The code c of MBX_CFG names master m. -/
abbrev NamedBy (m n c : Nat) : Prop := m = c ∧ c ≤ 18 ∧ (56 ≤ n → c = 0 ∨ c = 17 ∨ c = 18)

theorem mbxMaySend_of (h : (n < 56 ∧ rf (A.mbxCfg n) 15 11 d = 31) ∨ NamedBy m n (rf (A.mbxCfg n) 15 11 d)) :
    mbxMaySend m n d = true := by
  unfold mbxMaySend
  generalize rf (A.mbxCfg n) 15 11 d = c at h
  dsimp only
  split
  · refine decide_eq_true ?_
    split <;> omega
  · split
    · rfl
    · refine decide_eq_true ?_
      split <;> omega

theorem mbxMaySend_not (h : rf (A.mbxCfg n) 15 11 d < 19 ∧
    (n < 56 ∨ rf (A.mbxCfg n) 15 11 d = 0 ∨ rf (A.mbxCfg n) 15 11 d = 17 ∨ rf (A.mbxCfg n) 15 11 d = 18))
    (hm : m ≠ rf (A.mbxCfg n) 15 11 d) : mbxMaySend m n d = false := by
  unfold mbxMaySend
  generalize rf (A.mbxCfg n) 15 11 d = c at h hm
  dsimp only
  split
  · refine decide_eq_false ?_
    split <;> omega
  · split
    · omega
    · refine decide_eq_false ?_
      split <;> omega

theorem mbxRecv_of (h : rf (A.mbxCfg n) 10 6 d < 19 ∧
    (n < 56 ∨ rf (A.mbxCfg n) 10 6 d = 0 ∨ rf (A.mbxCfg n) 10 6 d = 17 ∨ rf (A.mbxCfg n) 10 6 d = 18)) :
    mbxRecv n d = rf (A.mbxCfg n) 10 6 d := by
  unfold mbxRecv
  generalize rf (A.mbxCfg n) 10 6 d = c at h
  dsimp only
  split
  · split <;> omega
  · split <;> omega

end

/-! ### Locks (R248, R251) -/

theorem memLockHeld_inj {x y : Nat} (h : A.memLockHeld x = A.memLockHeld y) : x = y := by
  unfold A.memLockHeld at h
  omega

/-- MEM_LOCK_HELD's bit of lock k. -/
abbrev heldBit (k : Nat) (d : Dev) : Bool := rb (A.memLockHeld (k / 32)) (k % 32) d

/-- Lock n has come to owner o, and nothing else has changed about the locks. -/
structure LockBecomes (n : Nat) (o : Option Owner) (d e : Dev) : Prop where
  mem : e.mem = d.mem
  owner : lockOwner n e = o
  held : heldBit n e = o.isSome
  others {k : Nat} : k ≠ n → lockOwner k e = lockOwner k d ∧ heldBit k e = heldBit k d

section
variable {n : Nat} {d e : Dev}

theorem heldBit_setHeld (k n : Nat) (b : Bool) (d : Dev) : heldBit k (setHeld n b d) = if k = n then b else heldBit k d :=
  rb_wb_map memLockHeld_inj k n b d

theorem takeLock_becomes {o : Owner} (d : Dev) (h : o.master < 31) : LockBecomes n (some o) d (takeLock n o d) := by
  have hne : o ≠ lockDefault n := by
    rintro rfl
    exact absurd h (Nat.lt_irrefl 31)
  have hset : tabSet lockDefault d.locks n o = tabInsert d.locks n o := if_neg hne
  refine ⟨rfl, ?_, (heldBit_setHeld _ _ _ _).trans (if_pos rfl), fun {k} hk => ⟨?_, (heldBit_setHeld _ _ _ _).trans (if_neg hk)⟩⟩
  · show tabFind (tabSet lockDefault d.locks n o) n = some o
    rw [hset, tabFind_tabInsert_same]
  · show tabFind (tabSet lockDefault d.locks n o) k = tabFind d.locks k
    rw [hset, tabFind_tabInsert_ne _ _ hk]

theorem freeLock_becomes (n : Nat) (d : Dev) : LockBecomes n none d (freeLock n d) :=
  ⟨rfl, tabFind_filter_same _ _, (heldBit_setHeld _ _ _ _).trans (if_pos rfl), fun hk =>
    ⟨tabFind_tabErase_ne _ hk, (heldBit_setHeld _ _ _ _).trans (if_neg hk)⟩⟩

/-- An operation that came before left the memory, the owners and MEM_LOCK_HELD. -/
theorem LockBecomes.of_same {o : Option Owner} {f : Dev} (h : LockBecomes n o e f) (hmem : e.mem = d.mem) (hlocks : e.locks = d.locks)
    (hheld : ∀ k, heldBit k e = heldBit k d) : LockBecomes n o d f :=
  ⟨h.mem.trans hmem, h.owner, h.held, fun {k} hk =>
    ⟨(h.others hk).1.trans (congrArg (tabFind · k) hlocks), (h.others hk).2.trans (hheld k)⟩⟩

/-- A flag of MEM_LOCK_STAT does not touch a lock. -/
theorem LockBecomes.raise {o : Option Owner} (h : LockBecomes n o d e) (i : Nat) : LockBecomes n o d (raise A.memLockStat i e) := by
  have hheld (k : Nat) : heldBit k (Machine.raise A.memLockStat i e) = heldBit k e :=
    congrArg (bit · (k % 32)) (rd_raise_ne _ _ (by unfold A.memLockHeld A.memLockStat; omega))
  exact ⟨h.mem, h.owner, (hheld n).trans h.held, fun {k} hk => ⟨(h.others hk).1, (hheld k).trans (h.others hk).2⟩⟩

/-! #### Reads and writes of a lock register -/

theorem busyWord_eq (o : Owner) : busyWord o = word (2 ^ 31 + o.master * 2 ^ 8 + o.ctx) := by
  rw [busyWord, atBit, Nat.shiftLeft_eq]

theorem lockRead_held {m ctx : Nat} {o : Owner} (h : lockOwner n d = some o) : lockRead m ctx n d = (busyWord o, d) := by
  rw [lockRead, h]

theorem lockRead_free {m ctx : Nat} (h : lockOwner n d = none) (hm : m ≠ 19) :
    lockRead m ctx n d = (0, takeLock n (identity m ctx) d) := by
  rw [lockRead, h]
  exact if_neg hm

theorem lockRead_debug {ctx : Nat} (h : lockOwner n d = none) : lockRead 19 ctx n d = (0x40000000, d) := by
  rw [lockRead, h]
  exact if_pos rfl

/-- The device behind a write's check of the must-be-0 bits (R115, R251). -/
def lockChecked (m n : Nat) (v : Word) (d : Dev) : Dev :=
  errIf (decide (v &&& 0xFFFFE0F0 ≠ 0)) (A.block 4) m errRsvd (A.memLock n) d

theorem lockChecked_frame (m n : Nat) (v : Word) (d : Dev) : SameButRegs d (lockChecked m n v d) ∧
    ∀ k, heldBit k (lockChecked m n v d) = heldBit k d :=
  ⟨sameButRegs_errIf _ _ _ _ _ _, fun k => congrArg (bit · (k % 32))
    (rd_errIf_ne _ _ _ _ _ (by unfold A.memLockHeld A.block; omega) (by unfold A.memLockHeld A.block; omega))⟩

theorem lockOwner_lockChecked (m n k : Nat) (v : Word) (d : Dev) : lockOwner k (lockChecked m n v d) = lockOwner k d :=
  congrArg (tabFind · k) (lockChecked_frame m n v d).1.locks

theorem lockWrite_owner {m ctx : Nat} {v : Word} (h : lockOwner n d = some (identity m ctx))
    (hmaster : fld v 12 8 = (identity m ctx).master) (hctx : fld v 3 0 = (identity m ctx).ctx) :
    LockBecomes n none d (lockWrite m ctx n v d) := by
  obtain ⟨hsame, hheld⟩ := lockChecked_frame m n v d
  have howner : lockOwner n (lockChecked m n v d) = some (identity m ctx) := (lockOwner_lockChecked _ _ _ _ _).trans h
  have heq : lockWrite m ctx n v d = freeLock n { lockChecked m n v d with
      lockRel := tabInsert (lockChecked m n v d).lockRel n ⟨m, (lockChecked m n v d).now⟩ } :=
    if_pos ⟨howner, hmaster, hctx⟩
  rw [heq]
  exact (freeLock_becomes _ _).of_same hsame.mem hsame.locks hheld

theorem lockWrite_other {m ctx : Nat} {v : Word} (h : lockOwner n d ≠ some (identity m ctx) ∨
    fld v 12 8 ≠ (identity m ctx).master ∨ fld v 3 0 ≠ (identity m ctx).ctx) :
    (lockWrite m ctx n v d).locks = d.locks ∧ rb A.memLockStat 0 (lockWrite m ctx n v d) = true ∧
    (lockWrite m ctx n v d).mem = d.mem := by
  obtain ⟨hsame, -⟩ := lockChecked_frame m n v d
  have heq : lockWrite m ctx n v d = raise A.memLockStat 0 (lockChecked m n v d) := by
    refine if_neg fun ⟨howner, hmaster, hctx⟩ => ?_
    have := (lockOwner_lockChecked m n n v d).symm.trans howner
    tauto
  rw [heq]
  exact ⟨hsame.locks, rb_raise_self _ _ (by decide), hsame.mem⟩

/-! #### Revokes (R121, R250) -/

theorem revokeLock_held {o : Owner} (h : lockOwner n d = some o) : revokeLock n d = raise A.memLockStat 1 (freeLock n d) := by
  rw [revokeLock, h]

theorem revokeLock_free (h : lockOwner n d = none) :
    revokeLock n d = raiseIf (justReleased n d).isSome A.memLockStat 2 d := by
  rw [revokeLock, h]

/-- The device after a key is written to MEM_LOCK_REVOKE: the register keeps nothing of it. -/
def revokeKeyed (d : Dev) : Dev := wr A.memLockRevoke (rd A.memLockRevoke d) d

theorem storeReg_memLockRevoke {v : Word} (d : Dev) (hv : v &&& word 0x20c0 = 0) :
    storeReg 0 A.memLockRevoke v d = revokeKeyed d :=
  storeReg_of_writeOnly (u := ⟨A.block 4, 4, memRows⟩) (i := 0)
    (r := ⟨0x504, 1, 0x1, 1, 0x1, 0, 0, 0, 0, 0, 0x20c0, 0, 0, []⟩) d rfl ⟨rfl, rfl, rfl, rfl, rfl⟩ hv

theorem writeLockRevoke_other {m : Nat} (v : Word) (d : Dev) (hm : m ≠ 0) : writeLockRevoke m v d = d := if_pos (.inl hm)

theorem lockRevoke_word (n : Fin 64) : fld (word (0x0E0C4000 + n)) 31 16 = 0x0E0C ∧ fld (word (0x0E0C4000 + n)) 15 14 = 1 ∧
    fld (word (0x0E0C4000 + n)) 5 0 = n ∧ word (0x0E0C4000 + n) &&& word 0x20c0 = 0 := by
  revert n
  decide

theorem lockRevokeMaster_word (who : Fin 32) : fld (word (0x0E0C8000 + atBit who 8)) 31 16 = 0x0E0C ∧
    fld (word (0x0E0C8000 + atBit who 8)) 15 14 = 2 ∧ fld (word (0x0E0C8000 + atBit who 8)) 12 8 = who ∧
    word (0x0E0C8000 + atBit who 8) &&& word 0x20c0 = 0 := by
  revert who
  decide

theorem writeLockRevoke_lock (n : Fin 64) (d : Dev) :
    writeLockRevoke 0 (word (0x0E0C4000 + n)) d = revokeLock n (revokeKeyed d) := by
  obtain ⟨hkey, hop, hn, hmbz⟩ := lockRevoke_word n
  simp only [writeLockRevoke, hkey, hop, hn, storeReg_memLockRevoke d hmbz, ne_eq, not_true_eq_false, or_self, if_false, if_true]

/-- A revoke by master of lock n. -/
def revokeOf (who : Nat) (d : Dev) (n : Nat) : Dev :=
  match lockOwner n d with
  | some o => if o.master = who then revokeLock n d else d
  | none => if justReleased n d = some who then revokeLock n d else d

theorem writeLockRevoke_master (who : Fin 32) (d : Dev) : writeLockRevoke 0 (word (0x0E0C8000 + atBit who 8)) d =
    (List.range 64).foldl (revokeOf who) (revokeKeyed d) := by
  obtain ⟨hkey, hop, hwho, hmbz⟩ := lockRevokeMaster_word who
  simp only [writeLockRevoke, hkey, hop, hwho, storeReg_memLockRevoke d hmbz, ne_eq, not_true_eq_false, or_self, if_false, if_true,
    show ¬(2 = 1) by decide]
  rfl

theorem revokeOf_effect (who : Nat) (d : Dev) (n : Nat) : (revokeOf who d n).mem = d.mem ∧
    ∀ k, lockOwner k (revokeOf who d n) =
      if k = n ∧ (lockOwner k d).any (fun o => o.master = who) = true then none else lockOwner k d := by
  unfold revokeOf
  cases hn : lockOwner n d with
  | none =>
    have hkept (k : Nat) : ¬(k = n ∧ (lockOwner k d).any (fun o => o.master = who) = true) := by
      rintro ⟨rfl, h⟩
      rw [hn] at h
      exact absurd h Bool.false_ne_true
    have hraised : SameButRegs d (revokeLock n d) := by
      rw [revokeLock_free hn]
      exact sameButRegs_raiseIf _ _ _ _
    simp only [hkept, if_false]
    split
    · exact ⟨hraised.mem, fun k => congrArg (tabFind · k) hraised.locks⟩
    · exact ⟨rfl, fun _ => rfl⟩
  | some o =>
    dsimp only
    split
    next hwho =>
      rw [revokeLock_held hn]
      refine ⟨rfl, fun k => ?_⟩
      by_cases hk : k = n
      · rw [if_pos ⟨hk, by rw [hk, hn, Option.any_some, hwho, decide_eq_true rfl]⟩, hk]
        exact (freeLock_becomes n d).owner
      · rw [if_neg (fun h => hk h.1)]
        exact ((freeLock_becomes n d).others hk).1
    next hwho =>
      refine ⟨rfl, fun k => (if_neg ?_).symm⟩
      rintro ⟨rfl, h⟩
      rw [hn, Option.any_some, decide_eq_true_eq] at h
      exact hwho h

theorem revokeOf_foldl (who : Nat) (l : List Nat) (d : Dev) : (l.foldl (revokeOf who) d).mem = d.mem ∧
    ∀ k, lockOwner k (l.foldl (revokeOf who) d) =
      if k ∈ l ∧ (lockOwner k d).any (fun o => o.master = who) = true then none else lockOwner k d := by
  induction l generalizing d with
  | nil => exact ⟨rfl, fun k => by simp⟩
  | cons n l ih =>
    obtain ⟨hmem, hfold⟩ := ih (revokeOf who d n)
    obtain ⟨hmem', hstep⟩ := revokeOf_effect who d n
    refine ⟨hmem.trans hmem', fun k => ?_⟩
    rw [List.foldl_cons, hfold k, hstep k]
    by_cases hany : (lockOwner k d).any (fun o => o.master = who) = true
    · by_cases hk : k = n
      · subst hk
        simp [hany]
      · simp [hk, hany]
    · simp [hany]

end

/-! ### The obligation -/

section
variable {m : Fin 20} {ctx : Fin 10} {n : Fin 64} {v : Word} {s : State}

theorem exec_mailboxWrite (hp : powered s.dev = true) (hfar : ¬(1 ≤ m.val ∧ m.val ≤ 16 ∧ 56 ≤ n.val)) :
    exec (.mailboxWrite m n v) s = .next { s with dev := mbxWrite m n v s.dev } :=
  (onPow_of_powered _ hp).trans (by rw [byMaster_mailbox m.isLt n.isLt hfar])

theorem exec_mailboxRead (hp : powered s.dev = true) (hfar : ¬(1 ≤ m.val ∧ m.val ≤ 16 ∧ 56 ≤ n.val)) :
    exec (.mailboxRead m n) s = .next { s with dev := giveRead m (mbxRead m n s.dev).1 (mbxRead m n s.dev).2 } :=
  (onPow_of_powered _ hp).trans (by rw [byMaster_mailbox m.isLt n.isLt hfar])

theorem exec_mailboxPost (hp : powered s.dev = true) (hfar : ¬(1 ≤ m.val ∧ m.val ≤ 16 ∧ 56 ≤ n.val))
    (hposts : mbxPosts n s.dev = true) : exec (.mailboxPost m n v) s = .next { s with dev := mbxWrite m n v s.dev } :=
  (onPow_of_powered _ hp).trans (by rw [when_of _ _ hposts, byMaster_mailbox m.isLt n.isLt hfar])

theorem region_memLock (n : Fin 64) : region (A.memLock n) = .reg ∧ A.memLock n % 4 = 0 ∧
    (A.memLock n < A.mbxData 56 ∨ A.mbxData 63 + 3 < A.memLock n) :=
  ⟨region_window (by unfold A.memLock; omega) (by unfold A.memLock; omega), by unfold A.memLock; omega,
    .inl (by unfold A.memLock A.mbxData; omega)⟩

theorem exec_lockAcquire (hp : powered s.dev = true) (hmay : PassesIssue m (some ctx) false s.dev) :
    exec (.lockAcquire m ctx n) s = .next { s with dev := giveRead m (lockRead m ctx n s.dev).1 (lockRead m ctx n s.dev).2 } := by
  obtain ⟨hr, h4, hmbx⟩ := region_memLock n
  exact (onPow_of_powered _ hp).trans (by rw [byMaster_reg hmay hr h4 (mbxDenied_beyond hmbx)])

theorem exec_lockRelease (hp : powered s.dev = true) (hmay : PassesIssue m (some ctx) true s.dev) :
    exec (.lockRelease m ctx n v) s = .next { s with dev := lockWrite m ctx n v s.dev } := by
  obtain ⟨hr, h4, hmbx⟩ := region_memLock n
  exact (onPow_of_powered _ hp).trans (by rw [byMaster_reg hmay hr h4 (mbxDenied_beyond hmbx)])

/-- A context's access to a lock register that takes an exception at issue (R165, R167). -/
theorem byMaster_lock_exc {wr : Bool} {f : Dev → Dev} {d : Dev} {cause : Nat} (hm : m.val ≤ 16)
    (hrun : running (masterCore m) d = some (keyOf (masterCore m) ctx))
    (hfault : accessFault (masterCore m) 4 (A.memLock n) wr (getCtx (keyOf (masterCore m) ctx) d) d = some (cause, none)) :
    byMaster m (some ctx) wr (A.memLock n) f d =
      takeExc (keyOf (masterCore m) ctx) { cause := cause, wr := wr, ebad := some (A.memLock n) } d := by
  simp only [byMaster, if_neg (Nat.not_lt.mpr hm), Option.map_some, Option.some_or, hfault, hrun, decide_true, when_of, accessExc]

theorem guardedReg_memLock (n : Fin 64) : guardedReg (A.memLock n) = true := by
  have hlo : 0x10000000 ≤ A.memLock n := by
    unfold A.memLock
    omega
  have hhi : A.memLock n < 0x10400000 := by
    unfold A.memLock
    omega
  have hwin : inWindow (A.memLock n) = true := by simp [inWindow, hlo, hhi]
  have hblock : (A.memLock n - 0x10000000) / 0x10000 = 4 := by
    unfold A.memLock
    omega
  simp [guardedReg, hwin, hblock]

theorem accessFault_memLock_user {c : Nat} {wr : Bool} {x : Ctx} (d : Dev) (hs : x.sys = false) :
    accessFault c 4 (A.memLock n) wr x d = some (5, none) := by
  rw [accessFault, guardedReg_memLock, hs]
  rfl

theorem accessFault_memLock_det {c : Nat} {x : Ctx} (d : Dev) (hs : x.sys = true) (hdet : x.det = true) :
    accessFault c 4 (A.memLock n) false x d = some (9, none) := by
  rw [accessFault, guardedReg_memLock, hs, hdet]
  rfl

theorem exec_lockRevoke (hp : powered s.dev = true) :
    exec (.lockRevoke 0 n) s = .next { s with dev := revokeLock n (revokeKeyed s.dev) } :=
  (onPow_of_powered _ hp).trans (by rw [← writeLockRevoke_lock]; rfl)

theorem exec_lockRevokeMaster {who : Fin 32} (hp : powered s.dev = true) :
    exec (.lockRevokeMaster 0 who) s = .next { s with dev := (List.range 64).foldl (revokeOf who) (revokeKeyed s.dev) } :=
  (onPow_of_powered _ hp).trans (by rw [← writeLockRevoke_master]; rfl)

end

/-- Settles O40: a mailbox by the rights of its master and its FULL bit, a lock by its owner. -/
theorem mailboxesAndLocks : Obligations.MailboxesAndLocks := by
  unfold Obligations.MailboxesAndLocks
  refine ⟨fun m n v s hp => ?_, fun m ctx n s hp => ?_⟩
  · intro d full send recv ownCode maySend engineFar posts others denied
    have hothers {e : Dev} (h : OtherBoxes n d e) : others { s with dev := e } :=
      ⟨rfl, h.mem, h.locks, fun _ hk hkn => h.boxes hk hkn⟩
    have hposts : mbxPosts n d = true ↔ posts := by
      simp only [mbxPosts, Bool.and_eq_true, decide_eq_true_eq, and_assoc, posts]
    have hnear : maySend ∨ ownCode recv → ¬engineFar := by
      rintro ((⟨h, -⟩ | ⟨h, -, hc⟩) | ⟨h, -, hc⟩) ⟨h1, h16, h56⟩ <;> omega
    have hdenied : denied { s with dev := mbxDeny m (A.mbxData n) d } := by
      obtain ⟨hboxes, hword, hfull, hstat, hmaster, haddr⟩ := mbxDeny_effect (m := m) d m.isLt n.isLt
      exact ⟨hothers hboxes, hword, hfull, hstat, hmaster, haddr⟩
    refine ⟨fun hmay hno => ?_, fun key h1 h16 h56 hrun => ⟨?_, ?_⟩, fun hcode hm hfar => ?_, fun hm hown hno => ⟨fun hf => ?_, fun hf => ?_⟩,
      fun hm => ?_, fun hm hfar hwhy => ?_, fun hmay hyes hs hen hroom hw => ?_⟩
    · have hexec := exec_mailboxWrite (v := v) hp (hnear (.inl hmay))
      rw [mbxWrite_stored v s.dev (mbxMaySend_of hmay) (Bool.eq_false_iff.mpr (hposts.not.mpr hno)) n.isLt] at hexec
      obtain ⟨hboxes, hword, hfull, hlast, hcoll⟩ := mbxStored_effect (m := m) v s.dev n.isLt
      have halert := Alerted.fullInterrupt n (mbxStored m n v s.dev)
      refine ⟨_, hexec, hothers (hboxes.trans (halert.otherBoxes n)), (halert.rd_mbxData n.isLt).trans hword,
        (halert.full n.isLt).trans hfull, ?_, ?_⟩
      · exact (congrArg (tabGet zeroDefault · n.val) halert.mbxLast).trans hlast
      · exact (congrArg (bit · (n.val % 8)) (halert.lowRegs (by unfold A.mbxColl; omega))).trans hcoll
    · exact (onPow_of_powered _ hp).trans (by rw [byMaster_mailbox_far h1 h16 n.isLt h56 hrun])
    · exact (onPow_of_powered _ hp).trans (by rw [byMaster_mailbox_far h1 h16 n.isLt h56 hrun])
    · have hexec := exec_mailboxWrite (v := v) hp hfar
      rw [mbxWrite_refused v s.dev (mbxMaySend_not hcode hm)] at hexec
      exact ⟨_, hexec, hdenied⟩
    · have hrecv : m.val = mbxRecv n d := by
        obtain ⟨hm', hle, hc⟩ := hown
        rw [mbxRecv_of (by omega)]
        exact hm'
      have hread := mbxRead_receiver d (show m.val ≠ 19 by omega) (Bool.eq_false_iff.mpr (hposts.not.mpr hno)) hrecv
      rw [if_neg (show ¬mbxFullBit n d = true from ne_true_of_eq_false hf)] at hread
      exact (exec_mailboxRead hp (hnear (.inr hown))).trans (by rw [hread])
    · have hrecv : m.val = mbxRecv n d := by
        obtain ⟨hm', hle, hc⟩ := hown
        rw [mbxRecv_of (by omega)]
        exact hm'
      have hread := mbxRead_receiver d (show m.val ≠ 19 by omega) (Bool.eq_false_iff.mpr (hposts.not.mpr hno)) hrecv
      rw [if_pos (show mbxFullBit n d = true from hf)] at hread
      have halert := Alerted.emptyInterrupt n (setFull n false d)
      have hboxes := (otherBoxes_setFull false d n.isLt).trans (halert.otherBoxes n)
      have hexec := exec_mailboxRead hp (hnear (.inr hown))
      rw [hread] at hexec
      refine ⟨_, hexec, hothers ⟨hboxes.mem, hboxes.locks, hboxes.boxes⟩, ?_, ?_, rdata_giveRead_same _ _ _⟩
      · exact (halert.full n.isLt).trans ((mbxFullBit_setFull false d n.isLt).trans (if_pos rfl))
      · exact (halert.rd_mbxData n.isLt).trans (rd_mbxData_setFull false d n.isLt n.isLt)
    · subst hm
      exact (exec_mailboxRead hp (fun h => absurd h.2.1 (by decide))).trans
        (congrArg (fun q : Word × Dev => Host.Outcome.next { s with dev := giveRead 19 q.1 q.2 }) (mbxRead_debug d))
    · have hread := mbxRead_refused (m := m) (n := n) d (by omega) (by
        refine hwhy.imp hposts.mpr fun ⟨hlt, hcode, hne⟩ => ?_
        rw [mbxRecv_of ⟨hlt, hcode⟩]
        exact hne)
      have hexec := exec_mailboxRead hp hfar
      rw [hread] at hexec
      obtain ⟨hboxes, hword, hfull, hstat, hmaster, haddr⟩ := mbxDeny_effect (m := m) d m.isLt n.isLt
      exact ⟨_, hexec, ⟨hothers ⟨hboxes.mem, hboxes.locks, hboxes.boxes⟩, hword, hfull, hstat, hmaster, haddr⟩,
        rdata_giveRead_same _ _ _⟩
    · have hstored (b : Nat) (hb : b < 0x10050020 ∨ 0x100501FF < b) (hlt : b < 0x101F0000) : rd b (mbxStored m n v d) = rd b d :=
        rd_mbxStored v d hlt hb n.isLt
      obtain ⟨-, -, -, hdsp, hsys⟩ := collNoted_frame n d
      have hdsp : (mbxStored m n v d).dsp = d.dsp := hdsp
      have hsys : (mbxStored m n v d).sys = d.sys := hsys
      have hen' : rb A.schCtrl 0 (mbxStored m n v d) = true := (congrArg (bit · 0) (hstored _ (.inr (by decide)) (by decide))).trans hen
      have hoffer := offerItem_mailbox (n := n) (it := mbxItem n v (mbxStored m n v d)) (d := mbxStored m n v d)
        (by rw [hsys]; exact hs) hen' (by rw [hdsp]; exact hroom) (by rw [hdsp]; exact hw) rfl rfl
      have hexec := exec_mailboxPost (v := v) hp (hnear (.inl hmay)) (hposts.mpr hyes)
      rw [mbxWrite_posts v s.dev (mbxMaySend_of hmay) (hposts.mpr hyes) n.isLt, hoffer] at hexec
      have hboxes := (mbxStored_effect (m := m) v d n.isLt).1
      obtain ⟨hboxes', hfull, harrival⟩ := mbxPosted_effect (mbxItem n v (mbxStored m n v d)) (mbxStored m n v d) n.isLt
      rw [hdsp] at harrival
      refine ⟨_, _, hexec, hothers (hboxes.trans hboxes'), hfull, harrival, rfl, ?_, rfl, rfl, rfl, ?_⟩
      · exact congrArg (fld · 27 16) (hstored _ (.inr (by unfold A.mbxCfg; omega)) (by unfold A.mbxCfg; omega))
      · exact hstored _ (.inl (by decide)) (by decide)
  · intro d me key x a may held becomes
    have hbecomes {o : Option Owner} {e : Dev} (h : LockBecomes n o d e) : becomes { s with dev := e } o :=
      ⟨rfl, h.mem, h.owner, h.held, fun _ _ hk => h.others hk⟩
    have hwrite (h : may) : PassesIssue m (some ctx) true d := passesIssue_ctx (h.imp_right fun hx => hx.1)
    have hread (h : may) : PassesIssue m (some ctx) false d :=
      h.imp_right fun hx _ hkey => Option.some.inj hkey ▸ ⟨hx.1, .inr hx.2⟩
    refine ⟨fun hm hrun v => ⟨fun hs => ⟨?_, ?_⟩, fun hs hdet => ?_⟩, fun hfree hm hmay => ?_, fun hfree hm => ?_, fun hmay o ho => ?_,
      fun v hmay ho hmaster hctx => ?_, fun v hmay hno => ?_, fun o ho => ?_, fun hfree hrel => ?_, fun hfree hrel => ?_,
      fun who => ?_, fun who hm => ⟨?_, ?_⟩⟩
    · exact (onPow_of_powered _ hp).trans (by rw [byMaster_lock_exc hm hrun (accessFault_memLock_user d hs)])
    · exact (onPow_of_powered _ hp).trans (by rw [byMaster_lock_exc hm hrun (accessFault_memLock_user d hs)])
    · exact (onPow_of_powered _ hp).trans (by rw [byMaster_lock_exc hm hrun (accessFault_memLock_det d hs hdet)])
    · have hexec := exec_lockAcquire (n := n) hp (hread hmay)
      rw [lockRead_free hfree (fun h => hm (Fin.ext h))] at hexec
      have htaken := takeLock_becomes (n := n) (o := identity m ctx) d (show m.val < 31 by omega)
      exact ⟨_, hexec, hbecomes ⟨htaken.mem, htaken.owner, htaken.held, htaken.others⟩, rdata_giveRead_same _ _ _⟩
    · subst hm
      exact (exec_lockAcquire hp (.inl (by decide))).trans
        (congrArg (fun q : Word × Dev => Host.Outcome.next { s with dev := giveRead 19 q.1 q.2 }) (lockRead_debug hfree))
    · rw [exec_lockAcquire hp (hread hmay), lockRead_held ho, busyWord_eq]
    · exact ⟨_, exec_lockRelease hp (hwrite hmay), hbecomes (lockWrite_owner ho hmaster hctx)⟩
    · exact ⟨_, exec_lockRelease hp (hwrite hmay), lockWrite_other hno⟩
    · have hexec := exec_lockRevoke (n := n) hp
      rw [revokeLock_held (show lockOwner n (revokeKeyed s.dev) = some o from ho)] at hexec
      have hfreed := (freeLock_becomes n (revokeKeyed d)).of_same (d := d) rfl rfl fun k => congrArg (bit · (k % 32)) (rd_wr_held _ _ _)
      exact ⟨_, hexec, hbecomes (hfreed.raise 1), rb_raise_self _ _ (by decide)⟩
    · have hexec := exec_lockRevoke (n := n) hp
      rw [revokeLock_free (show lockOwner n (revokeKeyed s.dev) = none from hfree),
        show justReleased n (revokeKeyed s.dev) = none from hrel] at hexec
      exact ⟨_, hexec, rfl, fun b => rd_wr_held _ _ _⟩
    · have hexec := exec_lockRevoke (n := n) hp
      rw [revokeLock_free (show lockOwner n (revokeKeyed s.dev) = none from hfree),
        show (justReleased n (revokeKeyed s.dev)).isSome = true from Option.isSome_iff_ne_none.mpr hrel] at hexec
      exact ⟨_, hexec, rfl, rb_raise_self _ _ (by decide)⟩
    · obtain ⟨hmem, hfold⟩ := revokeOf_foldl who (List.range 64) (revokeKeyed d)
      have hexec := exec_lockRevokeMaster (who := who) hp
      change exec _ s = .next { s with dev := (List.range 64).foldl (revokeOf who) (revokeKeyed d) } at hexec
      generalize (List.range 64).foldl (revokeOf who) (revokeKeyed d) = e at hexec hmem hfold
      refine ⟨_, hexec, hmem, fun k hk => (hfold k).trans ?_⟩
      simp only [List.mem_range.mpr hk, true_and]
      rfl
    · exact (onPow_of_powered _ hp).trans (by rw [writeLockRevoke_other _ _ (fun h => hm (Fin.ext h))])
    · exact (onPow_of_powered _ hp).trans (by rw [writeLockRevoke_other _ _ (fun h => hm (Fin.ext h))])

end Sys2Proof.Machine
end

section
/-! ROM gates, the TAP and debug sessions, and the obligation about them (R106, R483, R491-R493, R496, R497, R499). -/

namespace Sys2Proof.Machine

/-! ### Bytes of a word -/

theorem length_leBytes (n v : Nat) : (leBytes n v).length = n := by
  induction n generalizing v with
  | zero => rfl
  | succ n ih => rw [leBytes, List.length_cons, ih]

theorem getD_leBytes {n i : Nat} (v : Nat) (h : i < n) : (leBytes n v).getD i 0 = BitVec.ofNat 8 (v >>> (8 * i)) := by
  induction n generalizing v i with
  | zero => omega
  | succ n ih =>
    cases i with
    | zero => rfl
    | succ i =>
      have hdiv : v / 256 = v >>> 8 := (Nat.shiftRight_eq_div_pow v 8).symm
      rw [leBytes, List.getD_cons_succ, ih (v / 256) (by omega), hdiv, ← Nat.shiftRight_add]
      congr 2
      omega

/-- A word stored: its bytes, and every other one as it was. -/
theorem memByte_memPut_word {a b : Nat} (v : Nat) (d : Dev) (hb : 0x20000 ≤ b) :
    memByte b (memPut a (leBytes 4 v) d) = if a ≤ b ∧ b < a + 4 then BitVec.ofNat 8 (v >>> (8 * (b - a))) else memByte b d := by
  rw [memByte_memPut _ _ _ _ hb, length_leBytes]
  split
  next h => rw [getD_leBytes v (by omega)]
  next => rfl

/-- A word's region is that of each of its bytes (R124). -/
theorem region_aligned (a : Nat) : region (a - a % 4) = region a := by
  have hlt {c : Nat} (hc : c % 4 = 0) : (a - a % 4 < c) = (a < c) := propext (by omega)
  have hle {c : Nat} (hc : c % 4 = 0) : (c ≤ a - a % 4) = (c ≤ a) := propext (by omega)
  have hpe : (a - a % 4 - 0x08000000) / 0x40000 = (a - 0x08000000) / 0x40000 := by omega
  have holt {c : Nat} (hc : c % 4 = 0) : ((a - a % 4 - 0x08000000) % 0x40000 < c) = ((a - 0x08000000) % 0x40000 < c) :=
    propext (by omega)
  have hole {c : Nat} (hc : c % 4 = 0) : (c ≤ (a - a % 4 - 0x08000000) % 0x40000) = (c ≤ (a - 0x08000000) % 0x40000) :=
    propext (by omega)
  have hwin : inWindow (a - a % 4) = inWindow a := by
    rw [Bool.eq_iff_iff, inWindow, inWindow, Bool.and_eq_true, Bool.and_eq_true]
    simp only [decide_eq_true_eq]
    omega
  unfold region
  simp only [hlt (c := 0x20000) rfl, hlt (c := 0x01080000) rfl, hle (c := 0x01000000) rfl, hlt (c := 0x05000000) rfl,
    hle (c := 0x04000000) rfl, hlt (c := 0x06020000) rfl, hle (c := 0x06000000) rfl, hlt (c := 0x06040000) rfl,
    hle (c := 0x06020000) rfl, hlt (c := 0x07080000) rfl, hle (c := 0x07000000) rfl, hlt (c := 0x08400000) rfl,
    hle (c := 0x08000000) rfl, hpe, holt (c := 0x10000) rfl, holt (c := 0x20000) rfl, holt (c := 0x20800) rfl,
    hole (c := 0x30000) rfl, hwin]

/-! ### Firmware at a gate (R483) -/

/-- What a gate needs: the Supervisor executes there, and no command waits in it. -/
structure AtGate (g : Nat) (d : Dev) : Prop where
  runs : coreRuns 16 d = true
  state : (getCtx supKey d).state = .running
  gate : d.sec.gate = false
  rom : romGate (getCtx supKey d).pc.toNat = some g

theorem atGate_iff {g : Nat} {d : Dev} : atGate g d = true ↔ AtGate g d := by
  simp only [atGate, Bool.and_eq_true, decide_eq_true_eq, Bool.not_eq_true']
  exact ⟨fun ⟨⟨⟨h1, h2⟩, h3⟩, h4⟩ => ⟨h1, h2, h3, h4⟩, fun ⟨h1, h2, h3, h4⟩ => ⟨⟨⟨h1, h2⟩, h3⟩, h4⟩⟩

theorem AtGate.secure {g : Nat} {d : Dev} (h : AtGate g d) : secureMode d = true := by
  have hpow : powered d = true := by
    have := h.runs
    rw [coreRuns_supervisor, Bool.and_eq_true] at this
    exact this.1
  rw [secureMode, hpow, h.rom, Option.isSome_some, Bool.or_true]
  rfl

/-- Firmware goes on at LR with its status in D4. -/
theorem getCtx_gateReturn (status : Nat) (d : Dev) : getCtx supKey (gateReturn status d) =
    { (getCtx supKey d).setD 4 (word status) with pc := (getCtx supKey d).lr } := getCtx_putCtx_same _ _ _

theorem gateReturn_frame (status : Nat) (d : Dev) : (gateReturn status d).regs = d.regs ∧ (gateReturn status d).mem = d.mem ∧
    (gateReturn status d).img = d.img := ⟨rfl, rfl, rfl⟩

theorem rd_gateReturn (a status : Nat) (d : Dev) : rd a (gateReturn status d) = rd a d := by
  rw [rd, rd]
  rfl

theorem gateReturn_sec {status : Nat} {d : Dev} (h : d.sec.gate = false) : (gateReturn status d).sec = d.sec := by
  show { d.sec with gate := false } = d.sec
  rw [← h]

/-! #### The Vault (R144, R145, R483) -/

/-- The word at Vault offset o can be accessed. -/
def VaultOpen (o : Nat) (d : Dev) : Prop :=
  o < 0x80000 ∧ o % 4 = 0 ∧ rb A.memVaultStat 0 d = false ∧ bankReady (40 + o / 0x40000) d = true

theorem region_vault {o : Nat} (h : o < 0x80000) : region (0x07000000 + o) = .vault := by
  unfold region
  rw [if_neg (by omega), if_neg (by omega), if_neg (by omega), if_neg (by omega), if_neg (by omega), if_pos (by omega)]

theorem vaultFail_none_iff {wr : Bool} {o : Nat} {d : Dev} : vaultFail wr o d = none ↔ VaultOpen o d := by
  unfold vaultFail VaultOpen
  by_cases ho : 0x80000 ≤ o ∨ o % 4 ≠ 0
  · rw [if_pos ho]
    simp only [reduceCtorEq, false_iff]
    rintro ⟨h1, h2, -⟩
    omega
  · have hlt : o < 0x80000 := by omega
    have h4 : o % 4 = 0 := by omega
    have hbank : 40 + (0x07000000 + o - 0x07000000) / 0x40000 = 40 + o / 0x40000 := by omega
    rw [if_neg ho]
    simp only [accessFail, region_vault hlt, permitted, poolDenied, mbxDenied, banksReady, banksOf, hbank, List.all_cons,
      List.all_nil, Bool.and_true, hlt, h4, true_and]
    cases rb A.memVaultStat 0 d <;> cases bankReady (40 + o / 0x40000) d <;> simp

theorem sameButRegs_accEvent (m kind : Nat) (wr : Bool) (a : Nat) (d : Dev) : SameButRegs d (accEvent m kind wr a d) :=
  ((sameButRegs_raise _ _ _).trans (sameButRegs_wr _ _ _)).trans (sameButRegs_wr _ _ _)

theorem gateReturn_after {status : Nat} {d e : Dev} (h : SameButRegs d e) : (gateReturn status e).mem = d.mem ∧
    getCtx supKey (gateReturn status e) = { (getCtx supKey d).setD 4 (word status) with pc := (getCtx supKey d).lr } :=
  ⟨(gateReturn_frame status e).2.1.trans h.mem, by rw [getCtx_gateReturn, h.getCtx]⟩

theorem vaultRefused_effect (kind : Nat) (wr : Bool) (o : Nat) (d : Dev) : (vaultRefused kind wr o d).mem = d.mem ∧
    getCtx supKey (vaultRefused kind wr o d) = { (getCtx supKey d).setD 4 1 with pc := (getCtx supKey d).lr } := by
  unfold vaultRefused when
  split
  · exact gateReturn_after (sameButRegs_accEvent _ _ _ _ _)
  · exact gateReturn_after (SameButRegs.refl d)

theorem vaultRead_open {d : Dev} (h : VaultOpen ((getCtx supKey d).dr 2).toNat d)
    (hb : badIn (0x07000000 + ((getCtx supKey d).dr 2).toNat) 4 d = none) : vaultRead d =
      gateReturn 0 (putCtx supKey ((getCtx supKey d).setD 3
        (word (leNat (memBytes (0x07000000 + ((getCtx supKey d).dr 2).toNat) 4 d)))) d) := by
  simp only [vaultRead, vaultFail_none_iff.mpr h, hb]

theorem vaultRead_closed {d : Dev} (h : ¬VaultOpen ((getCtx supKey d).dr 2).toNat d) :
    ∃ k, vaultRead d = vaultRefused k false ((getCtx supKey d).dr 2).toNat d := by
  obtain ⟨k, hk⟩ := Option.ne_none_iff_exists'.mp (vaultFail_none_iff (wr := false).not.mpr h)
  exact ⟨k, by simp only [vaultRead, hk]⟩

theorem vaultWrite_open {d : Dev} (h : VaultOpen ((getCtx supKey d).dr 2).toNat d) : vaultWrite d =
    gateReturn 0 (memPut (0x07000000 + ((getCtx supKey d).dr 2).toNat) (leBytes 4 ((getCtx supKey d).dr 3).toNat) d) := by
  simp only [vaultWrite, vaultFail_none_iff.mpr h]

theorem vaultWrite_closed {d : Dev} (h : ¬VaultOpen ((getCtx supKey d).dr 2).toNat d) :
    ∃ k, vaultWrite d = vaultRefused k true ((getCtx supKey d).dr 2).toNat d := by
  obtain ⟨k, hk⟩ := Option.ne_none_iff_exists'.mp (vaultFail_none_iff (wr := true).not.mpr h)
  exact ⟨k, by simp only [vaultWrite, hk]⟩

/-- A wipe trigger, whatever is under way: the wipe runs, and only registers change. -/
theorem startWipe_runs (cause : Nat) (d : Dev) : rb A.memVaultStat 0 (startWipe cause d) = true ∧
    SameButRegs d (startWipe cause d) ∧ ∀ a, a ≠ A.memVaultStat → rd a (startWipe cause d) = rd a d := by
  unfold startWipe
  split
  next h => exact ⟨h, SameButRegs.refl d, fun _ _ => rfl⟩
  next => exact ⟨rb_wb_same _ _ _ _ (by decide), (sameButRegs_wf _ _ _ _ _).trans (sameButRegs_wr _ _ _), fun a ha => by
    rw [rd_wb_ne _ _ _ ha, rd_wf_ne _ _ _ _ ha]⟩

theorem vaultWipe_effect {d : Dev} (h : secureMode d = true) : SameButRegs d (writeVaultCmd 0 0x0B7E0001 d) ∧
    rb A.memVaultStat 0 (writeVaultCmd 0 0x0B7E0001 d) = true := by
  have hstored : secureMode (storeReg 0 A.memVaultCmd 0x0B7E0001 d) = true :=
    (sameButRegs_storeReg _ _ _ _).secureMode.trans h
  have heq : writeVaultCmd 0 0x0B7E0001 d = startWipe 4 (storeReg 0 A.memVaultCmd 0x0B7E0001 d) :=
    (writeVaultCmd_key d (by decide) (by decide)).trans (if_pos (by rw [hstored]; rfl))
  obtain ⟨hruns, hsame, -⟩ := startWipe_runs 4 (storeReg 0 A.memVaultCmd 0x0B7E0001 d)
  rw [heq]
  exact ⟨(sameButRegs_storeReg _ _ _ _).trans hsame, hruns⟩

/-! #### SEC_COMMAND (R483-R486) -/

/-- What a session's end leaves: registers beside SEC_LC, and all but contexts and engines. -/
structure SessionKept (d e : Dev) : Prop where
  mem : e.mem = d.mem
  sec : e.sec = d.sec
  sys : e.sys = d.sys
  rd {a : Nat} : a ≠ A.secLc → rd a e = rd a d
  sup : (getCtx supKey d).state ≠ .ready → getCtx supKey e = getCtx supKey d

theorem SessionKept.refl (d : Dev) : SessionKept d d := ⟨rfl, rfl, rfl, fun _ => rfl, fun _ => rfl⟩

theorem SessionKept.trans {d e f : Dev} (h : SessionKept d e) (h' : SessionKept e f) : SessionKept d f :=
  ⟨h'.mem.trans h.mem, h'.sec.trans h.sec, h'.sys.trans h.sys, fun ha => (h'.rd ha).trans (h.rd ha), fun hs =>
    (h'.sup (by rw [h.sup hs]; exact hs)).trans (h.sup hs)⟩

theorem SessionKept.schedule (c : Nat) (d : Dev) : SessionKept d (schedule c d) where
  mem := schedule_mem c d
  sec := congrArg (·.sec) (schedule_frame c d)
  sys := congrArg (·.sys) (schedule_frame c d)
  rd _ := rd_schedule _ c d
  sup hs := getCtx_schedule hs

/-- A context of an engine is none of the Supervisor's. -/
theorem ctxKey_ne_supKey {c k : Nat} (hc : c < 16) (hk : k < 10) : supKey ≠ ctxKey c k := by
  unfold supKey ctxKey
  omega

theorem SessionKept.modCtx {c k : Nat} (hc : c < 16) (hk : k < 10) (op : Ctx → Ctx) (d : Dev) :
    SessionKept d (modCtx (ctxKey c k) op d) :=
  ⟨rfl, rfl, rfl, fun _ => rfl, fun _ => getCtx_putCtx_ne _ _ (ctxKey_ne_supKey hc hk)⟩

theorem SessionKept.wf_secLc (hi lo v : Nat) (d : Dev) : SessionKept d (wf A.secLc hi lo v d) :=
  ⟨rfl, rfl, rfl, fun ha => rd_wf_ne _ _ _ _ ha, fun _ => rfl⟩

theorem SessionKept.resumeHeld (d : Dev) : SessionKept d (resumeHeld d) := by
  refine List.foldlRecOn (motive := SessionKept d) _ _ (refl d) fun e h c hc => h.trans ?_
  refine List.foldlRecOn (motive := SessionKept e) _ _ (refl e) fun f h k hk => h.trans ?_
  dsimp only
  split
  · exact (modCtx (List.mem_range.mp hc) (List.mem_range.mp hk) _ f).trans (schedule c _)
  · exact refl f

theorem SessionKept.endSession (d : Dev) : SessionKept d (endSession d) := by
  unfold Machine.endSession
  dsimp only
  split
  · exact (wf_secLc _ _ _ d).trans (resumeHeld _)
  · exact refl d

/-- The staging words as the gate loads them (R483, R486). -/
def staged12 (l : List Word) (d : Dev) : Dev :=
  { d with sec := { d.sec with stage := l.zipIdx.foldl (fun t p => tabSet zeroDefault t p.2 p.1) d.sec.stage } }

theorem writeSecStage_secure {w : Nat} {v : Word} {d : Dev} (h : secureMode d = true) : writeSecStage 0 w v d =
    { d with sec := { d.sec with stage := tabSet zeroDefault d.sec.stage w v } } := by
  simp only [writeSecStage, h, decide_true, Bool.and_self, Bool.true_or, Bool.not_true, Bool.false_eq_true, if_false]

theorem writeSecStage_foldl {l : List (Word × Nat)} {d : Dev} (h : secureMode d = true) :
    l.foldl (fun d p => writeSecStage 0 p.2 p.1 d) d =
      { d with sec := { d.sec with stage := l.foldl (fun t p => tabSet zeroDefault t p.2 p.1) d.sec.stage } } := by
  induction l generalizing d with
  | nil => rfl
  | cons p l ih =>
    rw [List.foldl_cons, writeSecStage_secure h]
    exact ih h

theorem tabGet_stage_foldl (l : List Word) (k i : Nat) (t : Tab Word) :
    tabGet zeroDefault ((l.zipIdx k).foldl (fun t p => tabSet zeroDefault t p.2 p.1) t) i =
      if k ≤ i ∧ i < k + l.length then l.getD (i - k) 0 else tabGet zeroDefault t i := by
  induction l generalizing k t with
  | nil => rw [if_neg (by simp)]; rfl
  | cons w l ih =>
    rw [List.zipIdx_cons, List.foldl_cons, ih, tabGet_tabSet, List.length_cons]
    by_cases hik : i = k
    · rw [if_neg (by omega), if_pos hik, if_pos (by omega), hik, Nat.sub_self]
      rfl
    · rw [if_neg hik]
      by_cases hr : k + 1 ≤ i ∧ i < k + 1 + l.length
      · rw [if_pos hr, if_pos (by omega), show i - k = (i - (k + 1)) + 1 by omega, List.getD_cons_succ]
      · rw [if_neg hr, if_neg (by omega)]

theorem length_stagingAt {a : Nat} {d : Dev} {l : List Word} (h : stagingAt a d = some l) : l.length = 12 := by
  unfold stagingAt at h
  dsimp only at h
  split at h
  · rw [← Option.some.inj h, List.length_map, List.length_range]
  · simp at h

/-- What a command's check reads. -/
theorem commandOk_congr {m op arg : Nat} {f : Fuses} {d e : Dev} (h : rd A.secLc e = rd A.secLc d) :
    commandOk m op arg f e = commandOk m op arg f d := by
  unfold commandOk lifeState rf
  rw [h]

/-- A keyed command word that is permitted is taken while no other runs (R485). -/
theorem writeSecCmd_taken {v : Word} {f : Fuses} {d : Dev} (hs : secureMode d = true) (hkey : fld v 31 16 = 0x0E5C)
    (hop : 1 ≤ fld v 15 12 ∧ fld v 15 12 ≤ 8) (hidle : rb A.secStat 0 d = false)
    (hok : commandOk 0 (fld v 15 12) (fld v 2 0) f d = true) :
    writeSecCmd 0 v f d = commandStart (fld v 15 12) (fld v 2 0) (storeReg 0 A.secCmd v d) := by
  have hreg : regAt A.secCmd = some (⟨A.block 3, 3, secRows⟩,
      ⟨0x14, 1, 0x1, 1, 0x1, 0, 0, 0, 0, 0, 0xff8, 0, 0, []⟩, 0) := rfl
  have hstat : rb A.secStat 0 (storeReg 0 A.secCmd v d) = false :=
    (congrArg (bit · 0) (rd_storeReg_ne 0 v d hreg (by decide) (by decide) (by decide))).trans hidle
  have hok' : commandOk 0 (fld v 15 12) (fld v 2 0) f (storeReg 0 A.secCmd v d) = true :=
    (commandOk_congr (rd_storeReg_ne 0 v d hreg (by decide) (by decide) (by decide))).trans hok
  have hlisted : ¬(fld v 15 12 = 0 ∨ 9 ≤ fld v 15 12) := by omega
  simp only [writeSecCmd, hs, decide_true, Bool.and_self, Bool.true_or, Bool.not_true, Bool.false_eq_true, if_false, hkey, ne_eq,
    not_true_eq_false, takeCommand, hlisted, hstat, hok', if_true]

/-- A command is over: none runs, and the staging words are clear (R486). -/
def cmdOver (d : Dev) : Dev := stageClear { d with sec := { d.sec with cmd := none } }

theorem getCtx_cmdOver (key : Nat) (d : Dev) : getCtx key (cmdOver d) = getCtx key d := by
  rw [getCtx, getCtx]
  rfl

/-- A command passes while firmware waits in the gate (R485). -/
theorem commandEnd_gate {d : Dev} (hgate : d.sec.gate = true) : (commandEnd true d).mem = d.mem ∧
    rb A.secStat 1 (commandEnd true d) = true ∧
    getCtx supKey (commandEnd true d) = { (getCtx supKey d).setD 4 0 with pc := (getCtx supKey d).lr } := by
  have hframe : SameButRegs (cmdOver d) (raise A.secStat 1 (wb A.secStat 0 false (cmdOver d))) :=
    (sameButRegs_wr _ _ _).trans (sameButRegs_raise _ _ _)
  have hover : (raise A.secStat 1 (wb A.secStat 0 false (cmdOver d))).sec.gate = true := by
    rw [hframe.sec]
    exact hgate
  have heq : commandEnd true d = gateReturn 0 (raise A.secStat 1 (wb A.secStat 0 false (cmdOver d))) := if_pos hover
  obtain ⟨hmem, hctx⟩ := gateReturn_after (status := 0) hframe
  rw [getCtx_cmdOver] at hctx
  rw [heq]
  refine ⟨hmem, ?_, hctx⟩
  rw [rb, rd_gateReturn]
  exact rb_raise_self _ _ (by decide)

/-- SESSION_END, while firmware waits in the gate (R485, R494). -/
theorem commandStart_sessionEnd {arg : Nat} {d : Dev} (hgate : d.sec.gate = true) (hs : (getCtx supKey d).state = .running) :
    (commandStart 8 arg d).mem = d.mem ∧ rb A.secStat 1 (commandStart 8 arg d) = true ∧
    getCtx supKey (commandStart 8 arg d) = { (getCtx supKey d).setD 4 0 with pc := (getCtx supKey d).lr } := by
  have hend := SessionKept.endSession d
  have hsup : getCtx supKey (endSession d) = getCtx supKey d := hend.sup (by rw [hs]; decide)
  have heq : commandStart 8 arg d = commandEnd true (endSession d) := if_pos rfl
  obtain ⟨hmem, hstat, hctx⟩ := commandEnd_gate (d := endSession d) (by rw [hend.sec, hgate])
  rw [hsup] at hctx
  rw [heq]
  exact ⟨hmem.trans hend.mem, hstat, hctx⟩

/-- Any other command runs on: BUSY, and a life-cycle command's wipe (R485). -/
theorem commandStart_runs {op arg : Nat} {d : Dev} (hop : op ≠ 8) :
    rb A.secStat 0 (commandStart op arg d) = true ∧ (commandStart op arg d).mem = d.mem ∧
    (commandStart op arg d).sec = { d.sec with cmd := some (op, arg) } ∧
    getCtx supKey (commandStart op arg d) = getCtx supKey d := by
  have heq : commandStart op arg d = when (lifeCommand op) (startWipe 2)
      (wb A.secStat 0 true { d with sec := { d.sec with cmd := some (op, arg) } }) := if_neg hop
  rw [heq]
  unfold when
  split
  · obtain ⟨-, hsame, hrd⟩ := startWipe_runs 2 (wb A.secStat 0 true { d with sec := { d.sec with cmd := some (op, arg) } })
    refine ⟨?_, hsame.mem, hsame.sec, hsame.getCtx _⟩
    rw [rb, hrd _ (by decide)]
    exact rb_wb_same _ _ _ _ (by decide)
  · exact ⟨rb_wb_same _ _ _ _ (by decide), rfl, rfl, rfl⟩

/-- The gate takes the command word of D2 (R483-R485). -/
structure GateTakes (f : Fuses) (d : Dev) : Prop where
  key : fld ((getCtx supKey d).dr 2) 31 16 = 0x0E5C
  lo : 1 ≤ fld ((getCtx supKey d).dr 2) 15 12
  hi : fld ((getCtx supKey d).dr 2) 15 12 ≤ 8
  ok : commandOk 0 (fld ((getCtx supKey d).dr 2) 15 12) (fld ((getCtx supKey d).dr 2) 2 0) f d = true
  staging : fld ((getCtx supKey d).dr 2) 15 12 = 4 ∨ fld ((getCtx supKey d).dr 2) 15 12 = 6 →
    (stagingAt ((getCtx supKey d).dr 3).toNat d).isSome = true

theorem secGate_refused {f : Fuses} {d : Dev} (h : rb A.secStat 0 d = true ∨ ¬GateTakes f d) :
    secGate f d = gateReturn (if rb A.secStat 0 d = true then 2 else 1) (raise A.secStat 2 d) := by
  unfold secGate
  dsimp only
  by_cases hbusy : rb A.secStat 0 d = true
  · rw [if_pos hbusy, if_pos hbusy]
  · have hno := h.resolve_left hbusy
    rw [if_neg hbusy, if_neg hbusy]
    by_cases hbad : (decide (fld ((getCtx supKey d).dr 2) 31 16 ≠ 0x0E5C) || decide (fld ((getCtx supKey d).dr 2) 15 12 = 0) ||
        decide (9 ≤ fld ((getCtx supKey d).dr 2) 15 12) ||
        !commandOk 0 (fld ((getCtx supKey d).dr 2) 15 12) (fld ((getCtx supKey d).dr 2) 2 0) f d) = true
    · exact if_pos hbad
    · rw [if_neg hbad]
      simp only [Bool.or_eq_true, decide_eq_true_eq, Bool.not_eq_true', not_or, Bool.not_eq_false] at hbad
      obtain ⟨⟨⟨hkey, hzero⟩, hnine⟩, hok⟩ := hbad
      have hneeds : ¬(fld ((getCtx supKey d).dr 2) 15 12 = 4 ∨ fld ((getCtx supKey d).dr 2) 15 12 = 6 →
          (stagingAt ((getCtx supKey d).dr 3).toNat d).isSome = true) := fun hst =>
        hno ⟨not_not.mp hkey, by omega, by omega, hok, hst⟩
      rw [Classical.not_imp, Bool.not_eq_true, Option.isSome_eq_false_iff, Option.isNone_iff_eq_none] at hneeds
      obtain ⟨hop, hnone⟩ := hneeds
      have hneed : (decide (fld ((getCtx supKey d).dr 2) 15 12 = 4) || decide (fld ((getCtx supKey d).dr 2) 15 12 = 6)) = true := by
        simpa using hop
      rw [hneed, hnone]

/-- The device with the staging loaded where the command takes it. -/
def stagingLoaded (d : Dev) : Dev :=
  let op := fld ((getCtx supKey d).dr 2) 15 12
  if op = 4 ∨ op = 6 then staged12 ((stagingAt ((getCtx supKey d).dr 3).toNat d).getD []) d else d

/-- Firmware waits in the gate for the end of its command. -/
def gateWaiting (d : Dev) : Dev := { stagingLoaded d with sec := { (stagingLoaded d).sec with gate := true } }

theorem stagingLoaded_frame (d : Dev) : (stagingLoaded d).regs = d.regs ∧ (stagingLoaded d).mem = d.mem ∧
    (stagingLoaded d).sys = d.sys ∧ (stagingLoaded d).ctxs = d.ctxs := by
  unfold stagingLoaded
  dsimp only
  split <;> exact ⟨rfl, rfl, rfl, rfl⟩

theorem gateWaiting_frame (d : Dev) : (∀ a, rd a (gateWaiting d) = rd a d) ∧ (gateWaiting d).mem = d.mem ∧
    getCtx supKey (gateWaiting d) = getCtx supKey d ∧ secureMode (gateWaiting d) = secureMode d := by
  obtain ⟨hregs, hmem, hsys, hctxs⟩ := stagingLoaded_frame d
  refine ⟨fun a => ?_, hmem, ?_, ?_⟩
  · rw [rd, show (gateWaiting d).regs = d.regs from hregs, rd]
  · rw [getCtx, show (gateWaiting d).ctxs = d.ctxs from hctxs, getCtx]
  · rw [secureMode, powered, getCtx, show (gateWaiting d).sys = d.sys from hsys, show (gateWaiting d).ctxs = d.ctxs from hctxs]
    rfl

theorem stage_gateWaiting {d : Dev} {l : List Word} {i : Nat}
    (hop : fld ((getCtx supKey d).dr 2) 15 12 = 4 ∨ fld ((getCtx supKey d).dr 2) 15 12 = 6)
    (hl : stagingAt ((getCtx supKey d).dr 3).toNat d = some l) (hi : i < 12) :
    tabGet zeroDefault (gateWaiting d).sec.stage i = l.getD i 0 := by
  have hload : stagingLoaded d = staged12 l d := by
    unfold stagingLoaded
    rw [hl]
    exact if_pos hop
  show tabGet zeroDefault (stagingLoaded d).sec.stage i = _
  rw [hload]
  refine (tabGet_stage_foldl l 0 i d.sec.stage).trans ?_
  rw [length_stagingAt hl, if_pos (by omega), Nat.sub_zero]

theorem secGate_taken {f : Fuses} {d : Dev} (hidle : rb A.secStat 0 d = false) (ht : GateTakes f d) (hs : secureMode d = true) :
    secGate f d = writeSecCmd 0 ((getCtx supKey d).dr 2) f (gateWaiting d) := by
  obtain ⟨hkey, hlo, hhi, hok, hst⟩ := ht
  have hlisted : (decide (fld ((getCtx supKey d).dr 2) 31 16 ≠ 0x0E5C) || decide (fld ((getCtx supKey d).dr 2) 15 12 = 0) ||
      decide (9 ≤ fld ((getCtx supKey d).dr 2) 15 12) ||
      !commandOk 0 (fld ((getCtx supKey d).dr 2) 15 12) (fld ((getCtx supKey d).dr 2) 2 0) f d) = false := by
    rw [hok, decide_eq_false (not_not.mpr hkey), decide_eq_false (by omega), decide_eq_false (by omega)]
    rfl
  unfold secGate gateWaiting stagingLoaded
  dsimp only
  rw [if_neg (ne_true_of_eq_false hidle), if_neg (ne_true_of_eq_false hlisted)]
  by_cases hop : fld ((getCtx supKey d).dr 2) 15 12 = 4 ∨ fld ((getCtx supKey d).dr 2) 15 12 = 6
  · obtain ⟨l, hl⟩ := Option.isSome_iff_exists.mp (hst hop)
    have hneed : (decide (fld ((getCtx supKey d).dr 2) 15 12 = 4) || decide (fld ((getCtx supKey d).dr 2) 15 12 = 6)) = true := by
      simpa using hop
    rw [hneed, hl, if_pos hop]
    dsimp only
    rw [writeSecStage_foldl hs]
    rfl
  · have hneed : (decide (fld ((getCtx supKey d).dr 2) 15 12 = 4) || decide (fld ((getCtx supKey d).dr 2) 15 12 = 6)) = false := by
      simpa using hop
    rw [hneed, if_neg hop]

/-- The command that the gate takes starts behind the write of SEC_CMD (R483, R485). -/
theorem secGate_starts {f : Fuses} {d : Dev} (hidle : rb A.secStat 0 d = false) (ht : GateTakes f d) (hs : secureMode d = true) :
    secGate f d = commandStart (fld ((getCtx supKey d).dr 2) 15 12) (fld ((getCtx supKey d).dr 2) 2 0)
      (storeReg 0 A.secCmd ((getCtx supKey d).dr 2) (gateWaiting d)) := by
  obtain ⟨hrd, -, -, hsec⟩ := gateWaiting_frame d
  rw [secGate_taken hidle ht hs]
  refine writeSecCmd_taken (hsec.trans hs) ht.key ⟨ht.lo, ht.hi⟩ ?_ ((commandOk_congr (hrd _)).trans ht.ok)
  rw [rb, hrd]
  exact hidle

/-! ### The TAP (R491, R496, R497) -/

/-- The device with a TAP instruction selected. -/
def tapHolds (code drive : Nat) (dr bsr : List Byte) (d : Dev) : Dev :=
  { d with sec := { d.sec with ir := code, drive := drive, dr := dr, bsr := bsr } }

theorem rd_tapSelect (a code drive : Nat) (dr : List Byte) (d : Dev) : rd a (tapSelect code drive dr d) = rd a d := by
  rw [rd, rd]
  rfl

section
variable {code drive : Nat} {d : Dev}

theorem boundary_unpowered (cells : Option (List Byte)) (levels : List Byte) (h : powered d = false) :
    boundary code drive cells levels d = tapHolds code 0 [0] d.sec.bsr d := by
  rw [boundary, h]
  rfl

theorem boundary_cells (cells levels : List Byte) (h : powered d = true) : boundary code drive (some cells) levels d =
    tapHolds code (if d.sys.mode = .twilight then drive else 0) levels cells d := by
  rw [boundary, h]
  rfl

theorem boundary_none (levels : List Byte) (h : powered d = true) : boundary code drive none levels d =
    tapHolds code (if d.sys.mode = .twilight then drive else 0) levels d.sec.bsr d := by
  rw [boundary, h]
  rfl

end

/-! ### Debug access (R105, R106, R127, R492) -/

/-- The life cycle and the kill fuse let debug reach the device (R492, R497). -/
def Reached (d : Dev) : Prop := powered d = true ∧ lifeKnown d = true ∧ rb A.secLc 25 d = false

theorem debugReached_iff {d : Dev} : debugReached d = true ↔ Reached d := by
  simp only [debugReached, Reached, Bool.and_eq_true, Bool.not_eq_true', and_assoc]

theorem dbgAcc_granted_iff {d : Dev} : (powered d = true ∧ dbgAccGranted d = true) ↔ Reached d ∧
    (lifeState d = 0 ∨ lifeState d = 1 ∨ lifeState d = 4 ∨ (lifeState d = 2 ∧ rf A.secLc 11 9 d = 2)) := by
  simp only [dbgAccGranted, Reached, Bool.and_eq_true, Bool.not_eq_true', Bool.or_eq_true, decide_eq_true_eq, and_assoc, or_assoc]

theorem exec_dbgAcc_denied {wr served : Bool} {a v : Word} {s : State} (h : ¬(powered s.dev = true ∧ dbgAccGranted s.dev = true)) :
    exec (.dbgAcc wr a v served) s = .next { s with dev := tapBypass 0x10 s.dev } := by
  have hno : (!powered s.dev || !dbgAccGranted s.dev) = true := by
    rw [← Bool.not_and, Bool.not_eq_true', Bool.and_eq_false_iff]
    by_contra hboth
    rw [not_or, Bool.not_eq_false, Bool.not_eq_false] at hboth
    exact h hboth
  exact congrArg (fun e => Host.Outcome.next { s with dev := e }) (if_pos hno)

/-- The word that a granted debug access returns, and the device behind it. -/
def dbgWord (wr : Bool) (a v : Word) (served : Bool) (f : Fuses) (d : Dev) : Word × Dev :=
  if region a.toNat = .reg then (if wr then (0, writeReg 19 0 a.toNat v f d) else readReg 19 0 a.toNat d)
  else dbgMemory wr a.toNat v served d

/-- The device once the word of a debug access is given back. -/
def dbgReturned (p : Word × Dev) : Dev := tapSelect 0x10 0 (leBytes 4 p.1.toNat) (giveRead 19 p.1 p.2)

theorem dbgReturned_frame (w : Word) (d : Dev) : (dbgReturned (w, d)).regs = d.regs ∧ (dbgReturned (w, d)).ctxs = d.ctxs ∧
    (dbgReturned (w, d)).mem = d.mem ∧ tabGet zeroDefault (dbgReturned (w, d)).rdata 19 = w :=
  ⟨rfl, rfl, rfl, rdata_giveRead_same _ _ _⟩

theorem exec_dbgAcc_read {served : Bool} {a v : Word} {s : State} (h : powered s.dev = true ∧ dbgAccGranted s.dev = true) :
    exec (.dbgAcc false a v served) s = .next { s with dev := dbgReturned (dbgWord false a v served s.fuses s.dev) } := by
  have hyes : ¬(!powered s.dev || !dbgAccGranted s.dev) = true := by rw [h.1, h.2]; decide
  exact congrArg (fun e => Host.Outcome.next { s with dev := e }) (if_neg hyes)

theorem exec_dbgAcc_write {served : Bool} {a v : Word} {s : State} (h : powered s.dev = true ∧ dbgAccGranted s.dev = true) :
    exec (.dbgAcc true a v served) s = .next { s with dev := tapSelect 0x10 0 [] (dbgWord true a v served s.fuses s.dev).2 } := by
  have hyes : ¬(!powered s.dev || !dbgAccGranted s.dev) = true := by rw [h.1, h.2]; decide
  exact congrArg (fun e => Host.Outcome.next { s with dev := e }) (if_neg hyes)

/-- The data RAM of an engine, and shared SRAM before commit, are open to debug. -/
def DebugMemory (a : Nat) (d : Dev) : Prop := ∃ n, region a = .dram n ∨ (region a = .sram ∧ committed d = false)

theorem accessFail_debugMemory {a : Nat} {wr : Bool} {d : Dev} (h : DebugMemory a d) (hb : banksReady a d = true) :
    accessFail 19 wr false a d = none := by
  have hmbx : mbxDenied 19 a = false := rfl
  obtain ⟨n, hr | ⟨hr, hc⟩⟩ := h
  · simp [accessFail, permitted, poolDenied, hr, hmbx, hb]
  · simp [accessFail, permitted, poolDenied, hr, hmbx, hb, hc]

theorem dbgMemory_open {a : Nat} {v : Word} {served : Bool} {d : Dev} (h : DebugMemory a d)
    (hb : banksReady (a - a % 4) d = true) (hbad : badIn (a - a % 4) 4 d = none) :
    dbgMemory true a v served d = (0, memPut (a - a % 4) (leBytes 4 v.toNat) d) ∧
    dbgMemory false a v served d = (word (leNat (memBytes (a - a % 4) 4 d)), d) := by
  have hal : DebugMemory (a - a % 4) d := by
    unfold DebugMemory
    rw [region_aligned]
    exact h
  have hpass (wr : Bool) := accessFail_debugMemory (wr := wr) hal hb
  obtain ⟨n, hr | ⟨hr, -⟩⟩ := hal
  · simp [dbgMemory, hpass, hr, putBytes, badRead, readBytes, hbad]
  · simp [dbgMemory, hpass, hr, putBytes, badRead, readBytes, hbad]

theorem dbgWord_memory {wr : Bool} {a v : Word} {served : Bool} {f : Fuses} {d : Dev} (h : DebugMemory a.toNat d) :
    dbgWord wr a v served f d = dbgMemory wr a.toNat v served d := by
  refine if_neg ?_
  obtain ⟨n, hr | ⟨hr, -⟩⟩ := h <;> rw [hr] <;> simp

/-! ### DBG_TEST and DBG_WAKE (R94, R106, R499) -/

theorem dbgTest_refused {a : Nat} {v : Word} {d : Dev} (h : ¬Reached d ∨ lifeState d ≠ 0) : dbgTest a v d = tapBypass 0x12 d := by
  refine if_pos ?_
  rw [Bool.or_eq_true, Bool.not_eq_true', ← Bool.not_eq_true, debugReached_iff, decide_eq_true_eq]
  exact h

theorem dbgTest_register {a i : Nat} {v : Word} {u : RegUnit} {r : Row} {d : Dev} (h : Reached d) (hl : lifeState d = 0)
    (hreg : regAt a = some (u, r, i)) : dbgTest a v d =
      wr a ((rd a d &&& ~~~(word r.live)) ||| (v &&& word r.live)) (tapSelect 0x12 0 [] d) := by
  have hgo : (!debugReached d || decide (lifeState d ≠ 0)) = false := by
    rw [debugReached_iff.mpr h, decide_eq_false (not_not.mpr hl)]
    rfl
  rw [dbgTest, if_neg (ne_true_of_eq_false hgo), hreg]
  rfl

theorem dbgWake_refused {d : Dev} (h : rb A.secLc 25 d = true ∨ lifeState d ≠ 1) : dbgWake d = tapBypass 0x13 d := by
  refine if_pos ?_
  rw [Bool.or_eq_true, decide_eq_true_eq]
  exact h

theorem dbgWake_granted {d : Dev} (hk : rb A.secLc 25 d = false) (hl : lifeState d = 1) :
    dbgWake d = when (rb A.sysWakeEn 4 d) (wakeBy 5) (tapSelect 0x13 0 [] d) := by
  refine if_neg ?_
  rw [hk, decide_eq_false (not_not.mpr hl)]
  decide

/-- In service a debug request wakes nothing (R94). -/
theorem wakeBy_debug_service {d : Dev} (hs : d.sys.mode = .service) (ht : d.sys.trans = none) : wakeBy 5 d = d := by
  simp [wakeBy, ht, hs]

/-! ### Authentication (R493) -/

theorem length_challengeBytes (f : Fuses) (d : Dev) : (challengeBytes f d).length = 48 := by
  simp [challengeBytes, length_leBytes]

theorem take_challengeBytes (f : Fuses) (d : Dev) :
    (challengeBytes f d).take 4 = [0x60, 0x41, 0xA1, BitVec.ofNat 8 d.sec.purpose] := rfl

/-- A failed response: AUTH_FAIL, the count, and AUTH_LOCK with the third in a row. -/
theorem authFail_effect (d : Dev) : rb A.secStat 6 (authFail d) = true ∧ (2 ≤ d.sec.fails → rb A.secStat 7 (authFail d) = true) ∧
    (authFail d).sec = { d.sec with fails := d.sec.fails + 1, challenge := none, response := none } ∧
    ((authFail d).mem = d.mem ∧ (authFail d).sys = d.sys ∧ (authFail d).ctxs = d.ctxs ∧ (authFail d).now = d.now) ∧
    ∀ a, a ≠ A.secStat → rd a (authFail d) = rd a d := by
  have heq : authFail d = when (decide (3 ≤ d.sec.fails + 1)) (wb A.secStat 7 true) (raise A.secStat 6
      { d with sec := { d.sec with fails := d.sec.fails + 1, challenge := none, response := none } }) := rfl
  rw [heq]
  have hraised : rb A.secStat 6 (raise A.secStat 6
      { d with sec := { d.sec with fails := d.sec.fails + 1, challenge := none, response := none } }) = true :=
    rb_raise_self _ _ (by decide)
  have hframe := sameButRegs_raise A.secStat 6
    { d with sec := { d.sec with fails := d.sec.fails + 1, challenge := none, response := none } }
  have hne (a : Nat) (ha : a ≠ A.secStat) : rd a (raise A.secStat 6
      { d with sec := { d.sec with fails := d.sec.fails + 1, challenge := none, response := none } }) = rd a d :=
    rd_raise_ne _ _ ha
  generalize raise A.secStat 6 { d with sec := { d.sec with fails := d.sec.fails + 1, challenge := none, response := none } } = e
    at hraised hframe hne
  by_cases h3 : 3 ≤ d.sec.fails + 1
  · rw [when_of _ _ (decide_eq_true h3)]
    have hlock := hframe.trans (sameButRegs_wr A.secStat (setBit (rd A.secStat e) 7 true) e)
    exact ⟨(rb_wb_other _ _ _ (by decide) (by decide)).trans hraised, fun _ => rb_wb_same _ _ _ _ (by decide), hlock.sec,
      ⟨hlock.mem, hlock.sys, hlock.ctxs, hlock.now⟩, fun a ha => (rd_wb_ne _ _ _ ha).trans (hne a ha)⟩
  · rw [when_of_not _ _ (decide_eq_false h3)]
    exact ⟨hraised, fun h => by omega, hframe.sec, ⟨hframe.mem, hframe.sys, hframe.ctxs, hframe.now⟩, hne⟩

/-- A challenge depends on the life cycle, the nonce and the purpose only. -/
theorem challengeBytes_congr (f : Fuses) {d e : Dev} (hp : e.sec.purpose = d.sec.purpose) (hn : e.sec.nonces = d.sec.nonces)
    (hl : rd A.secLc e = rd A.secLc d) : challengeBytes f e = challengeBytes f d := by
  rw [challengeBytes, hp, hn, lifeState, rf, hl]
  rfl

/-- The device once challenge c stands. -/
def challenged (c : List Byte) (d : Dev) : Dev :=
  { tapSelect 0x11 0 (slice c 0 196) d with
    sec := { (tapSelect 0x11 0 (slice c 0 196) d).sec with challenge := some (c, d.now), nonces := d.sec.nonces + 1 } }

theorem authCapture_reached {f : Fuses} {d : Dev} (h : Reached d) : authCapture f d =
    challenged (challengeBytes f d) (if d.sec.response.isSome then authFail d else d) := by
  have hchal : challengeBytes f (if d.sec.response.isSome then authFail d else d) = challengeBytes f d := by
    obtain ⟨-, -, hsec, -, hrd⟩ := authFail_effect d
    split
    · exact challengeBytes_congr f (by rw [hsec]) (by rw [hsec]) (hrd _ (by decide))
    · rfl
  rw [← hchal]
  refine if_neg ?_
  rw [debugReached_iff.mpr h]
  decide

theorem unreached_authCapture {f : Fuses} {d : Dev} (h : ¬Reached d) : authCapture f d = tapBypass 0x11 d := by
  refine if_pos ?_
  rw [Bool.not_eq_true', ← Bool.not_eq_true, debugReached_iff]
  exact h

section
variable {bs : List Byte} {d : Dev}

theorem authResponse_unreached (h : ¬Reached d) : authResponse bs d = tapBypass 0x11 d := by
  refine if_pos ?_
  rw [Bool.not_eq_true', ← Bool.not_eq_true, debugReached_iff]
  exact h

theorem authResponse_pending (h : Reached d) (hr : d.sec.response.isSome = true) : authResponse bs d = d := by
  rw [authResponse, debugReached_iff.mpr h]
  exact if_pos hr

theorem authResponse_full {q : List Byte} {t : Nat} (h : Reached d) (hr : d.sec.response = none) (hc : d.sec.challenge = some (q, t))
    (hl : bs.length = 196) : authResponse bs d =
      if t + 4000000000 < d.now then authFail d else { d with sec := { d.sec with response := some bs } } := by
  simp only [authResponse, debugReached_iff.mpr h, hr, hc, decide_eq_true hl, Option.isSome_none, Bool.not_true,
    Bool.false_eq_true, if_false]

theorem authResponse_purpose (h : Reached d) (hr : d.sec.response = none) (hno : d.sec.challenge = none ∨ bs.length ≠ 196) :
    authResponse bs d = { d with sec := { d.sec with purpose := if (bs.getD 0 0).getLsbD 0 = true then 1 else 2 } } := by
  have hbit : ((bs.getD 0 0).toNat % 2 = 1) = ((bs.getD 0 0).getLsbD 0 = true) := by
    rw [← BitVec.testBit_toNat, Nat.testBit_zero, decide_eq_true_eq]
  rw [authResponse, debugReached_iff.mpr h]
  simp only [hr, Option.isSome_none, Bool.not_true, Bool.false_eq_true, if_false, hbit]
  obtain hc | hl := hno
  · rw [hc]
  · rw [decide_eq_false hl]
    cases d.sec.challenge <;> rfl

end

/-- The response r passes against challenge q (R493). -/
def Passes (f : Fuses) (q r : List Byte) (d : Dev) : Prop :=
  rb A.secStat 7 d = false ∧ Config.ecdsaVerify (Config.sha384 q) (slice r 4 96) (slice r 100 96) = true ∧
  ((q.getD 3 0).toNat = 1 → (r.getD 0 0).toNat < 4 ∧ f.usable (r.getD 0 0).toNat = true ∧
    Config.sha384 (slice r 4 96) = f.hash (r.getD 0 0).toNat ∧ lifeState d ≠ 3) ∧
  (¬(q.getD 3 0).toNat = 1 → (r.getD 0 0).toNat = 0xFF ∧ Config.sha384 (slice r 4 96) = Config.vendorKeyHash ∧
    1 ≤ lifeState d ∧ lifeState d ≤ 3)

theorem authPasses_iff {f : Fuses} {q r : List Byte} {d : Dev} : authPasses f q r d = true ↔ Passes f q r d := by
  have hlife : (lifeState d = 1 ∨ lifeState d = 2 ∨ lifeState d = 3) ↔ 1 ≤ lifeState d ∧ lifeState d ≤ 3 := by omega
  unfold authPasses Passes
  by_cases hp : (q.getD 3 0).toNat = 1
  · simp only [hp, if_true, Bool.and_eq_true, decide_eq_true_eq, Bool.not_eq_true', true_implies, not_true_eq_false, false_implies,
      and_true, and_assoc]
    tauto
  · simp only [hp, if_false, Bool.and_eq_true, Bool.or_eq_true, decide_eq_true_eq, Bool.not_eq_true', not_false_eq_true,
      true_implies, false_implies, true_and, and_assoc, or_assoc, hlife]
    tauto

section
variable {f : Fuses} {d : Dev}

theorem authVerify_idle (h : powered d = false ∨ d.sec.challenge = none ∨ d.sec.response = none) : authVerify f d = d := by
  unfold authVerify
  obtain hp | hc | hr := h
  · rw [hp]
    cases d.sec.challenge <;> cases d.sec.response <;> rfl
  · rw [hc]
  · rw [hr]
    cases d.sec.challenge <;> rfl

/-- A session opens. -/
def sessionOpened (dbg : Nat) (d : Dev) : Dev :=
  { d with sec := { d.sec with fails := 0, challenge := none, response := none } } |> wf A.secLc 11 9 dbg |> raise A.secStat 5

theorem authVerify_response {q r : List Byte} {t : Nat} (hp : powered d = true) (hc : d.sec.challenge = some (q, t))
    (hr : d.sec.response = some r) : authVerify f d =
      if authPasses f q r d = true then sessionOpened (if (q.getD 3 0).toNat = 1 then 2 else 3) d else authFail d := by
  simp only [authVerify, hc, hr, hp, Bool.not_true, Bool.false_eq_true, if_false]
  rfl

theorem sessionOpened_effect {dbg : Nat} (d : Dev) (h : dbg < 8) :
    let t := sessionOpened dbg d
    rf A.secLc 11 9 t = dbg ∧ rb A.secStat 5 t = true ∧ t.sec.fails = 0 ∧ t.sec.challenge = none ∧ t.sec.response = none ∧
    t.mem = d.mem ∧ t.sys = d.sys ∧ t.ctxs = d.ctxs := by
  have hframe := (sameButRegs_wf A.secLc 11 9 dbg { d with sec := { d.sec with fails := 0, challenge := none, response := none } }).trans
    (sameButRegs_raise A.secStat 5 _)
  refine ⟨?_, rb_raise_self _ _ (by decide), congrArg (·.fails) hframe.sec, congrArg (·.challenge) hframe.sec,
    congrArg (·.response) hframe.sec, hframe.mem, hframe.sys, hframe.ctxs⟩
  rw [sessionOpened, rf, rd_raise_ne _ _ (by decide)]
  exact (rf_wf_same _ _ _ _ _ (by decide)).trans (Nat.mod_eq_of_lt h)

end

/-! ### The obligation -/

theorem exec_vaultRead {s : State} (h : AtGate 0 s.dev) : exec .vaultRead s = .next { s with dev := vaultRead s.dev } :=
  onDev_eq_next (when_of _ _ (atGate_iff.mpr h))

theorem exec_vaultWrite {s : State} (h : AtGate 1 s.dev) : exec .vaultWrite s = .next { s with dev := vaultWrite s.dev } :=
  onDev_eq_next (when_of _ _ (atGate_iff.mpr h))

theorem exec_vaultWipe {s : State} (h : AtGate 2 s.dev) :
    exec .vaultWipe s = .next { s with dev := gateReturn 0 (writeVaultCmd 0 0x0B7E0001 s.dev) } :=
  onDev_eq_next (when_of _ _ (atGate_iff.mpr h))

theorem exec_secCommand {s : State} (h : AtGate 3 s.dev) : exec .secCommand s = .next { s with dev := secGate s.fuses s.dev } :=
  onDev_eq_next (when_of _ _ (atGate_iff.mpr h))

theorem exec_away {s : State} : (¬atGate 0 s.dev = true → exec .vaultRead s = .next s) ∧
    (¬atGate 1 s.dev = true → exec .vaultWrite s = .next s) ∧ (¬atGate 2 s.dev = true → exec .vaultWipe s = .next s) ∧
    (¬atGate 3 s.dev = true → exec .secCommand s = .next s) :=
  ⟨fun h => onDev_eq_next (when_of_not _ _ (Bool.eq_false_iff.mpr h)), fun h => onDev_eq_next (when_of_not _ _ (Bool.eq_false_iff.mpr h)),
    fun h => onDev_eq_next (when_of_not _ _ (Bool.eq_false_iff.mpr h)), fun h => onDev_eq_next (when_of_not _ _ (Bool.eq_false_iff.mpr h))⟩

/-- The Supervisor's context x goes on at LR with status in D4. -/
def Ctx.back (x : Ctx) (status : Word) : Ctx := { x.setD 4 status with pc := x.lr }

theorem vaultAnswer_frame (x : Ctx) (d : Dev) : (gateReturn 0 (putCtx supKey x d)).regs = d.regs ∧
    (gateReturn 0 (putCtx supKey x d)).mem = d.mem ∧ (gateReturn 0 (putCtx supKey x d)).img = d.img :=
  gateReturn_frame 0 (putCtx supKey x d)

theorem getCtx_vaultAnswer (x : Ctx) (w : Word) (d : Dev) : getCtx supKey (gateReturn 0 (putCtx supKey (x.setD 3 w) d)) =
    { (x.setD 3 w).setD 4 0 with pc := x.lr } := by
  rw [getCtx_gateReturn, getCtx_putCtx_same]
  rfl

theorem vaultRead_gives {s : State} (h : AtGate 0 s.dev) (hv : VaultOpen ((getCtx supKey s.dev).dr 2).toNat s.dev)
    (hb : badIn (0x07000000 + ((getCtx supKey s.dev).dr 2).toNat) 4 s.dev = none) :
    ∃ t, exec .vaultRead s = .next t ∧
      (t.fuses = s.fuses ∧ t.dev.regs = s.dev.regs ∧ t.dev.mem = s.dev.mem ∧ t.dev.img = s.dev.img) ∧
      getCtx supKey t.dev = { ((getCtx supKey s.dev).setD 3 (BitVec.ofNat 32
        (leNat (memBytes (0x07000000 + ((getCtx supKey s.dev).dr 2).toNat) 4 s.dev)))).setD 4 0 with pc := (getCtx supKey s.dev).lr } := by
  have hexec := exec_vaultRead h
  rw [vaultRead_open hv hb] at hexec
  exact ⟨_, hexec, ⟨rfl, vaultAnswer_frame _ s.dev⟩, getCtx_vaultAnswer _ _ s.dev⟩

theorem vaultRead_refuses {s : State} (h : AtGate 0 s.dev) (hv : ¬VaultOpen ((getCtx supKey s.dev).dr 2).toNat s.dev) :
    ∃ t, exec .vaultRead s = .next t ∧ t.fuses = s.fuses ∧ t.dev.mem = s.dev.mem ∧
      getCtx supKey t.dev = Ctx.back (getCtx supKey s.dev) 1 := by
  obtain ⟨k, hk⟩ := vaultRead_closed hv
  have hexec := exec_vaultRead h
  rw [hk] at hexec
  obtain ⟨hmem, hctx⟩ := vaultRefused_effect k false ((getCtx supKey s.dev).dr 2).toNat s.dev
  exact ⟨_, hexec, rfl, hmem, hctx⟩

theorem vaultWrite_stores {s : State} (h : AtGate 1 s.dev) (hv : VaultOpen ((getCtx supKey s.dev).dr 2).toNat s.dev) :
    ∃ t, exec .vaultWrite s = .next t ∧ t.fuses = s.fuses ∧ t.dev.regs = s.dev.regs ∧
      getCtx supKey t.dev = Ctx.back (getCtx supKey s.dev) 0 ∧
      ∀ b, 0x20000 ≤ b → memByte b t.dev = if 0x07000000 + ((getCtx supKey s.dev).dr 2).toNat ≤ b ∧
          b < 0x07000000 + ((getCtx supKey s.dev).dr 2).toNat + 4 then
        BitVec.ofNat 8 (((getCtx supKey s.dev).dr 3).toNat >>> (8 * (b - (0x07000000 + ((getCtx supKey s.dev).dr 2).toNat))))
        else memByte b s.dev := by
  have hexec := exec_vaultWrite h
  rw [vaultWrite_open hv] at hexec
  exact ⟨_, hexec, rfl, rfl, getCtx_gateReturn 0 _, fun b hb => memByte_memPut_word _ _ hb⟩

theorem vaultWrite_refuses {s : State} (h : AtGate 1 s.dev) (hv : ¬VaultOpen ((getCtx supKey s.dev).dr 2).toNat s.dev) :
    ∃ t, exec .vaultWrite s = .next t ∧ t.fuses = s.fuses ∧ t.dev.mem = s.dev.mem ∧
      getCtx supKey t.dev = Ctx.back (getCtx supKey s.dev) 1 := by
  obtain ⟨k, hk⟩ := vaultWrite_closed hv
  have hexec := exec_vaultWrite h
  rw [hk] at hexec
  obtain ⟨hmem, hctx⟩ := vaultRefused_effect k true ((getCtx supKey s.dev).dr 2).toNat s.dev
  exact ⟨_, hexec, rfl, hmem, hctx⟩

theorem vaultWipe_starts {s : State} (h : AtGate 2 s.dev) :
    ∃ t, exec .vaultWipe s = .next t ∧ t.fuses = s.fuses ∧ t.dev.mem = s.dev.mem ∧ rb A.memVaultStat 0 t.dev = true ∧
      getCtx supKey t.dev = Ctx.back (getCtx supKey s.dev) 0 := by
  obtain ⟨hsame, hruns⟩ := vaultWipe_effect h.secure
  obtain ⟨hmem, hctx⟩ := gateReturn_after (status := 0) hsame
  exact ⟨_, exec_vaultWipe h, rfl, hmem, (congrArg (bit · 0) (rd_gateReturn _ _ _)).trans hruns, hctx⟩

section
variable {s : State}

theorem secCommand_refuses (h : AtGate 3 s.dev) (hno : rb A.secStat 0 s.dev = true ∨ ¬GateTakes s.fuses s.dev) :
    ∃ t, exec .secCommand s = .next t ∧ t.fuses = s.fuses ∧ t.dev.mem = s.dev.mem ∧ rb A.secStat 2 t.dev = true ∧
      t.dev.sec = s.dev.sec ∧ getCtx supKey t.dev = Ctx.back (getCtx supKey s.dev) (if rb A.secStat 0 s.dev = true then 2 else 1) := by
  have hexec := exec_secCommand h
  rw [secGate_refused hno] at hexec
  have hraised := sameButRegs_raise A.secStat 2 s.dev
  obtain ⟨hmem, hctx⟩ := gateReturn_after (status := if rb A.secStat 0 s.dev = true then 2 else 1) hraised
  have hsec : (gateReturn (if rb A.secStat 0 s.dev = true then 2 else 1) (raise A.secStat 2 s.dev)).sec = s.dev.sec :=
    (gateReturn_sec (by rw [hraised.sec]; exact h.gate)).trans hraised.sec
  refine ⟨_, hexec, rfl, hmem, ?_, hsec, hctx.trans ?_⟩
  · exact (congrArg (bit · 2) (rd_gateReturn _ _ _)).trans (rb_raise_self _ _ (by decide))
  · split <;> rfl

theorem secCommand_sessionEnd (h : AtGate 3 s.dev) (hidle : rb A.secStat 0 s.dev = false) (ht : GateTakes s.fuses s.dev)
    (hop : fld ((getCtx supKey s.dev).dr 2) 15 12 = 8) :
    ∃ t, exec .secCommand s = .next t ∧ t.fuses = s.fuses ∧ t.dev.mem = s.dev.mem ∧ rb A.secStat 1 t.dev = true ∧
      getCtx supKey t.dev = Ctx.back (getCtx supKey s.dev) 0 := by
  have hexec := exec_secCommand h
  rw [secGate_starts hidle ht h.secure, hop] at hexec
  obtain ⟨-, hmem, hctx, -⟩ := gateWaiting_frame s.dev
  have hstored := sameButRegs_storeReg 0 A.secCmd ((getCtx supKey s.dev).dr 2) (gateWaiting s.dev)
  have hsup := (hstored.getCtx supKey).trans hctx
  obtain ⟨hmem', hdone, hback⟩ := commandStart_sessionEnd (arg := fld ((getCtx supKey s.dev).dr 2) 2 0)
    (d := storeReg 0 A.secCmd ((getCtx supKey s.dev).dr 2) (gateWaiting s.dev)) (by rw [hstored.sec]; rfl) (by rw [hsup]; exact h.state)
  rw [hsup] at hback
  exact ⟨_, hexec, rfl, hmem'.trans (hstored.mem.trans hmem), hdone, hback⟩

theorem secCommand_runs (h : AtGate 3 s.dev) (hidle : rb A.secStat 0 s.dev = false) (ht : GateTakes s.fuses s.dev)
    (hop : fld ((getCtx supKey s.dev).dr 2) 15 12 ≠ 8) :
    ∃ t, exec .secCommand s = .next t ∧ t.fuses = s.fuses ∧ t.dev.mem = s.dev.mem ∧ rb A.secStat 0 t.dev = true ∧
      t.dev.sec.cmd = some (fld ((getCtx supKey s.dev).dr 2) 15 12, fld ((getCtx supKey s.dev).dr 2) 2 0) ∧ t.dev.sec.gate = true ∧
      getCtx supKey t.dev = getCtx supKey s.dev ∧
      ∀ l, fld ((getCtx supKey s.dev).dr 2) 15 12 = 4 ∨ fld ((getCtx supKey s.dev).dr 2) 15 12 = 6 →
        stagingAt ((getCtx supKey s.dev).dr 3).toNat s.dev = some l →
        ∀ i < 12, tabGet zeroDefault t.dev.sec.stage i = l.getD i 0 := by
  have hexec := exec_secCommand h
  rw [secGate_starts hidle ht h.secure] at hexec
  obtain ⟨-, hmem, hctx, -⟩ := gateWaiting_frame s.dev
  have hstored := sameButRegs_storeReg 0 A.secCmd ((getCtx supKey s.dev).dr 2) (gateWaiting s.dev)
  obtain ⟨hbusy, hmem', hsec, hctx'⟩ := commandStart_runs (arg := fld ((getCtx supKey s.dev).dr 2) 2 0)
    (d := storeReg 0 A.secCmd ((getCtx supKey s.dev).dr 2) (gateWaiting s.dev)) hop
  rw [hstored.sec] at hsec
  refine ⟨_, hexec, rfl, hmem'.trans (hstored.mem.trans hmem), hbusy, congrArg (·.cmd) hsec, congrArg (·.gate) hsec,
    hctx'.trans ((hstored.getCtx supKey).trans hctx), fun l hneed hl i hi => ?_⟩
  exact (congrArg (fun q => tabGet zeroDefault q.stage i) hsec).trans (stage_gateWaiting hneed hl hi)

end

/-! #### Debug memory, test and wake -/

section
variable {wr served : Bool} {a v : Word} {s : State}

theorem dbgAcc_readReg (h : powered s.dev = true ∧ dbgAccGranted s.dev = true) (hr : region a.toNat = .reg) :
    ∃ t, exec (.dbgAcc false a v served) s = .next t ∧ t.fuses = s.fuses ∧
      tabGet zeroDefault t.dev.rdata 19 = (readReg 19 0 a.toNat s.dev).1 ∧ t.dev.mem = (readReg 19 0 a.toNat s.dev).2.mem ∧
      t.dev.sec.dr = leBytes 4 (readReg 19 0 a.toNat s.dev).1.toNat := by
  have hword : dbgWord false a v served s.fuses s.dev = readReg 19 0 a.toNat s.dev := if_pos hr
  have hexec := exec_dbgAcc_read (v := v) (served := served) (a := a) h
  rw [hword] at hexec
  exact ⟨_, hexec, rfl, rdata_giveRead_same _ _ _, rfl, rfl⟩

theorem dbgAcc_writeReg (h : powered s.dev = true ∧ dbgAccGranted s.dev = true) (hr : region a.toNat = .reg) :
    ∃ t, exec (.dbgAcc true a v served) s = .next t ∧ t.fuses = s.fuses ∧
      t.dev.regs = (writeReg 19 0 a.toNat v s.fuses s.dev).regs := by
  have hword : dbgWord true a v served s.fuses s.dev = (0, writeReg 19 0 a.toNat v s.fuses s.dev) := if_pos hr
  have hexec := exec_dbgAcc_write (v := v) (served := served) (a := a) h
  rw [hword] at hexec
  exact ⟨_, hexec, rfl, rfl⟩

theorem dbgAcc_memory (h : powered s.dev = true ∧ dbgAccGranted s.dev = true) (hr : DebugMemory a.toNat s.dev)
    (hb : banksReady (a.toNat - a.toNat % 4) s.dev = true) (hbad : badIn (a.toNat - a.toNat % 4) 4 s.dev = none) :
    ∃ t, exec (.dbgAcc wr a v served) s = .next t ∧ t.fuses = s.fuses ∧ t.dev.regs = s.dev.regs ∧ t.dev.ctxs = s.dev.ctxs ∧
      (wr = false → t.dev.mem = s.dev.mem ∧
        tabGet zeroDefault t.dev.rdata 19 = word (leNat (memBytes (a.toNat - a.toNat % 4) 4 s.dev))) ∧
      (wr = true → ∀ c, 0x20000 ≤ c → memByte c t.dev =
        if a.toNat - a.toNat % 4 ≤ c ∧ c < a.toNat - a.toNat % 4 + 4 then
          BitVec.ofNat 8 (v.toNat >>> (8 * (c - (a.toNat - a.toNat % 4)))) else memByte c s.dev) := by
  obtain ⟨hwrite, hread⟩ := dbgMemory_open (v := v) (served := served) hr hb hbad
  cases wr with
  | false =>
    have hexec := exec_dbgAcc_read (v := v) (served := served) (a := a) h
    rw [dbgWord_memory hr, hread] at hexec
    obtain ⟨hregs, hctxs, hmem, hword⟩ := dbgReturned_frame (word (leNat (memBytes (a.toNat - a.toNat % 4) 4 s.dev))) s.dev
    exact ⟨_, hexec, rfl, hregs, hctxs, fun _ => ⟨hmem, hword⟩, fun h => absurd h Bool.false_ne_true⟩
  | true =>
    have hexec := exec_dbgAcc_write (v := v) (served := served) (a := a) h
    rw [dbgWord_memory hr, hwrite] at hexec
    refine ⟨_, hexec, rfl, rfl, rfl, fun h => absurd h.symm Bool.false_ne_true, fun _ c hc => ?_⟩
    exact memByte_memPut_word (a := a.toNat - a.toNat % 4) v.toNat s.dev hc

theorem dbgTest_effect {u : RegUnit} {r : Row} {i : Nat} (h : Reached s.dev) (hl : lifeState s.dev = 0)
    (hreg : regAt a.toNat = some (u, r, i)) : ∃ t, exec (.dbgTest a v) s = .next t ∧ t.fuses = s.fuses ∧ t.dev.mem = s.dev.mem ∧
      ∀ c, rd c t.dev = if c = a.toNat then (rd c s.dev &&& ~~~(word r.live)) ||| (v &&& word r.live) else rd c s.dev := by
  have hexec : exec (.dbgTest a v) s = .next { s with dev := dbgTest a.toNat v s.dev } := rfl
  rw [dbgTest_register h hl hreg] at hexec
  refine ⟨_, hexec, rfl, rfl, fun c => ?_⟩
  dsimp only
  by_cases hc : c = a.toNat
  · rw [if_pos hc, hc, rd_wr_same]
  · rw [if_neg hc, rd_wr_ne _ _ hc, rd_tapSelect]

theorem dbgWake_asleep (hk : rb A.secLc 25 s.dev = false) (hl : lifeState s.dev = 1) (hen : rb A.sysWakeEn 4 s.dev = true)
    (hm : s.dev.sys.mode = .retain ∨ s.dev.sys.mode = .off) (ht : s.dev.sys.trans = none) (hw : s.dev.sys.retWake = none) :
    ∃ t, exec .dbgWake s = .next t ∧ t.fuses = s.fuses ∧ t.dev.mem = s.dev.mem ∧ t.dev.regs = s.dev.regs ∧
      t.dev.sys = { s.dev.sys with retWake := some 5 } := by
  have hwake : wakeBy 5 (tapSelect 0x13 0 [] s.dev) = { tapSelect 0x13 0 [] s.dev with sys := { s.dev.sys with retWake := some 5 } } :=
    wakeBy_asleep (d := tapSelect 0x13 0 [] s.dev) ht hw (hm.imp_right fun hoff => ⟨hoff, by decide⟩)
  have heq : dbgWake s.dev = { tapSelect 0x13 0 [] s.dev with sys := { s.dev.sys with retWake := some 5 } } := by
    rw [dbgWake_granted hk hl, when_of _ _ hen, hwake]
  exact ⟨_, onDev_eq_next heq, rfl, rfl, rfl, rfl⟩

theorem dbgWake_awake (hk : rb A.secLc 25 s.dev = false) (hl : lifeState s.dev = 1)
    (hno : rb A.sysWakeEn 4 s.dev = false ∨ s.dev.sys.mode = .service ∧ s.dev.sys.trans = none) :
    dbgWake s.dev = tapSelect 0x13 0 [] s.dev := by
  rw [dbgWake_granted hk hl]
  obtain hen | ⟨hm, ht⟩ := hno
  · exact when_of_not _ _ hen
  · have hwake : wakeBy 5 (tapSelect 0x13 0 [] s.dev) = tapSelect 0x13 0 [] s.dev :=
      wakeBy_debug_service (d := tapSelect 0x13 0 [] s.dev) hm ht
    unfold when
    split
    · exact hwake
    · rfl

end

/-! #### Authentication -/

/-- A response has failed (R493). -/
def AuthFailed (d e : Dev) : Prop := rb A.secStat 6 e = true ∧ e.sec.fails = d.sec.fails + 1 ∧ e.sec.response = none ∧
  (2 ≤ d.sec.fails → rb A.secStat 7 e = true)

/-- What authentication leaves. -/
def AuthRest (d e : Dev) : Prop := e.mem = d.mem ∧ e.sys = d.sys ∧ e.ctxs = d.ctxs

theorem authFail_failed (d : Dev) : AuthFailed d (authFail d) ∧ AuthRest d (authFail d) ∧ (authFail d).sec.challenge = none ∧
    rf A.secLc 11 9 (authFail d) = rf A.secLc 11 9 d := by
  obtain ⟨hfail, hlock, hsec, ⟨hmem, hsys, hctxs, -⟩, hrd⟩ := authFail_effect d
  exact ⟨⟨hfail, congrArg (·.fails) hsec, congrArg (·.response) hsec, hlock⟩, ⟨hmem, hsys, hctxs⟩, congrArg (·.challenge) hsec,
    congrArg (fld · 11 9) (hrd _ (by decide))⟩

/-- A capture, with the failure of a pending response first. -/
theorem authCapture_effect {f : Fuses} {d : Dev} (h : Reached d) :
    AuthRest d (authCapture f d) ∧ (authCapture f d).sec.challenge = some (challengeBytes f d, d.now) ∧
    (authCapture f d).sec.nonces = d.sec.nonces + 1 ∧ (authCapture f d).sec.dr = slice (challengeBytes f d) 0 196 ∧
    (d.sec.response.isSome = true → AuthFailed d (authCapture f d)) ∧
    (d.sec.response = none → (authCapture f d).regs = d.regs ∧ (authCapture f d).sec.fails = d.sec.fails) := by
  rw [authCapture_reached h]
  by_cases hr : d.sec.response.isSome = true
  · obtain ⟨hfail, hlock, hsec, ⟨hmem, hsys, hctxs, hnow⟩, -⟩ := authFail_effect d
    rw [if_pos hr]
    generalize authFail d = e at hfail hlock hsec hmem hsys hctxs hnow
    refine ⟨⟨hmem, hsys, hctxs⟩, congrArg (fun n => some (challengeBytes f d, n)) hnow, congrArg (·.nonces + 1) hsec, rfl,
      fun _ => ⟨hfail, congrArg (·.fails) hsec, congrArg (·.response) hsec, hlock⟩, fun hno => ?_⟩
    rw [hno] at hr
    exact absurd hr Bool.false_ne_true
  · rw [if_neg hr]
    exact ⟨⟨rfl, rfl, rfl⟩, rfl, rfl, rfl, fun hs => absurd hs hr, fun _ => ⟨rfl, rfl⟩⟩

/-- A TAP instruction selects its register and does nothing else. -/
def Selects (s : State) (i : Instr) (code drive : Nat) (dr bsr : List Byte) : Prop :=
  exec i s = .next { s with dev := { s.dev with sec := { s.dev.sec with ir := code, drive := drive, dr := dr, bsr := bsr } } }

theorem boundaryScan_powered {s : State} (cells levels : List Byte) (hp : powered s.dev = true) :
    Selects s (.tapExtest cells levels) 0x00 (if s.dev.sys.mode = .twilight then 1 else 0) levels cells ∧
    Selects s (.tapSamplePreload cells levels) 0x02 0 levels cells ∧
    (s.dev.sys.mode = .twilight → Selects s (.tapHighz levels) 0x03 2 [0] s.dev.sec.bsr ∧
      Selects s (.tapClamp levels) 0x04 3 [0] s.dev.sec.bsr) ∧
    (¬s.dev.sys.mode = .twilight → Selects s (.tapHighz levels) 0x03 0 levels s.dev.sec.bsr ∧
      Selects s (.tapClamp levels) 0x04 0 levels s.dev.sec.bsr) := by
  refine ⟨onDev_eq_next (boundary_cells cells levels hp), onDev_eq_next ((boundary_cells cells levels hp).trans ?_), fun htw => ?_,
    fun htw => ?_⟩
  · rw [ite_self]
    rfl
  · constructor <;> refine onDev_eq_next ((boundary_none _ hp).trans ?_) <;> rw [if_pos htw, if_pos htw] <;> rfl
  · constructor <;> refine onDev_eq_next ((boundary_none _ hp).trans ?_) <;> rw [if_neg htw, if_neg htw] <;> rfl

theorem boundaryScan_unpowered {s : State} (cells levels : List Byte) (hp : powered s.dev = false) :
    Selects s (.tapExtest cells levels) 0x00 0 [0] s.dev.sec.bsr ∧ Selects s (.tapSamplePreload cells levels) 0x02 0 [0] s.dev.sec.bsr ∧
    Selects s (.tapHighz levels) 0x03 0 [0] s.dev.sec.bsr ∧ Selects s (.tapClamp levels) 0x04 0 [0] s.dev.sec.bsr :=
  ⟨onDev_eq_next (boundary_unpowered _ _ hp), onDev_eq_next (boundary_unpowered _ _ hp),
    onDev_eq_next (boundary_unpowered _ _ hp), onDev_eq_next (boundary_unpowered _ _ hp)⟩

/-- Settles O59: each gate by its access, a TAP instruction by what it selects, and a response by its check. -/
theorem gatesTapAndDebug : Obligations.GatesTapAndDebug := by
  unfold Obligations.GatesTapAndDebug
  intro wr served a v cells levels bs s
  obtain ⟨haway0, haway1, haway2, haway3⟩ := exec_away (s := s)
  refine ⟨haway0, haway1, haway2, haway3, fun hat hv hb => vaultRead_gives (atGate_iff.mp hat) hv hb,
    fun hat hv => vaultRead_refuses (atGate_iff.mp hat) hv, fun hat hv => vaultWrite_stores (atGate_iff.mp hat) hv,
    fun hat hv => vaultWrite_refuses (atGate_iff.mp hat) hv, fun hat => vaultWipe_starts (atGate_iff.mp hat),
    fun hat => ?_, ?_, ?_⟩
  · intro w op taken busy
    have htaken : taken ↔ GateTakes s.fuses s.dev :=
      ⟨fun ⟨hkey, hlo, hhi, hok, hst⟩ => ⟨hkey, hlo, hhi, hok, hst⟩, fun ⟨hkey, hlo, hhi, hok, hst⟩ => ⟨hkey, hlo, hhi, hok, hst⟩⟩
    exact ⟨fun hno => secCommand_refuses (atGate_iff.mp hat) (hno.imp_right htaken.not.mp),
      fun hidle ht hop => secCommand_sessionEnd (atGate_iff.mp hat) (Bool.eq_false_iff.mpr hidle) (htaken.mp ht) hop,
      fun hidle ht hop => secCommand_runs (atGate_iff.mp hat) (Bool.eq_false_iff.mpr hidle) (htaken.mp ht) hop⟩
  · intro selects tw
    refine ⟨fun hp => boundaryScan_powered cells levels hp, fun hp => boundaryScan_unpowered cells levels hp, rfl, rfl, ?_⟩
    intro bypass dbg reached st granted
    have hgranted : (powered s.dev = true ∧ dbgAccGranted s.dev = true) ↔ granted := dbgAcc_granted_iff
    refine ⟨fun hno => exec_dbgAcc_denied (hgranted.not.mpr hno), fun hno => onDev_eq_next (dbgTest_refused hno),
      fun hno => onDev_eq_next (dbgWake_refused hno), fun hno => ⟨onDev_eq_next (unreached_authCapture hno),
      onDev_eq_next (authResponse_unreached hno)⟩, fun hyes => ⟨fun hr hwr => ?_, fun hr hwr => ?_, fun n hr hb hbad => ?_⟩,
      fun hreach hl u r i hreg => dbgTest_effect hreach hl hreg, fun hk hl => ⟨fun hno => onDev_eq_next (dbgWake_awake hk hl hno),
      fun hen hm ht hw => dbgWake_asleep hk hl hen hm ht hw⟩⟩
    · subst hwr
      exact dbgAcc_readReg (hgranted.mpr hyes) hr
    · subst hwr
      exact dbgAcc_writeReg (hgranted.mpr hyes) hr
    · exact dbgAcc_memory (hgranted.mpr hyes) ⟨n, hr⟩ hb hbad
  · intro reached c failed rest
    have hfails : rest { s with dev := authFail s.dev } ∧ failed { s with dev := authFail s.dev } := by
      obtain ⟨⟨h6, hn, hnone, h7⟩, ⟨hmem, hsys, hctxs⟩, -, -⟩ := authFail_failed s.dev
      exact ⟨⟨rfl, hmem, hsys, hctxs⟩, h6, hn, hnone, h7⟩
    refine ⟨fun hreach => ?_, length_challengeBytes _ _, take_challengeBytes _ _, fun hreach hr => ?_, fun hreach hr q t0 hc hl => ⟨fun hin => ?_,
      fun hlate => ?_⟩, fun hreach hr hno => ?_, fun hno => ?_, fun q t0 r hp hc hr => ?_⟩
    · obtain ⟨⟨hmem, hsys, hctxs⟩, hchal, hnonce, hdr, hpend, hidle⟩ := authCapture_effect (f := s.fuses) (d := s.dev) hreach
      exact ⟨_, rfl, ⟨rfl, hmem, hsys, hctxs⟩, hchal, hnonce, hdr, hpend, hidle⟩
    · exact onDev_eq_next (authResponse_pending hreach hr)
    · exact onDev_eq_next ((authResponse_full hreach hr hc hl).trans (if_neg (Nat.not_lt.mpr hin)))
    · exact ⟨_, onDev_eq_next ((authResponse_full hreach hr hc hl).trans (if_pos hlate)), hfails⟩
    · exact onDev_eq_next (authResponse_purpose hreach hr hno)
    · exact onDev_eq_next (authVerify_idle hno)
    · intro slot key session passes
      have hpasses : authPasses s.fuses q r s.dev = true ↔ passes := authPasses_iff
      have hverify := authVerify_response (f := s.fuses) hp hc hr
      refine ⟨fun hyes => ?_, fun hno => ?_⟩
      · rw [if_pos (hpasses.mpr hyes)] at hverify
        obtain ⟨hdbg, hok, hn, hchal, hresp, hmem, hsys, hctxs⟩ := sessionOpened_effect
          (dbg := if (q.getD 3 0).toNat = 1 then 2 else 3) s.dev (by split <;> decide)
        exact ⟨_, onDev_eq_next hverify, ⟨rfl, hmem, hsys, hctxs⟩, hdbg, hok, hn, hchal, hresp⟩
      · rw [if_neg (hpasses.not.mpr hno)] at hverify
        obtain ⟨-, -, hchal, hdbg⟩ := authFail_failed s.dev
        exact ⟨_, onDev_eq_next hverify, hfails.1, hfails.2, hchal, hdbg⟩

end Sys2Proof.Machine
end

section
/-! What the switch's egress side does to a port's queues, and what it leaves alone: the frame of the operations that start,
discard and cut copies (R353-R356, R369-R372). -/

namespace Sys2Proof.Machine

/-! ### What stays -/

/-- Nothing between d and e has touched memory, Dispatch, the cycle count, the lines and the ports other than p. -/
structure PortOnly (p : Nat) (d e : Dev) : Prop where
  mem : e.mem = d.mem
  dsp : e.dsp = d.dsp
  now : e.now = d.now
  out : e.out = d.out
  eth : ∀ q, q ≠ p → getEth q e = getEth q d

namespace PortOnly

variable {p : Nat} {d e f : Dev}

theorem refl (d : Dev) : PortOnly p d d := ⟨rfl, rfl, rfl, rfl, fun _ _ => rfl⟩

theorem trans (h : PortOnly p d e) (g : PortOnly p e f) : PortOnly p d f :=
  ⟨g.mem.trans h.mem, g.dsp.trans h.dsp, g.now.trans h.now, g.out.trans h.out, fun q hq => (g.eth q hq).trans (h.eth q hq)⟩

theorem ofRegs (h : SameButRegs d e) : PortOnly p d e :=
  ⟨congrArg (·.mem) h, h.dsp, h.now, congrArg (·.out) h, fun q _ => congrArg (tabGet ethDefault · q) h.eths⟩

theorem modEth (d : Dev) (g : Eth → Eth) : PortOnly p d (modEth p g d) :=
  ⟨rfl, rfl, rfl, rfl, fun _ hq => getEth_modEth_ne g d hq⟩

end PortOnly

/-- The registers of port p that no operation on its egress queues writes: ETH_CTRL, ETH_STAT, ETH_MM_STAT and TX_FRAMES. -/
abbrev PortHeld (p a : Nat) : Prop := a = A.ethCtrl p ∨ a = A.ethStat p ∨ a = A.ethMmStat p ∨ a = A.ethCnt p 0x30

theorem not_portHeld_of_lt {p a : Nat} (h : a < 0x100C0000) : ¬ PortHeld p a := by
  unfold PortHeld A.ethCtrl A.ethStat A.ethMmStat A.ethCnt
  omega

theorem not_portHeld_ethCnt (p : Nat) {o : Nat} (h : 0x30 < o) : ¬ PortHeld p (A.ethCnt p o) := by
  unfold PortHeld A.ethCtrl A.ethStat A.ethMmStat A.ethCnt
  omega

theorem not_portHeld_ntmPtp {p o : Nat} (hp : p < 10) (ho : o < 64) : ¬ PortHeld p (A.ntmPtp p o) :=
  not_portHeld_of_lt (by unfold A.ntmPtp; omega)

theorem not_portHeld_swcCnt {p o : Nat} (hp : p < 10) (ho : o < 256) : ¬ PortHeld p (A.swcCnt p o) :=
  not_portHeld_of_lt (by unfold A.swcCnt; omega)

/-- Nothing between d and e has touched memory, Dispatch, the cycle count, the lines, the ports and what `PortHeld` names. -/
structure Egress (p : Nat) (d e : Dev) : Prop where
  mem : e.mem = d.mem
  dsp : e.dsp = d.dsp
  now : e.now = d.now
  out : e.out = d.out
  eths : e.eths = d.eths
  held : ∀ a, PortHeld p a → rd a e = rd a d

namespace Egress

variable {p : Nat} {d e f : Dev}

theorem refl (d : Dev) : Egress p d d := ⟨rfl, rfl, rfl, rfl, rfl, fun _ _ => rfl⟩

theorem trans (h : Egress p d e) (g : Egress p e f) : Egress p d f :=
  ⟨g.mem.trans h.mem, g.dsp.trans h.dsp, g.now.trans h.now, g.out.trans h.out, g.eths.trans h.eths,
    fun a ha => (g.held a ha).trans (h.held a ha)⟩

theorem getEth (h : Egress p d e) (q : Nat) : getEth q e = getEth q d := congrArg (tabGet ethDefault · q) h.eths

theorem portOnly (h : Egress p d e) : PortOnly p d e := ⟨h.mem, h.dsp, h.now, h.out, fun q _ => h.getEth q⟩

theorem ctrl (h : Egress p d e) : rd (A.ethCtrl p) e = rd (A.ethCtrl p) d := h.held _ (.inl rfl)
theorem stat (h : Egress p d e) : rd (A.ethStat p) e = rd (A.ethStat p) d := h.held _ (.inr (.inl rfl))
theorem txFrames (h : Egress p d e) : rd (A.ethCnt p 0x30) e = rd (A.ethCnt p 0x30) d := h.held _ (.inr (.inr (.inr rfl)))

theorem foldl {α : Type} {l : List α} {op : Dev → α → Dev} (h : Egress p d e) (hop : ∀ x ∈ l, ∀ d, Egress p d (op d x)) :
    Egress p d (l.foldl op e) :=
  List.foldlRecOn l op h fun e he x hx => he.trans (hop x hx e)

theorem whenever {c : Bool} {op : Dev → Dev} (h : Egress p d e) (hop : ∀ d, Egress p d (op d)) : Egress p d (when c op e) := by
  cases c
  · exact h
  · exact h.trans (hop e)

/-! #### Registers -/

theorem wr {a : Nat} (h : Egress p d e) (v : Word) (ha : ¬ PortHeld p a) : Egress p d (wr a v e) :=
  h.trans ⟨rfl, rfl, rfl, rfl, rfl, fun _ hb => rd_wr_ne v e fun hab => ha (hab ▸ hb)⟩

theorem wf {a : Nat} (h : Egress p d e) (hi lo v : Nat) (ha : ¬ PortHeld p a) : Egress p d (wf a hi lo v e) := h.wr _ ha
theorem incr {a : Nat} (h : Egress p d e) (hi lo : Nat) (ha : ¬ PortHeld p a) : Egress p d (incr a hi lo e) := h.wr _ ha
theorem incrSat {a : Nat} (h : Egress p d e) (hi lo : Nat) (ha : ¬ PortHeld p a) : Egress p d (incrSat a hi lo e) := h.wr _ ha

theorem raise {a : Nat} (h : Egress p d e) (i : Nat) (ha : ¬ PortHeld p a) : Egress p d (raise a i e) :=
  h.trans ⟨rfl, rfl, rfl, rfl, rfl, fun _ hb => rd_raise_ne i e fun hab => ha (hab ▸ hb)⟩

theorem raiseIf {a : Nat} (h : Egress p d e) (c : Bool) (i : Nat) (ha : ¬ PortHeld p a) : Egress p d (raiseIf c a i e) := by
  cases c
  · exact h
  · exact h.raise i ha

/-- An update outside the registers, memory, Dispatch, the cycle count, the lines and the ports. -/
theorem upd (h : Egress p d e) (hr : f.regs = e.regs) (hm : f.mem = e.mem) (hq : f.dsp = e.dsp) (hn : f.now = e.now)
    (ho : f.out = e.out) (he : f.eths = e.eths) : Egress p d f :=
  h.trans ⟨hm, hq, hn, ho, he, fun _ _ => by rw [rd, rd, hr]⟩

theorem countEth {o : Nat} (h : Egress p d e) (ho : 0x30 < o) : Egress p d (countEth p o e) :=
  h.incr 31 0 (not_portHeld_ethCnt p ho)

theorem countSwc {o : Nat} (h : Egress p d e) (hp : p < 10) (ho : o < 256) : Egress p d (countSwc p o e) :=
  h.incr 31 0 (not_portHeld_swcCnt hp ho)

/-! #### Queues -/

theorem showSwc (h : Egress p d e) : Egress p d (showSwc e) := by
  have hpool : ¬ PortHeld p A.swcPool := not_portHeld_of_lt (by decide)
  refine ((h.wf 13 0 _ hpool).whenever fun d => (refl d).wf 29 16 _ hpool).foldl fun q hq d => ?_
  have hport : ¬ PortHeld p (A.swcPort q 0x14) :=
    not_portHeld_of_lt (by have := List.mem_range.mp hq; unfold A.swcPort; omega)
  exact ((refl d).wf 13 0 _ hport).whenever fun d => (refl d).wf 29 16 _ hport

theorem modSwc (h : Egress p d e) (g : Swc → Swc) : Egress p d (modSwc g e) := h.upd rfl rfl rfl rfl rfl rfl

theorem putQueues (h : Egress p d e) (l : List Copy) : Egress p d (putQueues l e) := (h.modSwc _).showSwc
theorem removeCopy (h : Egress p d e) (c : Copy) : Egress p d (removeCopy c e) := h.putQueues _
theorem updateCopy (h : Egress p d e) (c : Copy) : Egress p d (updateCopy c e) := h.putQueues _

theorem tsqPush (h : Egress p d e) (hp : p < 10) (x : Stamp) : Egress p d (tsqPush p x e) := by
  have hreg (o : Nat) (ho : o < 64) : ¬ PortHeld p (A.ntmPtp p o) := not_portHeld_ntmPtp hp ho
  unfold Machine.tsqPush
  split
  · exact Egress.wf (h.upd (f := { e with ntm := { e.ntm with tsq := tabSet (fun _ => []) e.ntm.tsq p (tsqOf p e ++ [x]) } })
      rfl rfl rfl rfl rfl rfl) 12 7 _ (hreg 0x18 (by decide))
  · exact (h.raise 0 (hreg 0x18 (by decide))).incr 15 0 (hreg 0x1C (by decide))

theorem discardCopy {c : Copy} (h : Egress p d e) (hp : p < 10) (hc : c.port = p) : Egress p d (discardCopy c e) := by
  unfold Machine.discardCopy discRecord
  split
  · rw [hc]
    exact (h.putQueues _).tsqPush hp _
  · exact h.putQueues _

/-! #### Parity in the buffer -/

theorem faultLog (h : Egress p d e) (code : Nat) : Egress p d (faultLog code e) := h.upd rfl rfl rfl rfl rfl rfl

theorem report (h : Egress p d e) (code unit addr idx : Nat) : Egress p d (report code unit addr idx e) := by
  have hcfg : Egress p d (if (code = 0x42 ∨ code = 0x43) ∧ e.sys.mode = .service then
      { e with img := { e.img with cfg := true } } else e) := by
    split
    · exact h.upd rfl rfl rfl rfl rfl rfl
    · exact h
  unfold Machine.report
  generalize (if (code = 0x42 ∨ code = 0x43) ∧ e.sys.mode = .service then
      { e with img := { e.img with cfg := true } } else e) = e' at hcfg ⊢
  dsimp only
  split
  · exact ((hcfg.wr _ (not_portHeld_of_lt (by decide))).raise 2 (not_portHeld_of_lt (by decide))).faultLog code
  · exact hcfg.upd rfl rfl rfl rfl rfl rfl

theorem swbLog (h : Egress p d e) (m : Option Nat) (place : Option (Nat × Nat × Nat)) : Egress p d (swbLog m place e) := by
  have h0 : ¬ PortHeld p A.memParLog0 := not_portHeld_of_lt (by decide)
  have h1 : ¬ PortHeld p A.memParLog1 := not_portHeld_of_lt (by decide)
  unfold Machine.swbLog
  split
  · exact h
  · split
    · exact ((h.wr _ h0).wf 31 27 _ h1).wf 19 16 _ h1
    · exact (((h.upd (f := (freeWord e).2) rfl rfl rfl rfl rfl rfl).wr _ h0).wf 31 27 _ h1).wf 19 16 _ h1

theorem swbParity (h : Egress p d e) (m : Option Nat) (place : Option (Nat × Nat × Nat)) : Egress p d (swbParity m place e) :=
  (((h.swbLog m place).incr 15 0 (not_portHeld_of_lt (by decide))).modSwc _).whenever fun d => (refl d).report _ _ _ _

/-! #### Selection -/

theorem startCopy {c : Copy} (h : Egress p d e) (hp : p < 10) (hc : c.port = p) (hcls : c.cls < 8) :
    Egress p d (startCopy c e) := by
  have hstart : Egress p d (Machine.countSwc p (0x10 * c.cls) e) := h.countSwc hp (by omega)
  have h18 : ¬ PortHeld p (A.ntmPtp p 0x18) := not_portHeld_ntmPtp hp (by decide)
  have h34 : ¬ PortHeld p (A.ntmPtp p 0x34) := not_portHeld_ntmPtp hp (by decide)
  unfold Machine.startCopy
  dsimp only
  rw [hc]
  split
  · exact (hstart.swbParity none none).discardCopy hp hc
  · split
    · exact (hstart.countEth (by decide)).discardCopy hp hc
    · split
      · exact ((hstart.incrSat 15 0 h34).raise 3 h18).discardCopy hp hc
      · exact (((hstart.whenever fun d => (refl d).incr 31 16 h34).raiseIf _ 4 h18).whenever fun d =>
          (refl d).tsqPush hp _).updateCopy _

theorem discardLate {c : Copy} (h : Egress p d e) (hp : p < 10) (hc : c.port = p) : Egress p d (discardLate c e) := by
  rw [Machine.discardLate, hc]
  exact ((h.discardCopy hp hc).incrSat 15 0 (not_portHeld_ntmPtp hp (by decide))).raise 1 (not_portHeld_ntmPtp hp (by decide))

theorem discardBad {c : Copy} (h : Egress p d e) (hp : p < 10) (hc : c.port = p) (why : Nat) :
    Egress p d (discardBad c why e) := by
  unfold Machine.discardBad
  split
  · exact h.discardLate hp hc
  · rw [hc]
    exact ((h.discardCopy hp hc).incrSat 31 16 (not_portHeld_ntmPtp hp (by decide))).raise 2 (not_portHeld_ntmPtp hp (by decide))
  · rw [hc]
    exact (h.discardCopy hp hc).countSwc hp (by decide)

theorem discardLateHeads (h : Egress p d e) (hp : p < 10) : Egress p d (discardLateHeads p e) :=
  h.foldl fun c _ d => by
    split
    next hc => exact (refl d).discardLate hp hc.1
    next => exact refl d

theorem flushPort (h : Egress p d e) (hp : p < 10) : Egress p d (flushPort p e) :=
  h.foldl fun c _ d => by
    split
    next hc => exact ((refl d).countEth (by decide)).discardCopy hp hc.1
    next => exact refl d

theorem abortTransmit (h : Egress p d e) : Egress p d (abortTransmit p e) :=
  h.foldl fun _ _ d => ((refl d).countEth (by decide)).removeCopy _

end Egress

/-! ### The queues -/

theorem mem_dropIf {α : Type} {f : α → Bool} {l : List α} {x : α} : x ∈ dropIf f l ↔ x ∈ l ∧ f x = false := by simp [dropIf]

theorem sameCopy_self (c : Copy) : sameCopy c c = true := by simp [sameCopy]

theorem sameButRegs_when {c : Bool} {f : Dev → Dev} (d : Dev) (hf : SameButRegs d (f d)) : SameButRegs d (when c f d) := by
  cases c
  · exact .refl d
  · exact hf

theorem sameButRegs_showSwc (d : Dev) : SameButRegs d (showSwc d) := by
  refine List.foldlRecOn (motive := SameButRegs d) _ _ ?_ fun e he q _ => ?_
  · exact (sameButRegs_wf _ _ _ _ _).trans (sameButRegs_when _ (sameButRegs_wf _ _ _ _ _))
  · exact he.trans ((sameButRegs_wf _ _ _ _ _).trans (sameButRegs_when _ (sameButRegs_wf _ _ _ _ _)))

theorem swc_putQueues (l : List Copy) (d : Dev) : (putQueues l d).swc = { d.swc with queues := l } :=
  (sameButRegs_showSwc _).swc

theorem queues_removeCopy (c : Copy) (d : Dev) : (removeCopy c d).swc.queues = dropIf (sameCopy c) d.swc.queues :=
  congrArg (·.queues) (swc_putQueues _ d)

theorem queues_updateCopy (c : Copy) (d : Dev) :
    (updateCopy c d).swc.queues = d.swc.queues.map fun x => if sameCopy c x then c else x :=
  congrArg (·.queues) (swc_putQueues _ d)

theorem swc_tsqPush (p : Nat) (x : Stamp) (d : Dev) : (tsqPush p x d).swc = d.swc := by
  unfold tsqPush
  split
  · rfl
  · exact ((sameButRegs_raise _ _ _).trans (sameButRegs_wf _ _ _ _ _)).swc

theorem queues_discardCopy (c : Copy) (d : Dev) : (discardCopy c d).swc.queues = dropIf (sameCopy c) d.swc.queues := by
  unfold discardCopy discRecord
  split
  · rw [swc_tsqPush, queues_removeCopy]
  · exact queues_removeCopy c d

theorem swc_countEth (p o : Nat) (d : Dev) : (countEth p o d).swc = d.swc := (sameButRegs_wf _ _ _ _ _).swc

theorem swc_report (code unit addr idx : Nat) (d : Dev) : (report code unit addr idx d).swc = d.swc := by
  unfold report
  dsimp only
  split <;> split <;> rfl

theorem swc_swbLog (m : Option Nat) (place : Option (Nat × Nat × Nat)) (d : Dev) : (swbLog m place d).swc = d.swc := by
  unfold swbLog
  split
  · rfl
  · split <;> rfl

theorem queues_swbParity (m : Option Nat) (place : Option (Nat × Nat × Nat)) (d : Dev) :
    (swbParity m place d).swc.queues = d.swc.queues := by
  have hlog := congrArg (·.queues) (swc_swbLog m place d)
  unfold swbParity when
  dsimp only
  split
  · rw [swc_report]
    exact hlog
  · exact hlog

/-! ### Discarding in bulk -/

theorem mem_queues_foldl_discard {sel : Copy → Bool} {op : Dev → Copy → Dev}
    (hop : ∀ d c, (op d c).swc.queues = if sel c = true then dropIf (sameCopy c) d.swc.queues else d.swc.queues)
    (l : List Copy) (d : Dev) {x : Copy} :
    x ∈ (l.foldl op d).swc.queues ↔ x ∈ d.swc.queues ∧ ∀ c ∈ l, sel c = true → sameCopy c x = false := by
  induction l generalizing d with
  | nil => simp
  | cons c l ih =>
    rw [List.foldl_cons, ih, hop]
    by_cases hc : sel c = true
    · simp [hc, mem_dropIf, and_assoc]
    · simp [hc]

theorem mem_underWay {p : Nat} {c : Copy} {d : Dev} : c ∈ underWay p d ↔ c ∈ d.swc.queues ∧ c.port = p ∧ c.started = true := by
  simp [underWay]

theorem mem_queues_abortTransmit {p : Nat} {d : Dev} {x : Copy} (h : x ∈ (abortTransmit p d).swc.queues) :
    x ∈ d.swc.queues ∧ x ∉ underWay p d := by
  have hop (d : Dev) (c : Copy) : (d |> countEth p 0x3C |> removeCopy c).swc.queues =
      if (fun _ => true) c = true then dropIf (sameCopy c) d.swc.queues else d.swc.queues := by
    rw [queues_removeCopy, swc_countEth, if_pos rfl]
  obtain ⟨hx, hno⟩ := (mem_queues_foldl_discard hop _ d).mp h
  exact ⟨hx, fun hin => Bool.false_ne_true ((hno x hin rfl).symm.trans (sameCopy_self x))⟩

theorem underWay_abortTransmit (p : Nat) (d : Dev) : underWay p (abortTransmit p d) = [] := by
  rw [List.eq_nil_iff_forall_not_mem]
  intro c hc
  obtain ⟨hin, hport, hstarted⟩ := mem_underWay.mp hc
  obtain ⟨hin', hno⟩ := mem_queues_abortTransmit hin
  exact hno (mem_underWay.mpr ⟨hin', hport, hstarted⟩)

theorem abortTransmit_idle {p : Nat} {d : Dev} (h : underWay p d = []) : abortTransmit p d = d := by
  rw [abortTransmit, h, List.foldl_nil]

theorem mem_queues_flushPort {p : Nat} {d : Dev} {x : Copy} (h : x ∈ (flushPort p d).swc.queues) :
    x ∈ d.swc.queues ∧ (x.port = p → x.started = true) := by
  have hop (d : Dev) (c : Copy) : (if c.port = p ∧ !c.started then d |> countEth p 0x40 |> discardCopy c else d).swc.queues =
      if decide (c.port = p ∧ !c.started) = true then dropIf (sameCopy c) d.swc.queues else d.swc.queues := by
    simp only [decide_eq_true_eq]
    split
    · rw [queues_discardCopy, swc_countEth]
    · rfl
  obtain ⟨hx, hno⟩ := (mem_queues_foldl_discard (sel := fun c => decide (c.port = p ∧ !c.started)) hop _ d).mp h
  refine ⟨hx, fun hport => ?_⟩
  by_contra hstarted
  have := hno x hx (decide_eq_true ⟨hport, by simpa using hstarted⟩)
  exact Bool.false_ne_true (this.symm.trans (sameCopy_self x))

/-- A flush with no copy under way leaves no copy of the port. -/
theorem gone_flushPort {p : Nat} {d : Dev} (h : underWay p d = []) : ∀ c ∈ (flushPort p d).swc.queues, c.port ≠ p := by
  intro c hc hport
  obtain ⟨hin, hstarted⟩ := mem_queues_flushPort hc
  exact List.not_mem_nil (h ▸ mem_underWay.mpr ⟨hin, hport, hstarted hport⟩)

theorem underWay_of_gone {p : Nat} {d : Dev} (h : ∀ c ∈ d.swc.queues, c.port ≠ p) : underWay p d = [] := by
  rw [List.eq_nil_iff_forall_not_mem]
  intro c hc
  obtain ⟨hin, hport, -⟩ := mem_underWay.mp hc
  exact h c hin hport

theorem underWay_congr {p : Nat} {d e : Dev} (h : e.swc.queues = d.swc.queues) : underWay p e = underWay p d := by
  rw [underWay, h, underWay]

/-! ### The heads that a port considers -/

theorem headOf_spec {q k : Nat} {c : Copy} {d : Dev} (h : headOf q k d = some c) : c.port = q ∧ c.cls = k := by
  have := List.find?_some h
  simp only [Bool.and_eq_true, decide_eq_true_eq] at this
  exact this.1

theorem pickHead_spec {q : Nat} {c : Copy} {d : Dev} (h : pickHead q d = some c) :
    c.port = q ∧ c.cls < 8 ∧ lineFree c d = true := by
  have hpred := List.find?_some h
  simp only [Bool.and_eq_true] at hpred
  obtain ⟨k, hk, hhead⟩ := List.mem_filterMap.mp (List.mem_of_find?_eq_some h)
  obtain ⟨hport, hcls⟩ := headOf_spec hhead
  have hlt : ∀ k ∈ [7, 6, 5, 4, 3, 2, 1, 0], k < 8 := by decide
  exact ⟨hport, hcls ▸ hlt k hk, hpred.2⟩

theorem fst_of_reason {a b e : Bool} {x c : Copy} {why : Nat}
    (h : (if a = true then some (x, 0) else if b = true then some (x, 1) else if e = true then some (x, 2) else none) =
      some (c, why)) : x = c := by
  cases a <;> cases b <;> cases e <;> simp at h <;> exact h.1

theorem badHead_port {q why : Nat} {c : Copy} {d : Dev} (h : badHead q d = some (c, why)) : c.port = q := by
  obtain ⟨x, hx, hbad⟩ := List.exists_of_findSome?_eq_some h
  obtain ⟨k, -, hhead⟩ := List.mem_filterMap.mp hx
  have hxc : x = c := fst_of_reason hbad
  exact hxc ▸ (headOf_spec hhead).1

theorem onLine_spec {q : Nat} {x : Copy} {d : Dev} (h : onLine q d = some x) :
    x ∈ d.swc.queues ∧ x.port = q ∧ x.started = true := mem_underWay.mp (List.mem_of_find?_eq_some h)

/-- A device with empty queues has nothing to send. -/
theorem serve_empty {q : Nat} {d : Dev} (h : d.swc.queues = []) : serve q d = d := by
  have hhead (k : Nat) : headOf q k d = none := by rw [headOf, h, List.find?_nil]
  have hline : onLine q d = none := by rw [onLine, underWay, h, List.filter_nil, List.find?_nil]
  have hidle : resumeCopy q (holdCopy q d) = d := by
    have hhold : holdCopy q d = d := by rw [holdCopy, hline]
    rw [hhold, resumeCopy, hline, underWay, h, List.filter_nil, List.find?_nil]
  have hbad : badHead q d = none := by
    rw [badHead, show (List.range 8).filterMap (fun c => headOf q c d) = [] by simp [hhead], List.findSome?_nil]
  have hpick : pickHead q d = none := by
    rw [pickHead, show [7, 6, 5, 4, 3, 2, 1, 0].filterMap (fun c => headOf q c d) = [] by simp [hhead], List.find?_nil]
  have hserve : serveN 1 q d = d := by
    simp only [serveN, hbad, hpick, hidle, ite_self]
  rw [serve, h]
  split
  · exact hserve
  · rfl

/-- What serving a port keeps: each step of it keeps P, and what follows the last one gives Q. -/
theorem serveN_keeps {q : Nat} {P Q : Dev → Prop} (hbad : ∀ c why d, c.port = q → P d → P (discardBad c why d))
    (hstart : ∀ c d, pickHead q d = some c → P d → P (startCopy c (preempt q d)))
    (hrest : ∀ d, P d → Q (resumeCopy q (holdCopy q d))) (hdone : ∀ d, P d → Q d) (n : Nat) {d : Dev} (h : P d) :
    Q (serveN n q d) := by
  induction n generalizing d with
  | zero => exact hdone d h
  | succ n ih =>
    unfold serveN
    split
    next c why hc => exact ih (hbad c why d (badHead_port hc) h)
    next =>
      split
      · exact hdone d h
      · split
        next => exact hrest d h
        next c hc => exact ih (hstart c d hc h)

theorem serve_keeps {q : Nat} {P Q : Dev → Prop} (hbad : ∀ c why d, c.port = q → P d → P (discardBad c why d))
    (hstart : ∀ c d, pickHead q d = some c → P d → P (startCopy c (preempt q d)))
    (hrest : ∀ d, P d → Q (resumeCopy q (holdCopy q d))) (hdone : ∀ d, P d → Q d) {d : Dev} (h : P d) : Q (serve q d) := by
  unfold serve
  split
  · exact serveN_keeps hbad hstart hrest hdone _ h
  · exact hdone d h

/-! ### What serving a port leaves alone -/

/-- PortOnly, with ETH_STAT of the port. -/
structure Served (p : Nat) (d e : Dev) : Prop extends PortOnly p d e where
  stat : rd (A.ethStat p) e = rd (A.ethStat p) d

namespace Served

variable {p : Nat} {d e f : Dev}

theorem refl (d : Dev) : Served p d d := ⟨PortOnly.refl d, rfl⟩

theorem egress (h : Served p d e) (g : Egress p e f) : Served p d f := ⟨h.toPortOnly.trans g.portOnly, g.stat.trans h.stat⟩

theorem splitCopy {x : Copy} (h : Served p d e) (hx : x.port = p) : Served p d (splitCopy x e) := by
  have hsplit (c : Copy) : Served p d (countEth p 0x4C (updateCopy c e)) :=
    h.egress (((Egress.refl e).updateCopy c).countEth (by decide))
  rw [Machine.splitCopy, hx]
  exact ⟨(hsplit _).toPortOnly.trans (.modEth _ _), (hsplit _).stat⟩

theorem preempt (h : Served p d e) : Served p d (preempt p e) := by
  unfold Machine.preempt
  split
  next x hx => exact h.splitCopy (onLine_spec hx).2.1
  next => exact h

theorem holdCopy (h : Served p d e) : Served p d (holdCopy p e) := by
  unfold Machine.holdCopy
  split
  next x hx =>
    unfold when
    split
    · exact h.splitCopy (onLine_spec hx).2.1
    · exact h
  next => exact h

theorem resumeCopy (h : Served p d e) : Served p d (resumeCopy p e) := by
  unfold Machine.resumeCopy
  split
  · exact h.egress ((Egress.refl e).updateCopy _)
  · exact h

theorem serve (hp : p < 10) (d : Dev) : Served p d (serve p d) :=
  serve_keeps (P := Served p d) (fun _ why e hc h => h.egress ((Egress.refl e).discardBad hp hc why))
    (fun _ _ hc h =>
      let hspec := pickHead_spec hc
      h.preempt.egress ((Egress.refl _).startCopy hp hspec.1 hspec.2.1))
    (fun _ h => h.holdCopy.resumeCopy) (fun _ h => h) (refl d)

end Served

/-! ### A line on which nothing was sent before this cycle -/

/-- Every copy under way on port p started less than one CORE cycle ago. -/
def Fresh (p : Nat) (d : Dev) : Prop :=
  ∀ c ∈ d.swc.queues, c.port = p → c.started = true → 25 * d.now ≤ c.since + 24

theorem fresh_of_idle {p : Nat} {d : Dev} (h : underWay p d = []) : Fresh p d := fun _ hc hport hstarted =>
  absurd (h ▸ mem_underWay.mpr ⟨hc, hport, hstarted⟩) List.not_mem_nil

theorem Fresh.of_subset {p : Nat} {d e : Dev} (h : Fresh p d) (hnow : e.now = d.now)
    (hsub : ∀ x ∈ e.swc.queues, x ∈ d.swc.queues ∨ 25 * d.now ≤ x.since + 24) : Fresh p e := by
  intro c hc hport hstarted
  rw [hnow]
  exact (hsub c hc).elim (fun hin => h c hin hport hstarted) id

theorem eight_le_byteTime (n : Nat) : 8 ≤ byteTime n := by
  unfold byteTime
  split
  · decide
  · split
    · decide
    · split <;> decide

/-- A copy of which less than a fragment has gone cannot be cut. -/
theorem canSplit_fresh {p : Nat} {x : Copy} {d : Dev} (h : Fresh p d) (hx : x ∈ d.swc.queues) (hport : x.port = p)
    (hstarted : x.started = true) : canSplit x d = false := by
  have hnow := h x hx hport hstarted
  have hbytes : bytesOut x d ≤ 3 := by
    have := Nat.div_le_div_left (eight_le_byteTime (getEth x.port d).speed) (by decide) (a := 25 * d.now - x.since)
    unfold bytesOut portByte
    omega
  have hfrag : ¬ 64 * (rf (A.ethMmCtrl x.port) 1 0 d + 1) ≤ bytesOut x d + 4 := by omega
  rw [canSplit, decide_eq_false fun hand => hfrag hand.1, Bool.and_false]

theorem launchAge_lt {c : Copy} {d : Dev} {a : Nat} (h : launchAge c d = some a) : a < 25 := by
  unfold launchAge at h
  split at h
  · exact absurd h (by simp)
  · dsimp only at h
    split at h
    next hu =>
      have := Option.some.inj h
      unfold tickUnit at this hu
      omega
    next => exact absurd h (by simp)

theorem le_byteBoundary (p t : Nat) (d : Dev) : t ≤ byteBoundary p t d := Nat.le_add_right _ _

theorem le_startAt (c : Copy) (d : Dev) : 25 * d.now ≤ startAt c d + 24 := by
  refine Nat.le_trans ?_ (Nat.add_le_add_right (le_byteBoundary _ _ d) 24)
  cases h : onTime c d with
  | none =>
    have := Nat.le_max_left (25 * d.now) (getEth c.port d).lineAt
    rw [Option.getD_none]
    omega
  | some x =>
    unfold onTime at h
    split at h
    · exact absurd h (by simp)
    next a ha =>
      have := launchAge_lt ha
      dsimp only at h
      split at h
      · have := Option.some.inj h
        rw [Option.getD_some]
        omega
      · exact absurd h (by simp)

theorem sameButRegs_incr (a hi lo : Nat) (d : Dev) : SameButRegs d (incr a hi lo d) := sameButRegs_wr _ _ d

theorem sameButRegs_incrSat (a hi lo : Nat) (d : Dev) : SameButRegs d (incrSat a hi lo d) := sameButRegs_wr _ _ d

/-- What a start counts and marks beside the queues. -/
theorem swc_startMarks (upd ign tsreq : Bool) (q : Nat) (x : Stamp) (d : Dev) :
    (d |> when upd (incr (A.ntmPtp q 0x34) 31 16) |> raiseIf ign (A.ntmPtp q 0x18) 4 |> when tsreq (tsqPush q x)).swc = d.swc := by
  have hmarks := (sameButRegs_when (c := upd) d (sameButRegs_incr (A.ntmPtp q 0x34) 31 16 d)).trans
    (sameButRegs_raiseIf ign (A.ntmPtp q 0x18) 4 _)
  generalize raiseIf ign (A.ntmPtp q 0x18) 4 (when upd (incr (A.ntmPtp q 0x34) 31 16) d) = e at hmarks
  cases tsreq
  · exact hmarks.swc
  · exact (swc_tsqPush q x e).trans hmarks.swc

theorem mem_queues_startCopy {c x : Copy} {d : Dev} (h : x ∈ (startCopy c d).swc.queues) :
    x ∈ d.swc.queues ∨ 25 * d.now ≤ x.since + 24 := by
  have hcount : (countSwc c.port (0x10 * c.cls) d).swc = d.swc := (sameButRegs_wf _ _ _ _ _).swc
  have hnow : (countSwc c.port (0x10 * c.cls) d).now = d.now := (sameButRegs_wf _ _ _ _ _).now
  unfold startCopy at h
  dsimp only at h
  generalize countSwc c.port (0x10 * c.cls) d = e at h hcount hnow
  rw [← hcount, ← hnow]
  split at h
  · rw [queues_discardCopy, queues_swbParity] at h
    exact .inl (mem_dropIf.mp h).1
  · split at h
    · rw [queues_discardCopy, swc_countEth] at h
      exact .inl (mem_dropIf.mp h).1
    · split at h
      · rw [queues_discardCopy, (sameButRegs_raise _ _ _).swc, (sameButRegs_incrSat _ _ _ _).swc] at h
        exact .inl (mem_dropIf.mp h).1
      · rw [queues_updateCopy, swc_startMarks] at h
        obtain ⟨y, hy, hyx⟩ := List.mem_map.mp h
        split at hyx
        · exact .inr (hyx ▸ le_startAt c e)
        · exact .inl (hyx ▸ hy)

theorem mem_queues_discardBad {c x : Copy} {why : Nat} {d : Dev} (h : x ∈ (discardBad c why d).swc.queues) :
    x ∈ d.swc.queues := by
  have hdrop : (discardBad c why d).swc = (discardCopy c d).swc := by
    unfold discardBad discardLate
    split
    · exact ((sameButRegs_wf _ _ _ _ _).trans (sameButRegs_raise _ _ _)).swc
    · exact ((sameButRegs_wf _ _ _ _ _).trans (sameButRegs_raise _ _ _)).swc
    · exact (sameButRegs_wf _ _ _ _ _).swc
  rw [hdrop, queues_discardCopy] at h
  exact (mem_dropIf.mp h).1

/-- Where no copy is under way, serving the port cuts none, and no port changes. -/
theorem eths_serve {p : Nat} {d : Dev} (hp : p < 10) (h : underWay p d = []) : (serve p d).eths = d.eths := by
  have hline {e : Dev} (hf : Fresh p e) (x : Copy) (hx : onLine p e = some x) : canSplit x e = false := by
    obtain ⟨hin, hport, hstarted⟩ := onLine_spec hx
    exact canSplit_fresh hf hin hport hstarted
  refine serve_keeps (P := fun e => e.eths = d.eths ∧ Fresh p e) (Q := fun e => e.eths = d.eths) ?_ ?_ ?_ (fun _ he => he.1)
    ⟨rfl, fresh_of_idle h⟩
  · intro c why e hc ⟨he, hf⟩
    have hegress := (Egress.refl e).discardBad hp hc why
    exact ⟨hegress.eths.trans he, hf.of_subset hegress.now fun x hx => .inl (mem_queues_discardBad hx)⟩
  · intro c e hc ⟨he, hf⟩
    obtain ⟨hport, hcls, hfree⟩ := pickHead_spec hc
    have hnone : onLine p e = none := by
      rw [Option.eq_none_iff_forall_not_mem]
      intro x hx
      have hx' : onLine p e = some x := hx
      rw [lineFree, hport, hx'] at hfree
      simp [hline hf x hx'] at hfree
    have hidle : preempt p e = e := by rw [preempt, hnone]
    have hegress := (Egress.refl e).startCopy hp hport hcls
    rw [hidle]
    exact ⟨hegress.eths.trans he, hf.of_subset hegress.now fun x hx => mem_queues_startCopy hx⟩
  · intro e ⟨he, hf⟩
    have hhold : holdCopy p e = e := by
      unfold holdCopy
      split
      next x hx => rw [hline hf x hx, Bool.and_false, when_of_not _ _ rfl]
      next => rfl
    rw [hhold]
    unfold resumeCopy
    split
    · exact ((Egress.refl (p := p) e).updateCopy _).eths.trans he
    · exact he

end Sys2Proof.Machine
end

section
/-! The ports and their links: what enabling, disabling and a change of the link do (R342, R353-R356). -/

namespace Sys2Proof.Machine

/-! ### ETH_CTRL (R341, R354) -/

/-- The row of ETH_CTRL. -/
def ethCtrlRow : Row :=
  ⟨0x10, 1, 0x1, 1, 0x1, 0x8000, 0x7f00, 0, 0, 0xffff00ff, 0, 0x200, 0, [(11, 10, [(0, 2)]), (9, 8, [(0, 2)])]⟩

theorem regAt_ethCtrl (p : Fin 10) : regAt (A.ethCtrl p) = some (⟨A.block (0xC + p), 0xC + p, ethRows⟩, ethCtrlRow, 0) := by
  fin_cases p <;> rfl

/-- ETH_CTRL is written: EN follows the word. -/
theorem ethCtrl_stored (m : Nat) (p : Fin 10) (v : Word) (c : Bool) (d : Dev) :
    let t := d |> storeReg m (A.ethCtrl p) v |> errIf c (A.block (0xC + p)) m errRsvd (A.ethCtrl p)
    SameButRegs d t ∧ rb (A.ethCtrl p) 15 t = bit v 15 ∧ rd (A.ethStat p) t = rd (A.ethStat p) d := by
  have hp : p.val < 10 := p.isLt
  have hctrl : A.ethCtrl p ≠ A.block (0xC + p) + 4 ∧ A.ethCtrl p ≠ A.block (0xC + p) + 8 := by
    unfold A.ethCtrl A.block
    omega
  have hstat : A.ethStat p ≠ A.ethCtrl p ∧ A.ethStat p ≠ A.block (0xC + p) + 4 ∧ A.ethStat p ≠ A.block (0xC + p) + 8 := by
    unfold A.ethStat A.ethCtrl A.block
    omega
  refine ⟨(sameButRegs_storeReg _ _ _ _).trans (sameButRegs_errIf _ _ _ _ _ _), ?_, ?_⟩
  · rw [rb, rd_errIf_ne _ _ _ _ _ hctrl.1 hctrl.2, rd_storeReg_same m v d (regAt_ethCtrl p) rfl hctrl.1 hctrl.2,
      bit_writtenWord _ _ _ _ _ _ (by decide)]
    exact if_pos rfl
  · rw [rd_errIf_ne _ _ _ _ _ hstat.2.1 hstat.2.2, rd_storeReg_ne m v d (regAt_ethCtrl p) hstat.1 hstat.2.1 hstat.2.2]

/-- ETH_CTRL as it is written: the word stored, and the lane down in RGMII mode. -/
theorem ethCtrl_laned {p : Nat} {c : Bool} {d e : Dev} (h : SameButRegs d e) :
    let t := when c (modEth p fun x => { x with lane := false }) e
    PortOnly p d t ∧ t.swc = d.swc ∧ t.regs = e.regs ∧
    getEth p t = { getEth p d with lane := if c then false else (getEth p d).lane } := by
  have hget : getEth p e = getEth p d := congrArg (tabGet ethDefault · p) h.eths
  cases c
  · exact ⟨.ofRegs h, h.swc, rfl, hget⟩
  · rw [when_of _ _ rfl]
    refine ⟨(PortOnly.ofRegs h).trans (.modEth e _), h.swc, rfl, ?_⟩
    rw [getEth_modEth_same, hget]
    rfl

theorem bit_setBit_15 (b : Bool) (w : Word) : bit (setBit w 15 b) 15 = b := by
  rw [setBit, bit_setFld _ _ _ _ (by decide), if_pos (by omega)]
  cases b <;> rfl

theorem getEth_wr (q a : Nat) (v : Word) (d : Dev) : getEth q (wr a v d) = getEth q d := rfl

/-- ETH_CTRL is stored, its errors are marked, and RGMII powers the lane down. -/
def ethCtrlWritten (m p : Nat) (v : Word) (d : Dev) : Dev :=
  let e := d |> storeReg m (A.ethCtrl p) v |> errIf (bit v 12 && decide (4 ≤ p) && !committed d) (A.block (0xC + p)) m errRsvd (A.ethCtrl p)
  when (ethRgmii p e) (modEth p fun x => { x with lane := false }) e

theorem ethCtrlWritten_effect (m : Nat) (p : Fin 10) (v : Word) (d : Dev) :
    PortOnly p d (ethCtrlWritten m p v d) ∧ (ethCtrlWritten m p v d).swc = d.swc ∧
    rb (A.ethCtrl p) 15 (ethCtrlWritten m p v d) = bit v 15 ∧
    ∃ b, getEth p (ethCtrlWritten m p v d) = { getEth p d with lane := b } := by
  obtain ⟨hsame, hen, -⟩ := ethCtrl_stored m p v (bit v 12 && decide (4 ≤ p.val) && !committed d) d
  unfold ethCtrlWritten
  dsimp only at hsame hen ⊢
  generalize errIf (bit v 12 && decide (4 ≤ p.val) && !committed d) (A.block (0xC + p)) m errRsvd (A.ethCtrl p)
    (storeReg m (A.ethCtrl p) v d) = e at hsame hen
  obtain ⟨honly, hswc, hregs, hget⟩ := ethCtrl_laned (p := p) (c := ethRgmii p e) hsame
  refine ⟨honly, hswc, ?_, _, hget⟩
  rw [rb, rd, hregs]
  exact hen

/-- A port stops (R354). -/
def portStopped (p : Nat) (up : Bool) (d : Dev) : Dev :=
  d |> abortTransmit p |> flushPort p |> raiseIf up (A.ethStat p) 0
    |> modEth p (fun e => { e with link := .off, lane := false }) |> setVstat p 0

theorem writeEthCtrl_eq {m p : Nat} {v : Word} {d : Dev} (h : (d.sys.mode = .twilight && !rb (A.ethCtrl p) 15 d && bit v 15) = false) :
    let t := ethCtrlWritten m p v d
    writeEthCtrl m p v d =
      if (!rb (A.ethCtrl p) 15 d && rb (A.ethCtrl p) 15 t) = true then modEth p (fun e => { e with link := .down, lane := false }) t
      else if (rb (A.ethCtrl p) 15 d && !rb (A.ethCtrl p) 15 t) = true then portStopped p (decide ((getEth p t).link = .up)) t
      else t :=
  if_neg (Bool.eq_false_iff.mp h)

/-- PORT_ENABLE of a port that is off. -/
theorem writeEthCtrl_starts {m : Nat} {p : Fin 10} {v : Word} {d : Dev} (htw : d.sys.mode ≠ .twilight)
    (hoff : rb (A.ethCtrl p) 15 d = false) (hv : bit v 15 = true) :
    let t := writeEthCtrl m p v d
    PortOnly p d t ∧ t.swc = d.swc ∧ rb (A.ethCtrl p) 15 t = true ∧
    getEth p t = { getEth p d with link := .down, lane := false } := by
  obtain ⟨honly, hswc, hen, b, hget⟩ := ethCtrlWritten_effect m p v d
  have heq := writeEthCtrl_eq (m := m) (p := p) (v := v) (d := d) (by rw [decide_eq_false htw]; rfl)
  dsimp only at heq ⊢
  rw [if_pos (by rw [hoff, hen, hv]; rfl)] at heq
  rw [heq]
  refine ⟨honly.trans (.modEth _ _), hswc, hen.trans hv, ?_⟩
  rw [getEth_modEth_same, hget]

/-- A port that Twilight does not let start. -/
theorem writeEthCtrl_twilight {m : Nat} {p : Fin 10} {v : Word} {d : Dev} (htw : d.sys.mode = .twilight)
    (hoff : rb (A.ethCtrl p) 15 d = false) (hv : bit v 15 = true) : writeEthCtrl m p v d = d := by
  simp only [writeEthCtrl, hoff, htw, hv, decide_true, Bool.not_false, Bool.and_self, if_true]

theorem abort_flush_gone {p : Nat} (d : Dev) : ∀ c ∈ (flushPort p (abortTransmit p d)).swc.queues, c.port ≠ p :=
  gone_flushPort (underWay_abortTransmit p d)

/-- What stopping a port leaves: nothing queued, and the link off. -/
theorem portStopped_effect {p : Nat} (hp : p < 10) (up : Bool) (d : Dev) :
    let t := portStopped p up d
    PortOnly p d t ∧ rb (A.ethCtrl p) 15 t = rb (A.ethCtrl p) 15 d ∧ (∀ c ∈ t.swc.queues, c.port ≠ p) ∧
    rf (A.ethMmStat p) 2 0 t = 0 ∧ (up = true → rb (A.ethStat p) 0 t = true) ∧
    getEth p t = { getEth p d with link := .off, lane := false } := by
  have hflush : Egress p d (flushPort p (abortTransmit p d)) := ((Egress.refl d).abortTransmit).flushPort hp
  have hgone := abort_flush_gone (p := p) d
  unfold portStopped
  dsimp only
  generalize flushPort p (abortTransmit p d) = e at hflush hgone ⊢
  have hraise : SameButRegs e (raiseIf up (A.ethStat p) 0 e) := sameButRegs_raiseIf _ _ _ _
  have hctrl : rd (A.ethCtrl p) (raiseIf up (A.ethStat p) 0 e) = rd (A.ethCtrl p) d := by
    refine Eq.trans ?_ hflush.ctrl
    cases up
    · rfl
    · exact rd_raise_ne _ _ (by unfold A.ethCtrl A.ethStat; omega)
  have hup : up = true → rb (A.ethStat p) 0 (raiseIf up (A.ethStat p) 0 e) = true := by
    rintro rfl
    exact rb_raise_self _ _ (by decide)
  generalize raiseIf up (A.ethStat p) 0 e = f at hraise hctrl hup ⊢
  have hmm (a : Nat) (ha : a ≠ A.ethMmStat p) (g : Eth → Eth) : rd a (setVstat p 0 (modEth p g f)) = rd a f := rd_wr_ne _ _ ha
  have hget : getEth p f = getEth p d := (congrArg (tabGet ethDefault · p) hraise.eths).trans (hflush.getEth p)
  refine ⟨(hflush.portOnly.trans (.ofRegs hraise)).trans ((PortOnly.modEth f _).trans (.ofRegs (sameButRegs_wr _ _ _))), ?_, ?_, ?_,
    fun h => ?_, ?_⟩
  · rw [rb, hmm _ (by unfold A.ethCtrl A.ethMmStat; omega), hctrl, rb]
  · intro c hc
    exact hgone c (hraise.swc ▸ hc)
  · rw [setVstat, rf, rd_wr_same]
    decide
  · rw [rb, hmm _ (by unfold A.ethStat A.ethMmStat; omega)]
    exact hup h
  · rw [setVstat, getEth_wr, getEth_modEth_same, hget]

theorem writeEthCtrl_stops {m : Nat} {p : Fin 10} {v : Word} {d : Dev} (hon : rb (A.ethCtrl p) 15 d = true)
    (hv : bit v 15 = false) :
    let t := writeEthCtrl m p v d
    PortOnly p d t ∧ rb (A.ethCtrl p) 15 t = false ∧ (∀ c ∈ t.swc.queues, c.port ≠ p.val) ∧ rf (A.ethMmStat p) 2 0 t = 0 ∧
    ((getEth p d).link = .up → rb (A.ethStat p) 0 t = true) ∧ getEth p t = { getEth p d with link := .off, lane := false } := by
  obtain ⟨honly, -, hen, b, hget⟩ := ethCtrlWritten_effect m p v d
  have heq := writeEthCtrl_eq (m := m) (p := p) (v := v) (d := d) (by rw [hv, Bool.and_false])
  dsimp only at heq ⊢
  rw [if_neg (by rw [hon]; exact Bool.false_ne_true), if_pos (by rw [hon, hen, hv]; rfl)] at heq
  rw [heq]
  obtain ⟨honly', hctrl, hgone, hmm, hup, hget'⟩ :=
    portStopped_effect p.isLt (decide ((getEth p (ethCtrlWritten m p v d)).link = .up)) (ethCtrlWritten m p v d)
  refine ⟨honly.trans honly', hctrl.trans (hen.trans hv), hgone, hmm, fun h => hup (decide_eq_true ?_), ?_⟩
  · rw [hget]
    exact h
  · rw [hget', hget]

/-! ### The link (R353-R356) -/

theorem mem_queues_discardLateHeads {p : Nat} {x : Copy} {d : Dev} (h : x ∈ (discardLateHeads p d).swc.queues) :
    x ∈ d.swc.queues := by
  revert h
  refine List.foldlRecOn (motive := fun e : Dev => x ∈ e.swc.queues → x ∈ d.swc.queues) d.swc.queues _ (fun h => h)
    fun e he c _ h => he ?_
  split at h
  · exact mem_queues_discardBad (why := 0) h
  · exact h

/-- VSTAT takes a value, and nothing else. -/
theorem rf_setVstat {v : Nat} (p : Nat) (d : Dev) (h : v < 8) : rf (A.ethMmStat p) 2 0 (setVstat p v d) = v := by
  rw [setVstat, rf, rd_wr_same, fld_word]
  omega

theorem rb_ethStat_setVstat (p i v : Nat) (d : Dev) : rb (A.ethStat p) i (setVstat p v d) = rb (A.ethStat p) i d := by
  rw [setVstat, rb, rd_wr_ne _ _ (by unfold A.ethStat A.ethMmStat; omega), rb]

/-- A link that comes up, before the port serves its queues. -/
def linkRisen (p phy : Nat) (d : Dev) : Dev :=
  d |> modEth p (fun e => { e with link := .up, speed := runSpeed p phy d }) |> raise (A.ethStat p) 0 |> verifyStart p

theorem linkRisen_effect (p phy : Nat) (d : Dev) : PortOnly p d (linkRisen p phy d) ∧ (linkRisen p phy d).swc = d.swc ∧
    rb (A.ethStat p) 0 (linkRisen p phy d) = true ∧
    getEth p (linkRisen p phy d) = { getEth p d with link := .up, speed := runSpeed p phy d, verify := 0, verifyLast := 0 } := by
  have hraise := sameButRegs_raise (A.ethStat p) 0 (modEth p (fun e => { e with link := .up, speed := runSpeed p phy d }) d)
  have hstat := rb_raise_self (i := 0) (A.ethStat p) (modEth p (fun e => { e with link := .up, speed := runSpeed p phy d }) d)
    (by decide)
  have hget : getEth p (raise (A.ethStat p) 0 (modEth p (fun e => { e with link := .up, speed := runSpeed p phy d }) d)) =
      { getEth p d with link := .up, speed := runSpeed p phy d } :=
    (congrArg (tabGet ethDefault · p) hraise.eths).trans (getEth_modEth_same _ _ _)
  have honly : PortOnly p d (raise (A.ethStat p) 0 (modEth p (fun e => { e with link := .up, speed := runSpeed p phy d }) d)) :=
    (PortOnly.modEth d _).trans (.ofRegs hraise)
  have hswc := hraise.swc
  unfold linkRisen verifyStart
  dsimp only
  generalize raise (A.ethStat p) 0 (modEth p (fun e => { e with link := .up, speed := runSpeed p phy d }) d) = e at *
  refine ⟨(honly.trans (.modEth e _)).trans (.ofRegs (sameButRegs_wr _ _ _)), hswc, ?_, ?_⟩
  · rw [rb_ethStat_setVstat]
    exact hstat
  · rw [setVstat, getEth_wr, getEth_modEth_same, hget]

theorem linkUp_effect {p : Nat} (hp : p < 10) (phy : Nat) (d : Dev) :
    PortOnly p d (linkUp p phy d) ∧ rb (A.ethStat p) 0 (linkUp p phy d) = true ∧
    (underWay p d = [] → getEth p (linkUp p phy d) =
      { getEth p d with link := .up, speed := runSpeed p phy d, verify := 0, verifyLast := 0 }) ∧
    (d.swc.queues = [] → (linkUp p phy d).swc.queues = []) := by
  obtain ⟨honly, hswc, hstat, hget⟩ := linkRisen_effect p phy d
  have heq : linkUp p phy d =
    serve p (when (decide ((getEth p d).link = .hold)) (discardLateHeads p) (linkRisen p phy d)) := rfl
  rw [heq]
  generalize linkRisen p phy d = e at honly hswc hstat hget
  have hlate : Egress p e (when (decide ((getEth p d).link = .hold)) (discardLateHeads p) e) :=
    (Egress.refl e).whenever fun f => (Egress.refl f).discardLateHeads hp
  have hsub : ∀ x ∈ (when (decide ((getEth p d).link = .hold)) (discardLateHeads p) e).swc.queues, x ∈ d.swc.queues := by
    intro x hx
    rw [← hswc]
    unfold when at hx
    split at hx
    · exact mem_queues_discardLateHeads hx
    · exact hx
  generalize when (decide ((getEth p d).link = .hold)) (discardLateHeads p) e = f at hlate hsub
  have hserve := Served.serve hp f
  refine ⟨(honly.trans hlate.portOnly).trans hserve.toPortOnly, ?_, fun hidle => ?_, fun hnone => ?_⟩
  · rw [rb, hserve.stat, hlate.stat]
    exact hstat
  · have hidle' : underWay p f = [] := by
      rw [List.eq_nil_iff_forall_not_mem]
      intro c hc
      obtain ⟨hin, hof⟩ := mem_underWay.mp hc
      exact List.not_mem_nil (hidle ▸ mem_underWay.mpr ⟨hsub c hin, hof⟩)
    rw [getEth, eths_serve hp hidle']
    exact (hlate.getEth p).trans hget
  · have hnone' : f.swc.queues = [] := by
      rw [List.eq_nil_iff_forall_not_mem]
      intro c hc
      exact List.not_mem_nil (hnone ▸ hsub c hc)
    rw [serve_empty hnone']
    exact hnone'

/-- A link that is lost: the frame under way is cut, and verification starts over. -/
def linkFallen (p : Nat) (d : Dev) : Dev := d |> abortTransmit p |> raise (A.ethStat p) 0 |> setVstat p 0

theorem linkFallen_effect (p : Nat) (d : Dev) : PortOnly p d (linkFallen p d) ∧ underWay p (linkFallen p d) = [] ∧
    rb (A.ethStat p) 0 (linkFallen p d) = true ∧ getEth p (linkFallen p d) = getEth p d ∧
    (underWay p d = [] → (linkFallen p d).swc.queues = d.swc.queues) := by
  have habort : Egress p d (abortTransmit p d) := (Egress.refl d).abortTransmit
  have hmarks := (sameButRegs_raise (A.ethStat p) 0 (abortTransmit p d)).trans (sameButRegs_wr (A.ethMmStat p) (word 0) _)
  have hstat := (rb_ethStat_setVstat p 0 0 (raise (A.ethStat p) 0 (abortTransmit p d))).trans
    (rb_raise_self (i := 0) (A.ethStat p) (abortTransmit p d) (by decide))
  refine ⟨habort.portOnly.trans (.ofRegs hmarks), ?_, hstat, (congrArg (tabGet ethDefault · p) hmarks.eths).trans (habort.getEth p),
    fun hidle => ?_⟩
  · rw [← underWay_abortTransmit p d]
    exact underWay_congr (congrArg (·.queues) hmarks.swc)
  · rw [abortTransmit_idle hidle] at hmarks
    rw [linkFallen, abortTransmit_idle hidle]
    exact congrArg (·.queues) hmarks.swc

theorem portDown_effect {p : Nat} (hp : p < 10) (d : Dev) :
    let t := d |> modEth p (fun e => { e with link := .down }) |> flushPort p
    PortOnly p d t ∧ getEth p t = { getEth p d with link := .down } ∧ rd (A.ethStat p) t = rd (A.ethStat p) d ∧
    (underWay p d = [] → ∀ c ∈ t.swc.queues, c.port ≠ p) := by
  have hflush := (Egress.refl (modEth p (fun e => { e with link := .down }) d)).flushPort hp
  refine ⟨(PortOnly.modEth d _).trans hflush.portOnly, (hflush.getEth p).trans (getEth_modEth_same p _ d), hflush.stat,
    fun hidle => gone_flushPort ?_⟩
  exact (underWay_congr rfl).trans hidle

/-! ### The commands -/

/-- What a command of port p leaves alone. -/
def PortOthers (p : Nat) (s t : State) : Prop := t.fuses = s.fuses ∧ t.dev.mem = s.dev.mem ∧ t.dev.dsp = s.dev.dsp ∧
  ∀ q < 10, q ≠ p → getEth q t.dev = getEth q s.dev

theorem PortOnly.others {p : Nat} {e : Dev} {s : State} (h : PortOnly p s.dev e) : PortOthers p s { s with dev := e } :=
  ⟨rfl, h.mem, h.dsp, fun q _ hq => h.eth q hq⟩

section
variable {m : Fin 20} {p : Fin 10} {s : State}

theorem exec_portEnable (h : powered s.dev = true) : exec (.portEnable m p) s =
    .next { s with dev := writeEthCtrl m p (setBit (rd (A.ethCtrl p) s.dev) 15 true) s.dev } := onPow_of_powered _ h

theorem exec_portDisable (h : powered s.dev = true) : exec (.portDisable m p) s =
    .next { s with dev := writeEthCtrl m p (setBit (rd (A.ethCtrl p) s.dev) 15 false) s.dev } := onPow_of_powered _ h

theorem portEnable_twilight (h : powered s.dev = true) (htw : s.dev.sys.mode = .twilight) (hoff : rb (A.ethCtrl p) 15 s.dev = false) :
    exec (.portEnable m p) s = .next s := by
  rw [exec_portEnable h, writeEthCtrl_twilight htw hoff (bit_setBit_15 _ _)]

theorem portEnable_starts (h : powered s.dev = true) (htw : s.dev.sys.mode ≠ .twilight)
    (hoff : rb (A.ethCtrl p) 15 s.dev = false) : ∃ t, exec (.portEnable m p) s = .next t ∧ PortOthers p s t ∧
      getEth p t.dev = { getEth p s.dev with link := .down, lane := false } ∧ rb (A.ethCtrl p) 15 t.dev = true ∧
      t.dev.swc = s.dev.swc := by
  obtain ⟨honly, hswc, hen, hget⟩ := writeEthCtrl_starts (m := m) htw hoff (bit_setBit_15 true _)
  exact ⟨_, exec_portEnable h, honly.others, hget, hen, hswc⟩

theorem portDisable_stops (h : powered s.dev = true) (hon : rb (A.ethCtrl p) 15 s.dev = true) :
    ∃ t, exec (.portDisable m p) s = .next t ∧ PortOthers p s t ∧
      getEth p t.dev = { getEth p s.dev with link := .off, lane := false } ∧ rb (A.ethCtrl p) 15 t.dev = false ∧
      (∀ c ∈ t.dev.swc.queues, c.port ≠ p.val) ∧ rf (A.ethMmStat p) 2 0 t.dev = 0 ∧
      ((getEth p s.dev).link = .up → rb (A.ethStat p) 0 t.dev = true) := by
  obtain ⟨honly, hen, hgone, hmm, hup, hget⟩ := writeEthCtrl_stops (m := m) hon (bit_setBit_15 false _)
  exact ⟨_, exec_portDisable h, honly.others, hget, hen, hgone, hmm, hup⟩

theorem linkUp_comes_iff : (inService s.dev && ((getEth p s.dev).link = .down || (getEth p s.dev).link = .hold) &&
      ((getEth p s.dev).lane || ethRgmii p s.dev)) = true ↔
    s.dev.sys.mode = .service ∧ ((getEth p s.dev).link = .down ∨ (getEth p s.dev).link = .hold) ∧
      ((getEth p s.dev).lane = true ∨ ethRgmii p s.dev = true) := by
  simp only [inService, Bool.and_eq_true, Bool.or_eq_true, decide_eq_true_eq, and_assoc]

theorem exec_linkDown (hs : s.dev.sys.mode = .service) (hup : (getEth p s.dev).link = .up) : exec (.linkDown p) s =
    .next { s with
      dev := if rf (A.ethHold p) 15 0 s.dev = 0 then linkFallen p s.dev |> modEth p (fun e => { e with link := .down }) |> flushPort p
        else modEth p (fun e => { e with link := .hold, holdEnd := (linkFallen p s.dev).now + 400 * rf (A.ethHold p) 15 0 s.dev })
          (linkFallen p s.dev) } :=
  onDev_eq_next (when_of _ _ (by simp [inService, hs, hup]))

theorem linkDown_idle (h : ¬(s.dev.sys.mode = .service ∧ (getEth p s.dev).link = .up)) : exec (.linkDown p) s = .next s :=
  onDev_eq_next (when_of_not _ _ (by simpa [inService] using h))

theorem linkDown_flushes (h : s.dev.sys.mode = .service ∧ (getEth p s.dev).link = .up) (hh : rf (A.ethHold p) 15 0 s.dev = 0) :
    ∃ t, exec (.linkDown p) s = .next t ∧ PortOthers p s t ∧ getEth p t.dev = { getEth p s.dev with link := .down } ∧
      (∀ c ∈ t.dev.swc.queues, c.port ≠ p.val) ∧ underWay p t.dev = [] ∧ rb (A.ethStat p) 0 t.dev = true := by
  obtain ⟨honly, hidle, hstat, hget, -⟩ := linkFallen_effect p s.dev
  obtain ⟨honly', hget', hstat', hgone⟩ := portDown_effect p.isLt (linkFallen p s.dev)
  have hexec := exec_linkDown h.1 h.2
  rw [if_pos hh] at hexec
  refine ⟨_, hexec, (honly.trans honly').others, hget'.trans (by rw [hget]), hgone hidle, underWay_of_gone (hgone hidle), ?_⟩
  rw [rb, hstat']
  exact hstat

theorem linkDown_holds (h : s.dev.sys.mode = .service ∧ (getEth p s.dev).link = .up) (hh : rf (A.ethHold p) 15 0 s.dev ≠ 0) :
    ∃ t, exec (.linkDown p) s = .next t ∧ PortOthers p s t ∧ rb (A.ethStat p) 0 t.dev = true ∧
      getEth p t.dev = { getEth p s.dev with link := .hold, holdEnd := s.dev.now + 400 * rf (A.ethHold p) 15 0 s.dev } ∧
      underWay p t.dev = [] ∧ (underWay p s.dev = [] → t.dev.swc.queues = s.dev.swc.queues) := by
  obtain ⟨honly, hidle, hstat, hget, hsame⟩ := linkFallen_effect p s.dev
  have hexec := exec_linkDown h.1 h.2
  rw [if_neg hh] at hexec
  refine ⟨_, hexec, (honly.trans (.modEth _ _)).others, hstat, ?_, hidle, hsame⟩
  rw [getEth_modEth_same, hget, honly.now]

theorem linkHoldExpiry_when : exec (.linkHoldExpiry p) s = .next { s with
    dev := when (inService s.dev && (getEth p s.dev).link = .hold && decide ((getEth p s.dev).holdEnd ≤ s.dev.now))
      (fun d => d |> modEth p (fun e => { e with link := .down }) |> flushPort p) s.dev } := rfl

theorem linkHoldExpiry_idle (h : ¬(s.dev.sys.mode = .service ∧ (getEth p s.dev).link = .hold ∧ (getEth p s.dev).holdEnd ≤ s.dev.now)) :
    exec (.linkHoldExpiry p) s = .next s := by
  rw [linkHoldExpiry_when, when_of_not _ _ (Bool.eq_false_iff.mpr fun hc => h ?_)]
  simpa [inService, and_assoc] using hc

theorem linkHoldExpiry_flushes (h : s.dev.sys.mode = .service ∧ (getEth p s.dev).link = .hold ∧ (getEth p s.dev).holdEnd ≤ s.dev.now) :
    ∃ t, exec (.linkHoldExpiry p) s = .next t ∧ PortOthers p s t ∧ getEth p t.dev = { getEth p s.dev with link := .down } ∧
      (underWay p s.dev = [] → ∀ c ∈ t.dev.swc.queues, c.port ≠ p.val) := by
  obtain ⟨hs, hhold, hend⟩ := h
  obtain ⟨honly, hget, -, hgone⟩ := portDown_effect p.isLt s.dev
  have hexec := linkHoldExpiry_when (p := p) (s := s)
  rw [when_of _ _ (by simp [inService, hs, hhold, hend])] at hexec
  exact ⟨_, hexec, honly.others, hget, hgone⟩

/-- A verify frame is due (R353). -/
def VerifyDue (p : Nat) (d : Dev) : Prop := d.sys.mode = .service ∧ (getEth p d).link = .up ∧
  (rf (A.ethMmStat p) 2 0 d = 1 ∨ rf (A.ethMmStat p) 2 0 d = 2) ∧
  ((getEth p d).verify = 0 ∨ (getEth p d).verifyLast + 4000000 ≤ d.now)

/-- What a verify frame does, where it is due. -/
def verifySent (p : Nat) (answered : Bool) (d : Dev) : Dev :=
  if 3 ≤ (getEth p d).verify then setVstat p 4 d
  else d |> modEth p (fun e => { e with verify := e.verify + 1, verifyLast := d.now }) |> setVstat p (if answered then 3 else 2)

theorem exec_verifyFrame (q : Fin 8) (answered : Bool) : exec (.verifyFrame q answered) s = .next { s with
    dev := when (inService s.dev && (getEth q s.dev).link = .up && (rf (A.ethMmStat q) 2 0 s.dev = 1 || rf (A.ethMmStat q) 2 0 s.dev = 2) &&
      ((getEth q s.dev).verify = 0 || decide ((getEth q s.dev).verifyLast + 4000000 ≤ s.dev.now))) (verifySent q answered) s.dev } :=
  rfl

theorem verifyDue_iff {q : Nat} : (inService s.dev && (getEth q s.dev).link = .up &&
      (rf (A.ethMmStat q) 2 0 s.dev = 1 || rf (A.ethMmStat q) 2 0 s.dev = 2) &&
      ((getEth q s.dev).verify = 0 || decide ((getEth q s.dev).verifyLast + 4000000 ≤ s.dev.now))) = true ↔ VerifyDue q s.dev := by
  simp only [inService, VerifyDue, Bool.and_eq_true, Bool.or_eq_true, decide_eq_true_eq, and_assoc]

theorem verifyFrame_idle {q : Fin 8} {answered : Bool} (h : ¬VerifyDue q s.dev) : exec (.verifyFrame q answered) s = .next s := by
  rw [exec_verifyFrame, when_of_not _ _ (Bool.eq_false_iff.mpr (verifyDue_iff.not.mpr h))]

theorem verifyFrame_sends {q : Fin 8} {answered : Bool} (h : VerifyDue q s.dev) (h3 : (getEth q s.dev).verify < 3) :
    ∃ t, exec (.verifyFrame q answered) s = .next t ∧ PortOthers q s t ∧
      getEth q t.dev = { getEth q s.dev with verify := (getEth q s.dev).verify + 1, verifyLast := s.dev.now } ∧
      rf (A.ethMmStat q) 2 0 t.dev = if answered then 3 else 2 := by
  have hexec := exec_verifyFrame (s := s) q answered
  rw [when_of _ _ (verifyDue_iff.mpr h), verifySent, if_neg (by omega)] at hexec
  refine ⟨_, hexec, ((PortOnly.modEth s.dev _).trans (.ofRegs (sameButRegs_wr _ _ _))).others, ?_, rf_setVstat _ _ ?_⟩
  · rw [setVstat, getEth_wr, getEth_modEth_same]
  · cases answered <;> decide

theorem verifyFrame_fails {q : Fin 8} {answered : Bool} (h : VerifyDue q s.dev) (h3 : 3 ≤ (getEth q s.dev).verify) :
    ∃ t, exec (.verifyFrame q answered) s = .next t ∧ PortOthers q s t ∧ getEth q t.dev = getEth q s.dev ∧
      rf (A.ethMmStat q) 2 0 t.dev = 4 := by
  have hexec := exec_verifyFrame (s := s) q answered
  rw [when_of _ _ (verifyDue_iff.mpr h), verifySent, if_pos h3] at hexec
  exact ⟨_, hexec, (PortOnly.ofRegs (sameButRegs_wr _ _ _)).others, rfl, rf_setVstat _ _ (by decide)⟩

end

end Sys2Proof.Machine
end

section
/-! The end of a frame at the MAC: what is counted, what classification sees, and the receive queues (R344-R352). -/

namespace Sys2Proof.Machine

/-! ### Counters of 32 bits -/

theorem fld_31_0 (w : Word) : fld w 31 0 = w.toNat := by
  rw [fld, nfld, Nat.shiftRight_zero]
  exact Nat.mod_eq_of_lt w.isLt

theorem setFld_31_0 (w : Word) (v : Nat) : setFld w 31 0 v = word v := by
  refine word_ext fun i hi => ?_
  rw [bit_setFld _ _ _ _ hi, if_pos (by omega), bit_word _ _ hi, Nat.sub_zero]

theorem rd_countEth_same (p o : Nat) (d : Dev) : rd (A.ethCnt p o) (countEth p o d) = rd (A.ethCnt p o) d + 1 := by
  rw [countEth, incr, wf, rd_wr_same, setFld_31_0, rf, fld_31_0, word, BitVec.ofNat_add, BitVec.ofNat_toNat, BitVec.setWidth_eq]
  rfl

theorem rd_countEth_ne {p o a : Nat} (d : Dev) (h : a ≠ A.ethCnt p o) : rd a (countEth p o d) = rd a d := rd_wr_ne _ d h

theorem ethCnt_ne {p o o' : Nat} (h : o ≠ o') : A.ethCnt p o ≠ A.ethCnt p o' := by
  unfold A.ethCnt
  omega

theorem word_add (a b : Nat) : word (a + b) = word a + word b := BitVec.ofNat_add a b

/-! ### Failures (R344, R353) -/

/-- The counter of a failure. -/
def faultCnt : RxFault → Nat
  | .runt => 0x0C
  | .code => 0x18
  | .giant => 0x14
  | .fcs => 0x10
  | .merge => 0x50

/-- Only registers differ, and only those of `ethCnt p` at 0x0C to 0x18 and 0x50 and ETH_STAT. -/
theorem sameButRegs_countFault (p : Nat) (d : Dev) (x : RxFault) : SameButRegs d (countFault p d x) := by
  cases x
  case merge => exact (sameButRegs_incr _ _ _ _).trans (sameButRegs_raise _ _ _)
  all_goals exact sameButRegs_incr _ _ _ _

theorem rd_countFault (p o : Nat) (d : Dev) (x : RxFault) :
    rd (A.ethCnt p o) (countFault p d x) = rd (A.ethCnt p o) d + if faultCnt x = o then 1 else 0 := by
  have hcount (k : Nat) : rd (A.ethCnt p o) (countEth p k d) = rd (A.ethCnt p o) d + if k = o then 1 else 0 := by
    split
    next h => rw [h, rd_countEth_same]
    next h => rw [rd_countEth_ne _ (ethCnt_ne (Ne.symm h))]; exact (BitVec.add_zero _).symm
  cases x
  case merge =>
    have hstat : A.ethCnt p o ≠ A.ethStat p := by unfold A.ethCnt A.ethStat; omega
    exact (rd_raise_ne 3 _ hstat).trans (hcount 0x50)
  all_goals exact hcount _

theorem rd_foldl_countFault (p o : Nat) (l : List RxFault) (d : Dev) :
    rd (A.ethCnt p o) (l.foldl (countFault p) d) = rd (A.ethCnt p o) d + word (l.countP fun x => faultCnt x = o) := by
  induction l generalizing d with
  | nil => exact (BitVec.add_zero _).symm
  | cons x l ih =>
    have hone : (if faultCnt x = o then (1 : Word) else 0) = word (if decide (faultCnt x = o) = true then 1 else 0) := by
      by_cases h : faultCnt x = o <;> simp [h, word]
    rw [List.foldl_cons, ih, rd_countFault, List.countP_cons, hone, BitVec.add_assoc, BitVec.add_comm (word _), ← word_add]

/-- How often a frame's failures count in each counter. -/
theorem countP_rxFaults (p len : Nat) (fcs code merge : Bool) (d : Dev) :
    let n (o : Nat) : Nat := (rxFaults p len fcs code merge d).countP fun x => faultCnt x = o
    let runt : Bool := decide (len + 4 < 64)
    let giant : Bool := decide (maxLen p d < len + 4)
    n 0 = 0 ∧ n 0x50 = merge.toNat ∧ n 0x0C = (!merge && runt).toNat ∧ n 0x18 = (!merge && code).toNat ∧
    n 0x14 = (!merge && giant).toNat ∧ n 0x10 = (!merge && !giant && !fcs).toNat := by
  simp only [rxFaults]
  generalize decide (maxLen p d < len + 4) = giant
  by_cases hr : len + 4 < 64
  · simp only [if_pos hr, decide_eq_true hr]
    cases merge <;> cases code <;> cases giant <;> cases fcs <;> decide
  · simp only [if_neg hr, decide_eq_false hr]
    cases merge <;> cases code <;> cases giant <;> cases fcs <;> decide

theorem rxFaults_eq_nil_iff (p len : Nat) (fcs code merge : Bool) (d : Dev) : rxFaults p len fcs code merge d = [] ↔
    merge = false ∧ ¬len + 4 < 64 ∧ code = false ∧ ¬maxLen p d < len + 4 ∧ fcs = true := by
  unfold rxFaults
  cases merge with
  | true => simp
  | false =>
    simp only [Bool.false_eq_true, if_false, List.append_eq_nil_iff, ite_eq_right_iff, ite_eq_left_iff, imp_false,
      true_and, decide_eq_true_eq, List.cons_ne_nil]
    cases code <;> cases fcs <;> simp

/-! ### The buffer that a frame takes (R349, R350, R352) -/

/-- The buffer that is taken next of a ring of n, and the ring after it. -/
def nextBuf (n : Nat) (x : Ring) : Option (Nat × Ring) :=
  if x.fresh < n then some (x.fresh, { x with fresh := x.fresh + 1 })
  else match x.back with
    | [] => none
    | i :: rest => some (i, { x with back := rest })

theorem takeBuf_eq (r : Nat) (d : Dev) :
    takeBuf r d = (nextBuf (ringCount r d) (getRing r d)).map fun y => (y.1, putRing r y.2 d) := by
  unfold takeBuf nextBuf
  dsimp only
  split
  · rfl
  · split <;> simp_all

theorem takeBuf_some {r i : Nat} {d e : Dev} (h : takeBuf r d = some (i, e)) :
    ∃ x, nextBuf (ringCount r d) (getRing r d) = some (i, x) ∧ putRing r x d = e := by
  rw [takeBuf_eq, Option.map_eq_some_iff] at h
  obtain ⟨⟨j, x⟩, hnext, heq⟩ := h
  obtain ⟨rfl, rfl⟩ := Prod.mk.inj heq
  exact ⟨x, hnext, rfl⟩

/-- A buffer taken is one fewer free. -/
theorem nextBuf_free {n i : Nat} {x y : Ring} (h : nextBuf n x = some (i, y)) :
    n - y.fresh + y.back.length + 1 = n - x.fresh + x.back.length := by
  unfold nextBuf at h
  split at h
  next hlt =>
    obtain ⟨-, rfl⟩ := Prod.mk.inj (Option.some.inj h)
    change n - (x.fresh + 1) + x.back.length + 1 = _
    omega
  next =>
    split at h
    · exact absurd h (by simp)
    next rest hback =>
      obtain ⟨-, rfl⟩ := Prod.mk.inj (Option.some.inj h)
      rw [hback, List.length_cons]
      rfl

theorem verdict_queue_lt {p q : Nat} {sw : Bool} {bs : List Byte} {d : Dev} (h : verdict p bs d = .action sw (some q)) : q < 16 := by
  have hsteer : (steer p bs d).2 < 16 := by
    unfold steer
    split <;> exact Nat.mod_lt _ (by decide)
  unfold verdict at h
  generalize steer p bs d = a at h hsteer
  dsimp only at h
  split at h
  · exact absurd h (by simp)
  · split at h
    · exact absurd h (by simp)
    · split at h
      · exact absurd h (by simp)
      · split at h
        · simp only [Verdict.action.injEq, Option.some.injEq] at h
          omega
        · split at h
          · simp only [Verdict.action.injEq, Option.some.injEq] at h
            omega
          · exact absurd h (by simp)

/-! #### The buffer of a frame, case by case -/

section
variable {p q : Nat} {bs : List Byte} {d e : Dev}

theorem bufferFrame_off (h : ringEn (16 * p + q) d = false) : bufferFrame p q bs d = (none, countEth p 0x20 d) := by
  simp only [bufferFrame, h, Bool.not_false, if_true]

theorem bufferFrame_failed (h : ringEn (16 * p + q) d = true) (hf : (getRing (16 * p + q) d).failed = true) :
    bufferFrame p q bs d = (none, countEth p 0x24 d) := by
  simp only [bufferFrame, h, hf, Bool.not_true, Bool.false_eq_true, if_false, if_true]

theorem bufferFrame_empty (h : ringEn (16 * p + q) d = true) (hf : (getRing (16 * p + q) d).failed = false)
    (ht : takeBuf (16 * p + q) d = none) : bufferFrame p q bs d = (none, raise (A.ethStat p) 1 (countEth p 0x24 d)) := by
  simp only [bufferFrame, h, hf, ht, Bool.not_true, Bool.false_eq_true, if_false]

/-- The frame does not fit, or its write fails: the buffer goes back (R349, R352). -/
def bufferGiven (p q i : Nat) (bs : List Byte) (d : Dev) : Option Nat × Dev :=
  if ringSize (16 * p + q) d - 16 < bs.length then (none, d |> giveBuf (16 * p + q) i |> countEth p 0x24)
  else match macWriteFail (bufAddr (16 * p + q) i d) (16 + bs.length) d with
    | some (k, b) =>
      let f := d |> giveBuf (16 * p + q) i |> accEvent 21 k true b |> raise (A.ethStat p) 2
      (none, putRing (16 * p + q) { getRing (16 * p + q) f with failed := true } f)
    | none => (some i, d)

theorem bufferFrame_taken {i : Nat} (h : ringEn (16 * p + q) d = true) (hf : (getRing (16 * p + q) d).failed = false)
    (ht : takeBuf (16 * p + q) d = some (i, e)) : bufferFrame p q bs d = bufferGiven p q i bs e := by
  simp only [bufferFrame, h, hf, ht, Bool.not_true, Bool.false_eq_true, if_false]
  rfl

end

theorem rd_putRing_ne {a r : Nat} (x : Ring) (d : Dev) (h : a ≠ ringLvl r) : rd a (putRing r x d) = rd a d := by
  unfold putRing showRing
  dsimp only
  exact (rd_when_ne (rd_wf_ne _ _ _ _ h)).trans (rd_wf_ne _ _ _ _ h)

theorem sameButRegs_showRing (r : Nat) (d : Dev) : SameButRegs d (showRing r d) :=
  (sameButRegs_wf _ _ _ _ _).trans (sameButRegs_when _ (sameButRegs_wf _ _ _ _ _))

/-- The counters of port p that a receive queue leaves alone. -/
abbrev RxHeld (p a : Nat) : Prop := ∃ o, (o < 0x20 ∨ o = 0x50) ∧ a = A.ethCnt p o

/-- Nothing between d and e has touched memory, Dispatch, the switch, the ports and what `RxHeld` names. -/
structure QueueOnly (p : Nat) (d e : Dev) : Prop where
  mem : e.mem = d.mem
  dsp : e.dsp = d.dsp
  swc : e.swc = d.swc
  eths : e.eths = d.eths
  held : ∀ a, RxHeld p a → rd a e = rd a d

namespace QueueOnly

variable {p r : Nat} {d e f : Dev}

theorem refl (d : Dev) : QueueOnly p d d := ⟨rfl, rfl, rfl, rfl, fun _ _ => rfl⟩

theorem trans (h : QueueOnly p d e) (g : QueueOnly p e f) : QueueOnly p d f :=
  ⟨g.mem.trans h.mem, g.dsp.trans h.dsp, g.swc.trans h.swc, g.eths.trans h.eths, fun a ha => (g.held a ha).trans (h.held a ha)⟩

theorem ofRegs (h : SameButRegs d e) (hr : ∀ a, RxHeld p a → rd a e = rd a d) : QueueOnly p d e :=
  ⟨h.mem, h.dsp, h.swc, h.eths, hr⟩

theorem countEth {o : Nat} (h : QueueOnly p d e) (ho : 0x20 ≤ o ∧ o ≠ 0x50) : QueueOnly p d (countEth p o e) :=
  h.trans <| ofRegs (sameButRegs_incr _ _ _ _) fun a ⟨o', ho', ha⟩ => by
    rw [ha]
    exact rd_countEth_ne e (ethCnt_ne (by omega))

theorem raise {i : Nat} (h : QueueOnly p d e) : QueueOnly p d (raise (A.ethStat p) i e) :=
  h.trans <| ofRegs (sameButRegs_raise _ _ _) fun a ⟨o, _, ha⟩ =>
    rd_raise_ne i e (by rw [ha]; unfold A.ethCnt A.ethStat; omega)

theorem accEvent (h : QueueOnly p d e) (m k : Nat) (w : Bool) (b : Nat) : QueueOnly p d (accEvent m k w b e) :=
  h.trans <| ofRegs (sameButRegs_accEvent _ _ _ _ _) fun a ⟨o, _, ha⟩ => by
    have hfar : a ≠ A.memAccStat ∧ a ≠ A.memAccInfo ∧ a ≠ A.memAccAddr := by
      unfold A.ethCnt at ha
      unfold A.memAccStat A.memAccInfo A.memAccAddr
      omega
    rw [Machine.accEvent, rd_wr_ne _ _ hfar.2.2, rd_wr_ne _ _ hfar.2.1, rd_raise_ne _ _ hfar.1]

theorem ringLvl_ne (h : r < 160) {a : Nat} (ha : RxHeld p a) : a ≠ ringLvl r := by
  obtain ⟨o, ho, rfl⟩ := ha
  rw [ringLvl, if_pos h]
  unfold A.ethCnt A.ethRxq
  omega

theorem putRing (h : QueueOnly p d e) (hr : r < 160) (x : Ring) : QueueOnly p d (putRing r x e) := by
  have hset : QueueOnly p e { e with rings := tabSet ringDefault e.rings r x } := ⟨rfl, rfl, rfl, rfl, fun _ _ => rfl⟩
  exact h.trans (hset.trans (ofRegs (sameButRegs_showRing _ _) fun a ha => rd_putRing_ne x e (ringLvl_ne hr ha)))

theorem giveBuf (h : QueueOnly p d e) (hr : r < 160) (i : Nat) : QueueOnly p d (giveBuf r i e) := h.putRing hr _

theorem bufferGiven (hp : p < 10) {q : Nat} (hq : q < 16) (i : Nat) (bs : List Byte) (h : QueueOnly p d e) :
    QueueOnly p d (bufferGiven p q i bs e).2 := by
  have hr : 16 * p + q < 160 := by omega
  have hgive : QueueOnly p d (Machine.giveBuf (16 * p + q) i e) := h.giveBuf hr i
  unfold Machine.bufferGiven
  generalize Machine.giveBuf (16 * p + q) i e = f at hgive
  dsimp only
  split
  · exact hgive.countEth (o := 0x24) (by decide)
  · split
    next k b _ => exact ((hgive.accEvent 21 k true b).raise (i := 2)).putRing hr _
    next => exact h

theorem bufferFrame (hp : p < 10) {q : Nat} (hq : q < 16) (bs : List Byte) (d : Dev) : QueueOnly p d (bufferFrame p q bs d).2 := by
  cases hen : ringEn (16 * p + q) d with
  | false =>
    rw [bufferFrame_off hen]
    exact (refl d).countEth (by decide)
  | true =>
    cases hf : (getRing (16 * p + q) d).failed with
    | true =>
      rw [bufferFrame_failed hen hf]
      exact (refl d).countEth (by decide)
    | false =>
      cases ht : takeBuf (16 * p + q) d with
      | none =>
        rw [bufferFrame_empty hen hf ht]
        exact ((refl d).countEth (by decide)).raise
      | some y =>
        obtain ⟨x, -, hput⟩ := takeBuf_some (i := y.1) (e := y.2) ht
        rw [bufferFrame_taken hen hf (i := y.1) (e := y.2) ht, ← hput]
        exact ((refl d).putRing (by omega) x).bufferGiven hp hq _ _

theorem releaseTaken (hp : p < 10) (bs : List Byte) (d : Dev) : QueueOnly p d (releaseTaken p bs d) := by
  unfold Machine.releaseTaken
  split
  next sw q hv =>
    have hq : q < 16 := verdict_queue_lt hv
    have hbuf := bufferFrame hp hq (bs.take (maxLen p d)) d
    split
    next i e he =>
      rw [he] at hbuf
      exact hbuf.giveBuf (by omega) i
    next e he =>
      rw [he] at hbuf
      exact hbuf
  · exact (refl d).countEth (by decide)
  · exact refl d

end QueueOnly

end Sys2Proof.Machine
end

section
/-! ETH_FRAME_RECEIVE: what a frame that fails and a good one leave (R344-R352). -/

namespace Sys2Proof.Machine

/-! ### A frame that fails (R344, R353) -/

/-- The fragments that came, which FRAGS_RX counts (R353). -/
def fragsCounted (p frags : Nat) (d : Dev) : Dev := wf (A.ethCnt p 0x48) 31 0 ((rd (A.ethCnt p 0x48) d).toNat + frags) d

theorem sameButRegs_foldl_countFault (p : Nat) (l : List RxFault) (d : Dev) : SameButRegs d (l.foldl (countFault p) d) :=
  List.foldlRecOn (motive := SameButRegs d) l _ (.refl d) fun e h x _ => h.trans (sameButRegs_countFault p e x)

theorem cutFrame_congr {p : Nat} {d e : Dev} (h : e.swc = d.swc) : cutFrame p e = cutFrame p d := by
  rw [cutFrame, h, cutFrame]

theorem frameReceive_bad {p frags ago : Nat} {bs : List Byte} {fcs code merge : Bool} {d : Dev}
    (h : rxFaults p bs.length fcs code merge d ≠ []) (hc : cutFrame p d = none) :
    let l := rxFaults p bs.length fcs code merge d
    let e := l.foldl (countFault p) (fragsCounted p frags d)
    frameReceive p bs fcs code merge frags ago d =
      if (l.contains .runt || l.contains .merge) = true then e else releaseTaken p bs e := by
  have hswc := (sameButRegs_foldl_countFault p (rxFaults p bs.length fcs code merge d) (fragsCounted p frags d)).swc
  have hcut := (cutFrame_congr (p := p) (hswc.trans (sameButRegs_wf _ _ _ _ d).swc)).trans hc
  unfold fragsCounted at hcut
  simp only [frameReceive, ne_eq, h, not_false_eq_true, if_true, hcut]
  rfl

/-- What a frame that fails leaves: the counter of each failure, and nothing else of the port. -/
theorem frameReceive_bad_effect {p frags ago : Nat} (hp : p < 10) {bs : List Byte} {fcs code merge : Bool} {d : Dev}
    (h : rxFaults p bs.length fcs code merge d ≠ []) (hc : cutFrame p d = none) :
    let t := frameReceive p bs fcs code merge frags ago d
    t.mem = d.mem ∧ t.dsp = d.dsp ∧ t.swc = d.swc ∧ t.eths = d.eths ∧
    ∀ o, o < 0x20 ∨ o = 0x50 → rd (A.ethCnt p o) t =
      rd (A.ethCnt p o) d + word ((rxFaults p bs.length fcs code merge d).countP fun x => faultCnt x = o) := by
  have heq := frameReceive_bad (frags := frags) (ago := ago) h hc
  generalize rxFaults p bs.length fcs code merge d = l at h heq ⊢
  have hsame := (sameButRegs_wf (A.ethCnt p 0x48) 31 0 ((rd (A.ethCnt p 0x48) d).toNat + frags) d).trans
    (sameButRegs_foldl_countFault p l _)
  have hcount (o : Nat) (ho : o < 0x20 ∨ o = 0x50) : rd (A.ethCnt p o) (l.foldl (countFault p) (fragsCounted p frags d)) =
      rd (A.ethCnt p o) d + word (l.countP fun x => faultCnt x = o) := by
    rw [rd_foldl_countFault, fragsCounted, rd_wf_ne _ _ _ _ (ethCnt_ne (by omega))]
  have hqueue : QueueOnly p (l.foldl (countFault p) (fragsCounted p frags d)) (frameReceive p bs fcs code merge frags ago d) := by
    rw [heq]
    split
    · exact .refl _
    · exact .releaseTaken hp bs _
  exact ⟨hqueue.mem.trans hsame.mem, hqueue.dsp.trans hsame.dsp, hqueue.swc.trans hsame.swc, hqueue.eths.trans hsame.eths,
    fun o ho => (hqueue.held _ ⟨o, ho, rfl⟩).trans (hcount o ho)⟩

/-! ### A good frame: what is counted (R346, R350) -/

/-- The frame is counted with its bytes, and takes its number. -/
def rxCounted (p n frags : Nat) (d : Dev) : Dev :=
  modEth p (fun x => { x with rxBytes := x.rxBytes + BitVec.ofNat 64 (n + 4), rseq := (x.rseq + 1) % 65536 })
    (countEth p 0x00 (fragsCounted p frags d))

/-- What counting a good frame of n bytes changes. -/
structure Counted (p n : Nat) (d e : Dev) : Prop where
  frame : { e with regs := d.regs, eths := d.eths } = d
  rd : ∀ a, a ≠ A.ethCnt p 0x48 → a ≠ A.ethCnt p 0 → rd a e = rd a d
  count : Machine.rd (A.ethCnt p 0) e = Machine.rd (A.ethCnt p 0) d + 1
  own : getEth p e = { getEth p d with
    rxBytes := (getEth p d).rxBytes + BitVec.ofNat 64 (n + 4), rseq := ((getEth p d).rseq + 1) % 65536 }
  eth : ∀ q, q ≠ p → getEth q e = getEth q d

theorem modEth_wr_wr_frame (p a b : Nat) (v w : Word) (g : Eth → Eth) (d : Dev) :
    { modEth p g (wr a v (wr b w d)) with regs := d.regs, eths := d.eths } = d := by
  cases d
  rfl

theorem counted_rxCounted (p n frags : Nat) (d : Dev) : Counted p n d (rxCounted p n frags d) := by
  have hframe : { rxCounted p n frags d with regs := d.regs, eths := d.eths } = d := modEth_wr_wr_frame p _ _ _ _ _ d
  have hsame : SameButRegs d (countEth p 0 (fragsCounted p frags d)) := (sameButRegs_wf _ _ _ _ d).trans (sameButRegs_incr _ _ _ _)
  have hrd (a : Nat) (h48 : a ≠ A.ethCnt p 0x48) (h0 : a ≠ A.ethCnt p 0) : rd a (countEth p 0 (fragsCounted p frags d)) = rd a d :=
    (rd_countEth_ne _ h0).trans (rd_wf_ne _ _ _ _ h48)
  have hcount : rd (A.ethCnt p 0) (countEth p 0 (fragsCounted p frags d)) = rd (A.ethCnt p 0) d + 1 := by
    rw [rd_countEth_same, fragsCounted, rd_wf_ne _ _ _ _ (ethCnt_ne (by decide))]
  have hget (q : Nat) : getEth q (countEth p 0 (fragsCounted p frags d)) = getEth q d := congrArg (tabGet ethDefault · q) hsame.eths
  unfold rxCounted at hframe ⊢
  generalize countEth p 0 (fragsCounted p frags d) = e at *
  exact ⟨hframe, hrd, hcount, by rw [getEth_modEth_same, hget], fun q hq => (getEth_modEth_ne _ _ hq).trans (hget q)⟩

namespace Counted

variable {p n : Nat} {d e : Dev}

theorem mem (h : Counted p n d e) : e.mem = d.mem := congrArg (·.mem) h.frame
theorem dsp (h : Counted p n d e) : e.dsp = d.dsp := congrArg (·.dsp) h.frame
theorem swc (h : Counted p n d e) : e.swc = d.swc := congrArg (·.swc) h.frame
theorem tabs (h : Counted p n d e) : e.tabs = d.tabs := congrArg (·.tabs) h.frame
theorem rings (h : Counted p n d e) : e.rings = d.rings := congrArg (·.rings) h.frame
theorem ntm (h : Counted p n d e) : e.ntm = d.ntm := congrArg (·.ntm) h.frame
theorem now (h : Counted p n d e) : e.now = d.now := congrArg (·.now) h.frame
theorem sys (h : Counted p n d e) : e.sys = d.sys := congrArg (·.sys) h.frame

theorem low (h : Counted p n d e) {a : Nat} (ha : a < 0x100C0000) : Machine.rd a e = Machine.rd a d :=
  h.rd a (by unfold A.ethCnt; omega) (by unfold A.ethCnt; omega)

end Counted

/-! ### What classification and the stamp read (R260, R261, R346, R347) -/

section
variable {p n : Nat} {d e : Dev}

theorem verdict_counted (hp : p < 10) (h : Counted p n d e) (bs : List Byte) : verdict p bs e = verdict p bs d := by
  have hptp : rd (A.ntmPtp p 0) e = rd (A.ntmPtp p 0) d := h.low (by unfold A.ntmPtp; omega)
  have hframe : rd (A.ethFrame p) e = rd (A.ethFrame p) d :=
    h.rd _ (by unfold A.ethFrame A.ethCnt; omega) (by unfold A.ethFrame A.ethCnt; omega)
  have hdef : rd (A.ethDefault p) e = rd (A.ethDefault p) d :=
    h.rd _ (by unfold A.ethDefault A.ethCnt; omega) (by unfold A.ethDefault A.ethCnt; omega)
  have hon : rb (A.ntmPtp p 0) 9 e = rb (A.ntmPtp p 0) 9 d := congrArg (bit · 9) hptp
  have hmode : rf (A.ntmPtp p 0) 7 6 e = rf (A.ntmPtp p 0) 7 6 d := congrArg (fld · 7 6) hptp
  have htrap : trapped p bs e = trapped p bs d := by
    unfold trapped
    rw [hon, hmode]
  have hvid : frameVid p bs e = frameVid p bs d := by rw [frameVid, rf, hframe, frameVid, rf]
  have hpcp : framePcp p bs e = framePcp p bs d := by rw [framePcp, rf, hframe, framePcp, rf]
  have hword (r w : Nat) : ruleWord p r w e = ruleWord p r w d := congrArg (tabGet zeroDefault · _) h.tabs
  have hrule (r : Nat) : ruleMatches p r bs e = ruleMatches p r bs d := by
    unfold ruleMatches
    rw [hword, hword, hword, hvid, hpcp]
  have hsteer : steer p bs e = steer p bs d := by simp only [steer, hrule, hword, rf, hdef]
  simp only [verdict, htrap, hsteer]

theorem ethBase_lt (p : Nat) (d : Dev) : ethBase p d < 4 := by
  have hlt := rf_lt A.ntmTsSel (2 * p + 1) (2 * p) d
  rwa [show 2 * p + 1 + 1 - 2 * p = 2 by omega] at hlt

theorem ethBase_counted (h : Counted p n d e) : ethBase p e = ethBase p d := by
  rw [ethBase, rf, h.low (by decide), ethBase, rf]

theorem ingressTb_counted (hp : p < 10) {j : Nat} (hj : j < 4) (h : Counted p n d e) (ago : Nat) :
    ingressTb p j ago e = ingressTb p j ago d := by
  have hrate : rd (A.ntmTb j 0x10) e = rd (A.ntmTb j 0x10) d := h.low (by unfold A.ntmTb; omega)
  have hshift : rd (A.ntmTb j 0x1C) e = rd (A.ntmTb j 0x1C) d := h.low (by unfold A.ntmTb; omega)
  have hlat : rd (A.ntmPtp p 4) e = rd (A.ntmPtp p 4) d := h.low (by unfold A.ntmPtp; omega)
  have hrole : role e = role d := by rw [role, rf, h.low (by decide), role, rf]
  have hbase : tbGet j e = tbGet j d := congrArg (·.tb.getD j ⟨0, 0, 0, 0, 0, []⟩) h.ntm
  have hslew : slewShift j e = slewShift j d := by
    unfold slewShift
    rw [rf, hshift, hrole, ← rf]
  have haddend : tbAddend j e = tbAddend j d := by rw [tbAddend, rateOf, hrate, hslew, hbase, tbAddend, rateOf]
  unfold ingressTb tbAt
  rw [hbase, h.ntm, h.now, haddend, hlat]

theorem ethStamp_seq (p r : Nat) (t : TimeBase) (d : Dev) : ethStamp p (((r + 1) % 65536 + 65535) % 65536) t d = ethStamp p r t d := by
  have hseq : ((r + 1) % 65536 + 65535) % 65536 % 65536 = r % 65536 := by omega
  rw [ethStamp, ethStamp, stampOf, stampOf, hseq]

/-- The stamp of the frame that was just counted. -/
theorem ethStamp_counted (hp : p < 10) (h : Counted p n d e) (ago : Nat) :
    ethStamp p (((getEth p e).rseq + 65535) % 65536) (ingressTb p (ethBase p e) ago e) e =
      ethStamp p (getEth p d).rseq (ingressTb p (ethBase p d) ago d) d := by
  have hown : (getEth p e).rseq = ((getEth p d).rseq + 1) % 65536 := congrArg (·.rseq) h.own
  rw [hown, ethStamp_seq, ethBase_counted h, ingressTb_counted hp (ethBase_lt p d) h]
  simp only [ethStamp, ethBase_counted h]

end

end Sys2Proof.Machine
end

section
/-! Where a good frame goes: consumed, dropped, to the switch, or into a receive buffer (R346-R352). -/

namespace Sys2Proof.Machine

/-- The stamp of the frame that was just counted. -/
def rxStamp (p ago : Nat) (d : Dev) : Stamp :=
  ethStamp p (((getEth p d).rseq + 65535) % 65536) (ingressTb p (ethBase p d) ago d) d

/-- The frame as the switch receives it. -/
def rxFrame (p : Nat) (bs : List Byte) (ago : Nat) (d : Dev) : Frame :=
  macFrame p bs (rxStamp p ago d) (ingressTb p 0 ago d) ago d

section
variable {p frags ago : Nat} {bs : List Byte} {d : Dev}

theorem frameReceive_control (h : rxFaults p bs.length true false false d = [])
    (hv : verdict p bs (rxCounted p bs.length frags d) = .control) :
    frameReceive p bs true false false frags ago d = countEth p 0x1C (rxCounted p bs.length frags d) := by
  unfold rxCounted fragsCounted at hv ⊢
  simp only [frameReceive, h, ne_eq, not_true_eq_false, if_false, hv]

theorem frameReceive_drop (h : rxFaults p bs.length true false false d = [])
    (hv : verdict p bs (rxCounted p bs.length frags d) = .drop) :
    frameReceive p bs true false false frags ago d = countEth p 0x20 (rxCounted p bs.length frags d) := by
  unfold rxCounted fragsCounted at hv ⊢
  simp only [frameReceive, h, ne_eq, not_true_eq_false, if_false, hv]

theorem frameReceive_trap (h : rxFaults p bs.length true false false d = [])
    (hv : verdict p bs (rxCounted p bs.length frags d) = .trap) :
    frameReceive p bs true false false frags ago d =
      toSwitch { rxFrame p bs ago (rxCounted p bs.length frags d) with trap := true } (rxCounted p bs.length frags d) := by
  unfold rxFrame rxStamp rxCounted fragsCounted at *
  simp only [frameReceive, h, ne_eq, not_true_eq_false, if_false, hv]

theorem frameReceive_switch (h : rxFaults p bs.length true false false d = [])
    (hv : verdict p bs (rxCounted p bs.length frags d) = .action true none)
    (hc : cutFrame p (rxCounted p bs.length frags d) = none) :
    frameReceive p bs true false false frags ago d =
      toSwitch (rxFrame p bs ago (rxCounted p bs.length frags d)) (rxCounted p bs.length frags d) := by
  unfold rxFrame rxStamp rxCounted fragsCounted at *
  simp only [frameReceive, h, ne_eq, not_true_eq_false, if_false, hv, hc, Bool.not_true, Bool.false_eq_true]

theorem frameReceive_queue {q : Nat} (h : rxFaults p bs.length true false false d = [])
    (hv : verdict p bs (rxCounted p bs.length frags d) = .action false (some q)) :
    frameReceive p bs true false false frags ago d =
      queueFrame p q bs (rxStamp p ago (rxCounted p bs.length frags d)) (ingressTb p 0 ago (rxCounted p bs.length frags d))
        (rxCounted p bs.length frags d) := by
  unfold rxStamp rxCounted fragsCounted at *
  simp only [frameReceive, h, ne_eq, not_true_eq_false, if_false, hv, Bool.not_false, if_true]

end

/-! ### The ring's registers -/

theorem getRing_putRing (r : Nat) (x : Ring) (d : Dev) : getRing r (putRing r x d) = x := by
  have hsame := sameButRegs_showRing r { d with rings := tabSet ringDefault d.rings r x }
  exact (congrArg (tabGet ringDefault · r) (congrArg (·.rings) hsame)).trans (tabGet_tabSet_same _ _ _ _)

/-- What the words of a ring say. -/
theorem ring_congr {r : Nat} {d e : Dev} (hctl : rd (ringCtl r) e = rd (ringCtl r) d)
    (hbase : rd (ringCtl r + 4) e = rd (ringCtl r + 4) d) : ringEn r e = ringEn r d ∧ ringCount r e = ringCount r d ∧
    ringSize r e = ringSize r d ∧ ∀ i, bufAddr r i e = bufAddr r i d := by
  have hsize : ringSize r e = ringSize r d := by rw [ringSize, rf, hctl, ringSize, rf]
  refine ⟨congrArg (bit · 31) hctl, by rw [ringCount, rf, hctl, ringCount, rf], hsize, fun i => ?_⟩
  rw [bufAddr, ringBase, hbase, hsize, bufAddr, ringBase]

theorem ringCtl_ne {r : Nat} (h : r < 160) : ringCtl r ≠ ringLvl r ∧ ringCtl r + 4 ≠ ringLvl r ∧
    ∀ p o, o < 0x60 → ringCtl r ≠ A.ethCnt p o ∧ ringCtl r + 4 ≠ A.ethCnt p o := by
  rw [ringCtl, if_pos h, ringLvl, if_pos h]
  unfold A.ethRxq A.ethCnt
  refine ⟨by omega, by omega, fun p o ho => ⟨by omega, by omega⟩⟩

/-! ### The write of the frame (R130, R352) -/

/-- The master code of the switch reaches the shared SRAM only (R127). -/
theorem permitted_switch (r : Region) (d : Dev) : permitted 21 true false r d = decide (r = .sram) := by
  cases r <;> rfl

theorem ite_ne_of_ne {α : Type} {c : Prop} [Decidable c] {x y r : α} (hx : x ≠ r) (hy : y ≠ r) : (if c then x else y) ≠ r := by
  split
  · exact hx
  · exact hy

theorem sram_bounds {a : Nat} (h : region a = .sram) : 0x04000000 ≤ a ∧ a < 0x05000000 := by
  by_contra hn
  revert h
  unfold region
  rw [if_neg hn]
  dsimp only
  repeat' apply ite_ne_of_ne
  all_goals nofun

theorem banksReady_sram {a : Nat} (h : region a = .sram) (d : Dev) : banksReady a d = bankReady ((a - 0x04000000) / 0x80000) d := by
  simp only [banksReady, banksOf, h, List.all_cons, List.all_nil, Bool.and_true]

theorem accessFail_switch_congr {a : Nat} {d e : Dev} (h : ∀ b, b < 0x100C0000 → rd b e = rd b d) :
    accessFail 21 true false a e = accessFail 21 true false a d := by
  by_cases hr : region a = .sram
  · have hcom : committed e = committed d := committed_congr (h _ (by decide))
    have hpool : poolBank e = poolBank d := by rw [poolBank, rf, h _ (by decide), poolBank, rf]
    obtain ⟨hlo, hhi⟩ := sram_bounds hr
    have hrdy : rd (A.sysBankRdy ((a - 0x04000000) / 0x80000 / 32)) e = rd (A.sysBankRdy ((a - 0x04000000) / 0x80000 / 32)) d :=
      h _ (by unfold A.sysBankRdy; omega)
    have hbank : banksReady a e = banksReady a d := by
      rw [banksReady_sram hr, bankReady, rb, hrdy, banksReady_sram hr, bankReady, rb]
    have hdeny : poolDenied 21 true a e = poolDenied 21 true a d := by rw [poolDenied, hcom, hpool, poolDenied]
    rw [accessFail, accessFail, hr, permitted_switch, permitted_switch, hbank, hdeny]
  · rw [accessFail, accessFail, permitted_switch, permitted_switch, decide_eq_false hr]
    rfl

theorem macWriteFail_congr {a n : Nat} {d e : Dev} (h : ∀ b, b < 0x100C0000 → rd b e = rd b d) :
    macWriteFail a n e = macWriteFail a n d := by
  rw [macWriteFail, accessFail_switch_congr h, accessFail_switch_congr h, macWriteFail]

/-- A frame that can be written lies in the shared SRAM. -/
theorem sram_of_macWriteFail {a n : Nat} {d : Dev} (h : macWriteFail a n d = none) : 0x04000000 ≤ a := by
  have hfail : accessFail 21 true false a d = none := by
    unfold macWriteFail at h
    split at h
    · exact absurd h (by simp)
    next hnone => exact hnone
  by_contra hlo
  have hr : region a ≠ .sram := fun hr => hlo (sram_bounds hr).1
  simp only [accessFail, permitted_switch, hr, decide_false, Bool.not_false, Bool.true_or, if_true] at hfail
  split at hfail <;> exact absurd hfail (by simp)

/-! ### Into a buffer (R349-R351) -/

/-- An item of a receive queue enters the arrival queue. -/
theorem offerItem_received {it : Item} {d : Dev} (hs : d.sys.mode = .service) (hen : rb A.schCtrl 0 d = true)
    (hroom : d.dsp.arrival.length < 16) (hw : d.dsp.waiting = []) (h1 : it.src = 1) :
    offerItem it d = modDsp (fun q => { q with arrival := q.arrival ++ [it] }) d := by
  have hon : inService d = true := decide_eq_true hs
  have htaken (e : Dev) : itemTaken it e = e := by
    unfold itemTaken
    rw [h1, if_neg (by decide), if_neg (by simp), if_neg (by simp)]
  unfold offerItem
  rw [hen, if_neg (by simp), if_pos ⟨hroom, hw, hon⟩, htaken]

/-- The item of a frame in buffer address a. -/
def rxItem (p q a : Nat) (bs : List Byte) (ts : TimeBase) (d : Dev) : Item :=
  { newItem 1 (rf (ringCtl (16 * p + q)) 11 0 d) (256 * p + q) (bs.take 64) bs.length (word a) d with ts := ts.ns64, epoch := ts.epoch }

theorem queueFrame_none {p q : Nat} {bs : List Byte} {x : Stamp} {ts : TimeBase} {d e : Dev} (h : bufferFrame p q bs d = (none, e)) :
    queueFrame p q bs x ts d = e := by
  simp only [queueFrame, h]

theorem queueFrame_some {p q i : Nat} {bs : List Byte} {x : Stamp} {ts : TimeBase} {d e : Dev}
    (h : bufferFrame p q bs d = (some i, e)) (hw : e.dsp.waiting = []) :
    let f := memPut (bufAddr (16 * p + q) i e) (x.bytes ++ bs) e
    queueFrame p q bs x ts d = offerItem (rxItem p q (bufAddr (16 * p + q) i e) bs ts f) f := by
  have hwait : portWaiting p (memPut (bufAddr (16 * p + q) i e) (x.bytes ++ bs) e) = 0 := by
    rw [portWaiting, show (memPut (bufAddr (16 * p + q) i e) (x.bytes ++ bs) e).dsp = e.dsp from rfl, hw]
    rfl
  simp only [queueFrame, h, hwait]
  rfl

/-- A ring that gave a buffer: its words stand, and so do the registers below the ports. -/
structure RingTaken (r : Nat) (x : Ring) (d e : Dev) : Prop where
  ring : getRing r e = x
  sys : e.sys = d.sys
  low : ∀ a, a < 0x100C0000 → rd a e = rd a d
  ctl : rd (ringCtl r) e = rd (ringCtl r) d
  base : rd (ringCtl r + 4) e = rd (ringCtl r + 4) d

theorem ringTaken_putRing {r : Nat} (hr : r < 160) (x : Ring) (d : Dev) : RingTaken r x d (putRing r x d) where
  ring := getRing_putRing r x d
  sys := (sameButRegs_showRing r { d with rings := tabSet ringDefault d.rings r x }).sys
  low a ha := rd_putRing_ne x d (by rw [ringLvl, if_pos hr]; unfold A.ethRxq; omega)
  ctl := rd_putRing_ne x d (ringCtl_ne hr).1
  base := rd_putRing_ne x d (ringCtl_ne hr).2.1

theorem length_stampBytes (x : Stamp) : x.bytes.length = 16 := by
  simp [Stamp.bytes, length_leBytes]

/-- Memory after a frame with its stamp was written. -/
theorem memByte_memPut_frame {a : Nat} (x : Stamp) (bs : List Byte) (d : Dev) (ha : 0x04000000 ≤ a) (b : Nat) :
    memByte b (memPut a (x.bytes ++ bs) d) = if a + 16 ≤ b ∧ b < a + 16 + bs.length then bs.getD (b - a - 16) 0
      else if a ≤ b ∧ b < a + 16 then x.bytes.getD (b - a) 0 else memByte b d := by
  have hlen := length_stampBytes x
  by_cases hb : 0x20000 ≤ b
  · rw [memByte_memPut _ _ _ _ hb, List.length_append, hlen]
    by_cases hbody : a + 16 ≤ b ∧ b < a + 16 + bs.length
    · rw [if_pos (by omega), if_pos hbody, List.getD_append_right _ _ _ _ (by omega), hlen]
    · rw [if_neg hbody]
      by_cases hhead : a ≤ b ∧ b < a + 16
      · rw [if_pos (by omega), if_pos hhead, List.getD_append _ _ _ _ (by omega)]
      · rw [if_neg (by omega), if_neg hhead]
  · rw [if_neg (by omega), if_neg (by omega), memByte, if_pos (by omega), memByte, if_pos (by omega)]

/-- The frame is in its buffer, and its item in the arrival queue. -/
def rxPosted (p q a : Nat) (bs : List Byte) (st : Stamp) (ts : TimeBase) (d : Dev) : Dev :=
  let f := memPut a (st.bytes ++ bs) d
  modDsp (fun x => { x with arrival := x.arrival ++ [rxItem p q a bs ts f] }) f

theorem rxPosted_frame (p q a : Nat) (bs : List Byte) (st : Stamp) (ts : TimeBase) (d : Dev) :
    let t := rxPosted p q a bs st ts d
    t.swc = d.swc ∧ t.eths = d.eths ∧ (∀ b, rd b t = rd b d) ∧ ringFree (16 * p + q) t = ringFree (16 * p + q) d ∧
    t.dsp = { d.dsp with arrival := d.dsp.arrival ++ [rxItem p q a bs ts (memPut a (st.bytes ++ bs) d)] } ∧
    t.mem = (memPut a (st.bytes ++ bs) d).mem :=
  ⟨rfl, rfl, fun _ => rfl, rfl, rfl, rfl⟩

/-- What a frame in its buffer leaves. -/
theorem queueFrame_delivers {p q i : Nat} {x : Ring} {bs : List Byte} {st : Stamp} {ts : TimeBase} {d : Dev} (hp : p < 10)
    (hq : q < 16) (hen : ringEn (16 * p + q) d = true) (hf : (getRing (16 * p + q) d).failed = false)
    (hnext : nextBuf (ringCount (16 * p + q) d) (getRing (16 * p + q) d) = some (i, x))
    (hfit : bs.length + 16 ≤ ringSize (16 * p + q) d)
    (hmac : macWriteFail (bufAddr (16 * p + q) i d) (16 + bs.length) d = none) (hs : d.sys.mode = .service)
    (hsch : rb A.schCtrl 0 d = true) (hroom : d.dsp.arrival.length < 16) (hw : d.dsp.waiting = []) :
    let r := 16 * p + q
    let a := bufAddr r i d
    let t := queueFrame p q bs st ts d
    t.swc = d.swc ∧ t.eths = d.eths ∧ rd (A.ethCnt p 0) t = rd (A.ethCnt p 0) d ∧ ringFree r t + 1 = ringFree r d ∧
    (∃ it, t.dsp = { d.dsp with arrival := d.dsp.arrival ++ [it] } ∧ it.src = 1 ∧ it.flow = rf (ringCtl r) 11 0 d ∧
      it.arg = 256 * p + q ∧ it.buf = word a ∧ it.len = bs.length ∧ it.head = bs.take 64) ∧
    ∀ b, memByte b t = if a + 16 ≤ b ∧ b < a + 16 + bs.length then bs.getD (b - a - 16) 0
      else if a ≤ b ∧ b < a + 16 then st.bytes.getD (b - a) 0 else memByte b d := by
  have hr : 16 * p + q < 160 := by omega
  have htake : takeBuf (16 * p + q) d = some (i, putRing (16 * p + q) x d) := by rw [takeBuf_eq, hnext]; rfl
  have hbuf := bufferFrame_taken (bs := bs) hen hf htake
  have hring := ringTaken_putRing hr x d
  have hkeep : QueueOnly p d (putRing (16 * p + q) x d) := (QueueOnly.refl d).putRing hr x
  generalize putRing (16 * p + q) x d = e at hbuf hring hkeep
  obtain ⟨-, hcount, hsize, haddr⟩ := ring_congr hring.ctl hring.base
  have hbuf' : bufferFrame p q bs d = (some i, e) := by
    have hmac' : macWriteFail (bufAddr (16 * p + q) i e) (16 + bs.length) e = none := by
      rw [haddr, macWriteFail_congr hring.low]
      exact hmac
    rw [hbuf, bufferGiven, hsize, if_neg (by omega), hmac']
  have heq := queueFrame_some (x := st) (ts := ts) hbuf' (by rw [hkeep.dsp]; exact hw)
  dsimp only at heq ⊢
  rw [haddr] at heq
  have hoffer := offerItem_received (it := rxItem p q (bufAddr (16 * p + q) i d) bs ts (memPut (bufAddr (16 * p + q) i d) (st.bytes ++ bs) e))
    (d := memPut (bufAddr (16 * p + q) i d) (st.bytes ++ bs) e) ((congrArg (·.mode) hring.sys).trans hs)
    ((congrArg (bit · 0) (hring.low _ (by decide))).trans hsch) (by rw [← hkeep.dsp] at hroom; exact hroom)
    (by rw [← hkeep.dsp] at hw; exact hw) rfl
  have hposted : queueFrame p q bs st ts d = rxPosted p q (bufAddr (16 * p + q) i d) bs st ts e := heq.trans hoffer
  rw [hposted]
  obtain ⟨hswc, heths, hregs, hfree, hdsp, hmem⟩ := rxPosted_frame p q (bufAddr (16 * p + q) i d) bs st ts e
  refine ⟨hswc.trans hkeep.swc, heths.trans hkeep.eths, ?_, ?_, ⟨_, hdsp.trans (by rw [hkeep.dsp]), rfl,
    congrArg (fld · 11 0) hring.ctl, rfl, rfl, rfl, ?_⟩, fun b => ?_⟩
  · exact (hregs _).trans (hkeep.held _ ⟨0, by decide, rfl⟩)
  · rw [hfree, ringFree, hcount, hring.ring, ringFree]
    exact nextBuf_free hnext
  · exact (List.take_take ..).trans (by rw [Nat.min_self])
  · have hbyte : memByte b e = memByte b d := by rw [memByte, hkeep.mem, memByte]
    rw [memByte, hmem, ← memByte, ← hbyte]
    exact memByte_memPut_frame st bs e (sram_of_macWriteFail hmac) b

end Sys2Proof.Machine
end

section
/-! ETH_FRAME_RECEIVE as a command (R344-R352). -/

namespace Sys2Proof.Machine

theorem exec_ethFrameReceive (p : Fin 10) (bs : List Byte) (fcs code merge : Bool) (frags ago : Nat) (s : State) :
    exec (.ethFrameReceive p bs fcs code merge frags ago) s = .next { s with
      dev := when (inService s.dev && ((getEth p s.dev).link = .up ||
          (code && ((getEth p s.dev).link ≠ .off || (cutFrame p s.dev).isSome))))
        (frameReceive p bs fcs code merge frags ago) s.dev } := rfl

section
variable {p : Fin 10} {bs : List Byte} {fcs code merge : Bool} {frags ago : Nat} {s : State}

theorem ethFrameReceive_idle (h : s.dev.sys.mode ≠ .service ∨ ((getEth p s.dev).link ≠ .up ∧
      (code = false ∨ ((getEth p s.dev).link = .off ∧ cutFrame p s.dev = none)))) :
    exec (.ethFrameReceive p bs fcs code merge frags ago) s = .next s := by
  rw [exec_ethFrameReceive, when_of_not]
  obtain hs | ⟨hup, rfl | ⟨hoff, hc⟩⟩ := h
  · rw [inService, decide_eq_false hs, Bool.false_and]
  · rw [decide_eq_false hup, Bool.false_and, Bool.or_self, Bool.and_false]
  · rw [hc, hoff]
    cases code <;> simp

theorem exec_ethFrameReceive_runs (hs : s.dev.sys.mode = .service)
    (hl : (getEth p s.dev).link = .up ∨ (code = true ∧ (getEth p s.dev).link ≠ .off)) :
    exec (.ethFrameReceive p bs fcs code merge frags ago) s =
      .next { s with dev := frameReceive p bs fcs code merge frags ago s.dev } := by
  rw [exec_ethFrameReceive, when_of]
  rw [inService, decide_eq_true hs]
  obtain hup | ⟨rfl, hoff⟩ := hl
  · rw [decide_eq_true hup, Bool.true_or, Bool.and_self]
  · simp [hoff]

theorem word_toNat_bool (b : Bool) : word b.toNat = if b = true then 1 else 0 := by cases b <;> rfl

/-- A frame that fails (R344). -/
theorem ethFrameReceive_fails (hs : s.dev.sys.mode = .service)
    (hl : (getEth p s.dev).link = .up ∨ (code = true ∧ (getEth p s.dev).link ≠ .off)) (hc : cutFrame p s.dev = none)
    (hbad : merge = true ∨ bs.length + 4 < 64 ∨ maxLen p s.dev < bs.length + 4 ∨ code = true ∨ fcs = false) :
    let counts (o : Nat) (c : Bool) (t : State) : Prop :=
      rd (A.ethCnt p o) t.dev = rd (A.ethCnt p o) s.dev + if c then 1 else 0
    ∃ t, exec (.ethFrameReceive p bs fcs code merge frags ago) s = .next t ∧ PortOthers p s t ∧
      getEth p t.dev = getEth p s.dev ∧ t.dev.swc = s.dev.swc ∧ counts 0 false t ∧ counts 0x50 merge t ∧
      counts 0x0C (!merge && decide (bs.length + 4 < 64)) t ∧ counts 0x18 (!merge && code) t ∧
      counts 0x14 (!merge && decide (maxLen p s.dev < bs.length + 4)) t ∧
      counts 0x10 (!merge && !decide (maxLen p s.dev < bs.length + 4) && !fcs) t := by
  have hne : rxFaults p bs.length fcs code merge s.dev ≠ [] := by
    rw [Ne, rxFaults_eq_nil_iff]
    rintro ⟨hm, hr, hco, hg, hf⟩
    rw [hm, hco, hf] at hbad
    simp [hr, hg] at hbad
  obtain ⟨hmem, hdsp, hswc, heths, hcnt⟩ := frameReceive_bad_effect (frags := frags) (ago := ago) p.isLt hne hc
  obtain ⟨h0, h50, hC, h18, h14, h10⟩ := countP_rxFaults p bs.length fcs code merge s.dev
  have hget (q : Nat) : getEth q (frameReceive p bs fcs code merge frags ago s.dev) = getEth q s.dev :=
    congrArg (tabGet ethDefault · q) heths
  have hcounts {o : Nat} {c : Bool} (ho : o < 0x20 ∨ o = 0x50)
      (hn : ((rxFaults p bs.length fcs code merge s.dev).countP fun x => faultCnt x = o) = c.toNat) :
      rd (A.ethCnt p o) (frameReceive p bs fcs code merge frags ago s.dev) = rd (A.ethCnt p o) s.dev + if c then 1 else 0 := by
    rw [hcnt o ho, hn, word_toNat_bool]
  exact ⟨_, exec_ethFrameReceive_runs hs hl, ⟨rfl, hmem, hdsp, fun q _ _ => hget q⟩, hget p, hswc,
    hcounts (c := false) (.inl (by decide)) h0, hcounts (.inr rfl) h50, hcounts (.inl (by decide)) hC,
    hcounts (.inl (by decide)) h18, hcounts (.inl (by decide)) h14, hcounts (.inl (by decide)) h10⟩

end

/-! ### Good frames -/

/-- A good frame is counted, with its bytes and its number. -/
def Taken (p : Nat) (bs : List Byte) (s t : State) : Prop :=
  rd (A.ethCnt p 0) t.dev = rd (A.ethCnt p 0) s.dev + 1 ∧ t.fuses = s.fuses ∧
  getEth p t.dev = { getEth p s.dev with
    rxBytes := (getEth p s.dev).rxBytes + BitVec.ofNat 64 (bs.length + 4), rseq := ((getEth p s.dev).rseq + 1) % 65536 }

theorem Counted.portOnly {p n : Nat} {d e : Dev} (h : Counted p n d e) : PortOnly p d e :=
  ⟨h.mem, h.dsp, h.now, congrArg (·.out) h.frame, h.eth⟩

section
variable {p : Nat} {bs : List Byte} {s : State} {c : Dev}

/-- After a good frame was counted, one more counter rises. -/
theorem counted_countEth (h : Counted p bs.length s.dev c) {o : Nat} (h0 : o ≠ 0) (h48 : o ≠ 0x48) :
    let t : State := { s with dev := countEth p o c }
    Taken p bs s t ∧ PortOthers p s t ∧ t.dev.swc = s.dev.swc ∧ rd (A.ethCnt p o) t.dev = rd (A.ethCnt p o) s.dev + 1 := by
  have hsame : SameButRegs c (countEth p o c) := sameButRegs_incr _ _ _ _
  refine ⟨⟨(rd_countEth_ne c (ethCnt_ne (Ne.symm h0))).trans h.count, rfl, (congrArg (tabGet ethDefault · p) hsame.eths).trans h.own⟩,
    (h.portOnly.trans (.ofRegs hsame)).others, hsame.swc.trans h.swc, ?_⟩
  exact (rd_countEth_same p o c).trans (congrArg (· + 1) (h.rd _ (ethCnt_ne h48) (ethCnt_ne h0)))

/-- After a good frame was counted, the switch receives it. -/
theorem counted_toSwitch (h : Counted p bs.length s.dev c) (f : Frame) :
    let t : State := { s with dev := toSwitch f c }
    Taken p bs s t ∧ PortOthers p s t ∧ t.dev.swc = { s.dev.swc with
      inbound := s.dev.swc.inbound ++ [{ f with id := s.dev.swc.nextId }], nextId := s.dev.swc.nextId + 1 } := by
  have honly : PortOnly p c (toSwitch f c) := ⟨rfl, rfl, rfl, rfl, fun _ _ => rfl⟩
  refine ⟨⟨h.count, rfl, h.own⟩, (h.portOnly.trans honly).others, ?_⟩
  rw [← h.swc]
  rfl

end

section
variable {p : Fin 10} {bs : List Byte} {frags ago : Nat} {s : State}

/-- A good frame of port p (R344). -/
structure RxGood (p : Nat) (bs : List Byte) (d : Dev) : Prop where
  mode : d.sys.mode = .service
  link : (getEth p d).link = .up
  faults : rxFaults p bs.length true false false d = []

theorem exec_rxGood (h : RxGood p bs s.dev) : exec (.ethFrameReceive p bs true false false frags ago) s =
    .next { s with dev := frameReceive p bs true false false frags ago s.dev } := exec_ethFrameReceive_runs h.mode (.inl h.link)

theorem ethFrameReceive_control (h : RxGood p bs s.dev) (hv : verdict p bs s.dev = .control) :
    ∃ t, exec (.ethFrameReceive p bs true false false frags ago) s = .next t ∧ Taken p bs s t ∧ PortOthers p s t ∧
      t.dev.swc = s.dev.swc ∧ rd (A.ethCnt p 0x1C) t.dev = rd (A.ethCnt p 0x1C) s.dev + 1 := by
  have hc := counted_rxCounted p bs.length frags s.dev
  have hexec := exec_rxGood (frags := frags) (ago := ago) h
  rw [frameReceive_control h.faults ((verdict_counted p.isLt hc bs).trans hv)] at hexec
  exact ⟨_, hexec, counted_countEth hc (by decide) (by decide)⟩

theorem ethFrameReceive_drop (h : RxGood p bs s.dev) (hv : verdict p bs s.dev = .drop) :
    ∃ t, exec (.ethFrameReceive p bs true false false frags ago) s = .next t ∧ Taken p bs s t ∧ PortOthers p s t ∧
      t.dev.swc = s.dev.swc ∧ rd (A.ethCnt p 0x20) t.dev = rd (A.ethCnt p 0x20) s.dev + 1 := by
  have hc := counted_rxCounted p bs.length frags s.dev
  have hexec := exec_rxGood (frags := frags) (ago := ago) h
  rw [frameReceive_drop h.faults ((verdict_counted p.isLt hc bs).trans hv)] at hexec
  exact ⟨_, hexec, counted_countEth hc (by decide) (by decide)⟩

/-- A trapped frame, and one for the switch alone (R346, R359). -/
theorem ethFrameReceive_switch (h : RxGood p bs s.dev) (hcut : cutFrame p s.dev = none)
    (hv : verdict p bs s.dev = .trap ∨ verdict p bs s.dev = .action true none) :
    ∃ t f, exec (.ethFrameReceive p bs true false false frags ago) s = .next t ∧ Taken p bs s t ∧ PortOthers p s t ∧
      t.dev.swc = { s.dev.swc with inbound := s.dev.swc.inbound ++ [f], nextId := s.dev.swc.nextId + 1 } ∧
      f.bytes = bs ∧ f.port = p ∧ f.good = true ∧ f.trap = decide (verdict p bs s.dev = .trap) ∧
      f.stamp = ethStamp p (getEth p s.dev).rseq (ingressTb p (ethBase p s.dev) ago s.dev) s.dev := by
  have hc := counted_rxCounted p bs.length frags s.dev
  have hexec := exec_rxGood (frags := frags) (ago := ago) h
  have hstamp := ethStamp_counted p.isLt hc ago
  have hcut' := (cutFrame_congr (p := p) hc.swc).trans hcut
  have hverdict := verdict_counted p.isLt hc bs
  obtain hv | hv := hv
  · rw [frameReceive_trap h.faults (hverdict.trans hv)] at hexec
    obtain ⟨htaken, hothers, hswc⟩ := counted_toSwitch hc { rxFrame p bs ago (rxCounted p bs.length frags s.dev) with trap := true }
    exact ⟨_, _, hexec, htaken, hothers, hswc, rfl, rfl, rfl, (decide_eq_true hv).symm, hstamp⟩
  · rw [frameReceive_switch h.faults (hverdict.trans hv) hcut'] at hexec
    obtain ⟨htaken, hothers, hswc⟩ := counted_toSwitch hc (rxFrame p bs ago (rxCounted p bs.length frags s.dev))
    exact ⟨_, _, hexec, htaken, hothers, hswc, rfl, rfl, rfl, (decide_eq_false (by rw [hv]; simp)).symm, hstamp⟩

/-! #### A receive queue (R349-R352) -/

/-- The counting of a frame leaves the ring's words and its buffers. -/
theorem ring_counted {r n : Nat} {d e : Dev} (hr : r < 160) (h : Counted p n d e) : getRing r e = getRing r d ∧
    ringEn r e = ringEn r d ∧ ringCount r e = ringCount r d ∧ ringSize r e = ringSize r d ∧
    (∀ i, bufAddr r i e = bufAddr r i d) ∧ rd (ringCtl r) e = rd (ringCtl r) d := by
  obtain ⟨-, -, hfar⟩ := ringCtl_ne hr
  have hctl := h.rd _ (hfar p 0x48 (by decide)).1 (hfar p 0 (by decide)).1
  obtain ⟨hen, hcount, hsize, haddr⟩ := ring_congr hctl (h.rd _ (hfar p 0x48 (by decide)).2 (hfar p 0 (by decide)).2)
  exact ⟨congrArg (tabGet ringDefault · r) h.rings, hen, hcount, hsize, haddr, hctl⟩

theorem exec_rxQueue {q : Fin 16} (h : RxGood p bs s.dev) (hv : verdict p bs s.dev = .action false (some q.val)) :
    let c := rxCounted p bs.length frags s.dev
    exec (.ethFrameReceive p bs true false false frags ago) s =
      .next { s with dev := queueFrame p q bs (rxStamp p ago c) (ingressTb p 0 ago c) c } := by
  have hc := counted_rxCounted p bs.length frags s.dev
  have hexec := exec_rxGood (frags := frags) (ago := ago) h
  rwa [frameReceive_queue h.faults ((verdict_counted p.isLt hc bs).trans hv)] at hexec

variable {q : Fin 16}

theorem ethFrameReceive_ringOff (h : RxGood p bs s.dev) (hv : verdict p bs s.dev = .action false (some q.val))
    (hoff : ringEn (16 * p.val + q.val) s.dev = false) :
    ∃ t, exec (.ethFrameReceive p bs true false false frags ago) s = .next t ∧ Taken p bs s t ∧ PortOthers p s t ∧
      rd (A.ethCnt p 0x20) t.dev = rd (A.ethCnt p 0x20) s.dev + 1 := by
  have hc := counted_rxCounted p bs.length frags s.dev
  have hexec := exec_rxQueue (frags := frags) (ago := ago) h hv
  obtain ⟨-, hen, -⟩ := ring_counted (r := 16 * p.val + q.val) (by omega) hc
  dsimp only at hexec
  rw [queueFrame_none (bufferFrame_off (hen.trans hoff))] at hexec
  obtain ⟨htaken, hothers, -, hcnt⟩ := counted_countEth hc (o := 0x20) (by decide) (by decide)
  exact ⟨_, hexec, htaken, hothers, hcnt⟩

theorem ethFrameReceive_ringFailed (h : RxGood p bs s.dev) (hv : verdict p bs s.dev = .action false (some q.val))
    (hon : ringEn (16 * p.val + q.val) s.dev = true) (hf : (getRing (16 * p.val + q.val) s.dev).failed = true) :
    ∃ t, exec (.ethFrameReceive p bs true false false frags ago) s = .next t ∧ Taken p bs s t ∧ PortOthers p s t ∧
      rd (A.ethCnt p 0x24) t.dev = rd (A.ethCnt p 0x24) s.dev + 1 := by
  have hc := counted_rxCounted p bs.length frags s.dev
  have hexec := exec_rxQueue (frags := frags) (ago := ago) h hv
  obtain ⟨hring, hen, -⟩ := ring_counted (r := 16 * p.val + q.val) (by omega) hc
  dsimp only at hexec
  rw [queueFrame_none (bufferFrame_failed (hen.trans hon) (by rw [hring]; exact hf))] at hexec
  obtain ⟨htaken, hothers, -, hcnt⟩ := counted_countEth hc (o := 0x24) (by decide) (by decide)
  exact ⟨_, hexec, htaken, hothers, hcnt⟩

theorem takeBuf_none_iff (r : Nat) (d : Dev) : takeBuf r d = none ↔ nextBuf (ringCount r d) (getRing r d) = none := by
  rw [takeBuf_eq, Option.map_eq_none_iff]

theorem ethFrameReceive_ringEmpty (h : RxGood p bs s.dev) (hv : verdict p bs s.dev = .action false (some q.val))
    (hon : ringEn (16 * p.val + q.val) s.dev = true) (hf : (getRing (16 * p.val + q.val) s.dev).failed = false)
    (hno : takeBuf (16 * p.val + q.val) s.dev = none) :
    ∃ t, exec (.ethFrameReceive p bs true false false frags ago) s = .next t ∧ Taken p bs s t ∧ PortOthers p s t ∧
      rd (A.ethCnt p 0x24) t.dev = rd (A.ethCnt p 0x24) s.dev + 1 ∧ rb (A.ethStat p) 1 t.dev = true := by
  have hc := counted_rxCounted p bs.length frags s.dev
  have hexec := exec_rxQueue (frags := frags) (ago := ago) h hv
  obtain ⟨hring, hen, hcount, -⟩ := ring_counted (r := 16 * p.val + q.val) (by omega) hc
  have hno' : takeBuf (16 * p.val + q.val) (rxCounted p bs.length frags s.dev) = none := by
    rw [takeBuf_none_iff, hcount, hring, ← takeBuf_none_iff]
    exact hno
  dsimp only at hexec
  rw [queueFrame_none (bufferFrame_empty (hen.trans hon) (by rw [hring]; exact hf) hno')] at hexec
  obtain ⟨⟨h0, -, hget⟩, hothers, -, hcnt⟩ := counted_countEth hc (o := 0x24) (by decide) (by decide)
  generalize countEth p 0x24 (rxCounted p bs.length frags s.dev) = e at hexec h0 hget hothers hcnt
  have hfar (o : Nat) : A.ethCnt p o ≠ A.ethStat p := by unfold A.ethCnt A.ethStat; omega
  have hsame := sameButRegs_raise (A.ethStat p) 1 e
  obtain ⟨-, hmem, hdsp, heth⟩ := hothers
  refine ⟨_, hexec, ⟨(rd_raise_ne 1 e (hfar 0)).trans h0, rfl, (congrArg (tabGet ethDefault · p.val) hsame.eths).trans hget⟩,
    ⟨rfl, hsame.mem.trans hmem, hsame.dsp.trans hdsp, fun k hk hne => (congrArg (tabGet ethDefault · k) hsame.eths).trans (heth k hk hne)⟩,
    (rd_raise_ne 1 e (hfar 0x24)).trans hcnt, rb_raise_self _ _ (by decide)⟩

theorem ethFrameReceive_delivers {i : Nat} (h : RxGood p bs s.dev) (hv : verdict p bs s.dev = .action false (some q.val))
    (hon : ringEn (16 * p.val + q.val) s.dev = true) (hf : (getRing (16 * p.val + q.val) s.dev).failed = false)
    (htake : (takeBuf (16 * p.val + q.val) s.dev).map (·.1) = some i) (hfit : bs.length + 16 ≤ ringSize (16 * p.val + q.val) s.dev)
    (hmac : macWriteFail (bufAddr (16 * p.val + q.val) i s.dev) (16 + bs.length) s.dev = none) (hsch : rb A.schCtrl 0 s.dev = true)
    (hroom : s.dev.dsp.arrival.length < 16) (hw : s.dev.dsp.waiting = []) :
    let r := 16 * p.val + q.val
    let a := bufAddr r i s.dev
    let stamp := ethStamp p (getEth p s.dev).rseq (ingressTb p (ethBase p s.dev) ago s.dev) s.dev
    ∃ t it, exec (.ethFrameReceive p bs true false false frags ago) s = .next t ∧ Taken p bs s t ∧ t.dev.swc = s.dev.swc ∧
      ringFree r t.dev + 1 = ringFree r s.dev ∧
      t.dev.dsp = { s.dev.dsp with arrival := s.dev.dsp.arrival ++ [it] } ∧ it.src = 1 ∧ it.flow = rf (ringCtl r) 11 0 s.dev ∧
      it.arg = 256 * p.val + q.val ∧ it.buf = word a ∧ it.len = bs.length ∧ it.head = bs.take 64 ∧
      ∀ b, memByte b t.dev = if a + 16 ≤ b ∧ b < a + 16 + bs.length then bs.getD (b - a - 16) 0
        else if a ≤ b ∧ b < a + 16 then stamp.bytes.getD (b - a) 0 else memByte b s.dev := by
  have hc := counted_rxCounted p bs.length frags s.dev
  have hexec := exec_rxQueue (frags := frags) (ago := ago) h hv
  have hstamp := ethStamp_counted p.isLt hc ago
  obtain ⟨hring, hen, hcount, hsize, haddr, hctl⟩ := ring_counted (r := 16 * p.val + q.val) (by omega) hc
  dsimp only at hexec ⊢
  generalize rxCounted p bs.length frags s.dev = c at hc hexec hstamp hring hen hcount hsize haddr hctl
  obtain ⟨y, hy, hyi⟩ := Option.map_eq_some_iff.mp htake
  subst hyi
  obtain ⟨x, hnext, -⟩ := takeBuf_some (i := y.1) (e := y.2) hy
  have hlow (a : Nat) (ha : a < 0x100C0000) : rd a c = rd a s.dev := hc.low ha
  obtain ⟨hswc, heths, h0, hfree, ⟨it, hdsp, hsrc, hflow, harg, hbuf, hlen, hhead⟩, hmem⟩ :=
    queueFrame_delivers (st := rxStamp p ago c) (ts := ingressTb p 0 ago c) (bs := bs) (x := x) p.isLt q.isLt (hen.trans hon)
      (by rw [hring]; exact hf) (by rw [hring, hcount]; exact hnext) (by rw [hsize]; exact hfit)
      (by rw [haddr, macWriteFail_congr hlow]; exact hmac) ((congrArg (·.mode) hc.sys).trans h.mode)
      ((congrArg (bit · 0) (hlow _ (by decide))).trans hsch) (by rw [hc.dsp]; exact hroom) (by rw [hc.dsp]; exact hw)
  generalize queueFrame p q bs (rxStamp p ago c) (ingressTb p 0 ago c) c = t at hexec hswc heths h0 hfree hdsp hmem
  rw [haddr] at hbuf
  refine ⟨_, it, hexec, ⟨h0.trans hc.count, rfl, (congrArg (tabGet ethDefault · p.val) heths).trans hc.own⟩, hswc.trans hc.swc, ?_,
    hdsp.trans (by rw [hc.dsp]), hsrc, hflow.trans (congrArg (fld · 11 0) hctl), harg, hbuf, hlen, hhead, fun b => ?_⟩
  · rw [hfree, ringFree, hcount, hring, ringFree]
  · have hbyte : memByte b c = memByte b s.dev := by rw [memByte, hc.mem, memByte]
    have hrx : rxStamp p ago c = ethStamp p (getEth p s.dev).rseq (ingressTb p (ethBase p s.dev) ago s.dev) s.dev := hstamp
    rw [← hbyte, ← haddr, ← hrx]
    exact hmem b

end

end Sys2Proof.Machine
end

section
/-! The end of a frame on the line, the byte counts, and the obligation about the Ethernet ports (R105, R134, R345, R357, R369,
R376). -/

namespace Sys2Proof.Machine

/-! ### The end of a transmission -/

/-- A frame has left on the line: a parity mismatch in the buffer is noted. -/
def lineEnded (l : Out) (flip : Bool) (d : Dev) : Dev := when flip (swbParity none none) { d with out := d.out ++ [l] }

theorem lineEnded_effect (p : Nat) (l : Out) (flip : Bool) (d : Dev) :
    Egress p { d with out := d.out ++ [l] } (lineEnded l flip d) ∧ (lineEnded l flip d).swc.queues = d.swc.queues := by
  refine ⟨(Egress.refl _).whenever fun e => (Egress.refl e).swbParity none none, ?_⟩
  cases flip
  · rfl
  · exact queues_swbParity none none { d with out := d.out ++ [l] }

/-- A good frame of n bytes is counted. -/
def txCounted (p n : Nat) (good : Bool) (d : Dev) : Dev :=
  when good (fun d => d |> countEth p 0x30 |> modEth p (fun e => { e with txBytes := e.txBytes + BitVec.ofNat 64 (n + 4) })) d

theorem txCounted_effect (p n : Nat) (good : Bool) (d : Dev) : PortOnly p d (txCounted p n good d) ∧
    (txCounted p n good d).swc = d.swc ∧
    rd (A.ethCnt p 0x30) (txCounted p n good d) = rd (A.ethCnt p 0x30) d + (if good then 1 else 0) ∧
    getEth p (txCounted p n good d) = { getEth p d with
      txBytes := if good then (getEth p d).txBytes + BitVec.ofNat 64 (n + 4) else (getEth p d).txBytes } := by
  cases good
  · exact ⟨.refl d, rfl, (BitVec.add_zero _).symm, rfl⟩
  · have hcount := rd_countEth_same p 0x30 d
    have hsame : SameButRegs d (countEth p 0x30 d) := sameButRegs_incr _ _ _ _
    have hget : getEth p (countEth p 0x30 d) = getEth p d := congrArg (tabGet ethDefault · p) hsame.eths
    rw [txCounted, when_of _ _ rfl]
    dsimp only
    generalize countEth p 0x30 d = e at *
    exact ⟨(PortOnly.ofRegs hsame).trans (.modEth e _), hsame.swc, hcount, by rw [getEth_modEth_same, hget]; rfl⟩

/-- The frame of copy c as it leaves: its bytes, padded, and the check sequence. -/
def txLine (c : Copy) : List Byte := c.line ++ List.replicate (60 - c.line.length) 0

/-- What leaves, and whether it is good. -/
def txOut (c : Copy) (flip : Bool) : Out :=
  .eth c.port (txLine c ++ leBytes 4 (if c.frame.good && !flip then crc32 (txLine c) else crc32 (txLine c) ^^^ 0xFFFFFFFF))
    (c.frame.good && !flip)

/-- The line of port p is free from x on. -/
def lineBusy (p x : Nat) (d : Dev) : Dev := modEth p (fun e => { e with lineAt := x }) d

theorem transmitEnd_eq (c : Copy) (flip : Bool) (d : Dev) :
    transmitEnd c flip d = (lineEnded (txOut c flip) flip d |> txCounted c.port (txLine c).length (c.frame.good && !flip)
      |> when (decide (c.frags ≠ 0)) (countEth c.port 0x4C)
      |> lineBusy c.port (25 * d.now + 12 * portByte c.port d) |> removeCopy c |> serve c.port) := rfl

/-- The only copy of the switch ends on its line. -/
theorem transmitEnd_effect {c : Copy} (flip : Bool) {d : Dev} (hq : d.swc.queues = [c]) :
    let p := c.port
    let ok := c.frame.good && !flip
    let t := transmitEnd c flip d
    t.mem = d.mem ∧ t.dsp = d.dsp ∧ t.swc.queues = [] ∧ t.out = d.out ++ [txOut c flip] ∧
    rd (A.ethCnt p 0x30) t = rd (A.ethCnt p 0x30) d + (if ok then 1 else 0) ∧
    getEth p t = { getEth p d with
      txBytes := if ok then (getEth p d).txBytes + BitVec.ofNat 64 ((txLine c).length + 4) else (getEth p d).txBytes
      lineAt := 25 * d.now + 12 * portByte p d } := by
  dsimp only
  rw [transmitEnd_eq]
  obtain ⟨hline, hlineq⟩ := lineEnded_effect c.port (txOut c flip) flip d
  generalize lineEnded (txOut c flip) flip d = d2 at hline hlineq ⊢
  obtain ⟨hcount, hcountq, hframes, hbytes⟩ := txCounted_effect c.port (txLine c).length (c.frame.good && !flip) d2
  generalize txCounted c.port (txLine c).length (c.frame.good && !flip) d2 = d3 at hcount hcountq hframes hbytes ⊢
  have hfrag : Egress c.port d3 (when (decide (c.frags ≠ 0)) (countEth c.port 0x4C) d3) :=
    (Egress.refl d3).whenever fun e => (Egress.refl e).countEth (by decide)
  have hfragq : (when (decide (c.frags ≠ 0)) (countEth c.port 0x4C) d3).swc = d3.swc :=
    (sameButRegs_when d3 (sameButRegs_incr _ _ _ _)).swc
  generalize when (decide (c.frags ≠ 0)) (countEth c.port 0x4C) d3 = d4 at hfrag hfragq ⊢
  generalize 25 * d.now + 12 * portByte c.port d = x
  have hrest : Egress c.port (lineBusy c.port x d4) (removeCopy c (lineBusy c.port x d4)) := (Egress.refl _).removeCopy c
  have hempty : (removeCopy c (lineBusy c.port x d4)).swc.queues = [] := by
    have hsame : (lineBusy c.port x d4).swc.queues = [c] :=
      (congrArg (·.queues) (hfragq.trans hcountq)).trans (hlineq.trans hq)
    rw [queues_removeCopy, hsame]
    simp [dropIf, sameCopy_self]
  have hget : getEth c.port (removeCopy c (lineBusy c.port x d4)) = { getEth c.port d4 with lineAt := x } := by
    rw [hrest.getEth, lineBusy, getEth_modEth_same]
  have htx : rd (A.ethCnt c.port 0x30) (removeCopy c (lineBusy c.port x d4)) = rd (A.ethCnt c.port 0x30) d4 := hrest.txFrames
  have hthrough := (hcount.trans hfrag.portOnly).trans ((PortOnly.modEth d4 _).trans hrest.portOnly)
  rw [serve_empty hempty]
  generalize removeCopy c (lineBusy c.port x d4) = t at *
  refine ⟨hthrough.mem.trans hline.mem, hthrough.dsp.trans hline.dsp, hempty, hthrough.out.trans hline.out, ?_, ?_⟩
  · rw [htx, hfrag.txFrames, hframes, hline.txFrames]
    rfl
  · rw [hget, hfrag.getEth, hbytes, hline.getEth]
    rfl

section
variable {p : Fin 10} {flip : Bool} {s : State}

theorem exec_ethTransmitEnd {c : Copy} (h : onLine p s.dev = some c) : exec (.ethTransmitEnd p flip) s = .next { s with
    dev := when (inService s.dev && !c.cut && (getEth p s.dev).link = .up) (transmitEnd c flip) s.dev } := by
  change execEthTransmitEnd p flip s = _
  simp only [execEthTransmitEnd, onDev, h]

theorem ethTransmitEnd_idle (h : onLine p s.dev = none ∨ s.dev.sys.mode ≠ .service ∨ (getEth p s.dev).link ≠ .up) :
    exec (.ethTransmitEnd p flip) s = .next s := by
  cases hc : onLine p s.dev with
  | none =>
    change execEthTransmitEnd p flip s = _
    simp only [execEthTransmitEnd, onDev, hc]
  | some c =>
    rw [exec_ethTransmitEnd hc, when_of_not]
    obtain hnone | hs | hl := h
    · exact absurd (hc.symm.trans hnone) (by simp)
    · rw [inService, decide_eq_false hs]
      rfl
    · rw [decide_eq_false hl, Bool.and_false]

theorem ethTransmitEnd_cut {c : Copy} (hc : onLine p s.dev = some c) (hcut : c.cut = true) :
    exec (.ethTransmitEnd p flip) s = .next s := by
  rw [exec_ethTransmitEnd hc, when_of_not]
  rw [hcut, Bool.not_true, Bool.and_false, Bool.false_and]

theorem ethTransmitEnd_ends {c : Copy} (hq : s.dev.swc.queues = [c]) (hp : c.port = p.val) (hst : c.started = true)
    (hcut : c.cut = false) (hpa : c.paused = false) (hs : s.dev.sys.mode = .service) (hl : (getEth p s.dev).link = .up) :
    let line := c.line ++ List.replicate (60 - c.line.length) 0
    let ok := c.frame.good && !flip
    ∃ t, exec (.ethTransmitEnd p flip) s = .next t ∧ t.fuses = s.fuses ∧ t.dev.mem = s.dev.mem ∧ t.dev.dsp = s.dev.dsp ∧
      t.dev.swc.queues = [] ∧
      t.dev.out = s.dev.out ++ [.eth p (line ++ leBytes 4 (if ok then crc32 line else crc32 line ^^^ 0xFFFFFFFF)) ok] ∧
      rd (A.ethCnt p 0x30) t.dev = rd (A.ethCnt p 0x30) s.dev + (if ok then 1 else 0) ∧
      getEth p t.dev = { getEth p s.dev with
        txBytes := if ok then (getEth p s.dev).txBytes + BitVec.ofNat 64 (line.length + 4) else (getEth p s.dev).txBytes
        lineAt := 25 * s.dev.now + 12 * portByte p s.dev } := by
  have hline : onLine p s.dev = some c := by
    simp [onLine, underWay, hq, hp, hst, hpa]
  have hexec := exec_ethTransmitEnd (flip := flip) hline
  rw [when_of _ _ (by simp [inService, hs, hcut, hl])] at hexec
  obtain ⟨hmem, hdsp, hempty, hout, hframes, hget⟩ := transmitEnd_effect flip hq
  dsimp only at hframes hget
  rw [txOut, hp] at hout
  rw [hp] at hframes hget
  exact ⟨_, hexec, rfl, hmem, hdsp, hempty, hout, hframes, hget⟩

end

/-! ### The byte counts (R105, R357) -/

theorem word_low (n : BitVec 64) : word n.toNat = n.setWidth 32 := rfl

theorem word_high (n : BitVec 64) : word (n.toNat / 2 ^ 32) = (n >>> 32).setWidth 32 := by
  rw [← word_low, BitVec.toNat_ushiftRight, Nat.shiftRight_eq_div_pow]

section
variable {m : Fin 20} {p : Fin 10} {s : State}

/-- The latch of a high word, which a debug read leaves (R105). -/
theorem latch_effect (m p : Nat) (g : Eth → Eth) (d : Dev) :
    let t := if m = 19 then d else modEth p g d
    t.regs = d.regs ∧ PortOnly p d t ∧ getEth p t = if m = 19 then getEth p d else g (getEth p d) := by
  by_cases hm : m = 19
  · dsimp only
    rw [if_pos hm, if_pos hm]
    exact ⟨rfl, .refl d, rfl⟩
  · dsimp only
    rw [if_neg hm, if_neg hm]
    exact ⟨rfl, .modEth d g, getEth_modEth_same p g d⟩

/-- What the read of a low byte count returns, and what it latches. -/
theorem ethCntRead_low (m p : Nat) (tx : Bool) (d : Dev) :
    let e := getEth p d
    let n := if tx then e.txBytes else e.rxBytes
    let r := ethCntRead m p (if tx then 0x34 else 0x04) d
    r.1 = n.setWidth 32 ∧ r.2.regs = d.regs ∧ PortOnly p d r.2 ∧
    getEth p r.2 = if m = 19 then e else if tx then { e with latchTx := (n >>> 32).setWidth 32 }
      else { e with latchRx := (n >>> 32).setWidth 32 } := by
  cases tx
  · obtain ⟨hregs, honly, hget⟩ := latch_effect m p (fun e => { e with latchRx := word (e.rxBytes.toNat / 2 ^ 32) }) d
    rw [word_high] at hget
    exact ⟨rfl, hregs, honly, hget⟩
  · obtain ⟨hregs, honly, hget⟩ := latch_effect m p (fun e => { e with latchTx := word (e.txBytes.toNat / 2 ^ 32) }) d
    rw [word_high] at hget
    exact ⟨rfl, hregs, honly, hget⟩

theorem ethCounterLatchRead_effect (h : powered s.dev = true) (tx : Bool) :
    let e := getEth p s.dev
    let n := if tx then e.txBytes else e.rxBytes
    ∃ t, exec (.ethCounterLatchRead m p tx) s = .next t ∧ tabGet zeroDefault t.dev.rdata m = n.setWidth 32 ∧
      t.dev.regs = s.dev.regs ∧ PortOthers p s t ∧ getEth p t.dev = if m = 19 then e
        else if tx then { e with latchTx := (n >>> 32).setWidth 32 } else { e with latchRx := (n >>> 32).setWidth 32 } := by
  have hexec : exec (.ethCounterLatchRead m p tx) s = .next { s with
      dev := giveRead m (ethCntRead m p (if tx then 0x34 else 0x04) s.dev).1 (ethCntRead m p (if tx then 0x34 else 0x04) s.dev).2 } :=
    onPow_of_powered _ h
  obtain ⟨hval, hregs, honly, hget⟩ := ethCntRead_low m p tx s.dev
  generalize ethCntRead m p (if tx then 0x34 else 0x04) s.dev = r at hexec hval hregs honly hget
  have hm : m.val = 19 ↔ m = 19 := ⟨fun h => Fin.ext h, congrArg Fin.val⟩
  simp only [hm] at hget
  refine ⟨_, hexec, ?_, hregs, ⟨rfl, honly.mem, honly.dsp, fun q _ hq => honly.eth q hq⟩, hget⟩
  rw [← hval]
  exact rdata_giveRead_same _ _ _

end

/-! ### The obligation -/

theorem exec_linkUp (p : Fin 10) (phy : Fin 3) (s : State) : exec (.linkUp p phy) s = .next { s with
    dev := when (inService s.dev && ((getEth p s.dev).link = .down || (getEth p s.dev).link = .hold) &&
      ((getEth p s.dev).lane || ethRgmii p s.dev)) (linkUp p phy) s.dev } := rfl

theorem linkUp_idle {p : Fin 10} {phy : Fin 3} {s : State} (h : ¬(s.dev.sys.mode = .service ∧
      ((getEth p s.dev).link = .down ∨ (getEth p s.dev).link = .hold) ∧
      ((getEth p s.dev).lane = true ∨ ethRgmii p s.dev = true))) : exec (.linkUp p phy) s = .next s := by
  rw [exec_linkUp, when_of_not _ _ (Bool.eq_false_iff.mpr (linkUp_comes_iff.not.mpr h))]

theorem linkUp_rises {p : Fin 10} {phy : Fin 3} {s : State} (h : s.dev.sys.mode = .service ∧
      ((getEth p s.dev).link = .down ∨ (getEth p s.dev).link = .hold) ∧
      ((getEth p s.dev).lane = true ∨ ethRgmii p s.dev = true)) :
    ∃ t, exec (.linkUp p phy) s = .next t ∧ PortOthers p s t ∧ rb (A.ethStat p) 0 t.dev = true ∧
      (underWay p s.dev = [] → getEth p t.dev =
        { getEth p s.dev with link := .up, speed := runSpeed p phy s.dev, verify := 0, verifyLast := 0 }) ∧
      (s.dev.swc.queues = [] → t.dev.swc.queues = []) := by
  have hexec := exec_linkUp p phy s
  rw [when_of _ _ (linkUp_comes_iff.mpr h)] at hexec
  obtain ⟨honly, hstat, hget, hnone⟩ := linkUp_effect p.isLt phy s.dev
  exact ⟨_, hexec, honly.others, hstat, hget, hnone⟩

/-- Settles O50: the ports' switch, the links, a frame that comes in by its failures or by its verdict, the end of a frame on the
line, and the byte counts. -/
theorem ethernetPorts : Obligations.EthernetPorts := by
  unfold Obligations.EthernetPorts
  intro m p s d e st en gone others
  refine ⟨fun hp => ⟨fun htw hoff => portEnable_twilight hp htw hoff, fun htw hoff => portEnable_starts hp htw hoff,
    fun hon => portDisable_stops hp hon⟩, fun phy => ⟨fun hno => linkUp_idle hno, fun hyes => linkUp_rises hyes⟩,
    ⟨fun hno => linkDown_idle hno, fun hyes hh => linkDown_flushes hyes hh, fun hyes hh => linkDown_holds hyes hh,
      fun hno => linkHoldExpiry_idle hno, fun hyes => linkHoldExpiry_flushes hyes⟩, ?_, ?_,
    fun bad => ⟨fun hno => ethTransmitEnd_idle hno,
      fun c hc hcut => ethTransmitEnd_cut hc hcut, fun c hq hport hst hcut hpa hs hl => ethTransmitEnd_ends hq hport hst hcut hpa hs hl⟩,
    fun hp tx => ethCounterLatchRead_effect hp tx⟩
  · intro q answered hq v due
    have hval : q.val = p.val := hq
    refine ⟨fun hno => verifyFrame_idle fun h => hno ?_, fun hyes h3 => ?_, fun hyes h3 => ?_⟩
    · rw [hval] at h
      exact h
    · have hdue : VerifyDue q s.dev := by rw [hval]; exact hyes
      have := verifyFrame_sends (answered := answered) hdue (by rw [hval]; exact h3)
      rwa [hval] at this
    · have hdue : VerifyDue q s.dev := by rw [hval]; exact hyes
      have := verifyFrame_fails (answered := answered) hdue (by rw [hval]; exact h3)
      rwa [hval] at this
  · intro bs fcs code merge frags ago run runt giant cnt counts stamp good takes
    refine ⟨fun h => ethFrameReceive_idle h, fun hs hl hc hbad => ethFrameReceive_fails hs hl hc hbad, ?_⟩
    refine ⟨?_, ?_, ?_, ?_⟩
    · rintro ⟨hs, hup, rfl, hr, rfl, hg, rfl⟩ hv
      obtain ⟨t, hrun, ⟨h0, hfuses, hget⟩, hothers, hswc, hcnt⟩ := ethFrameReceive_control (frags := frags) (ago := ago)
        ⟨hs, hup, (rxFaults_eq_nil_iff _ _ _ _ _ _).mpr ⟨rfl, hr, rfl, hg, rfl⟩⟩ hv
      exact ⟨t, ⟨hrun, h0, hfuses, hget⟩, hothers, hswc, hcnt⟩
    · rintro ⟨hs, hup, rfl, hr, rfl, hg, rfl⟩ hv
      obtain ⟨t, hrun, ⟨h0, hfuses, hget⟩, hothers, hswc, hcnt⟩ := ethFrameReceive_drop (frags := frags) (ago := ago)
        ⟨hs, hup, (rxFaults_eq_nil_iff _ _ _ _ _ _).mpr ⟨rfl, hr, rfl, hg, rfl⟩⟩ hv
      exact ⟨t, ⟨hrun, h0, hfuses, hget⟩, hothers, hswc, hcnt⟩
    · rintro ⟨hs, hup, rfl, hr, rfl, hg, rfl⟩ hcut hv
      obtain ⟨t, f, hrun, ⟨h0, hfuses, hget⟩, hothers, hrest⟩ := ethFrameReceive_switch (frags := frags) (ago := ago)
        ⟨hs, hup, (rxFaults_eq_nil_iff _ _ _ _ _ _).mpr ⟨rfl, hr, rfl, hg, rfl⟩⟩ hcut hv
      exact ⟨t, f, ⟨hrun, h0, hfuses, hget⟩, hothers, hrest⟩
    · rintro q ⟨hs, hup, rfl, hr, rfl, hg, rfl⟩ hv r x
      have hgood : RxGood p bs s.dev := ⟨hs, hup, (rxFaults_eq_nil_iff _ _ _ _ _ _).mpr ⟨rfl, hr, rfl, hg, rfl⟩⟩
      refine ⟨fun hoff => ?_, fun hon hf => ?_, fun hon hf hno => ?_, fun i a hon hf htake ha hfit hmac hsch hroom hw => ?_⟩
      · obtain ⟨t, hrun, ⟨h0, hfuses, hget⟩, hothers, hcnt⟩ := ethFrameReceive_ringOff (frags := frags) (ago := ago) hgood hv hoff
        exact ⟨t, ⟨hrun, h0, hfuses, hget⟩, hothers, hcnt⟩
      · obtain ⟨t, hrun, ⟨h0, hfuses, hget⟩, hothers, hcnt⟩ :=
          ethFrameReceive_ringFailed (frags := frags) (ago := ago) hgood hv hon hf
        exact ⟨t, ⟨hrun, h0, hfuses, hget⟩, hothers, hcnt⟩
      · obtain ⟨t, hrun, ⟨h0, hfuses, hget⟩, hothers, hrest⟩ :=
          ethFrameReceive_ringEmpty (frags := frags) (ago := ago) hgood hv hon hf hno
        exact ⟨t, ⟨hrun, h0, hfuses, hget⟩, hothers, hrest⟩
      · subst ha
        obtain ⟨t, it, hrun, ⟨h0, hfuses, hget⟩, hrest⟩ :=
          ethFrameReceive_delivers (frags := frags) (ago := ago) hgood hv hon hf htake hfit hmac hsch hroom hw
        exact ⟨t, it, ⟨hrun, h0, hfuses, hget⟩, hrest⟩

end Sys2Proof.Machine
end
